-- ==== Sys2Proof/Word.lean ====
section
/-!
DEFINITION. The word types of the block and their plainest arithmetic.
-/
namespace Sys2Proof

/-- One byte (R4). -/
abbrev Byte := BitVec 8

/-- A 16-bit index, epoch or handle (R145, R263). -/
abbrev Half := BitVec 16

/-- A register word (R5: all registers are 32 bits wide). -/
abbrev Word := BitVec 32

/-- A 64-bit value: a host address, bus time, an LSEQ (R8, R60, R273). -/
abbrev DWord := BitVec 64

end Sys2Proof
end

