-- ==== Sys2Proof/Syntax.lean ====
section
/-!
DEFINITION. The commands of the block: one constructor for each row of the opcode table, and the operand types they
carry. A command is an access or an event from outside the model (log entry 1); what it carries is what the spec says
reaches the block with it. Host memory is outside, so bytes read from it come as operands (log entry 3).
-/
namespace Sys2Proof

/-- The two sides of a root port: the H lane and the F/L pair (R194). -/
inductive Side where
  | h | p
  deriving DecidableEq, Repr

/-- What a receiver hands on: the bytes of a packet or set, and whether the line coding was clean (R26, R27, R231). -/
structure LineRx where
  bytes : List Byte
  lineOk : Bool
  deriving DecidableEq, Repr

/-- A command packet as taken from the ring (Table 10-1), without its OPCODE, which the constructor names, and with
what the host accesses of the command returned: `block` is the parameter block read with PTR, `image` the image that a
stage command reads; `none` means that a host access failed under R178 or R179 (log entry 3). -/
structure CmdPkt where
  flags : Byte
  rsvd : Byte
  session : Half
  plen : Half
  seq : Word
  rsvd2 : Word
  param : List Byte
  outAddr : DWord
  block : Option (List Byte)
  image : Option (List Byte)
  deriving DecidableEq, Repr

/-- How a host access fails (R178; codes of ERR_KIND, Table 7-12). -/
inductive HostErr where
  | unsupported | abort | poisoned | timeout | staging | flush
  deriving DecidableEq, Repr

/-- What a scrub step finds in a cistern word: no error, or one that the patrol has reached or that stands (R190, R191). -/
inductive EccErr where
  | none
  | single (reached : Bool)
  | double (reached : Bool)
  deriving DecidableEq, Repr

/-- A pair whose reset ends, and what shows on it: no pull-up yet, or one on line P or not (R235, R236). -/
structure PairRelease where
  port : Fin 16
  pull : Option Bool
  deriving DecidableEq, Repr

/-- What is sensed at a step of entry: the junction temperature, and whether the host has enabled L1.2 (R356, R361). -/
structure EntrySense where
  temp : BitVec 12
  l12 : Bool
  deriving DecidableEq, Repr

/-- The outcome of a keeper request of Table 8-8: data returned, or the request failed, and the round-trip time in
1/8 tick that a PROBE_DELAY measured (R66). -/
inductive KeeperReply where
  | data (b : List Byte)
  | rtt (eighths : Nat)
  | failed
  deriving DecidableEq, Repr

/-- What the memories answer at start: which parts of retention pass their check (R371), and whether the flash takes the epoch
record where it is due (R84). -/
structure RetCheck where
  shadow : Bool
  ledger : Bool
  stateArea : Bool
  epochSaved : Bool
  deriving DecidableEq, Repr

/-- The external flash, as the Steward finds it (Table 11-1): the two directory copies, the two epoch records, and the
images in the two firmware and three configuration slots (an erased slot holds no byte). -/
structure Flash where
  dir0 : List Byte
  dir1 : List Byte
  rec0 : List Byte
  rec1 : List Byte
  fwA : List Byte
  fwB : List Byte
  cfg0 : List Byte
  cfg1 : List Byte
  cfg2 : List Byte
  deriving DecidableEq, Repr

/-- A partner's HELLO as received (R386, R413). -/
structure TwinHello where
  strap : Fin 3
  role : Fin 4
  protocol : Half
  firmware : Word
  generation : Word
  cert : List Byte
  ephemeral : List Byte
  signature : List Byte
  rekeySeq : Option Word
  deriving DecidableEq, Repr

/-- A twin frame as received (Table 16-1). -/
structure TwinRx where
  flags : Byte
  seq : Word
  ack : Word
  payload : List Byte
  tag : List Byte
  deriving DecidableEq, Repr

/-- The commands. -/
inductive Instr where
  /-- REGISTER_WRITE (R5): A write to a register with no row of its own. It applies the access-code semantics, discards narrow or misaligned writes and keeps reserved encodings out. -/
  | registerWrite (fn : Fin 256) (off : Nat) (size : Nat) (v : DWord) (hw : Word)
  /-- RC_FIELD_READ (R6): A read of a register holding RC fields returns their values and clears them; an event in the same clock is kept for the next read. -/
  | rcFieldRead (fn : Fin 256) (off : Nat) (size : Nat) (add : DWord)
  /-- PAIR_LOW_HALF_READ (R8): A 32-bit read of the low half of a 64-bit pair loads the function's holding copy of the high half. -/
  | pairLowHalfRead (fn : Fin 256) (off : Nat)
  /-- PAIR_HIGH_HALF_READ (R8): A 32-bit read of the high half returns the holding copy if it is loaded and then empties the copy. -/
  | pairHighHalfRead (fn : Fin 256) (off : Nat)
  /-- PAIR_64BIT_ACCESS (R456): An aligned 64-bit access to a LO/HI pair reads or writes both halves at one instant; any other 64-bit access acts as two 32-bit accesses. -/
  | pair64bitAccess (fn : Fin 256) (off : Nat) (wr : Option DWord)
  /-- QP_SQ_DB_WRITE (R146): A write to a submission doorbell is accepted as the new producer index or discarded with DB_FAULT, and fetching of the posted entries starts. -/
  | qpSqDbWrite (fn : Fin 256) (q : Fin 4096) (v : Word)
  /-- QP_CQ_DB_WRITE (R147): A write to a completion doorbell is accepted as the new consumer index or discarded with DB_FAULT. -/
  | qpCqDbWrite (fn : Fin 256) (q : Fin 4096) (v : Word)
  /-- TEN_CMD_DB_WRITE (R255): A write to a tenant's command doorbell posts commands, or is discarded with DB_FAULT and the command-error cause. -/
  | tenCmdDbWrite (t : Fin 256) (v : Word)
  /-- TEN_RPL_DB_WRITE (R255): A write to a tenant's reply doorbell advances the reply consumer index, or is discarded with DB_FAULT. -/
  | tenRplDbWrite (t : Fin 256) (v : Word)
  /-- COMMAND_RING_ENABLE (R254): Setting ENABLE zeroes the four ring indices, increases the reply epoch and writes the reply head record. -/
  | commandRingEnable (t : Fin 256) (v : Word)
  /-- COMMAND_RING_DISABLE (R255): Clearing ENABLE stops the command path and ends any command-path fault. -/
  | commandRingDisable (t : Fin 256) (v : Word)
  /-- RING_RESET (R265): RING_RESET discards posted commands, lets the current command finish, zeroes the command indices and sets RING_IDLE. -/
  | ringReset (t : Fin 256) (v : Word)
  /-- PAUSE (R184): Setting PAUSE stops a DMA channel issuing new requests while the requests already issued finish. -/
  | pause (t : Fin 256) (v : Word)
  /-- PAUSE_CLEAR (R182): Clearing PAUSE returns a paused channel to Running with the next request that was due. -/
  | pauseClear (t : Fin 256) (v : Word)
  /-- DMA_PAUSE_DRAINED (R184): Every issued request and flush of a pausing channel has finished, so the channel becomes Paused and PAUSED reads 1. -/
  | dmaPauseDrained (ch : Fin 64)
  /-- CLEAR (R180): CLEAR returns a Halted channel to Running, or to Paused, and clears the latched error. -/
  | clear (t : Fin 256) (v : Word)
  /-- LOAD (R169): LOAD checks the selected slot and requests the fetch of the program structure, or sets LOAD_REFUSED. -/
  | load (t : Fin 256) (v : Word)
  /-- UNLOAD (R169): UNLOAD frees the selected program slot unless an assigned entry is still open. -/
  | unload (t : Fin 256) (v : Word)
  /-- PROGRAM_STRUCTURE_FETCHED (R169): The fetched program structure is checked and either loaded at its first element or refused with LOAD_REFUSED. -/
  | programStructureFetched (ch : Fin 64) (slot : Fin 16) (data : List Byte)
  /-- MARGIN_SCAN_START (R247): START begins a near-end margin scan, or sends MARGIN_REQ for a far-end scan. -/
  | marginScanStart (lane : Fin 20) (v : Word)
  /-- MARGIN_SCAN_DWELL_END (R247): A dwell of the margin scan ends and the sampler steps outwards or records the last clean step. -/
  | marginScanDwellEnd (lane : Fin 20) (clean : Bool)
  /-- MARGIN_RPT (R247): A far-end MARGIN_RPT arrives, is stored in PRT_MARGIN_STAT and sets DONE. -/
  | marginRpt (lane : Fin 20) (rx : LineRx)
  /-- MARGIN_FAR_TIMEOUT (R247): No far-end report arrives within 124 dwells plus 1 ms, so FAR_NA and DONE are set. -/
  | marginFarTimeout (lane : Fin 20)
  /-- TEST_MODE_WRITE (R249): A write of PRT_TEST_CTRL.MODE enters a test mode, or is refused with REFUSED while the side is enabled. -/
  | testModeWrite (lane : Fin 20) (v : Word) (peerTrains : Bool)
  /-- TEST_MODE_EXIT_IDLE_END (R249): 10 µs after MODE is set to 0 the side returns to receiver detect or to pair detection. -/
  | testModeExitIdleEnd (lane : Fin 20)
  /-- INJECT (R251): INJECT inverts one bit of the next generated word. -/
  | inject (lane : Fin 20)
  /-- CHECKER_ENABLE (R251): CHK_EN going from 0 to 1 zeroes the checker counts and starts the checker. -/
  | checkerEnable (lane : Fin 20)
  /-- WINDOW_WRITE (R310): A GBL_WIN_ write changes a tenant window for every access issued after it. -/
  | windowWrite (off : Nat) (v : Word)
  /-- MILLRACE_PARAMETER_WRITE (R77): A direct write of Millrace parameters applies from L(n+3), or is refused with REFUSED and the Millrace cause. -/
  | millraceParameterWrite (off : Nat) (v : Word)
  /-- CAUSE_ENABLE_WRITE (R335): A write to CRI_CAUSE_EN that enables a cause already set sends an MSI-X message. -/
  | causeEnableWrite (t : Fin 256) (v : Word)
  /-- MSIX_VECTOR_UNMASK (R337): Unmasking an MSI-X vector whose pending bit is set sends one message and clears the pending bit. -/
  | msixVectorUnmask (t : Fin 256) (vec : Fin 64)
  /-- VF_ENABLE_WRITE (R303): A host write of VF Enable or NumVFs makes tenants reachable, or tears down the tenants removed. -/
  | vfEnableWrite (en : Bool) (n : Fin 256)
  /-- INITIATE_FLR (R317): Initiate Function Level Reset sets FLR_BUSY and starts the teardown of the tenant. -/
  | initiateFlr (t : Fin 256)
  /-- FLR_TEARDOWN_DONE (R317): Once the tenant's bus work has ended and its share has been scrubbed, the key is erased, function fields reset and FLR_BUSY clears. -/
  | flrTeardownDone (t : Fin 256)
  /-- D_STATE_WRITE (R360): A host write moves a function between D0 and D3hot, which changes how its BAR answers and whether MSI-X messages are sent. -/
  | dStateWrite (t : Fin 256) (d3 : Bool)
  /-- SESSION_OPEN (R263): SESSION_OPEN closes any open session, agrees an interface version and returns a new handle. -/
  | sessionOpen (t : Fin 256) (k : CmdPkt)
  /-- SESSION_CLOSE (R264): SESSION_CLOSE closes the tenant's session. -/
  | sessionClose (t : Fin 256) (k : CmdPkt)
  /-- GET_INTERFACE (R261): GET_INTERFACE returns the supported interface range and the firmware version. -/
  | getInterface (t : Fin 256) (k : CmdPkt)
  /-- CFG_STAGE (R288): CFG_STAGE reads an image from host memory, checks its header, programs it into the free slot and makes it staged. -/
  | cfgStage (t : Fin 256) (k : CmdPkt)
  /-- CFG_VALIDATE (R289): CFG_VALIDATE runs the image checks and admission on the staged image. -/
  | cfgValidate (t : Fin 256) (k : CmdPkt)
  /-- CFG_COMMIT (R290): CFG_COMMIT activates the valid staged image, starts probation and applies its sections. -/
  | cfgCommit (t : Fin 256) (k : CmdPkt)
  /-- CFG_CONFIRM (R295): CFG_CONFIRM ends probation and performs the image's fuse actions. -/
  | cfgConfirm (t : Fin 256) (k : CmdPkt)
  /-- CFG_ROLLBACK (R296): CFG_ROLLBACK makes the previous image active and marks the rolled-back image REJECTED. -/
  | cfgRollback (t : Fin 256) (k : CmdPkt)
  /-- CFG_STATUS (R302): CFG_STATUS writes the configuration status block. -/
  | cfgStatus (t : Fin 256) (k : CmdPkt)
  /-- FW_STAGE (R299): FW_STAGE programs the other firmware slot and has the Watchman verify it. -/
  | fwStage (t : Fin 256) (k : CmdPkt)
  /-- FW_ACTIVATE (R299): FW_ACTIVATE sets FW_BOOT to the other slot with TRIAL set and schedules a soft reset. -/
  | fwActivate (t : Fin 256) (k : CmdPkt)
  /-- FW_CONFIRM (R299): FW_CONFIRM ends the firmware trial, raising the minimum SVN when the image asks for it. -/
  | fwConfirm (t : Fin 256) (k : CmdPkt)
  /-- FW_ROLLBACK (R299): FW_ROLLBACK returns to the other firmware slot without a trial and restarts. -/
  | fwRollback (t : Fin 256) (k : CmdPkt)
  /-- QP_ASSIGN (R305): QP_ASSIGN assigns a range of queue pairs, with a home quad, to a tenant. -/
  | qpAssign (t : Fin 256) (k : CmdPkt)
  /-- QP_UNASSIGN (R305): QP_UNASSIGN takes back a range of disabled, unbound queue pairs. -/
  | qpUnassign (t : Fin 256) (k : CmdPkt)
  /-- QP_CONFIGURE (R142): QP_CONFIGURE sets the rings, head record and vector of a disabled queue pair. -/
  | qpConfigure (t : Fin 256) (k : CmdPkt)
  /-- QP_ENABLE (R143): QP_ENABLE zeroes the indices, increases the epoch, writes the head record and enters Running. -/
  | qpEnable (t : Fin 256) (k : CmdPkt)
  /-- QP_DISABLE (R161): QP_DISABLE enters Draining from Running, aborts the entries of a Halted queue pair, or leaves Faulted. -/
  | qpDisable (t : Fin 256) (k : CmdPkt)
  /-- QP_QUERY (R272): QP_QUERY writes the queue pair record, taken at one instant. -/
  | qpQuery (t : Fin 256) (k : CmdPkt)
  /-- EP_OPEN (R188): EP_OPEN opens an endpoint direction with a basin or a pool attachment. -/
  | epOpen (t : Fin 256) (k : CmdPkt)
  /-- EP_CLOSE (R262): EP_CLOSE closes an endpoint direction that holds no contract and no open entry, and frees its basin. -/
  | epClose (t : Fin 256) (k : CmdPkt)
  /-- EP_CLEAR_HALT (R46): EP_CLEAR_HALT clears a STALL or transaction-error halt and resumes the queue pair. -/
  | epClearHalt (t : Fin 256) (k : CmdPkt)
  /-- EP_QUERY (R261): EP_QUERY returns the endpoint's maximum packet size, basin size, halt state and error count. -/
  | epQuery (t : Fin 256) (k : CmdPkt)
  /-- DEV_ASSIGN (R305): DEV_ASSIGN assigns a device owned by T0 to a tenant. -/
  | devAssign (t : Fin 256) (k : CmdPkt)
  /-- DEV_RELEASE (R305): DEV_RELEASE returns a device to T0. -/
  | devRelease (t : Fin 256) (k : CmdPkt)
  /-- TREE_ADOPT (R210): TREE_ADOPT addresses a device waiting at address 0 and gives it its place. -/
  | treeAdopt (t : Fin 256) (k : CmdPkt)
  /-- PORT_ENABLE (R226): PORT_ENABLE resets a disabled port and brings up the device on it. -/
  | portEnable (t : Fin 256) (k : CmdPkt)
  /-- PORT_DISABLE (R261): PORT_DISABLE disables the port of a place. -/
  | portDisable (t : Fin 256) (k : CmdPkt)
  /-- PORT_RESET (R226): PORT_RESET starts port-reset signalling for a device that the tenant owns. -/
  | portReset (t : Fin 256) (k : CmdPkt)
  /-- PORT_RESET_ACK (R57): PORT_RESET_ACK resumes the queue pairs that a port reset halted. -/
  | portResetAck (t : Fin 256) (k : CmdPkt)
  /-- HALT_BEGIN (R54): HALT_BEGIN begins a halt, or is absorbed when a halt already stands. -/
  | haltBegin (t : Fin 256) (k : CmdPkt)
  /-- HALT_END (R54): HALT_END ends the standing halt, or is refused with WRONG_STATE. -/
  | haltEnd (t : Fin 256) (k : CmdPkt)
  /-- TREE_QUERY (R271): TREE_QUERY writes the path record of one place. -/
  | treeQuery (t : Fin 256) (k : CmdPkt)
  /-- TREE_LIST (R261): TREE_LIST writes the path records of the places below one root attachment. -/
  | treeList (t : Fin 256) (k : CmdPkt)
  /-- CON_OPEN (R88): CON_OPEN checks a contract, admits it, compiles it into the pending Almanac and fixes its switch frame. -/
  | conOpen (t : Fin 256) (k : CmdPkt)
  /-- CON_CLOSE (R113): CON_CLOSE removes a contract from its switch frame onwards. -/
  | conClose (t : Fin 256) (k : CmdPkt)
  /-- CON_REPLACE (R113): CON_REPLACE closes a contract and opens its replacement in one switch. -/
  | conReplace (t : Fin 256) (k : CmdPkt)
  /-- CON_QUERY (R261): CON_QUERY writes the contract record as it was admitted. -/
  | conQuery (t : Fin 256) (k : CmdPkt)
  /-- WEIR_QUOTA (R110): WEIR_QUOTA sets a tenant's Weir quantum from a switch frame. -/
  | weirQuota (t : Fin 256) (k : CmdPkt)
  /-- WEIR_MODE (R107): WEIR_MODE changes the Weir between shared and strict mode from a first frame. -/
  | weirMode (t : Fin 256) (k : CmdPkt)
  /-- STRIKE_WITHDRAW (R131): STRIKE_WITHDRAW withdraws the uncommitted strikes of one or all of the tenant's strike queue pairs. -/
  | strikeWithdraw (t : Fin 256) (k : CmdPkt)
  /-- STRIKE_RESUME (R135): STRIKE_RESUME ends the strike hold on queue pairs. -/
  | strikeResume (t : Fin 256) (k : CmdPkt)
  /-- MRC_SET (R77): MRC_SET writes the selected Millrace parameters with the checks and timing of R77. -/
  | mrcSet (t : Fin 256) (k : CmdPkt)
  /-- MRC_MODE (R76): MRC_MODE changes the Millrace mode. -/
  | mrcMode (t : Fin 256) (k : CmdPkt)
  /-- MRC_QUERY (R452): MRC_QUERY writes the Millrace registers without clearing any field. -/
  | mrcQuery (t : Fin 256) (k : CmdPkt)
  /-- PWR_VOTE (R344): PWR_VOTE sets and withdraws the tenant's votes for power domains. -/
  | pwrVote (t : Fin 256) (k : CmdPkt)
  /-- PWR_STATE (R347): PWR_STATE sets the chip's target state. -/
  | pwrState (t : Fin 256) (k : CmdPkt)
  /-- ALARM_SET (R352): ALARM_SET sets the RTC alarm count. -/
  | alarmSet (t : Fin 256) (k : CmdPkt)
  /-- ALARM_CLEAR (R261): ALARM_CLEAR clears the pending RTC alarm. -/
  | alarmClear (t : Fin 256) (k : CmdPkt)
  /-- PWR_QUERY (R364): PWR_QUERY writes the power record. -/
  | pwrQuery (t : Fin 256) (k : CmdPkt)
  /-- LED_READ (R276): LED_READ writes the visible Ledger entries from FROM onwards, with MORE and GAP. -/
  | ledRead (t : Fin 256) (k : CmdPkt)
  /-- LED_MARK (R261): LED_MARK journals a value as a checkpoint. -/
  | ledMark (t : Fin 256) (k : CmdPkt)
  /-- SHARE_SET (R305): SHARE_SET grows or shrinks a tenant's cistern share. -/
  | shareSet (t : Fin 256) (k : CmdPkt)
  /-- CHANNEL_ASSIGN (R305): CHANNEL_ASSIGN grants a DMA channel to a tenant or releases it. -/
  | channelAssign (t : Fin 256) (k : CmdPkt)
  /-- POOL_MODE (R187): POOL_MODE switches the tenant's share between basin mode and pool mode. -/
  | poolMode (t : Fin 256) (k : CmdPkt)
  /-- POOL_CREATE (R189): POOL_CREATE carves a pool out of the tenant's share. -/
  | poolCreate (t : Fin 256) (k : CmdPkt)
  /-- POOL_DESTROY (R189): POOL_DESTROY destroys a pool that has no attached endpoint. -/
  | poolDestroy (t : Fin 256) (k : CmdPkt)
  /-- SEC_ATTEST (R412): SEC_ATTEST writes an attestation report signed with the identity key. -/
  | secAttest (t : Fin 256) (k : CmdPkt)
  /-- SEC_KEY_LOAD (R411): SEC_KEY_LOAD unwraps and loads the tenant's key. -/
  | secKeyLoad (t : Fin 256) (k : CmdPkt)
  /-- SEC_KEY_ERASE (R411): SEC_KEY_ERASE erases the tenant's key. -/
  | secKeyErase (t : Fin 256) (k : CmdPkt)
  /-- SEC_LIFECYCLE (R404): SEC_LIFECYCLE returns the lifecycle state, DEBUG_COUNT, DEBUG_LOCK and LOCKDOWN. -/
  | secLifecycle (t : Fin 256) (k : CmdPkt)
  /-- SEC_DECOMMISSION (R417): SEC_DECOMMISSION journals itself, burns the decommission fuse and zeroises the key store. -/
  | secDecommission (t : Fin 256) (k : CmdPkt)
  /-- TWIN_QUERY (R399): TWIN_QUERY writes the twin record. -/
  | twinQuery (t : Fin 256) (k : CmdPkt)
  /-- TWIN_SWITCHOVER (R398): TWIN_SWITCHOVER fixes a switch frame and sends SWITCH to the standby. -/
  | twinSwitchover (t : Fin 256) (k : CmdPkt)
  /-- TWIN_RESYNC (R389): TWIN_RESYNC puts the standby into Syncing and starts the bulk copy. -/
  | twinResync (t : Fin 256) (k : CmdPkt)
  /-- ECHO (R261): ECHO returns its VALUE. -/
  | echo (t : Fin 256) (k : CmdPkt)
  /-- ALMANAC_DUMP (R97): ALMANAC_DUMP writes one copy of one quad's Almanac. -/
  | almanacDump (t : Fin 256) (k : CmdPkt)
  /-- CHIP_EVENTS_READ (R261): CHIP_EVENTS_READ writes records from the chip-event log. -/
  | chipEventsRead (t : Fin 256) (k : CmdPkt)
  /-- SOFT_RESET (R257): SOFT_RESET journals itself and schedules a soft reset instead of writing a reply. -/
  | softReset (t : Fin 256) (k : CmdPkt)
  /-- UNLISTED_OPCODE (R261): A command with an unlisted opcode is refused with BAD_OPCODE and is not journalled. -/
  | unlistedOpcode (t : Fin 256) (op : Half) (k : CmdPkt)
  /-- EVENT_RECORD_WRITE (R259): A held event record is written to the reply ring once there is room. -/
  | eventRecordWrite (t : Fin 256)
  /-- FRAME_START (R63): At S(n) an SOF is sent on every active link and the work of the frame boundary is done. `rx`: the
  root ports on whose F/L pair a device packet is arriving then (R64). -/
  | frameStart (rx : BitVec 16)
  /-- BEAT_START (R63): At each beat start k = 1–7 a BEAT is sent on every active H link. -/
  | beatStart (k : Nat)
  /-- SKP_SET_SEND (R230): An SKP set that has fallen due is sent at the next boundary between packets. -/
  | skpSetSend (lane : Fin 20)
  /-- LATE_SOF_SEND (R64): An SOF held back by an arriving device packet on an F/L pair is sent when that packet ends, and PRT_SOF_LATE is counted. -/
  | lateSofSend (p : Fin 16)
  /-- SLOT_START (R98): At a compiled START the slot is served, or skipped and counted. -/
  | slotStart (k : Nat) (rxBusy : Bool)
  /-- RETRY_WORK_START (R103): Work of order 3, meaning retries, extra complete splits and repeated start splits, starts in unreserved time. -/
  | retryWorkStart (addr : Fin 4096) (ep : Fin 16) (dirIn : Bool)
  /-- WITHDRAWAL_SEND (R133): A DISARM or a RETRACT followed by a DISARM start split is sent at the first opportunity before C. -/
  | withdrawalSend (q : Fin 4096) (idx : Half)
  /-- KEEPER_CONTROL_START (R104): A control transaction of the keeper starts in unreserved time as work of order 4. -/
  | keeperControlStart (p : Fin 16) (sd : Side)
  /-- CONTROL_TRANSACTION_START (R106): A tenant's control transaction starts, round robin over tenants. -/
  | controlTransactionStart (p : Fin 16) (sd : Side)
  /-- WEIR_BULK_START (R108): The Weir's deficit round robin starts a bulk transaction. -/
  | weirBulkStart (p : Fin 16) (sd : Side)
  /-- IN_TRANSACTION_RESPONSE (R42): The response to an IN token is acted on: data is stored and acknowledged, or a NAK, STALL or error is handled. -/
  | inTransactionResponse (p : Fin 16) (sd : Side) (rx : LineRx)
  /-- OUT_TRANSACTION_RESPONSE (R43): The response to an OUT, STRIKE data or SETUP packet is acted on. -/
  | outTransactionResponse (p : Fin 16) (sd : Side) (rx : LineRx)
  /-- SPLIT_RESPONSE (R49): The translator's answer to a start or complete split is acted on. -/
  | splitResponse (p : Fin 16) (sd : Side) (rx : LineRx)
  /-- TURNAROUND_TIMEOUT (R40): No response arrives within the turnaround timeout, which is a transaction error. -/
  | turnaroundTimeout (p : Fin 16) (sd : Side) (tag : Fin 8)
  /-- NAK_BACKOFF_EXPIRY (R45): An endpoint's NAK back-off ends and it may be polled again. -/
  | nakBackoffExpiry (addr : Fin 4096) (ep : Fin 16) (dirIn : Bool)
  /-- DISARM_RESPONSE (R134): The answer to a DISARM decides the outcome of the withdrawal. -/
  | disarmResponse (p : Fin 16) (sd : Side) (rx : LineRx)
  /-- RETRACT_RESPONSE (R134): The translator's answer to a RETRACT is acted on. -/
  | retractResponse (p : Fin 16) (sd : Side) (rx : LineRx)
  /-- STRIKE_STATUS_REPLY (R119): A GET_STRIKE_STATUS reply settles a strike whose outcome awaited it. -/
  | strikeStatusReply (q : Fin 4096) (idx : Half) (reply : Option (List Byte))
  /-- STRIKE_COMMIT_POINT (R127): A strike reaches its commit point C and is committed, or can no longer be withdrawn. -/
  | strikeCommitPoint (q : Fin 4096) (idx : Half)
  /-- STRIKE_ACT_TICK_PASSED (R127): After T_act the keeper reads the strike status of a strike whose acknowledgement never came. -/
  | strikeActTickPassed (q : Fin 4096) (idx : Half)
  /-- HALT_IN_ASSERTED (R53): HALT_IN# sampled asserted begins a halt, or is absorbed by a halt that already stands. -/
  | haltInAsserted (level : Bool)
  /-- HALT_TOKEN_SEND (R53): A HALT token is sent on an active link after the packet or transaction in progress. -/
  | haltTokenSend (p : Fin 16) (sd : Side)
  /-- MILLRACE_REVERSAL (R78): The Millrace declares a shaft reversal, flips DIR and withdraws the uncommitted angle strikes. -/
  | millraceReversal
  /-- SOURCE_LOST (R79): The Millrace angle source is lost, so SRC_LOST and SRC_FAULT are set and the loop behaves as FREEZE. -/
  | sourceLost
  /-- SOURCE_RECOVERED (R79): The angle source recovers and TRACK resumes. -/
  | sourceRecovered
  /-- SYNC_IN_EDGE (R80): A selected SYNC_IN edge has its bus time captured and is counted. -/
  | syncInEdge (rising : Bool)
  /-- SYNC_OUT_PULSE (R80): SYNC_OUT drives its pulse at a chosen boundary shifted by OFFSET. -/
  | syncOutPulse
  /-- PATH_DELAY_REMEASURE (R66): REMEASURE_S seconds have passed and the keeper measures path delays again. -/
  | pathDelayRemeasure
  /-- HUB_POLL (R202): Every POLL_FRAMES frames the keeper reads the status endpoint of a hub that has no T0 contract. -/
  | hubPoll (root : Fin 32) (hops : List (Fin 32))
  /-- PORT_STATUS_REPLY (R56): A GET_PORT_STATUS reply is judged for disconnect, disable, reset or wake. -/
  | portStatusReply (hub : DWord) (port : Fin 32) (reply : Option (List Byte))
  /-- ROOT_DISCONNECT (R212): A root attachment's disconnect time runs out, so the device is disconnected. -/
  | rootDisconnect (p : Fin 16) (sd : Side)
  /-- CONNECT_VALID (R215): The connect debounce ends and the place waits for bring-up. -/
  | connectValid (route : DWord) (speedF : Bool)
  /-- DEVICE_BRINGUP_START (R207): The keeper takes the next waiting place below a root attachment, once R216 allows, and begins Table 8-8. -/
  | deviceBringupStart (p : Fin 16) (sd : Side)
  /-- KEEPER_REQUEST_COMPLETE (R208): A keeper bring-up request completes and the next step runs, or the step is repeated or fails. -/
  | keeperRequestComplete (route : DWord) (reply : KeeperReply)
  /-- ADOPT_WAIT_EXPIRY (R209): A device has waited at address 0 for ADOPT_WAIT seconds, so its port is disabled with cause UNADOPTED. -/
  | adoptWaitExpiry (route : DWord)
  /-- PAIR_OVERLONG_TRANSMIT (R225): A device transmits on an F/L pair longer than a maximum packet, so its port is disabled with cause BABBLE. -/
  | pairOverlongTransmit (p : Fin 16)
  /-- DISABLE_ESCALATION (R225): A hub port disable has not completed within two frames, so the next port up is disabled. -/
  | disableEscalation (route : DWord)
  /-- DOZE_ENTRY (R221): An idle F/L link enters Doze after DOZE_IDLE frames. -/
  | dozeEntry (p : Fin 16) (sd : Side)
  /-- DEVICE_WAKE_SIGNAL (R223): A device wake on a dozing link starts host resume and raises REMOTE_WAKE. -/
  | deviceWakeSignal (p : Fin 16) (sd : Side) (route : DWord)
  /-- RESUME_SIGNALLING_END (R222): The resume signalling ends and the link waits for its first SOF. -/
  | resumeSignallingEnd (p : Fin 16) (sd : Side)
  /-- RECEIVER_DETECT_PULSE (R232): The transmitter makes a receiver-detect pulse every 100 µs. -/
  | receiverDetectPulse (lane : Fin 20) (found : Bool)
  /-- TRAINING_SET_RECEIVED (R232): Received TS1 or TS2 sets advance H-lane training, retraining or loopback. -/
  | trainingSetReceived (lane : Fin 20) (ts2 fast loopback : Bool) (n : Nat)
  /-- CAP_SET_RECEIVED (R232): Two identical good CAP sets have arrived and the link's version is agreed. -/
  | capSetReceived (p : Fin 16) (rx : LineRx)
  /-- TRAINING_LIMIT_TIMEOUT (R232): A training step misses its limit, so TRAIN_FAIL is counted and the lane returns to step 1. -/
  | trainingLimitTimeout (lane : Fin 20)
  /-- PAIR_RESET_SE0_END (R236): The 2 ms of SE0 end and the pair is released. -/
  | pairResetSe0End (x : PairRelease)
  /-- PAIR_PULLUP_TIMEOUT (R236): The device has not shown its pull-up within 100 µs, so the attachment is disconnected. -/
  | pairPullupTimeout (p : Fin 16)
  /-- PAIR_CAPABILITY_REPLY (R236): The device's capability word arrives on the pair and the version is agreed. -/
  | pairCapabilityReply (p : Fin 16) (rx : LineRx)
  /-- PAIR_CAPABILITY_TIMEOUT (R236): A pair capability attempt times out; after three, TRAIN_FAIL is counted. -/
  | pairCapabilityTimeout (p : Fin 16)
  /-- DROWSE_SET_RECEIVED (R238): A DROWSE set from the device puts the inbound direction into Drowse. -/
  | drowseSetReceived (p : Fin 16)
  /-- OUTBOUND_DROWSE_ENTRY (R239): The outbound H direction enters Drowse when it is idle long enough. -/
  | outboundDrowseEntry (p : Fin 16)
  /-- OUTBOUND_DROWSE_EXIT (R239): The outbound direction starts its wake burst 1 µs before its next item. -/
  | outboundDrowseExit (p : Fin 16)
  /-- WAKE_REQ_SEND (R240): WAKE_REQ is sent 1.2 µs before a token that needs a response from behind a drowsing inbound direction. -/
  | wakeReqSend (p : Fin 16)
  /-- WAKE_REQ_TIMEOUT (R240): No inbound exit is seen within 1.2 µs, so one transaction error is counted. -/
  | wakeReqTimeout (p : Fin 16) (tag : Fin 8)
  /-- LINK_LOSS (R242): Loss of an active H link is declared, LOSS is counted and retrain begins. -/
  | linkLoss (p : Fin 16)
  /-- RETRAIN_SUCCESS (R243): Eight FAST TS2 arrive within 50 µs, so the link returns to active and RIDE_THROUGH is counted. -/
  | retrainSuccess (p : Fin 16)
  /-- RETRAIN_TIMEOUT (R243): The retrain passes 50 µs, so the link is disconnected and RT_FAIL is counted. -/
  | retrainTimeout (p : Fin 16)
  /-- LANE_HEALTH_SECOND (R246): At the end of each second of bus time the symbol errors are compared with SYM_THR and HEALTH may be set. -/
  | laneHealthSecond (p : Fin 16) (symErrs elastic : Nat)
  /-- LANE_RECALIBRATION (R248): After a 20 °C change the lane recalibrates its termination and swing. -/
  | laneRecalibration (inRange : Bool)
  /-- SUBMISSION_ENTRY_ARRIVAL (R150): A fetched submission entry lands in the descriptor cache, is checked and becomes eligible or completes. -/
  | submissionEntryArrival (q : Fin 4096) (data : List Byte)
  /-- HOST_REQUEST_ISSUE (R166): A DMA engine issues its next host request by class, once staging space allows. -/
  | hostRequestIssue (wr : Bool) (ecc : Bool)
  /-- HOST_READ_COMPLETION (R165): Read data from host memory arrives and goes to the cistern, after decryption and checking when sealed. -/
  | hostReadCompletion (id : Nat) (data : List Byte)
  /-- FLUSH_READ_COMPLETION (R176): A flush read completes, proving the writes before it and releasing the completions that waited for it. -/
  | flushReadCompletion (id : Nat)
  /-- HOST_ACCESS_FAILURE (R178): A host access fails or its completion times out, so it is retried, or the channel halts or the queue pair faults. -/
  | hostAccessFailure (id : Nat) (kind : HostErr)
  /-- TRANSFER_COMPLETION (R153): A finished transfer whose predecessors have finished has its completion entry written in submission order. -/
  | transferCompletion (q : Fin 4096)
  /-- MODERATION_TIMER_EXPIRY (R338): The moderation timer reaches USEC, so a message is sent and the count returns to 0. -/
  | moderationTimerExpiry (q : Fin 4096)
  /-- PATROL_SCRUB_STEP (R191): The patrol scrubber reads and corrects cistern words in idle bank cycles. -/
  | patrolScrubStep (addr : BitVec 24) (err : EccErr) (who : Nat)
  /-- RELEASE_SCRUB_DONE (R192): The released cistern units have been zeroed and SCRUBBING clears. -/
  | releaseScrubDone (t : Fin 256)
  /-- CRIER_DOORBELL (R327): A source's message reaches the Crier and sets PENDING, so the target engine may be signalled. -/
  | crierDoorbell (src : Fin 1024)
  /-- SHIM_WITHDRAWAL (R333): A shim's withdrawal clears PENDING of an unclaimed source. -/
  | shimWithdrawal (src : Fin 1024)
  /-- ENGINE_CLAIM_READ (R330): An engine's claim read takes the chosen eligible source, or returns VALID 0 and counts a spurious claim. -/
  | engineClaimRead (e : Fin 12)
  /-- END_OF_INTERRUPT (R331): An engine's end-of-interrupt write clears ACTIVE and restores RUNNING. -/
  | endOfInterrupt (e : Fin 12) (src : Fin 1024)
  /-- ENGINE_SLEEP_WAKE (R332): An engine in its sleep instruction resumes when a source that targets it becomes pending. -/
  | engineSleepWake (e : Fin 12)
  /-- LEVEL_SIGNAL_CHANGE (R333): A level signal holds a new level for 2 clocks and the shim acts as Table 13-3 gives. -/
  | levelSignalChange (src : Fin 1024) (level : Bool)
  /-- POWER_ENTRY_BEGIN (R348): Once every blocker is clear the Steward begins entry to the target state. -/
  | powerEntryBegin
  /-- POWER_ENTRY_STEP_DONE (R350): A step of entry completes and the next step begins. -/
  | powerEntryStepDone (sense : EntrySense)
  /-- AUTO_IDLE_TIMER (R347): The conditions have held for AUTO_IDLE_MS, so the Steward enters Idle by itself. -/
  | autoIdleTimer
  /-- WAKE_IN_ASSERTED (R352): WAKE_IN wakes the chip from Sleep or DeepSleep, or starts it from Off. -/
  | wakeInAsserted (strap : Fin 3)
  /-- LINK_ACTIVITY_WAKE (R352): A wake burst or K on a parked link wakes the chip. -/
  | linkActivityWake (p : Fin 16) (sd : Side)
  /-- PCIE_WAKE (R352): A PCIe request, an L1.2 exit or PERST# deassertion wakes the chip. -/
  | pcieWake
  /-- RTC_ALARM (R352): The RTC reaches the alarm count, which wakes the chip or raises ALARM. -/
  | rtcAlarm (rtc : DWord)
  /-- THERMAL_TRIP (R357): The junction reaches the trip point in DeepSleep, so the regulator goes to full mode and the chip returns to Sleep. -/
  | thermalTrip (temp : BitVec 12)
  /-- RETURN_STEP_DONE (R353): A step of the return to Run ends and the next step begins. -/
  | returnStepDone (counts : DWord)
  /-- DEEPSLEEP_RECHECK (R356): Every 60 s the Steward runs the DeepSleep retention check again. -/
  | deepsleepRecheck (temp : BitVec 12)
  /-- DOMAIN_POWER_GOOD (R343): A powering domain reaches power good and its clock, reset and isolation are released. -/
  | domainPowerGood (d : Fin 11)
  /-- SUPPLY_WARN (R358): VDD_CORE stays below 0.755 V for 200 ns, so WARN is set and Brace begins. -/
  | supplyWarn
  /-- BRACE_END (R359): Brace's minimum time and good-supply count have both run out, so Brace ends. -/
  | braceEnd (minMv : Half)
  /-- CORE_BROWNOUT (R358): VDD_CORE below 0.720 V causes a core brown-out reset. -/
  | coreBrownout
  /-- POWER_ON (R367): VAUX_33 has been in range for 1 ms, so a cold power-on reset starts. -/
  | powerOn (strap : Fin 3) (flash : Option Flash)
  /-- ALWAYS_ON_BROWNOUT (R354): The always-on regulator falls below its retention minimum, which is a cold reset. -/
  | alwaysOnBrownout (strap : Fin 3)
  /-- RESET_N_ASSERTED (R367): RESET_N held low causes a warm reset. -/
  | resetNAsserted
  /-- PERST_ASSERTED (R374): PERST# asserted is a warm reset, or only a step of entry to DeepSleep or Off. -/
  | perstAsserted
  /-- PCIE_HOT_RESET (R367): A hot reset or DL_Down causes a warm reset. -/
  | pcieHotReset
  /-- HEARTBEAT (R368): An engine's heartbeat to the Steward renews its watchdog. -/
  | heartbeat (e : Fin 12)
  /-- WATCHDOG_RESET (R368): A missed heartbeat or the Steward timer's expiry causes a Steward watchdog reset. -/
  | watchdogReset (e : Fin 12)
  /-- SOFT_RESET_BEGIN (R367): A soft reset scheduled by SOFT_RESET, a firmware activation or a trial's return begins. -/
  | softResetBegin
  /-- RESET_RELEASE (R369): The reset trigger goes away and start-up begins at stage 0. -/
  | resetRelease (counts : DWord)
  /-- STARTUP_STAGE_DONE (R375): A start-up stage completes and the next stage begins. -/
  | startupStageDone (retOk : RetCheck) (ms : Half)
  /-- PROBATION_DUE (R297): When 10 s of probation or trial remain, PROBATION_DUE is raised to T0. -/
  | probationDue
  /-- PROBATION_DEADLINE (R296): An unconfirmed commit reaches its deadline and the Steward rolls it back. -/
  | probationDeadline
  /-- FW_TRIAL_DEADLINE (R300): An unconfirmed firmware trial reaches its deadline and the Steward returns to the other slot. -/
  | fwTrialDeadline
  /-- FW_ACTIVATE_RESTART (R299): 10 ms after the FW_ACTIVATE or FW_ROLLBACK reply head, the Steward makes a soft reset. -/
  | fwActivateRestart
  /-- SLOT_BACKGROUND_ERASE (R283): Outside Brace the Steward erases a configuration slot that has left every role. -/
  | slotBackgroundErase (slot : Fin 3)
  /-- FLASH_OPERATION_DONE (R283): A flash program or erase completes, as status polling shows. -/
  | flashOperationDone (ok : Bool)
  /-- TWIN_ROLE_SETTLE (R383): A joining member settles its role, or retries after 500 ms. -/
  | twinRoleSettle
  /-- HELLO (R413): A HELLO frame is received, the partner is authenticated and session keys are agreed. -/
  | hello (h : TwinHello)
  /-- KEEPALIVE (R386): A member that has sent nothing for 10 µs sends a KEEPALIVE. -/
  | keepalive
  /-- TIME (R388): A TIME frame exchange steers the standby's time keeper. -/
  | time (f : TwinRx) (offset trim : Half)
  /-- CURSOR (R388): A CURSOR frame carries the frame grid, Millrace, Almanac and halt state to the standby. -/
  | cursor (f : TwinRx)
  /-- LEDGER (R388): A LEDGER frame carries an entry, which the standby stores and applies. -/
  | ledger (f : TwinRx)
  /-- TWIN_FRAME_ACK (R277): The partner's acknowledgement of a mirrored entry sets MIRRORED and releases the reply. -/
  | twinFrameAck (ack : Word)
  /-- CONFIG (R395): A CONFIG frame carries an image chunk or a commit phase, such as PREPARE. -/
  | config (f : TwinRx)
  /-- RESYNC (R389): A RESYNC frame carries bulk copy data to a Syncing standby. -/
  | resync (f : TwinRx)
  /-- SWITCH (R398): A SWITCH frame arranges a planned switchover at frame S. -/
  | switch (f : TwinRx)
  /-- TWIN_PREPARE_TIMEOUT (R395): No READY arrives within 50 ms, so the commit is refused with BUSY. -/
  | twinPrepareTimeout
  /-- TWIN_FRAME_RETRANSMIT (R386): An unacknowledged twin frame is sent again after 20 µs. -/
  | twinFrameRetransmit
  /-- TWIN_LINK_SILENT (R386): No valid twin frame arrives for 50 µs, so the link is silent. -/
  | twinLinkSilent
  /-- TWIN_ALIVE_IN_DEASSERTED (R387): TWIN_ALIVE_IN has been low for 20 µs. -/
  | twinAliveInDeasserted (level : Bool)
  /-- TWIN_ALIVE_TIMER_EXPIRY (R387): The alive timer is not restarted within 2 ms, so TWIN_ALIVE_OUT falls. -/
  | twinAliveTimerExpiry
  /-- TWIN_SEQ_REKEY (R413): SEQ reaches 0x8000_0000, so a new HELLO rekeys the twin link. -/
  | twinSeqRekey
  /-- GLITCH_DETECTION (R419): A glitch detector trips, so recent cryptographic results are redone and the detection is counted. -/
  | glitchDetection (clock : Bool)
  /-- UNLOCK_CHALLENGE (R414): The JTAG instruction UNLOCK_CHALLENGE returns a fresh 32-byte challenge. -/
  | unlockChallenge
  /-- UNLOCK_RESPONSE (R414): A verified UNLOCK_RESPONSE zeroises the secrets, burns DEBUG_COUNT and causes a debug-open zeroisation reset. -/
  | unlockResponse (pub sig : List Byte)
  /-- DEPLOY (R413): The DEPLOY instruction burns the deployed fuse. -/
  | deploy
  /-- SMB_READ_CHIP_ID (R439): SMBus command 0x00 returns GBL_CHIP_ID [15:0]. -/
  | smbReadChipId
  /-- SMB_READ_TEMPERATURE (R439): SMBus command 0x01 returns the junction temperature. -/
  | smbReadTemperature
  /-- SMB_READ_VDD_CORE (R439): SMBus command 0x02 returns VDD_CORE in mV. -/
  | smbReadVddCore
  /-- SMB_READ_STATE (R439): SMBus command 0x03 returns the chip state, the boot stage, READY and Brace. -/
  | smbReadState
  /-- SMB_READ_ALERT_STATUS (R439): SMBus command 0x04 returns the alert status and clears it. -/
  | smbReadAlertStatus
  /-- SMB_READ_ALERT_TEMP (R439): SMBus command 0x05 read returns ALERT_TEMP. -/
  | smbReadAlertTemp
  /-- SMB_WRITE_ALERT_TEMP (R439): SMBus command 0x05 write sets ALERT_TEMP. -/
  | smbWriteAlertTemp (v : Byte)
  /-- SMB_READ_RESET_CAUSE (R439): SMBus command 0x06 returns GBL_RESET_CAUSE [15:0]. -/
  | smbReadResetCause
  /-- SMB_READ_LIFECYCLE (R439): SMBus command 0x07 returns the lifecycle state. -/
  | smbReadLifecycle
  /-- SMB_ALERT_RESPONSE (R439): A read of the Alert Response Address returns the chip's own address. -/
  | smbAlertResponse
  /-- SMB_CLOCK_LOW_TIMEOUT (R438): The SMBus clock has been held low for 25–35 ms, so the target abandons the transaction. -/
  | smbClockLowTimeout
  /-- INBOUND_DROWSE_EXIT (R238): A device ends its own transmit Drowse with a wake burst, and the Vohus receiver relocks and leaves inbound Drowse. -/
  | inboundDrowseExit (p : Fin 16)
  /-- CHECKER_LOCK (R251): The pattern checker sees 64 consecutive error-free bits, locks and sets CHK_LOCK. -/
  | checkerLock (lane : Fin 20)
  /-- CHECKER_LOST_LOCK (R251): The locked checker sees more than 16 errors within 64 bits, so it sets LOST_LOCK and relocks. -/
  | checkerLostLock (lane : Fin 20) (bits errs : Word)
  /-- ENCODER_TRANSITION (R72): A filtered quadrature transition or index pulse on an ENC input moves the Millrace count or sets Z_SEEN. -/
  | encoderTransition (enc : Fin 2) (a b z : Bool)
  /-- LATE_SLOT_SEND (R99): A slot token held back by a device packet arriving on an F/L pair leaves when that packet ends, and PRT_SLOT_LATE is counted. -/
  | lateSlotSend (k : Nat)
  /-- SMB_UNKNOWN_COMMAND (R439): An SMBus command code outside Table 18-12 is not acknowledged. -/
  | smbUnknownCommand (code : Byte)
  deriving DecidableEq, Repr

end Sys2Proof
end

