-- ==== Sys2Proof/Decode.lean ====
section
/-!
DEFINITION. Commands that the opcode table spells with bits: its rows give none (their lists of fields are empty), since
a command is an access or event from outside the block.
-/
namespace Sys2Proof

/-- The command that a word spells by the table's bits: none, since no row gives bits. -/
def decodeTableWord (_nbits _w : Nat) : Option Instr := none

end Sys2Proof
end

