-- ==== Sys2Proof/Machine/Regs.lean ====
section
/-!
DEFINITION. The registers: their names, their fields with access code, reset value and reset class (the field tables of
the spec), their places in the two memory layouts (Tables 19-1 to 19-8), and the bit-field operations.
-/
namespace Sys2Proof.Machine

/-- Access codes (Table 0-5). Reserved bits belong to no field. -/
inductive Acc where
  | ro | rw | w1c | w1s | wo | rc
  deriving DecidableEq, Repr

/-- The reset class that clears a field (R9, Table 0-6). -/
inductive RClass where
  | cold | warm | fn | never
  deriving DecidableEq, Repr

/-- One field of a register table. -/
structure Field where
  lo : Nat
  len : Nat
  acc : Acc
  reset : Nat
  cls : RClass
  deriving DecidableEq, Repr

/-- The registers of Tables 19-3 to 19-6 and 19-7's common registers, and the two doorbells (R451). A twin lane's
register is the PRT_ register of the same suffix at instance 16 + k (R401). -/
inductive Reg where
  | gblChipId | gblBusFault | gblResetCause | gblBootStatus | gblBusTimeLo | gblBusTimeHi | gblFrameNum
  | gblTimeEpoch | gblTimeStatus | gblCfgGen | gblAlmStatus | gblAlmSwitch | gblWeirCtrl | tenCmdBaseLo
  | tenCmdBaseHi | tenRplBaseLo | tenRplBaseHi | tenRplHeadLo | tenRplHeadHi | tenCmdCtrl | tenCmdStatus | tenCmdDb
  | tenRplDb | ledLastLo | ledLastHi | tenQpSel | tenQpStatus | tenQpCount | criCause | criCauseEn | criEvtCtrl
  | criQpPend | criQpCause | criQpMod | tenWeirQuota | tenCisShare | tenPwrVote | tenWinSel | tenWinAttr
  | tenWinBaseLo | tenWinBaseHi | tenWinLimitLo | tenWinLimitHi | tenIsoFault | tenIsoAddrLo | tenIsoAddrHi | dmaSel
  | dmaChCtrl | dmaChStatus | dmaPrgPos | dmaChErrLo | dmaChErrHi | dmaPrgLoadLo | dmaPrgLoadHi | dmaPrgAddrLo
  | dmaPrgAddrHi | dmaPrgPos2 | dmaPrgXfer | dmaFnErrLo | dmaFnErrHi | dmaFnErrInfo | secStatus | secCertSel
  | secCertData | secKeyStatus | secKeyLabel | gblTimeCtrl | gblSyncCtrl | gblSyncCapLo | gblSyncCapHi
  | gblSyncCapCnt | gblStrikeCtrl | gblCfgState | gblTreeStatus | gblHpCtrl | gblCisEcc | gblCisEccAddr
  | gblCisScrub | gblTenSel | gblTenState | gblWinBaseLo | gblWinBaseHi | gblWinLimitLo | gblWinLimitHi | gblWinAttr
  | gblGpioCfg | gblGpioOut | gblGpioIn | gblGpioEvt | mrcCtrl | mrcLenMin | mrcLenMax | mrcLenFixed | mrcAngleOfs
  | mrcEncCfg | mrcStatus | mrcPhase | mrcBusSrc | mrcLenNext | mrcFloor | pwrState | pwrVoters | pwrSupply
  | pwrTherm | pwrRtcLo | pwrRtcHi | pwrAlarmLo | pwrAlarmHi | ledHeadLo | ledHeadHi | ledStatus | secGlitch
  | criDiagSel | criDiag | dmaCfg | prtProto | prtProtoCap | prtAttach | prtLaneCtrl | prtLaneStatus
  | prtPeriodicRes | prtSofLate | prtSlotLate | prtStrikeStat | prtHpCount | prtLaneErr | prtLinkErr | prtRide
  | prtMarginCtrl | prtMarginStat | prtTestCtrl | prtTestStat | prtTestUser0 | prtTestUser1 | prtTestBitsLo
  | prtTestBitsHi | prtTestErrs | twnStatus | twnCount | twnTime | qpSqDb | qpCqDb
  deriving DecidableEq, Repr

/-- The fields of each register (the table named beside each line). -/
def Reg.fields : Reg → List Field
  | .gblChipId => -- Table 1-6
    [⟨0, 16, .ro, 0x4840, .never⟩, ⟨16, 4, .ro, 1, .never⟩, ⟨20, 4, .ro, 0, .never⟩, ⟨24, 8, .ro, 0x59, .never⟩]
  | .gblBusFault => -- Table 1-7
    [⟨0, 1, .w1c, 0, .fn⟩, ⟨1, 1, .w1c, 0, .fn⟩, ⟨2, 1, .w1c, 0, .fn⟩, ⟨3, 1, .w1c, 0, .fn⟩, ⟨8, 24, .ro, 0, .fn⟩]
  | .gblResetCause => -- Table 15-6
    [⟨0, 4, .ro, 1, .never⟩, ⟨4, 4, .ro, 0xf, .never⟩, ⟨8, 1, .ro, 0, .never⟩, ⟨9, 1, .ro, 0, .never⟩,
     ⟨10, 1, .ro, 0, .never⟩, ⟨11, 1, .ro, 0, .never⟩, ⟨16, 16, .ro, 0, .cold⟩]
  | .gblBootStatus => -- Table 15-7
    [⟨0, 3, .ro, 0, .warm⟩, ⟨3, 1, .ro, 0, .warm⟩, ⟨4, 1, .ro, 0, .warm⟩, ⟨5, 1, .ro, 0, .warm⟩,
     ⟨6, 1, .ro, 0, .warm⟩, ⟨7, 1, .ro, 0, .warm⟩, ⟨8, 1, .ro, 0, .warm⟩, ⟨9, 1, .ro, 0, .warm⟩,
     ⟨16, 16, .ro, 0, .warm⟩]
  | .gblBusTimeLo => -- Table 3-7
    [⟨0, 32, .ro, 0, .cold⟩]
  | .gblBusTimeHi => -- Table 3-7
    [⟨0, 32, .ro, 0, .cold⟩]
  | .gblFrameNum => -- Table 3-7
    [⟨0, 32, .ro, 0, .cold⟩]
  | .gblTimeEpoch => -- Table 3-7
    [⟨0, 32, .ro, 0, .never⟩]
  | .gblTimeStatus => -- Table 3-8
    [⟨0, 3, .ro, 4, .cold⟩, ⟨3, 1, .ro, 1, .cold⟩, ⟨4, 1, .ro, 0, .cold⟩, ⟨8, 24, .ro, 0, .cold⟩]
  | .gblCfgGen => -- Table 11-11
    [⟨0, 32, .ro, 0, .warm⟩]
  | .gblAlmStatus => -- Table 4-11
    [⟨0, 1, .ro, 0, .warm⟩, ⟨1, 1, .ro, 0, .warm⟩, ⟨8, 24, .ro, 0, .warm⟩]
  | .gblAlmSwitch => -- Table 4-12
    [⟨0, 32, .ro, 0, .warm⟩]
  | .gblWeirCtrl => -- Table 4-13
    [⟨0, 1, .ro, 0, .warm⟩]
  | .tenCmdBaseLo => -- Table 10-15
    [⟨0, 32, .rw, 0, .fn⟩]
  | .tenCmdBaseHi => -- Table 10-15
    [⟨0, 32, .rw, 0, .fn⟩]
  | .tenRplBaseLo => -- Table 10-15
    [⟨0, 32, .rw, 0, .fn⟩]
  | .tenRplBaseHi => -- Table 10-15
    [⟨0, 32, .rw, 0, .fn⟩]
  | .tenRplHeadLo => -- Table 10-15
    [⟨0, 32, .rw, 0, .fn⟩]
  | .tenRplHeadHi => -- Table 10-15
    [⟨0, 32, .rw, 0, .fn⟩]
  | .tenCmdCtrl => -- Table 10-16
    [⟨0, 1, .rw, 0, .fn⟩, ⟨1, 1, .w1s, 0, .fn⟩, ⟨8, 4, .rw, 4, .fn⟩, ⟨12, 4, .rw, 4, .fn⟩, ⟨16, 6, .rw, 0, .fn⟩]
  | .tenCmdStatus => -- Table 10-17
    [⟨0, 1, .ro, 1, .fn⟩, ⟨1, 1, .w1c, 0, .fn⟩, ⟨2, 1, .ro, 0, .fn⟩, ⟨3, 1, .ro, 0, .fn⟩, ⟨16, 16, .ro, 0, .fn⟩]
  | .tenCmdDb => -- Table 10-18
    [⟨0, 16, .ro, 0, .fn⟩, ⟨16, 16, .ro, 0, .fn⟩]
  | .tenRplDb => -- Table 10-19
    [⟨0, 16, .ro, 0, .fn⟩, ⟨16, 16, .ro, 0, .fn⟩]
  | .ledLastLo => -- Table 10-15
    [⟨0, 32, .ro, 0, .cold⟩]
  | .ledLastHi => -- Table 10-15
    [⟨0, 32, .ro, 0, .cold⟩]
  | .tenQpSel => -- Table 6-14
    [⟨0, 12, .rw, 0, .fn⟩]
  | .tenQpStatus => -- Table 6-15
    [⟨0, 3, .ro, 0, .fn⟩, ⟨3, 1, .ro, 1, .fn⟩, ⟨4, 1, .ro, 0, .fn⟩, ⟨5, 1, .ro, 0, .fn⟩, ⟨6, 2, .ro, 0, .fn⟩,
     ⟨8, 1, .w1c, 0, .fn⟩, ⟨9, 1, .ro, 0, .fn⟩, ⟨10, 2, .ro, 0, .fn⟩, ⟨16, 7, .ro, 0, .fn⟩, ⟨23, 1, .ro, 0, .fn⟩,
     ⟨24, 2, .ro, 0, .never⟩]
  | .tenQpCount => -- Table 6-16
    [⟨0, 16, .rc, 0, .fn⟩, ⟨16, 8, .rc, 0, .fn⟩, ⟨24, 8, .rc, 0, .fn⟩]
  | .criCause => -- Table 13-7
    [⟨0, 9, .w1c, 0, .fn⟩, ⟨9, 1, .ro, 0, .fn⟩, ⟨10, 7, .w1c, 0, .fn⟩]
  | .criCauseEn => -- Table 13-7
    [⟨0, 17, .rw, 0, .fn⟩]
  | .criEvtCtrl => -- Table 13-8
    [⟨0, 6, .rw, 0, .fn⟩]
  | .criQpPend => -- Table 13-9
    [⟨0, 12, .ro, 0, .fn⟩, ⟨31, 1, .ro, 0, .fn⟩]
  | .criQpCause => -- Table 13-10
    [⟨0, 1, .w1c, 0, .fn⟩, ⟨1, 1, .w1c, 0, .fn⟩, ⟨2, 1, .w1c, 0, .fn⟩, ⟨3, 1, .w1c, 0, .fn⟩]
  | .criQpMod => -- Table 13-11
    [⟨0, 8, .rw, 0, .fn⟩, ⟨8, 10, .rw, 0, .fn⟩]
  | .tenWeirQuota => -- Table 4-14
    [⟨0, 16, .ro, 0, .warm⟩]
  | .tenCisShare => -- Table 7-16
    [⟨0, 12, .ro, 0, .warm⟩, ⟨12, 1, .ro, 0, .warm⟩, ⟨13, 1, .ro, 0, .warm⟩]
  | .tenPwrVote => -- Table 14-17
    [⟨0, 11, .ro, 0, .fn⟩, ⟨16, 11, .ro, 0, .warm⟩]
  | .tenWinSel => -- Table 12-7
    [⟨0, 4, .rw, 0, .fn⟩]
  | .tenWinAttr => -- Table 12-9
    [⟨0, 1, .ro, 0, .warm⟩, ⟨1, 1, .ro, 0, .warm⟩, ⟨2, 1, .ro, 0, .warm⟩]
  | .tenWinBaseLo => -- Table 12-7
    [⟨12, 20, .ro, 0, .warm⟩]
  | .tenWinBaseHi => -- Table 12-7
    [⟨0, 32, .ro, 0, .warm⟩]
  | .tenWinLimitLo => -- Table 12-7
    [⟨12, 20, .ro, 0, .warm⟩]
  | .tenWinLimitHi => -- Table 12-7
    [⟨0, 32, .ro, 0, .warm⟩]
  | .tenIsoFault => -- Table 12-11
    [⟨0, 1, .w1c, 0, .fn⟩, ⟨1, 1, .w1c, 0, .fn⟩, ⟨16, 16, .rc, 0, .fn⟩]
  | .tenIsoAddrLo => -- Table 12-7
    [⟨0, 32, .ro, 0, .fn⟩]
  | .tenIsoAddrHi => -- Table 12-7
    [⟨0, 32, .ro, 0, .fn⟩]
  | .dmaSel => -- Table 7-10
    [⟨0, 6, .rw, 0, .fn⟩, ⟨8, 4, .rw, 0, .fn⟩]
  | .dmaChCtrl => -- Table 7-11
    [⟨0, 1, .rw, 0, .fn⟩, ⟨1, 1, .wo, 0, .fn⟩, ⟨2, 1, .wo, 0, .fn⟩, ⟨3, 1, .wo, 0, .fn⟩]
  | .dmaChStatus => -- Table 7-12
    [⟨0, 3, .ro, 0, .fn⟩, ⟨3, 1, .ro, 0, .fn⟩, ⟨4, 1, .ro, 0, .fn⟩, ⟨5, 1, .ro, 0, .fn⟩, ⟨6, 3, .ro, 0, .fn⟩,
     ⟨9, 3, .ro, 0, .fn⟩, ⟨12, 1, .w1c, 0, .fn⟩, ⟨16, 16, .ro, 0, .fn⟩]
  | .dmaPrgPos => -- Table 7-13
    [⟨0, 16, .ro, 0, .fn⟩, ⟨16, 16, .ro, 0, .fn⟩]
  | .dmaChErrLo => -- Table 7-9
    [⟨0, 32, .ro, 0, .fn⟩]
  | .dmaChErrHi => -- Table 7-9
    [⟨0, 32, .ro, 0, .fn⟩]
  | .dmaPrgLoadLo => -- Table 7-9
    [⟨0, 32, .rw, 0, .fn⟩]
  | .dmaPrgLoadHi => -- Table 7-9
    [⟨0, 32, .rw, 0, .fn⟩]
  | .dmaPrgAddrLo => -- Table 7-9
    [⟨0, 32, .ro, 0, .fn⟩]
  | .dmaPrgAddrHi => -- Table 7-9
    [⟨0, 32, .ro, 0, .fn⟩]
  | .dmaPrgPos2 => -- Table 7-13
    [⟨0, 16, .ro, 0, .fn⟩, ⟨16, 1, .ro, 0, .fn⟩, ⟨17, 12, .ro, 0, .fn⟩]
  | .dmaPrgXfer => -- Table 7-9
    [⟨0, 24, .ro, 0, .fn⟩]
  | .dmaFnErrLo => -- Table 7-9
    [⟨0, 32, .ro, 0, .fn⟩]
  | .dmaFnErrHi => -- Table 7-9
    [⟨0, 32, .ro, 0, .fn⟩]
  | .dmaFnErrInfo => -- Table 7-14
    [⟨0, 1, .w1c, 0, .fn⟩, ⟨1, 1, .ro, 0, .fn⟩, ⟨2, 3, .ro, 0, .fn⟩, ⟨5, 2, .ro, 0, .fn⟩]
  | .secStatus => -- Table 17-12
    [⟨0, 2, .ro, 0, .never⟩, ⟨2, 1, .ro, 0, .never⟩, ⟨3, 1, .ro, 0, .warm⟩, ⟨4, 8, .ro, 0, .never⟩,
     ⟨12, 4, .ro, 0, .never⟩, ⟨16, 8, .ro, 0, .never⟩, ⟨24, 7, .ro, 0, .never⟩]
  | .secCertSel => -- Table 17-11
    [⟨0, 6, .rw, 0, .fn⟩]
  | .secCertData => -- Table 17-11
    [⟨0, 32, .ro, 0, .never⟩]
  | .secKeyStatus => -- Table 17-13
    [⟨0, 1, .ro, 0, .fn⟩, ⟨1, 1, .ro, 0, .warm⟩, ⟨16, 8, .rc, 0, .fn⟩]
  | .secKeyLabel => -- Table 17-11
    [⟨0, 32, .ro, 0, .fn⟩]
  | .gblTimeCtrl => -- Table 3-9
    [⟨0, 8, .rw, 0x3c, .warm⟩, ⟨8, 8, .rw, 0x1e, .warm⟩]
  | .gblSyncCtrl => -- Table 3-10
    [⟨0, 2, .rw, 0, .warm⟩, ⟨2, 4, .rw, 0, .warm⟩, ⟨6, 10, .rw, 1, .warm⟩, ⟨16, 8, .rw, 0, .warm⟩,
     ⟨24, 2, .rw, 0, .warm⟩]
  | .gblSyncCapLo => -- Table 3-7
    [⟨0, 32, .ro, 0, .warm⟩]
  | .gblSyncCapHi => -- Table 3-7
    [⟨0, 32, .ro, 0, .warm⟩]
  | .gblSyncCapCnt => -- Table 3-7
    [⟨0, 32, .ro, 0, .warm⟩]
  | .gblStrikeCtrl => -- Table 5-9
    [⟨0, 3, .rw, 1, .warm⟩]
  | .gblCfgState => -- Table 11-12
    [⟨0, 1, .ro, 0, .warm⟩, ⟨1, 1, .ro, 0, .warm⟩, ⟨2, 1, .ro, 0, .warm⟩, ⟨3, 3, .ro, 0, .warm⟩,
     ⟨8, 12, .ro, 0, .warm⟩]
  | .gblTreeStatus => -- Table 8-19
    [⟨0, 12, .ro, 0, .warm⟩, ⟨12, 4, .ro, 0, .warm⟩, ⟨16, 6, .ro, 0, .warm⟩]
  | .gblHpCtrl => -- Table 8-20
    [⟨0, 8, .rw, 8, .warm⟩, ⟨8, 8, .rw, 0x10, .warm⟩, ⟨16, 4, .rw, 3, .warm⟩, ⟨20, 4, .rw, 2, .warm⟩,
     ⟨24, 8, .rw, 0, .warm⟩]
  | .gblCisEcc => -- Table 7-17
    [⟨0, 16, .rc, 0, .warm⟩, ⟨16, 8, .rc, 0, .warm⟩, ⟨24, 3, .ro, 0, .warm⟩]
  | .gblCisEccAddr => -- Table 7-9
    [⟨0, 24, .ro, 0, .warm⟩]
  | .gblCisScrub => -- Table 7-18
    [⟨0, 8, .rw, 0xa, .warm⟩, ⟨8, 1, .rw, 1, .warm⟩]
  | .gblTenSel => -- Table 12-8
    [⟨0, 8, .rw, 0, .warm⟩, ⟨8, 4, .rw, 0, .warm⟩]
  | .gblTenState => -- Table 12-10
    [⟨0, 1, .ro, 0, .never⟩, ⟨1, 1, .ro, 0, .warm⟩, ⟨2, 1, .ro, 0, .warm⟩, ⟨3, 1, .ro, 0, .warm⟩,
     ⟨8, 7, .ro, 0, .warm⟩, ⟨16, 13, .ro, 0, .warm⟩]
  | .gblWinBaseLo => -- Table 12-7
    [⟨12, 20, .rw, 0, .warm⟩]
  | .gblWinBaseHi => -- Table 12-7
    [⟨0, 32, .rw, 0, .warm⟩]
  | .gblWinLimitLo => -- Table 12-7
    [⟨12, 20, .rw, 0, .warm⟩]
  | .gblWinLimitHi => -- Table 12-7
    [⟨0, 32, .rw, 0, .warm⟩]
  | .gblWinAttr => -- Table 12-9
    [⟨0, 1, .rw, 0, .warm⟩, ⟨1, 1, .rw, 0, .warm⟩, ⟨2, 1, .rw, 0, .warm⟩]
  | .gblGpioCfg => -- Table 18-18
    [⟨0, 16, .rw, 0, .warm⟩, ⟨16, 16, .rw, 0, .warm⟩]
  | .gblGpioOut => -- Table 18-19
    [⟨0, 16, .rw, 0, .warm⟩]
  | .gblGpioIn => -- Table 18-20
    [⟨0, 16, .ro, 0, .warm⟩]
  | .gblGpioEvt => -- Table 18-21
    [⟨0, 16, .rw, 0, .warm⟩, ⟨16, 16, .w1c, 0, .warm⟩]
  | .mrcCtrl => -- Table 3-11
    [⟨0, 2, .rw, 0, .warm⟩, ⟨2, 3, .rw, 0, .warm⟩, ⟨5, 3, .rw, 2, .warm⟩, ⟨8, 12, .rw, 1, .warm⟩,
     ⟨20, 8, .rw, 0x40, .warm⟩]
  | .mrcLenMin => -- Table 3-12
    [⟨0, 20, .rw, 0x6acfc, .warm⟩, ⟨20, 12, .rw, 0x9c4, .warm⟩]
  | .mrcLenMax => -- Table 3-7
    [⟨0, 20, .rw, 0x89544, .warm⟩]
  | .mrcLenFixed => -- Table 3-7
    [⟨0, 20, .rw, 0x7a120, .warm⟩]
  | .mrcAngleOfs => -- Table 3-7
    [⟨0, 24, .rw, 0, .warm⟩]
  | .mrcEncCfg => -- Table 3-13
    [⟨0, 24, .rw, 4, .warm⟩, ⟨24, 1, .rw, 0, .warm⟩, ⟨25, 1, .rw, 0, .warm⟩, ⟨26, 4, .rw, 3, .warm⟩]
  | .mrcStatus => -- Table 3-14
    [⟨0, 1, .ro, 0, .warm⟩, ⟨1, 1, .ro, 0, .warm⟩, ⟨2, 1, .ro, 0, .warm⟩, ⟨3, 1, .ro, 0, .warm⟩,
     ⟨4, 1, .w1c, 0, .warm⟩, ⟨5, 1, .w1c, 0, .warm⟩, ⟨6, 1, .ro, 0, .warm⟩, ⟨7, 1, .w1c, 0, .warm⟩,
     ⟨8, 1, .w1c, 0, .warm⟩, ⟨16, 16, .rc, 0, .warm⟩]
  | .mrcPhase => -- Table 3-15
    [⟨0, 16, .ro, 0, .warm⟩, ⟨16, 12, .ro, 0, .warm⟩]
  | .mrcBusSrc => -- Table 3-7
    [⟨0, 16, .rw, 0, .warm⟩]
  | .mrcLenNext => -- Table 3-7
    [⟨0, 20, .ro, 0x7a120, .warm⟩]
  | .mrcFloor => -- Table 3-7
    [⟨0, 20, .ro, 0, .warm⟩]
  | .pwrState => -- Table 14-13
    [⟨0, 3, .ro, 0, .warm⟩, ⟨3, 3, .ro, 0, .warm⟩, ⟨6, 3, .ro, 0, .warm⟩, ⟨9, 3, .ro, 0, .warm⟩,
     ⟨16, 10, .ro, 0, .warm⟩]
  | .pwrVoters => -- Table 14-14
    [⟨0, 11, .ro, 3, .warm⟩, ⟨16, 16, .ro, 0, .warm⟩]
  | .pwrSupply => -- Table 14-15
    [⟨0, 1, .ro, 0, .warm⟩, ⟨1, 1, .ro, 0, .warm⟩, ⟨2, 1, .w1c, 0, .warm⟩, ⟨8, 8, .rc, 0, .warm⟩,
     ⟨16, 16, .ro, 0, .warm⟩]
  | .pwrTherm => -- Table 14-16
    [⟨0, 12, .ro, 0, .warm⟩, ⟨12, 16, .ro, 0, .warm⟩]
  | .pwrRtcLo => -- Table 14-12
    [⟨0, 32, .ro, 0, .never⟩]
  | .pwrRtcHi => -- Table 14-12
    [⟨0, 32, .ro, 0, .never⟩]
  | .pwrAlarmLo => -- Table 14-12
    [⟨0, 32, .ro, 0, .never⟩]
  | .pwrAlarmHi => -- Table 14-12
    [⟨0, 32, .ro, 0, .never⟩]
  | .ledHeadLo => -- Table 10-15
    [⟨0, 32, .ro, 0, .cold⟩]
  | .ledHeadHi => -- Table 10-15
    [⟨0, 32, .ro, 0, .cold⟩]
  | .ledStatus => -- Table 10-20
    [⟨0, 14, .ro, 0, .cold⟩, ⟨14, 1, .ro, 0, .warm⟩, ⟨16, 16, .ro, 0, .warm⟩]
  | .secGlitch => -- Table 17-14
    [⟨0, 8, .rc, 0, .warm⟩, ⟨8, 8, .rc, 0, .warm⟩, ⟨16, 4, .ro, 4, .warm⟩]
  | .criDiagSel => -- Table 13-12
    [⟨0, 10, .rw, 0, .warm⟩, ⟨16, 4, .rw, 0, .warm⟩]
  | .criDiag => -- Table 13-13
    [⟨0, 4, .ro, 0, .warm⟩, ⟨4, 4, .ro, 0, .warm⟩, ⟨8, 4, .ro, 0, .warm⟩, ⟨12, 4, .ro, 0, .warm⟩,
     ⟨16, 4, .ro, 0, .warm⟩, ⟨20, 1, .ro, 0, .warm⟩, ⟨21, 1, .ro, 0, .warm⟩, ⟨22, 1, .ro, 0, .warm⟩,
     ⟨23, 1, .ro, 0, .warm⟩, ⟨24, 8, .ro, 0, .warm⟩]
  | .dmaCfg => -- Table 7-15
    [⟨0, 3, .rw, 3, .warm⟩, ⟨3, 1, .ro, 0, .warm⟩, ⟨8, 8, .rw, 0x30, .warm⟩]
  | .prtProto => -- Table 2-14
    [⟨0, 4, .ro, 0, .warm⟩, ⟨4, 4, .ro, 0, .warm⟩, ⟨8, 4, .ro, 0, .warm⟩, ⟨12, 4, .ro, 0, .warm⟩,
     ⟨16, 4, .ro, 0, .warm⟩, ⟨20, 4, .ro, 0, .warm⟩, ⟨24, 1, .ro, 0, .warm⟩, ⟨25, 1, .ro, 0, .warm⟩]
  | .prtProtoCap => -- Table 2-15
    [⟨0, 4, .rw, 2, .warm⟩, ⟨4, 4, .rw, 3, .warm⟩]
  | .prtAttach => -- Table 8-17
    [⟨0, 1, .ro, 0, .warm⟩, ⟨1, 1, .ro, 0, .warm⟩, ⟨2, 3, .ro, 0, .warm⟩, ⟨8, 1, .ro, 0, .warm⟩,
     ⟨9, 1, .ro, 0, .warm⟩, ⟨10, 3, .ro, 0, .warm⟩, ⟨13, 1, .ro, 0, .warm⟩, ⟨14, 1, .ro, 0, .warm⟩,
     ⟨16, 1, .ro, 0, .warm⟩, ⟨17, 1, .ro, 0, .warm⟩]
  | .prtLaneCtrl => -- Table 9-7
    [⟨0, 1, .rw, 1, .warm⟩, ⟨1, 6, .rw, 0xa, .warm⟩, ⟨8, 4, .rw, 4, .warm⟩, ⟨12, 8, .rw, 0x40, .warm⟩]
  | .prtLaneStatus => -- Table 9-8
    [⟨0, 3, .ro, 0, .warm⟩, ⟨3, 1, .ro, 0, .warm⟩, ⟨4, 1, .ro, 0, .warm⟩, ⟨5, 1, .ro, 0, .warm⟩,
     ⟨6, 1, .ro, 0, .warm⟩, ⟨7, 1, .w1c, 0, .warm⟩, ⟨8, 3, .ro, 0, .warm⟩, ⟨11, 2, .ro, 0, .warm⟩]
  | .prtPeriodicRes => -- Table 4-15
    [⟨0, 16, .ro, 0, .warm⟩, ⟨16, 16, .ro, 0, .warm⟩]
  | .prtSofLate => -- Table 3-7
    [⟨0, 16, .rc, 0, .warm⟩]
  | .prtSlotLate => -- Table 4-16
    [⟨0, 16, .rc, 0, .warm⟩]
  | .prtStrikeStat => -- Table 5-10
    [⟨0, 16, .rc, 0, .warm⟩, ⟨16, 16, .rc, 0, .warm⟩]
  | .prtHpCount => -- Table 8-18
    [⟨0, 8, .rc, 0, .warm⟩, ⟨8, 8, .rc, 0, .warm⟩, ⟨16, 8, .rc, 0, .warm⟩, ⟨24, 8, .rc, 0, .warm⟩]
  | .prtLaneErr => -- Table 9-9
    [⟨0, 16, .rc, 0, .warm⟩, ⟨16, 8, .rc, 0, .warm⟩, ⟨24, 8, .rc, 0, .warm⟩]
  | .prtLinkErr => -- Table 9-10
    [⟨0, 16, .rc, 0, .warm⟩, ⟨16, 8, .rc, 0, .warm⟩, ⟨24, 8, .rc, 0, .warm⟩]
  | .prtRide => -- Table 9-11
    [⟨0, 16, .rc, 0, .warm⟩, ⟨16, 8, .rc, 0, .warm⟩, ⟨24, 8, .rc, 0, .warm⟩]
  | .prtMarginCtrl => -- Table 9-12
    [⟨0, 1, .wo, 0, .warm⟩, ⟨1, 1, .rw, 0, .warm⟩, ⟨2, 4, .rw, 6, .warm⟩]
  | .prtMarginStat => -- Table 9-13
    [⟨0, 5, .ro, 0, .warm⟩, ⟨5, 5, .ro, 0, .warm⟩, ⟨10, 5, .ro, 0, .warm⟩, ⟨15, 5, .ro, 0, .warm⟩,
     ⟨20, 1, .ro, 0, .warm⟩, ⟨21, 1, .ro, 0, .warm⟩, ⟨22, 1, .ro, 0, .warm⟩, ⟨23, 1, .ro, 0, .warm⟩]
  | .prtTestCtrl => -- Table 9-14
    [⟨0, 3, .rw, 0, .warm⟩, ⟨3, 1, .rw, 0, .warm⟩, ⟨4, 3, .rw, 0, .warm⟩, ⟨7, 1, .rw, 0, .warm⟩,
     ⟨8, 1, .rw, 0, .warm⟩, ⟨9, 1, .wo, 0, .warm⟩, ⟨10, 4, .rw, 0, .warm⟩, ⟨14, 1, .rw, 0, .warm⟩,
     ⟨15, 1, .w1c, 0, .warm⟩]
  | .prtTestStat => -- Table 9-15
    [⟨0, 1, .ro, 0, .warm⟩, ⟨1, 1, .w1c, 0, .warm⟩]
  | .prtTestUser0 => -- Table 9-6
    [⟨0, 32, .rw, 0, .warm⟩]
  | .prtTestUser1 => -- Table 9-6
    [⟨0, 32, .rw, 0, .warm⟩]
  | .prtTestBitsLo => -- Table 9-6
    [⟨0, 32, .ro, 0, .warm⟩]
  | .prtTestBitsHi => -- Table 9-6
    [⟨0, 32, .ro, 0, .warm⟩]
  | .prtTestErrs => -- Table 9-6
    [⟨0, 32, .ro, 0, .warm⟩]
  | .twnStatus => -- Table 16-8
    [⟨0, 2, .ro, 0, .warm⟩, ⟨2, 2, .ro, 0, .never⟩, ⟨4, 2, .ro, 0, .warm⟩, ⟨6, 1, .ro, 0, .warm⟩,
     ⟨7, 1, .ro, 0, .warm⟩, ⟨8, 1, .ro, 0, .warm⟩, ⟨9, 4, .ro, 0, .warm⟩, ⟨16, 8, .ro, 0, .warm⟩,
     ⟨24, 1, .ro, 0, .warm⟩]
  | .twnCount => -- Table 16-9
    [⟨0, 8, .rc, 0, .cold⟩, ⟨8, 8, .rc, 0, .warm⟩, ⟨16, 8, .rc, 0, .warm⟩, ⟨24, 8, .rc, 0, .warm⟩]
  | .twnTime => -- Table 16-10
    [⟨0, 16, .ro, 0, .warm⟩, ⟨16, 16, .ro, 0, .warm⟩]
  | .qpSqDb => -- Table 6-11
    [⟨0, 16, .ro, 0, .fn⟩, ⟨16, 16, .ro, 0, .fn⟩]
  | .qpCqDb => -- Table 6-13
    [⟨0, 16, .ro, 0, .fn⟩, ⟨16, 16, .ro, 0, .fn⟩]

/-- A named field: the register, the lowest bit and the width. -/
structure Fld where
  reg : Reg
  lo : Nat
  len : Nat
  deriving DecidableEq, Repr

/-- GBL_CHIP_ID.PART (Table 1-6). -/
abbrev Fld.gblChipIdPart : Fld := ⟨.gblChipId, 0, 16⟩
/-- GBL_CHIP_ID.STEP_MAJOR (Table 1-6). -/
abbrev Fld.gblChipIdStepMajor : Fld := ⟨.gblChipId, 16, 4⟩
/-- GBL_CHIP_ID.STEP_MINOR (Table 1-6). -/
abbrev Fld.gblChipIdStepMinor : Fld := ⟨.gblChipId, 20, 4⟩
/-- GBL_CHIP_ID.FAMILY (Table 1-6). -/
abbrev Fld.gblChipIdFamily : Fld := ⟨.gblChipId, 24, 8⟩
/-- GBL_BUS_FAULT.ACCESS (Table 1-7). -/
abbrev Fld.gblBusFaultAccess : Fld := ⟨.gblBusFault, 0, 1⟩
/-- GBL_BUS_FAULT.ENCODING (Table 1-7). -/
abbrev Fld.gblBusFaultEncoding : Fld := ⟨.gblBusFault, 1, 1⟩
/-- GBL_BUS_FAULT.DOMAIN_OFF (Table 1-7). -/
abbrev Fld.gblBusFaultDomainOff : Fld := ⟨.gblBusFault, 2, 1⟩
/-- GBL_BUS_FAULT.MULTIPLE (Table 1-7). -/
abbrev Fld.gblBusFaultMultiple : Fld := ⟨.gblBusFault, 3, 1⟩
/-- GBL_BUS_FAULT.FIRST_OFFSET (Table 1-7). -/
abbrev Fld.gblBusFaultFirstOffset : Fld := ⟨.gblBusFault, 8, 24⟩
/-- GBL_RESET_CAUSE.KIND (Table 15-6). -/
abbrev Fld.gblResetCauseKind : Fld := ⟨.gblResetCause, 0, 4⟩
/-- GBL_RESET_CAUSE.ENGINE (Table 15-6). -/
abbrev Fld.gblResetCauseEngine : Fld := ⟨.gblResetCause, 4, 4⟩
/-- GBL_RESET_CAUSE.LEDGER_KEPT (Table 15-6). -/
abbrev Fld.gblResetCauseLedgerKept : Fld := ⟨.gblResetCause, 8, 1⟩
/-- GBL_RESET_CAUSE.SHADOW_KEPT (Table 15-6). -/
abbrev Fld.gblResetCauseShadowKept : Fld := ⟨.gblResetCause, 9, 1⟩
/-- GBL_RESET_CAUSE.TIME_KEPT (Table 15-6). -/
abbrev Fld.gblResetCauseTimeKept : Fld := ⟨.gblResetCause, 10, 1⟩
/-- GBL_RESET_CAUSE.STATE_KEPT (Table 15-6). -/
abbrev Fld.gblResetCauseStateKept : Fld := ⟨.gblResetCause, 11, 1⟩
/-- GBL_RESET_CAUSE.WARM_COUNT (Table 15-6). -/
abbrev Fld.gblResetCauseWarmCount : Fld := ⟨.gblResetCause, 16, 16⟩
/-- GBL_BOOT_STATUS.STAGE (Table 15-7). -/
abbrev Fld.gblBootStatusStage : Fld := ⟨.gblBootStatus, 0, 3⟩
/-- GBL_BOOT_STATUS.READY (Table 15-7). -/
abbrev Fld.gblBootStatusReady : Fld := ⟨.gblBootStatus, 3, 1⟩
/-- GBL_BOOT_STATUS.NO_CONFIG (Table 15-7). -/
abbrev Fld.gblBootStatusNoConfig : Fld := ⟨.gblBootStatus, 4, 1⟩
/-- GBL_BOOT_STATUS.FW_SLOT (Table 15-7). -/
abbrev Fld.gblBootStatusFwSlot : Fld := ⟨.gblBootStatus, 5, 1⟩
/-- GBL_BOOT_STATUS.FW_FALLBACK (Table 15-7). -/
abbrev Fld.gblBootStatusFwFallback : Fld := ⟨.gblBootStatus, 6, 1⟩
/-- GBL_BOOT_STATUS.CFG_FALLBACK (Table 15-7). -/
abbrev Fld.gblBootStatusCfgFallback : Fld := ⟨.gblBootStatus, 7, 1⟩
/-- GBL_BOOT_STATUS.ROLLED_BACK (Table 15-7). -/
abbrev Fld.gblBootStatusRolledBack : Fld := ⟨.gblBootStatus, 8, 1⟩
/-- GBL_BOOT_STATUS.RET_FAULT (Table 15-7). -/
abbrev Fld.gblBootStatusRetFault : Fld := ⟨.gblBootStatus, 9, 1⟩
/-- GBL_BOOT_STATUS.BRINGUP_MS (Table 15-7). -/
abbrev Fld.gblBootStatusBringupMs : Fld := ⟨.gblBootStatus, 16, 16⟩
/-- GBL_BUS_TIME_LO.TIME (Table 3-7). -/
abbrev Fld.gblBusTimeLoTime : Fld := ⟨.gblBusTimeLo, 0, 32⟩
/-- GBL_BUS_TIME_HI.TIME (Table 3-7). -/
abbrev Fld.gblBusTimeHiTime : Fld := ⟨.gblBusTimeHi, 0, 32⟩
/-- GBL_FRAME_NUM.FRAME (Table 3-7). -/
abbrev Fld.gblFrameNumFrame : Fld := ⟨.gblFrameNum, 0, 32⟩
/-- GBL_TIME_EPOCH.EPOCH (Table 3-7). -/
abbrev Fld.gblTimeEpochEpoch : Fld := ⟨.gblTimeEpoch, 0, 32⟩
/-- GBL_TIME_STATUS.LAST_CAUSE (Table 3-8). -/
abbrev Fld.gblTimeStatusLastCause : Fld := ⟨.gblTimeStatus, 0, 3⟩
/-- GBL_TIME_STATUS.DISC_PENDING (Table 3-8). -/
abbrev Fld.gblTimeStatusDiscPending : Fld := ⟨.gblTimeStatus, 3, 1⟩
/-- GBL_TIME_STATUS.EPOCH_UNSAVED (Table 3-8). -/
abbrev Fld.gblTimeStatusEpochUnsaved : Fld := ⟨.gblTimeStatus, 4, 1⟩
/-- GBL_TIME_STATUS.UNCERT (Table 3-8). -/
abbrev Fld.gblTimeStatusUncert : Fld := ⟨.gblTimeStatus, 8, 24⟩
/-- GBL_CFG_GEN.ACTIVE_GEN (Table 11-11). -/
abbrev Fld.gblCfgGenActiveGen : Fld := ⟨.gblCfgGen, 0, 32⟩
/-- GBL_ALM_STATUS.PENDING (Table 4-11). -/
abbrev Fld.gblAlmStatusPending : Fld := ⟨.gblAlmStatus, 0, 1⟩
/-- GBL_ALM_STATUS.COMPILING (Table 4-11). -/
abbrev Fld.gblAlmStatusCompiling : Fld := ⟨.gblAlmStatus, 1, 1⟩
/-- GBL_ALM_STATUS.GEN (Table 4-11). -/
abbrev Fld.gblAlmStatusGen : Fld := ⟨.gblAlmStatus, 8, 24⟩
/-- GBL_ALM_SWITCH.FRAME (Table 4-12). -/
abbrev Fld.gblAlmSwitchFrame : Fld := ⟨.gblAlmSwitch, 0, 32⟩
/-- GBL_WEIR_CTRL.MODE (Table 4-13). -/
abbrev Fld.gblWeirCtrlMode : Fld := ⟨.gblWeirCtrl, 0, 1⟩
/-- TEN_CMD_BASE_LO.ADDR (Table 10-15). -/
abbrev Fld.tenCmdBaseLoAddr : Fld := ⟨.tenCmdBaseLo, 0, 32⟩
/-- TEN_CMD_BASE_HI.ADDR (Table 10-15). -/
abbrev Fld.tenCmdBaseHiAddr : Fld := ⟨.tenCmdBaseHi, 0, 32⟩
/-- TEN_RPL_BASE_LO.ADDR (Table 10-15). -/
abbrev Fld.tenRplBaseLoAddr : Fld := ⟨.tenRplBaseLo, 0, 32⟩
/-- TEN_RPL_BASE_HI.ADDR (Table 10-15). -/
abbrev Fld.tenRplBaseHiAddr : Fld := ⟨.tenRplBaseHi, 0, 32⟩
/-- TEN_RPL_HEAD_LO.ADDR (Table 10-15). -/
abbrev Fld.tenRplHeadLoAddr : Fld := ⟨.tenRplHeadLo, 0, 32⟩
/-- TEN_RPL_HEAD_HI.ADDR (Table 10-15). -/
abbrev Fld.tenRplHeadHiAddr : Fld := ⟨.tenRplHeadHi, 0, 32⟩
/-- TEN_CMD_CTRL.ENABLE (Table 10-16). -/
abbrev Fld.tenCmdCtrlEnable : Fld := ⟨.tenCmdCtrl, 0, 1⟩
/-- TEN_CMD_CTRL.RING_RESET (Table 10-16). -/
abbrev Fld.tenCmdCtrlRingReset : Fld := ⟨.tenCmdCtrl, 1, 1⟩
/-- TEN_CMD_CTRL.CMD_SIZE (Table 10-16). -/
abbrev Fld.tenCmdCtrlCmdSize : Fld := ⟨.tenCmdCtrl, 8, 4⟩
/-- TEN_CMD_CTRL.RPL_SIZE (Table 10-16). -/
abbrev Fld.tenCmdCtrlRplSize : Fld := ⟨.tenCmdCtrl, 12, 4⟩
/-- TEN_CMD_CTRL.VECTOR (Table 10-16). -/
abbrev Fld.tenCmdCtrlVector : Fld := ⟨.tenCmdCtrl, 16, 6⟩
/-- TEN_CMD_STATUS.RING_IDLE (Table 10-17). -/
abbrev Fld.tenCmdStatusRingIdle : Fld := ⟨.tenCmdStatus, 0, 1⟩
/-- TEN_CMD_STATUS.DB_FAULT (Table 10-17). -/
abbrev Fld.tenCmdStatusDbFault : Fld := ⟨.tenCmdStatus, 1, 1⟩
/-- TEN_CMD_STATUS.SESSION_OPEN (Table 10-17). -/
abbrev Fld.tenCmdStatusSessionOpen : Fld := ⟨.tenCmdStatus, 2, 1⟩
/-- TEN_CMD_STATUS.FAULTED (Table 10-17). -/
abbrev Fld.tenCmdStatusFaulted : Fld := ⟨.tenCmdStatus, 3, 1⟩
/-- TEN_CMD_STATUS.SESSION (Table 10-17). -/
abbrev Fld.tenCmdStatusSession : Fld := ⟨.tenCmdStatus, 16, 16⟩
/-- TEN_CMD_DB.PROD (Table 10-18). -/
abbrev Fld.tenCmdDbProd : Fld := ⟨.tenCmdDb, 0, 16⟩
/-- TEN_CMD_DB.CONS (Table 10-18). -/
abbrev Fld.tenCmdDbCons : Fld := ⟨.tenCmdDb, 16, 16⟩
/-- TEN_RPL_DB.INDEX (Table 10-19). -/
abbrev Fld.tenRplDbIndex : Fld := ⟨.tenRplDb, 0, 16⟩
/-- TEN_RPL_DB.EPOCH (Table 10-19). -/
abbrev Fld.tenRplDbEpoch : Fld := ⟨.tenRplDb, 16, 16⟩
/-- LED_LAST_LO.LSEQ (Table 10-15). -/
abbrev Fld.ledLastLoLseq : Fld := ⟨.ledLastLo, 0, 32⟩
/-- LED_LAST_HI.LSEQ (Table 10-15). -/
abbrev Fld.ledLastHiLseq : Fld := ⟨.ledLastHi, 0, 32⟩
/-- TEN_QP_SEL.QP (Table 6-14). -/
abbrev Fld.tenQpSelQp : Fld := ⟨.tenQpSel, 0, 12⟩
/-- TEN_QP_STATUS.STATE (Table 6-15). -/
abbrev Fld.tenQpStatusState : Fld := ⟨.tenQpStatus, 0, 3⟩
/-- TEN_QP_STATUS.IDLE (Table 6-15). -/
abbrev Fld.tenQpStatusIdle : Fld := ⟨.tenQpStatus, 3, 1⟩
/-- TEN_QP_STATUS.BACKPRESSURE (Table 6-15). -/
abbrev Fld.tenQpStatusBackpressure : Fld := ⟨.tenQpStatus, 4, 1⟩
/-- TEN_QP_STATUS.HELD (Table 6-15). -/
abbrev Fld.tenQpStatusHeld : Fld := ⟨.tenQpStatus, 5, 1⟩
/-- TEN_QP_STATUS.HALT_CAUSE (Table 6-15). -/
abbrev Fld.tenQpStatusHaltCause : Fld := ⟨.tenQpStatus, 6, 2⟩
/-- TEN_QP_STATUS.DB_FAULT (Table 6-15). -/
abbrev Fld.tenQpStatusDbFault : Fld := ⟨.tenQpStatus, 8, 1⟩
/-- TEN_QP_STATUS.OWNED (Table 6-15). -/
abbrev Fld.tenQpStatusOwned : Fld := ⟨.tenQpStatus, 9, 1⟩
/-- TEN_QP_STATUS.FAULT_KIND (Table 6-15). -/
abbrev Fld.tenQpStatusFaultKind : Fld := ⟨.tenQpStatus, 10, 2⟩
/-- TEN_QP_STATUS.HELD_COMPL (Table 6-15). -/
abbrev Fld.tenQpStatusHeldCompl : Fld := ⟨.tenQpStatus, 16, 7⟩
/-- TEN_QP_STATUS.BOUND (Table 6-15). -/
abbrev Fld.tenQpStatusBound : Fld := ⟨.tenQpStatus, 23, 1⟩
/-- TEN_QP_STATUS.HOME_QUAD (Table 6-15). -/
abbrev Fld.tenQpStatusHomeQuad : Fld := ⟨.tenQpStatus, 24, 2⟩
/-- TEN_QP_COUNT.MISSED_BACKPRESSURE (Table 6-16). -/
abbrev Fld.tenQpCountMissedBackpressure : Fld := ⟨.tenQpCount, 0, 16⟩
/-- TEN_QP_COUNT.LATE_DATA (Table 6-16). -/
abbrev Fld.tenQpCountLateData : Fld := ⟨.tenQpCount, 16, 8⟩
/-- TEN_QP_COUNT.STANDING_DROPS (Table 6-16). -/
abbrev Fld.tenQpCountStandingDrops : Fld := ⟨.tenQpCount, 24, 8⟩
/-- CRI_CAUSE.LOW (Table 13-7). -/
abbrev Fld.criCauseLow : Fld := ⟨.criCause, 0, 9⟩
/-- CRI_CAUSE.QP (Table 13-7). -/
abbrev Fld.criCauseQp : Fld := ⟨.criCause, 9, 1⟩
/-- CRI_CAUSE.HIGH (Table 13-7). -/
abbrev Fld.criCauseHigh : Fld := ⟨.criCause, 10, 7⟩
/-- CRI_CAUSE_EN.EN (Table 13-7). -/
abbrev Fld.criCauseEnEn : Fld := ⟨.criCauseEn, 0, 17⟩
/-- CRI_EVT_CTRL.VECTOR (Table 13-8). -/
abbrev Fld.criEvtCtrlVector : Fld := ⟨.criEvtCtrl, 0, 6⟩
/-- CRI_QP_PEND.QP (Table 13-9). -/
abbrev Fld.criQpPendQp : Fld := ⟨.criQpPend, 0, 12⟩
/-- CRI_QP_PEND.VALID (Table 13-9). -/
abbrev Fld.criQpPendValid : Fld := ⟨.criQpPend, 31, 1⟩
/-- CRI_QP_CAUSE.QERR (Table 13-10). -/
abbrev Fld.criQpCauseQerr : Fld := ⟨.criQpCause, 0, 1⟩
/-- CRI_QP_CAUSE.HALT (Table 13-10). -/
abbrev Fld.criQpCauseHalt : Fld := ⟨.criQpCause, 1, 1⟩
/-- CRI_QP_CAUSE.BACKPRESSURE (Table 13-10). -/
abbrev Fld.criQpCauseBackpressure : Fld := ⟨.criQpCause, 2, 1⟩
/-- CRI_QP_CAUSE.STANDING (Table 13-10). -/
abbrev Fld.criQpCauseStanding : Fld := ⟨.criQpCause, 3, 1⟩
/-- CRI_QP_MOD.COUNT (Table 13-11). -/
abbrev Fld.criQpModCount : Fld := ⟨.criQpMod, 0, 8⟩
/-- CRI_QP_MOD.USEC (Table 13-11). -/
abbrev Fld.criQpModUsec : Fld := ⟨.criQpMod, 8, 10⟩
/-- TEN_WEIR_QUOTA.QUANTUM (Table 4-14). -/
abbrev Fld.tenWeirQuotaQuantum : Fld := ⟨.tenWeirQuota, 0, 16⟩
/-- TEN_CIS_SHARE.UNITS (Table 7-16). -/
abbrev Fld.tenCisShareUnits : Fld := ⟨.tenCisShare, 0, 12⟩
/-- TEN_CIS_SHARE.POOL_MODE (Table 7-16). -/
abbrev Fld.tenCisSharePoolMode : Fld := ⟨.tenCisShare, 12, 1⟩
/-- TEN_CIS_SHARE.SCRUBBING (Table 7-16). -/
abbrev Fld.tenCisShareScrubbing : Fld := ⟨.tenCisShare, 13, 1⟩
/-- TEN_PWR_VOTE.VOTES (Table 14-17). -/
abbrev Fld.tenPwrVoteVotes : Fld := ⟨.tenPwrVote, 0, 11⟩
/-- TEN_PWR_VOTE.ALLOWED (Table 14-17). -/
abbrev Fld.tenPwrVoteAllowed : Fld := ⟨.tenPwrVote, 16, 11⟩
/-- TEN_WIN_SEL.WINDOW (Table 12-7). -/
abbrev Fld.tenWinSelWindow : Fld := ⟨.tenWinSel, 0, 4⟩
/-- TEN_WIN_ATTR.EN (Table 12-9). -/
abbrev Fld.tenWinAttrEn : Fld := ⟨.tenWinAttr, 0, 1⟩
/-- TEN_WIN_ATTR.READ (Table 12-9). -/
abbrev Fld.tenWinAttrRead : Fld := ⟨.tenWinAttr, 1, 1⟩
/-- TEN_WIN_ATTR.WRITE (Table 12-9). -/
abbrev Fld.tenWinAttrWrite : Fld := ⟨.tenWinAttr, 2, 1⟩
/-- TEN_WIN_BASE_LO.ADDR (Table 12-7). -/
abbrev Fld.tenWinBaseLoAddr : Fld := ⟨.tenWinBaseLo, 12, 20⟩
/-- TEN_WIN_BASE_HI.ADDR (Table 12-7). -/
abbrev Fld.tenWinBaseHiAddr : Fld := ⟨.tenWinBaseHi, 0, 32⟩
/-- TEN_WIN_LIMIT_LO.ADDR (Table 12-7). -/
abbrev Fld.tenWinLimitLoAddr : Fld := ⟨.tenWinLimitLo, 12, 20⟩
/-- TEN_WIN_LIMIT_HI.ADDR (Table 12-7). -/
abbrev Fld.tenWinLimitHiAddr : Fld := ⟨.tenWinLimitHi, 0, 32⟩
/-- TEN_ISO_FAULT.WINDOW (Table 12-11). -/
abbrev Fld.tenIsoFaultWindow : Fld := ⟨.tenIsoFault, 0, 1⟩
/-- TEN_ISO_FAULT.FOREIGN (Table 12-11). -/
abbrev Fld.tenIsoFaultForeign : Fld := ⟨.tenIsoFault, 1, 1⟩
/-- TEN_ISO_FAULT.REFUSED (Table 12-11). -/
abbrev Fld.tenIsoFaultRefused : Fld := ⟨.tenIsoFault, 16, 16⟩
/-- TEN_ISO_ADDR_LO.ADDR (Table 12-7). -/
abbrev Fld.tenIsoAddrLoAddr : Fld := ⟨.tenIsoAddrLo, 0, 32⟩
/-- TEN_ISO_ADDR_HI.ADDR (Table 12-7). -/
abbrev Fld.tenIsoAddrHiAddr : Fld := ⟨.tenIsoAddrHi, 0, 32⟩
/-- DMA_SEL.CHANNEL (Table 7-10). -/
abbrev Fld.dmaSelChannel : Fld := ⟨.dmaSel, 0, 6⟩
/-- DMA_SEL.SLOT (Table 7-10). -/
abbrev Fld.dmaSelSlot : Fld := ⟨.dmaSel, 8, 4⟩
/-- DMA_CH_CTRL.PAUSE (Table 7-11). -/
abbrev Fld.dmaChCtrlPause : Fld := ⟨.dmaChCtrl, 0, 1⟩
/-- DMA_CH_CTRL.CLEAR (Table 7-11). -/
abbrev Fld.dmaChCtrlClear : Fld := ⟨.dmaChCtrl, 1, 1⟩
/-- DMA_CH_CTRL.LOAD (Table 7-11). -/
abbrev Fld.dmaChCtrlLoad : Fld := ⟨.dmaChCtrl, 2, 1⟩
/-- DMA_CH_CTRL.UNLOAD (Table 7-11). -/
abbrev Fld.dmaChCtrlUnload : Fld := ⟨.dmaChCtrl, 3, 1⟩
/-- DMA_CH_STATUS.STATE (Table 7-12). -/
abbrev Fld.dmaChStatusState : Fld := ⟨.dmaChStatus, 0, 3⟩
/-- DMA_CH_STATUS.OWNED (Table 7-12). -/
abbrev Fld.dmaChStatusOwned : Fld := ⟨.dmaChStatus, 3, 1⟩
/-- DMA_CH_STATUS.ERR_AFTER_COUNT (Table 7-12). -/
abbrev Fld.dmaChStatusErrAfterCount : Fld := ⟨.dmaChStatus, 4, 1⟩
/-- DMA_CH_STATUS.ERR_WRITE (Table 7-12). -/
abbrev Fld.dmaChStatusErrWrite : Fld := ⟨.dmaChStatus, 5, 1⟩
/-- DMA_CH_STATUS.ERR_KIND (Table 7-12). -/
abbrev Fld.dmaChStatusErrKind : Fld := ⟨.dmaChStatus, 6, 3⟩
/-- DMA_CH_STATUS.RETRIES (Table 7-12). -/
abbrev Fld.dmaChStatusRetries : Fld := ⟨.dmaChStatus, 9, 3⟩
/-- DMA_CH_STATUS.LOAD_REFUSED (Table 7-12). -/
abbrev Fld.dmaChStatusLoadRefused : Fld := ⟨.dmaChStatus, 12, 1⟩
/-- DMA_CH_STATUS.LOADED (Table 7-12). -/
abbrev Fld.dmaChStatusLoaded : Fld := ⟨.dmaChStatus, 16, 16⟩
/-- DMA_PRG_POS.I0 (Table 7-13). -/
abbrev Fld.dmaPrgPosI0 : Fld := ⟨.dmaPrgPos, 0, 16⟩
/-- DMA_PRG_POS.I1 (Table 7-13). -/
abbrev Fld.dmaPrgPosI1 : Fld := ⟨.dmaPrgPos, 16, 16⟩
/-- DMA_CH_ERR_LO.ADDR (Table 7-9). -/
abbrev Fld.dmaChErrLoAddr : Fld := ⟨.dmaChErrLo, 0, 32⟩
/-- DMA_CH_ERR_HI.ADDR (Table 7-9). -/
abbrev Fld.dmaChErrHiAddr : Fld := ⟨.dmaChErrHi, 0, 32⟩
/-- DMA_PRG_LOAD_LO.ADDR (Table 7-9). -/
abbrev Fld.dmaPrgLoadLoAddr : Fld := ⟨.dmaPrgLoadLo, 0, 32⟩
/-- DMA_PRG_LOAD_HI.ADDR (Table 7-9). -/
abbrev Fld.dmaPrgLoadHiAddr : Fld := ⟨.dmaPrgLoadHi, 0, 32⟩
/-- DMA_PRG_ADDR_LO.ADDR (Table 7-9). -/
abbrev Fld.dmaPrgAddrLoAddr : Fld := ⟨.dmaPrgAddrLo, 0, 32⟩
/-- DMA_PRG_ADDR_HI.ADDR (Table 7-9). -/
abbrev Fld.dmaPrgAddrHiAddr : Fld := ⟨.dmaPrgAddrHi, 0, 32⟩
/-- DMA_PRG_POS2.I2 (Table 7-13). -/
abbrev Fld.dmaPrgPos2I2 : Fld := ⟨.dmaPrgPos2, 0, 16⟩
/-- DMA_PRG_POS2.ENDED (Table 7-13). -/
abbrev Fld.dmaPrgPos2Ended : Fld := ⟨.dmaPrgPos2, 16, 1⟩
/-- DMA_PRG_POS2.QP (Table 7-13). -/
abbrev Fld.dmaPrgPos2Qp : Fld := ⟨.dmaPrgPos2, 17, 12⟩
/-- DMA_PRG_XFER.XFER (Table 7-9). -/
abbrev Fld.dmaPrgXferXfer : Fld := ⟨.dmaPrgXfer, 0, 24⟩
/-- DMA_FN_ERR_LO.ADDR (Table 7-9). -/
abbrev Fld.dmaFnErrLoAddr : Fld := ⟨.dmaFnErrLo, 0, 32⟩
/-- DMA_FN_ERR_HI.ADDR (Table 7-9). -/
abbrev Fld.dmaFnErrHiAddr : Fld := ⟨.dmaFnErrHi, 0, 32⟩
/-- DMA_FN_ERR_INFO.VALID (Table 7-14). -/
abbrev Fld.dmaFnErrInfoValid : Fld := ⟨.dmaFnErrInfo, 0, 1⟩
/-- DMA_FN_ERR_INFO.WRITE (Table 7-14). -/
abbrev Fld.dmaFnErrInfoWrite : Fld := ⟨.dmaFnErrInfo, 1, 1⟩
/-- DMA_FN_ERR_INFO.KIND (Table 7-14). -/
abbrev Fld.dmaFnErrInfoKind : Fld := ⟨.dmaFnErrInfo, 2, 3⟩
/-- DMA_FN_ERR_INFO.WHAT (Table 7-14). -/
abbrev Fld.dmaFnErrInfoWhat : Fld := ⟨.dmaFnErrInfo, 5, 2⟩
/-- SEC_STATUS.LIFECYCLE (Table 17-12). -/
abbrev Fld.secStatusLifecycle : Fld := ⟨.secStatus, 0, 2⟩
/-- SEC_STATUS.DEBUG_LOCK (Table 17-12). -/
abbrev Fld.secStatusDebugLock : Fld := ⟨.secStatus, 2, 1⟩
/-- SEC_STATUS.LOCKDOWN (Table 17-12). -/
abbrev Fld.secStatusLockdown : Fld := ⟨.secStatus, 3, 1⟩
/-- SEC_STATUS.DEBUG_COUNT (Table 17-12). -/
abbrev Fld.secStatusDebugCount : Fld := ⟨.secStatus, 4, 8⟩
/-- SEC_STATUS.FW_KEY_REVOKED (Table 17-12). -/
abbrev Fld.secStatusFwKeyRevoked : Fld := ⟨.secStatus, 12, 4⟩
/-- SEC_STATUS.CFG_KEY_VALID (Table 17-12). -/
abbrev Fld.secStatusCfgKeyValid : Fld := ⟨.secStatus, 16, 8⟩
/-- SEC_STATUS.FW_SVN_MIN (Table 17-12). -/
abbrev Fld.secStatusFwSvnMin : Fld := ⟨.secStatus, 24, 7⟩
/-- SEC_CERT_SEL.WORD (Table 17-11). -/
abbrev Fld.secCertSelWord : Fld := ⟨.secCertSel, 0, 6⟩
/-- SEC_CERT_DATA.DATA (Table 17-11). -/
abbrev Fld.secCertDataData : Fld := ⟨.secCertData, 0, 32⟩
/-- SEC_KEY_STATUS.LOADED (Table 17-13). -/
abbrev Fld.secKeyStatusLoaded : Fld := ⟨.secKeyStatus, 0, 1⟩
/-- SEC_KEY_STATUS.ALLOWED (Table 17-13). -/
abbrev Fld.secKeyStatusAllowed : Fld := ⟨.secKeyStatus, 1, 1⟩
/-- SEC_KEY_STATUS.AUTH_FAILS (Table 17-13). -/
abbrev Fld.secKeyStatusAuthFails : Fld := ⟨.secKeyStatus, 16, 8⟩
/-- SEC_KEY_LABEL.LABEL (Table 17-11). -/
abbrev Fld.secKeyLabelLabel : Fld := ⟨.secKeyLabel, 0, 32⟩
/-- GBL_TIME_CTRL.REMEASURE_S (Table 3-9). -/
abbrev Fld.gblTimeCtrlRemeasureS : Fld := ⟨.gblTimeCtrl, 0, 8⟩
/-- GBL_TIME_CTRL.RTC_PPM (Table 3-9). -/
abbrev Fld.gblTimeCtrlRtcPpm : Fld := ⟨.gblTimeCtrl, 8, 8⟩
/-- GBL_SYNC_CTRL.OUT_MODE (Table 3-10). -/
abbrev Fld.gblSyncCtrlOutMode : Fld := ⟨.gblSyncCtrl, 0, 2⟩
/-- GBL_SYNC_CTRL.DIV (Table 3-10). -/
abbrev Fld.gblSyncCtrlDiv : Fld := ⟨.gblSyncCtrl, 2, 4⟩
/-- GBL_SYNC_CTRL.WIDTH (Table 3-10). -/
abbrev Fld.gblSyncCtrlWidth : Fld := ⟨.gblSyncCtrl, 6, 10⟩
/-- GBL_SYNC_CTRL.OFFSET (Table 3-10). -/
abbrev Fld.gblSyncCtrlOffset : Fld := ⟨.gblSyncCtrl, 16, 8⟩
/-- GBL_SYNC_CTRL.IN_MODE (Table 3-10). -/
abbrev Fld.gblSyncCtrlInMode : Fld := ⟨.gblSyncCtrl, 24, 2⟩
/-- GBL_SYNC_CAP_LO.TIME (Table 3-7). -/
abbrev Fld.gblSyncCapLoTime : Fld := ⟨.gblSyncCapLo, 0, 32⟩
/-- GBL_SYNC_CAP_HI.TIME (Table 3-7). -/
abbrev Fld.gblSyncCapHiTime : Fld := ⟨.gblSyncCapHi, 0, 32⟩
/-- GBL_SYNC_CAP_CNT.COUNT (Table 3-7). -/
abbrev Fld.gblSyncCapCntCount : Fld := ⟨.gblSyncCapCnt, 0, 32⟩
/-- GBL_STRIKE_CTRL.GUARD_BEATS (Table 5-9). -/
abbrev Fld.gblStrikeCtrlGuardBeats : Fld := ⟨.gblStrikeCtrl, 0, 3⟩
/-- GBL_CFG_STATE.PROBATION (Table 11-12). -/
abbrev Fld.gblCfgStateProbation : Fld := ⟨.gblCfgState, 0, 1⟩
/-- GBL_CFG_STATE.FW_TRIAL (Table 11-12). -/
abbrev Fld.gblCfgStateFwTrial : Fld := ⟨.gblCfgState, 1, 1⟩
/-- GBL_CFG_STATE.AMENDED (Table 11-12). -/
abbrev Fld.gblCfgStateAmended : Fld := ⟨.gblCfgState, 2, 1⟩
/-- GBL_CFG_STATE.STAGED_STATE (Table 11-12). -/
abbrev Fld.gblCfgStateStagedState : Fld := ⟨.gblCfgState, 3, 3⟩
/-- GBL_CFG_STATE.LEFT (Table 11-12). -/
abbrev Fld.gblCfgStateLeft : Fld := ⟨.gblCfgState, 8, 12⟩
/-- GBL_TREE_STATUS.DEVICES (Table 8-19). -/
abbrev Fld.gblTreeStatusDevices : Fld := ⟨.gblTreeStatus, 0, 12⟩
/-- GBL_TREE_STATUS.ENUM_BUSY (Table 8-19). -/
abbrev Fld.gblTreeStatusEnumBusy : Fld := ⟨.gblTreeStatus, 12, 4⟩
/-- GBL_TREE_STATUS.WAITING (Table 8-19). -/
abbrev Fld.gblTreeStatusWaiting : Fld := ⟨.gblTreeStatus, 16, 6⟩
/-- GBL_HP_CTRL.POLL_FRAMES (Table 8-20). -/
abbrev Fld.gblHpCtrlPollFrames : Fld := ⟨.gblHpCtrl, 0, 8⟩
/-- GBL_HP_CTRL.FLAP_LIMIT (Table 8-20). -/
abbrev Fld.gblHpCtrlFlapLimit : Fld := ⟨.gblHpCtrl, 8, 8⟩
/-- GBL_HP_CTRL.BABBLE_LIMIT (Table 8-20). -/
abbrev Fld.gblHpCtrlBabbleLimit : Fld := ⟨.gblHpCtrl, 16, 4⟩
/-- GBL_HP_CTRL.ADOPT_WAIT (Table 8-20). -/
abbrev Fld.gblHpCtrlAdoptWait : Fld := ⟨.gblHpCtrl, 20, 4⟩
/-- GBL_HP_CTRL.DOZE_IDLE (Table 8-20). -/
abbrev Fld.gblHpCtrlDozeIdle : Fld := ⟨.gblHpCtrl, 24, 8⟩
/-- GBL_CIS_ECC.CORRECTED (Table 7-17). -/
abbrev Fld.gblCisEccCorrected : Fld := ⟨.gblCisEcc, 0, 16⟩
/-- GBL_CIS_ECC.UNCORRECTED (Table 7-17). -/
abbrev Fld.gblCisEccUncorrected : Fld := ⟨.gblCisEcc, 16, 8⟩
/-- GBL_CIS_ECC.LAST_REGION (Table 7-17). -/
abbrev Fld.gblCisEccLastRegion : Fld := ⟨.gblCisEcc, 24, 3⟩
/-- GBL_CIS_ECC_ADDR.ADDR (Table 7-9). -/
abbrev Fld.gblCisEccAddrAddr : Fld := ⟨.gblCisEccAddr, 0, 24⟩
/-- GBL_CIS_SCRUB.PATROL_S (Table 7-18). -/
abbrev Fld.gblCisScrubPatrolS : Fld := ⟨.gblCisScrub, 0, 8⟩
/-- GBL_CIS_SCRUB.PATROL_EN (Table 7-18). -/
abbrev Fld.gblCisScrubPatrolEn : Fld := ⟨.gblCisScrub, 8, 1⟩
/-- GBL_TEN_SEL.TENANT (Table 12-8). -/
abbrev Fld.gblTenSelTenant : Fld := ⟨.gblTenSel, 0, 8⟩
/-- GBL_TEN_SEL.WINDOW (Table 12-8). -/
abbrev Fld.gblTenSelWindow : Fld := ⟨.gblTenSel, 8, 4⟩
/-- GBL_TEN_STATE.EXISTS (Table 12-10). -/
abbrev Fld.gblTenStateExists : Fld := ⟨.gblTenState, 0, 1⟩
/-- GBL_TEN_STATE.ENABLED (Table 12-10). -/
abbrev Fld.gblTenStateEnabled : Fld := ⟨.gblTenState, 1, 1⟩
/-- GBL_TEN_STATE.FLR_BUSY (Table 12-10). -/
abbrev Fld.gblTenStateFlrBusy : Fld := ⟨.gblTenState, 2, 1⟩
/-- GBL_TEN_STATE.SESSION_OPEN (Table 12-10). -/
abbrev Fld.gblTenStateSessionOpen : Fld := ⟨.gblTenState, 3, 1⟩
/-- GBL_TEN_STATE.CHANNELS (Table 12-10). -/
abbrev Fld.gblTenStateChannels : Fld := ⟨.gblTenState, 8, 7⟩
/-- GBL_TEN_STATE.QPS (Table 12-10). -/
abbrev Fld.gblTenStateQps : Fld := ⟨.gblTenState, 16, 13⟩
/-- GBL_WIN_BASE_LO.ADDR (Table 12-7). -/
abbrev Fld.gblWinBaseLoAddr : Fld := ⟨.gblWinBaseLo, 12, 20⟩
/-- GBL_WIN_BASE_HI.ADDR (Table 12-7). -/
abbrev Fld.gblWinBaseHiAddr : Fld := ⟨.gblWinBaseHi, 0, 32⟩
/-- GBL_WIN_LIMIT_LO.ADDR (Table 12-7). -/
abbrev Fld.gblWinLimitLoAddr : Fld := ⟨.gblWinLimitLo, 12, 20⟩
/-- GBL_WIN_LIMIT_HI.ADDR (Table 12-7). -/
abbrev Fld.gblWinLimitHiAddr : Fld := ⟨.gblWinLimitHi, 0, 32⟩
/-- GBL_WIN_ATTR.EN (Table 12-9). -/
abbrev Fld.gblWinAttrEn : Fld := ⟨.gblWinAttr, 0, 1⟩
/-- GBL_WIN_ATTR.READ (Table 12-9). -/
abbrev Fld.gblWinAttrRead : Fld := ⟨.gblWinAttr, 1, 1⟩
/-- GBL_WIN_ATTR.WRITE (Table 12-9). -/
abbrev Fld.gblWinAttrWrite : Fld := ⟨.gblWinAttr, 2, 1⟩
/-- GBL_GPIO_CFG.OE (Table 18-18). -/
abbrev Fld.gblGpioCfgOe : Fld := ⟨.gblGpioCfg, 0, 16⟩
/-- GBL_GPIO_CFG.OD (Table 18-18). -/
abbrev Fld.gblGpioCfgOd : Fld := ⟨.gblGpioCfg, 16, 16⟩
/-- GBL_GPIO_OUT.OUT (Table 18-19). -/
abbrev Fld.gblGpioOutOut : Fld := ⟨.gblGpioOut, 0, 16⟩
/-- GBL_GPIO_IN.IN (Table 18-20). -/
abbrev Fld.gblGpioInIn : Fld := ⟨.gblGpioIn, 0, 16⟩
/-- GBL_GPIO_EVT.EVT_EN (Table 18-21). -/
abbrev Fld.gblGpioEvtEvtEn : Fld := ⟨.gblGpioEvt, 0, 16⟩
/-- GBL_GPIO_EVT.CHANGED (Table 18-21). -/
abbrev Fld.gblGpioEvtChanged : Fld := ⟨.gblGpioEvt, 16, 16⟩
/-- MRC_CTRL.MODE (Table 3-11). -/
abbrev Fld.mrcCtrlMode : Fld := ⟨.mrcCtrl, 0, 2⟩
/-- MRC_CTRL.SOURCE (Table 3-11). -/
abbrev Fld.mrcCtrlSource : Fld := ⟨.mrcCtrl, 2, 3⟩
/-- MRC_CTRL.GAIN_CODE (Table 3-11). -/
abbrev Fld.mrcCtrlGainCode : Fld := ⟨.mrcCtrl, 5, 3⟩
/-- MRC_CTRL.FPR (Table 3-11). -/
abbrev Fld.mrcCtrlFpr : Fld := ⟨.mrcCtrl, 8, 12⟩
/-- MRC_CTRL.SLIP_THR (Table 3-11). -/
abbrev Fld.mrcCtrlSlipThr : Fld := ⟨.mrcCtrl, 20, 8⟩
/-- MRC_LEN_MIN.MIN (Table 3-12). -/
abbrev Fld.mrcLenMinMin : Fld := ⟨.mrcLenMin, 0, 20⟩
/-- MRC_LEN_MIN.SLEW (Table 3-12). -/
abbrev Fld.mrcLenMinSlew : Fld := ⟨.mrcLenMin, 20, 12⟩
/-- MRC_LEN_MAX.LEN (Table 3-7). -/
abbrev Fld.mrcLenMaxLen : Fld := ⟨.mrcLenMax, 0, 20⟩
/-- MRC_LEN_FIXED.LEN (Table 3-7). -/
abbrev Fld.mrcLenFixedLen : Fld := ⟨.mrcLenFixed, 0, 20⟩
/-- MRC_ANGLE_OFS.OFS (Table 3-7). -/
abbrev Fld.mrcAngleOfsOfs : Fld := ⟨.mrcAngleOfs, 0, 24⟩
/-- MRC_ENC_CFG.CPR (Table 3-13). -/
abbrev Fld.mrcEncCfgCpr : Fld := ⟨.mrcEncCfg, 0, 24⟩
/-- MRC_ENC_CFG.Z_EN (Table 3-13). -/
abbrev Fld.mrcEncCfgZEn : Fld := ⟨.mrcEncCfg, 24, 1⟩
/-- MRC_ENC_CFG.DIR_INV (Table 3-13). -/
abbrev Fld.mrcEncCfgDirInv : Fld := ⟨.mrcEncCfg, 25, 1⟩
/-- MRC_ENC_CFG.FILTER (Table 3-13). -/
abbrev Fld.mrcEncCfgFilter : Fld := ⟨.mrcEncCfg, 26, 4⟩
/-- MRC_STATUS.LOCKED (Table 3-14). -/
abbrev Fld.mrcStatusLocked : Fld := ⟨.mrcStatus, 0, 1⟩
/-- MRC_STATUS.SATURATED (Table 3-14). -/
abbrev Fld.mrcStatusSaturated : Fld := ⟨.mrcStatus, 1, 1⟩
/-- MRC_STATUS.DIR (Table 3-14). -/
abbrev Fld.mrcStatusDir : Fld := ⟨.mrcStatus, 2, 1⟩
/-- MRC_STATUS.Z_SEEN (Table 3-14). -/
abbrev Fld.mrcStatusZSeen : Fld := ⟨.mrcStatus, 3, 1⟩
/-- MRC_STATUS.SLIP (Table 3-14). -/
abbrev Fld.mrcStatusSlip : Fld := ⟨.mrcStatus, 4, 1⟩
/-- MRC_STATUS.REVERSED (Table 3-14). -/
abbrev Fld.mrcStatusReversed : Fld := ⟨.mrcStatus, 5, 1⟩
/-- MRC_STATUS.SRC_LOST (Table 3-14). -/
abbrev Fld.mrcStatusSrcLost : Fld := ⟨.mrcStatus, 6, 1⟩
/-- MRC_STATUS.SRC_FAULT (Table 3-14). -/
abbrev Fld.mrcStatusSrcFault : Fld := ⟨.mrcStatus, 7, 1⟩
/-- MRC_STATUS.REFUSED (Table 3-14). -/
abbrev Fld.mrcStatusRefused : Fld := ⟨.mrcStatus, 8, 1⟩
/-- MRC_STATUS.SLIPPED (Table 3-14). -/
abbrev Fld.mrcStatusSlipped : Fld := ⟨.mrcStatus, 16, 16⟩
/-- MRC_PHASE.PHASE_ERR (Table 3-15). -/
abbrev Fld.mrcPhasePhaseErr : Fld := ⟨.mrcPhase, 0, 16⟩
/-- MRC_PHASE.REV_FRAME (Table 3-15). -/
abbrev Fld.mrcPhaseRevFrame : Fld := ⟨.mrcPhase, 16, 12⟩
/-- MRC_BUS_SRC.ADDR_EP (Table 3-7). -/
abbrev Fld.mrcBusSrcAddrEp : Fld := ⟨.mrcBusSrc, 0, 16⟩
/-- MRC_LEN_NEXT.LEN (Table 3-7). -/
abbrev Fld.mrcLenNextLen : Fld := ⟨.mrcLenNext, 0, 20⟩
/-- MRC_FLOOR.LEN (Table 3-7). -/
abbrev Fld.mrcFloorLen : Fld := ⟨.mrcFloor, 0, 20⟩
/-- PWR_STATE.STATE (Table 14-13). -/
abbrev Fld.pwrStateState : Fld := ⟨.pwrState, 0, 3⟩
/-- PWR_STATE.TARGET (Table 14-13). -/
abbrev Fld.pwrStateTarget : Fld := ⟨.pwrState, 3, 3⟩
/-- PWR_STATE.ENTRY_STEP (Table 14-13). -/
abbrev Fld.pwrStateEntryStep : Fld := ⟨.pwrState, 6, 3⟩
/-- PWR_STATE.LAST_WAKE (Table 14-13). -/
abbrev Fld.pwrStateLastWake : Fld := ⟨.pwrState, 9, 3⟩
/-- PWR_STATE.BLOCKERS (Table 14-13). -/
abbrev Fld.pwrStateBlockers : Fld := ⟨.pwrState, 16, 10⟩
/-- PWR_VOTERS.DOMAINS_ON (Table 14-14). -/
abbrev Fld.pwrVotersDomainsOn : Fld := ⟨.pwrVoters, 0, 11⟩
/-- PWR_VOTERS.PORTS (Table 14-14). -/
abbrev Fld.pwrVotersPorts : Fld := ⟨.pwrVoters, 16, 16⟩
/-- PWR_SUPPLY.WARN (Table 14-15). -/
abbrev Fld.pwrSupplyWarn : Fld := ⟨.pwrSupply, 0, 1⟩
/-- PWR_SUPPLY.BRACE (Table 14-15). -/
abbrev Fld.pwrSupplyBrace : Fld := ⟨.pwrSupply, 1, 1⟩
/-- PWR_SUPPLY.WARNED (Table 14-15). -/
abbrev Fld.pwrSupplyWarned : Fld := ⟨.pwrSupply, 2, 1⟩
/-- PWR_SUPPLY.BRACE_COUNT (Table 14-15). -/
abbrev Fld.pwrSupplyBraceCount : Fld := ⟨.pwrSupply, 8, 8⟩
/-- PWR_SUPPLY.MIN_MV (Table 14-15). -/
abbrev Fld.pwrSupplyMinMv : Fld := ⟨.pwrSupply, 16, 16⟩
/-- PWR_THERM.TEMP (Table 14-16). -/
abbrev Fld.pwrThermTemp : Fld := ⟨.pwrTherm, 0, 12⟩
/-- PWR_THERM.PRED (Table 14-16). -/
abbrev Fld.pwrThermPred : Fld := ⟨.pwrTherm, 12, 16⟩
/-- PWR_RTC_LO.COUNT (Table 14-12). -/
abbrev Fld.pwrRtcLoCount : Fld := ⟨.pwrRtcLo, 0, 32⟩
/-- PWR_RTC_HI.COUNT (Table 14-12). -/
abbrev Fld.pwrRtcHiCount : Fld := ⟨.pwrRtcHi, 0, 32⟩
/-- PWR_ALARM_LO.COUNT (Table 14-12). -/
abbrev Fld.pwrAlarmLoCount : Fld := ⟨.pwrAlarmLo, 0, 32⟩
/-- PWR_ALARM_HI.COUNT (Table 14-12). -/
abbrev Fld.pwrAlarmHiCount : Fld := ⟨.pwrAlarmHi, 0, 32⟩
/-- LED_HEAD_LO.LSEQ (Table 10-15). -/
abbrev Fld.ledHeadLoLseq : Fld := ⟨.ledHeadLo, 0, 32⟩
/-- LED_HEAD_HI.LSEQ (Table 10-15). -/
abbrev Fld.ledHeadHiLseq : Fld := ⟨.ledHeadHi, 0, 32⟩
/-- LED_STATUS.COUNT (Table 10-20). -/
abbrev Fld.ledStatusCount : Fld := ⟨.ledStatus, 0, 14⟩
/-- LED_STATUS.MIRRORING (Table 10-20). -/
abbrev Fld.ledStatusMirroring : Fld := ⟨.ledStatus, 14, 1⟩
/-- LED_STATUS.MIRROR_LAG (Table 10-20). -/
abbrev Fld.ledStatusMirrorLag : Fld := ⟨.ledStatus, 16, 16⟩
/-- SEC_GLITCH.VOLTAGE (Table 17-14). -/
abbrev Fld.secGlitchVoltage : Fld := ⟨.secGlitch, 0, 8⟩
/-- SEC_GLITCH.CLOCK (Table 17-14). -/
abbrev Fld.secGlitchClock : Fld := ⟨.secGlitch, 8, 8⟩
/-- SEC_GLITCH.LIMIT (Table 17-14). -/
abbrev Fld.secGlitchLimit : Fld := ⟨.secGlitch, 16, 4⟩
/-- CRI_DIAG_SEL.SOURCE (Table 13-12). -/
abbrev Fld.criDiagSelSource : Fld := ⟨.criDiagSel, 0, 10⟩
/-- CRI_DIAG_SEL.ENGINE (Table 13-12). -/
abbrev Fld.criDiagSelEngine : Fld := ⟨.criDiagSel, 16, 4⟩
/-- CRI_DIAG.ENG_THRESHOLD (Table 13-13). -/
abbrev Fld.criDiagEngThreshold : Fld := ⟨.criDiag, 0, 4⟩
/-- CRI_DIAG.ENG_RUNNING (Table 13-13). -/
abbrev Fld.criDiagEngRunning : Fld := ⟨.criDiag, 4, 4⟩
/-- CRI_DIAG.ENG_DEPTH (Table 13-13). -/
abbrev Fld.criDiagEngDepth : Fld := ⟨.criDiag, 8, 4⟩
/-- CRI_DIAG.SRC_PRIORITY (Table 13-13). -/
abbrev Fld.criDiagSrcPriority : Fld := ⟨.criDiag, 12, 4⟩
/-- CRI_DIAG.SRC_TARGET (Table 13-13). -/
abbrev Fld.criDiagSrcTarget : Fld := ⟨.criDiag, 16, 4⟩
/-- CRI_DIAG.SRC_ENABLED (Table 13-13). -/
abbrev Fld.criDiagSrcEnabled : Fld := ⟨.criDiag, 20, 1⟩
/-- CRI_DIAG.SRC_PENDING (Table 13-13). -/
abbrev Fld.criDiagSrcPending : Fld := ⟨.criDiag, 21, 1⟩
/-- CRI_DIAG.SRC_ACTIVE (Table 13-13). -/
abbrev Fld.criDiagSrcActive : Fld := ⟨.criDiag, 22, 1⟩
/-- CRI_DIAG.SRC_LEVEL (Table 13-13). -/
abbrev Fld.criDiagSrcLevel : Fld := ⟨.criDiag, 23, 1⟩
/-- CRI_DIAG.ENG_SPURIOUS (Table 13-13). -/
abbrev Fld.criDiagEngSpurious : Fld := ⟨.criDiag, 24, 8⟩
/-- DMA_CFG.RETRY (Table 7-15). -/
abbrev Fld.dmaCfgRetry : Fld := ⟨.dmaCfg, 0, 3⟩
/-- DMA_CFG.PAIR_POLICY (Table 7-15). -/
abbrev Fld.dmaCfgPairPolicy : Fld := ⟨.dmaCfg, 3, 1⟩
/-- DMA_CFG.STAGE_CAP (Table 7-15). -/
abbrev Fld.dmaCfgStageCap : Fld := ⟨.dmaCfg, 8, 8⟩
/-- PRT_PROTO.NEG_MINOR (Table 2-14). -/
abbrev Fld.prtProtoNegMinor : Fld := ⟨.prtProto, 0, 4⟩
/-- PRT_PROTO.NEG_MAJOR (Table 2-14). -/
abbrev Fld.prtProtoNegMajor : Fld := ⟨.prtProto, 4, 4⟩
/-- PRT_PROTO.PEER_HI_MINOR (Table 2-14). -/
abbrev Fld.prtProtoPeerHiMinor : Fld := ⟨.prtProto, 8, 4⟩
/-- PRT_PROTO.PEER_HI_MAJOR (Table 2-14). -/
abbrev Fld.prtProtoPeerHiMajor : Fld := ⟨.prtProto, 12, 4⟩
/-- PRT_PROTO.PEER_LO_MINOR (Table 2-14). -/
abbrev Fld.prtProtoPeerLoMinor : Fld := ⟨.prtProto, 16, 4⟩
/-- PRT_PROTO.PEER_LO_MAJOR (Table 2-14). -/
abbrev Fld.prtProtoPeerLoMajor : Fld := ⟨.prtProto, 20, 4⟩
/-- PRT_PROTO.FORMAT_E (Table 2-14). -/
abbrev Fld.prtProtoFormatE : Fld := ⟨.prtProto, 24, 1⟩
/-- PRT_PROTO.MISMATCH (Table 2-14). -/
abbrev Fld.prtProtoMismatch : Fld := ⟨.prtProto, 25, 1⟩
/-- PRT_PROTO_CAP.CAP_MINOR (Table 2-15). -/
abbrev Fld.prtProtoCapCapMinor : Fld := ⟨.prtProtoCap, 0, 4⟩
/-- PRT_PROTO_CAP.CAP_MAJOR (Table 2-15). -/
abbrev Fld.prtProtoCapCapMajor : Fld := ⟨.prtProtoCap, 4, 4⟩
/-- PRT_ATTACH.H_CONN (Table 8-17). -/
abbrev Fld.prtAttachHConn : Fld := ⟨.prtAttach, 0, 1⟩
/-- PRT_ATTACH.H_EN (Table 8-17). -/
abbrev Fld.prtAttachHEn : Fld := ⟨.prtAttach, 1, 1⟩
/-- PRT_ATTACH.H_DIS_CAUSE (Table 8-17). -/
abbrev Fld.prtAttachHDisCause : Fld := ⟨.prtAttach, 2, 3⟩
/-- PRT_ATTACH.P_CONN (Table 8-17). -/
abbrev Fld.prtAttachPConn : Fld := ⟨.prtAttach, 8, 1⟩
/-- PRT_ATTACH.P_EN (Table 8-17). -/
abbrev Fld.prtAttachPEn : Fld := ⟨.prtAttach, 9, 1⟩
/-- PRT_ATTACH.P_DIS_CAUSE (Table 8-17). -/
abbrev Fld.prtAttachPDisCause : Fld := ⟨.prtAttach, 10, 3⟩
/-- PRT_ATTACH.P_DOZE (Table 8-17). -/
abbrev Fld.prtAttachPDoze : Fld := ⟨.prtAttach, 13, 1⟩
/-- PRT_ATTACH.P_QUICK (Table 8-17). -/
abbrev Fld.prtAttachPQuick : Fld := ⟨.prtAttach, 14, 1⟩
/-- PRT_ATTACH.H_ADDR0 (Table 8-17). -/
abbrev Fld.prtAttachHAddr0 : Fld := ⟨.prtAttach, 16, 1⟩
/-- PRT_ATTACH.P_ADDR0 (Table 8-17). -/
abbrev Fld.prtAttachPAddr0 : Fld := ⟨.prtAttach, 17, 1⟩
/-- PRT_LANE_CTRL.H_DROWSE_EN (Table 9-7). -/
abbrev Fld.prtLaneCtrlHDrowseEn : Fld := ⟨.prtLaneCtrl, 0, 1⟩
/-- PRT_LANE_CTRL.DROWSE_MIN (Table 9-7). -/
abbrev Fld.prtLaneCtrlDrowseMin : Fld := ⟨.prtLaneCtrl, 1, 6⟩
/-- PRT_LANE_CTRL.TX_PRESET (Table 9-7). -/
abbrev Fld.prtLaneCtrlTxPreset : Fld := ⟨.prtLaneCtrl, 8, 4⟩
/-- PRT_LANE_CTRL.SYM_THR (Table 9-7). -/
abbrev Fld.prtLaneCtrlSymThr : Fld := ⟨.prtLaneCtrl, 12, 8⟩
/-- PRT_LANE_STATUS.H_STATE (Table 9-8). -/
abbrev Fld.prtLaneStatusHState : Fld := ⟨.prtLaneStatus, 0, 3⟩
/-- PRT_LANE_STATUS.H_TX_DROWSE (Table 9-8). -/
abbrev Fld.prtLaneStatusHTxDrowse : Fld := ⟨.prtLaneStatus, 3, 1⟩
/-- PRT_LANE_STATUS.H_RX_DROWSE (Table 9-8). -/
abbrev Fld.prtLaneStatusHRxDrowse : Fld := ⟨.prtLaneStatus, 4, 1⟩
/-- PRT_LANE_STATUS.H_BIT_LOCK (Table 9-8). -/
abbrev Fld.prtLaneStatusHBitLock : Fld := ⟨.prtLaneStatus, 5, 1⟩
/-- PRT_LANE_STATUS.H_SYM_LOCK (Table 9-8). -/
abbrev Fld.prtLaneStatusHSymLock : Fld := ⟨.prtLaneStatus, 6, 1⟩
/-- PRT_LANE_STATUS.HEALTH (Table 9-8). -/
abbrev Fld.prtLaneStatusHealth : Fld := ⟨.prtLaneStatus, 7, 1⟩
/-- PRT_LANE_STATUS.P_STATE (Table 9-8). -/
abbrev Fld.prtLaneStatusPState : Fld := ⟨.prtLaneStatus, 8, 3⟩
/-- PRT_LANE_STATUS.P_SPEED (Table 9-8). -/
abbrev Fld.prtLaneStatusPSpeed : Fld := ⟨.prtLaneStatus, 11, 2⟩
/-- PRT_PERIODIC_RES.OUT_RES (Table 4-15). -/
abbrev Fld.prtPeriodicResOutRes : Fld := ⟨.prtPeriodicRes, 0, 16⟩
/-- PRT_PERIODIC_RES.IN_RES (Table 4-15). -/
abbrev Fld.prtPeriodicResInRes : Fld := ⟨.prtPeriodicRes, 16, 16⟩
/-- PRT_SOF_LATE.LATE (Table 3-7). -/
abbrev Fld.prtSofLateLate : Fld := ⟨.prtSofLate, 0, 16⟩
/-- PRT_SLOT_LATE.LATE (Table 4-16). -/
abbrev Fld.prtSlotLateLate : Fld := ⟨.prtSlotLate, 0, 16⟩
/-- PRT_STRIKE_STAT.WITHDRAWN (Table 5-10). -/
abbrev Fld.prtStrikeStatWithdrawn : Fld := ⟨.prtStrikeStat, 0, 16⟩
/-- PRT_STRIKE_STAT.LATE_CANCEL (Table 5-10). -/
abbrev Fld.prtStrikeStatLateCancel : Fld := ⟨.prtStrikeStat, 16, 16⟩
/-- PRT_HP_COUNT.DISCONNECTS (Table 8-18). -/
abbrev Fld.prtHpCountDisconnects : Fld := ⟨.prtHpCount, 0, 8⟩
/-- PRT_HP_COUNT.RESEATS (Table 8-18). -/
abbrev Fld.prtHpCountReseats : Fld := ⟨.prtHpCount, 8, 8⟩
/-- PRT_HP_COUNT.DISABLES (Table 8-18). -/
abbrev Fld.prtHpCountDisables : Fld := ⟨.prtHpCount, 16, 8⟩
/-- PRT_HP_COUNT.WAKES (Table 8-18). -/
abbrev Fld.prtHpCountWakes : Fld := ⟨.prtHpCount, 24, 8⟩
/-- PRT_LANE_ERR.SYMBOL (Table 9-9). -/
abbrev Fld.prtLaneErrSymbol : Fld := ⟨.prtLaneErr, 0, 16⟩
/-- PRT_LANE_ERR.ELASTIC (Table 9-9). -/
abbrev Fld.prtLaneErrElastic : Fld := ⟨.prtLaneErr, 16, 8⟩
/-- PRT_LANE_ERR.LOSS (Table 9-9). -/
abbrev Fld.prtLaneErrLoss : Fld := ⟨.prtLaneErr, 24, 8⟩
/-- PRT_LINK_ERR.H_CRC (Table 9-10). -/
abbrev Fld.prtLinkErrHCrc : Fld := ⟨.prtLinkErr, 0, 16⟩
/-- PRT_LINK_ERR.P_ERR (Table 9-10). -/
abbrev Fld.prtLinkErrPErr : Fld := ⟨.prtLinkErr, 16, 8⟩
/-- PRT_LINK_ERR.MARKS_SKIPPED (Table 9-10). -/
abbrev Fld.prtLinkErrMarksSkipped : Fld := ⟨.prtLinkErr, 24, 8⟩
/-- PRT_RIDE.RIDE_THROUGH (Table 9-11). -/
abbrev Fld.prtRideRideThrough : Fld := ⟨.prtRide, 0, 16⟩
/-- PRT_RIDE.RT_FAIL (Table 9-11). -/
abbrev Fld.prtRideRtFail : Fld := ⟨.prtRide, 16, 8⟩
/-- PRT_RIDE.TRAIN_FAIL (Table 9-11). -/
abbrev Fld.prtRideTrainFail : Fld := ⟨.prtRide, 24, 8⟩
/-- PRT_MARGIN_CTRL.START (Table 9-12). -/
abbrev Fld.prtMarginCtrlStart : Fld := ⟨.prtMarginCtrl, 0, 1⟩
/-- PRT_MARGIN_CTRL.FAR (Table 9-12). -/
abbrev Fld.prtMarginCtrlFar : Fld := ⟨.prtMarginCtrl, 1, 1⟩
/-- PRT_MARGIN_CTRL.DWELL_EXP (Table 9-12). -/
abbrev Fld.prtMarginCtrlDwellExp : Fld := ⟨.prtMarginCtrl, 2, 4⟩
/-- PRT_MARGIN_STAT.LEFT (Table 9-13). -/
abbrev Fld.prtMarginStatLeft : Fld := ⟨.prtMarginStat, 0, 5⟩
/-- PRT_MARGIN_STAT.RIGHT (Table 9-13). -/
abbrev Fld.prtMarginStatRight : Fld := ⟨.prtMarginStat, 5, 5⟩
/-- PRT_MARGIN_STAT.UP (Table 9-13). -/
abbrev Fld.prtMarginStatUp : Fld := ⟨.prtMarginStat, 10, 5⟩
/-- PRT_MARGIN_STAT.DOWN (Table 9-13). -/
abbrev Fld.prtMarginStatDown : Fld := ⟨.prtMarginStat, 15, 5⟩
/-- PRT_MARGIN_STAT.DONE (Table 9-13). -/
abbrev Fld.prtMarginStatDone : Fld := ⟨.prtMarginStat, 20, 1⟩
/-- PRT_MARGIN_STAT.ABORTED (Table 9-13). -/
abbrev Fld.prtMarginStatAborted : Fld := ⟨.prtMarginStat, 21, 1⟩
/-- PRT_MARGIN_STAT.FAR_NA (Table 9-13). -/
abbrev Fld.prtMarginStatFarNa : Fld := ⟨.prtMarginStat, 22, 1⟩
/-- PRT_MARGIN_STAT.BUSY (Table 9-13). -/
abbrev Fld.prtMarginStatBusy : Fld := ⟨.prtMarginStat, 23, 1⟩
/-- PRT_TEST_CTRL.MODE (Table 9-14). -/
abbrev Fld.prtTestCtrlMode : Fld := ⟨.prtTestCtrl, 0, 3⟩
/-- PRT_TEST_CTRL.SIDE (Table 9-14). -/
abbrev Fld.prtTestCtrlSide : Fld := ⟨.prtTestCtrl, 3, 1⟩
/-- PRT_TEST_CTRL.PATTERN (Table 9-14). -/
abbrev Fld.prtTestCtrlPattern : Fld := ⟨.prtTestCtrl, 4, 3⟩
/-- PRT_TEST_CTRL.GEN_EN (Table 9-14). -/
abbrev Fld.prtTestCtrlGenEn : Fld := ⟨.prtTestCtrl, 7, 1⟩
/-- PRT_TEST_CTRL.CHK_EN (Table 9-14). -/
abbrev Fld.prtTestCtrlChkEn : Fld := ⟨.prtTestCtrl, 8, 1⟩
/-- PRT_TEST_CTRL.INJECT (Table 9-14). -/
abbrev Fld.prtTestCtrlInject : Fld := ⟨.prtTestCtrl, 9, 1⟩
/-- PRT_TEST_CTRL.INJ_RATE (Table 9-14). -/
abbrev Fld.prtTestCtrlInjRate : Fld := ⟨.prtTestCtrl, 10, 4⟩
/-- PRT_TEST_CTRL.P_TEST_F (Table 9-14). -/
abbrev Fld.prtTestCtrlPTestF : Fld := ⟨.prtTestCtrl, 14, 1⟩
/-- PRT_TEST_CTRL.REFUSED (Table 9-14). -/
abbrev Fld.prtTestCtrlRefused : Fld := ⟨.prtTestCtrl, 15, 1⟩
/-- PRT_TEST_STAT.CHK_LOCK (Table 9-15). -/
abbrev Fld.prtTestStatChkLock : Fld := ⟨.prtTestStat, 0, 1⟩
/-- PRT_TEST_STAT.LOST_LOCK (Table 9-15). -/
abbrev Fld.prtTestStatLostLock : Fld := ⟨.prtTestStat, 1, 1⟩
/-- PRT_TEST_USER0.WORD (Table 9-6). -/
abbrev Fld.prtTestUser0Word : Fld := ⟨.prtTestUser0, 0, 32⟩
/-- PRT_TEST_USER1.WORD (Table 9-6). -/
abbrev Fld.prtTestUser1Word : Fld := ⟨.prtTestUser1, 0, 32⟩
/-- PRT_TEST_BITS_LO.BITS (Table 9-6). -/
abbrev Fld.prtTestBitsLoBits : Fld := ⟨.prtTestBitsLo, 0, 32⟩
/-- PRT_TEST_BITS_HI.BITS (Table 9-6). -/
abbrev Fld.prtTestBitsHiBits : Fld := ⟨.prtTestBitsHi, 0, 32⟩
/-- PRT_TEST_ERRS.ERRS (Table 9-6). -/
abbrev Fld.prtTestErrsErrs : Fld := ⟨.prtTestErrs, 0, 32⟩
/-- TWN_STATUS.ROLE (Table 16-8). -/
abbrev Fld.twnStatusRole : Fld := ⟨.twnStatus, 0, 2⟩
/-- TWN_STATUS.STRAP (Table 16-8). -/
abbrev Fld.twnStatusStrap : Fld := ⟨.twnStatus, 2, 2⟩
/-- TWN_STATUS.SYNC (Table 16-8). -/
abbrev Fld.twnStatusSync : Fld := ⟨.twnStatus, 4, 2⟩
/-- TWN_STATUS.LINK_UP (Table 16-8). -/
abbrev Fld.twnStatusLinkUp : Fld := ⟨.twnStatus, 6, 1⟩
/-- TWN_STATUS.ALIVE_IN (Table 16-8). -/
abbrev Fld.twnStatusAliveIn : Fld := ⟨.twnStatus, 7, 1⟩
/-- TWN_STATUS.ALIVE_OUT (Table 16-8). -/
abbrev Fld.twnStatusAliveOut : Fld := ⟨.twnStatus, 8, 1⟩
/-- TWN_STATUS.LANES (Table 16-8). -/
abbrev Fld.twnStatusLanes : Fld := ⟨.twnStatus, 9, 4⟩
/-- TWN_STATUS.PAIR_EPOCH (Table 16-8). -/
abbrev Fld.twnStatusPairEpoch : Fld := ⟨.twnStatus, 16, 8⟩
/-- TWN_STATUS.CONFLICT (Table 16-8). -/
abbrev Fld.twnStatusConflict : Fld := ⟨.twnStatus, 24, 1⟩
/-- TWN_COUNT.TAKEOVERS (Table 16-9). -/
abbrev Fld.twnCountTakeovers : Fld := ⟨.twnCount, 0, 8⟩
/-- TWN_COUNT.LINK_LOSSES (Table 16-9). -/
abbrev Fld.twnCountLinkLosses : Fld := ⟨.twnCount, 8, 8⟩
/-- TWN_COUNT.RESYNCS (Table 16-9). -/
abbrev Fld.twnCountResyncs : Fld := ⟨.twnCount, 16, 8⟩
/-- TWN_COUNT.TAG_FAIL (Table 16-9). -/
abbrev Fld.twnCountTagFail : Fld := ⟨.twnCount, 24, 8⟩
/-- TWN_TIME.OFFSET (Table 16-10). -/
abbrev Fld.twnTimeOffset : Fld := ⟨.twnTime, 0, 16⟩
/-- TWN_TIME.TRIM (Table 16-10). -/
abbrev Fld.twnTimeTrim : Fld := ⟨.twnTime, 16, 16⟩

/-- The tenant page of every function (Table 19-3). -/
def pageReg : Nat → Option Reg
  | 0x0 => some .gblChipId
  | 0x4 => some .gblBusFault
  | 0x8 => some .gblResetCause
  | 0xc => some .gblBootStatus
  | 0x10 => some .gblBusTimeLo
  | 0x14 => some .gblBusTimeHi
  | 0x18 => some .gblFrameNum
  | 0x1c => some .gblTimeEpoch
  | 0x20 => some .gblTimeStatus
  | 0x24 => some .gblCfgGen
  | 0x28 => some .gblAlmStatus
  | 0x2c => some .gblAlmSwitch
  | 0x30 => some .gblWeirCtrl
  | 0x100 => some .tenCmdBaseLo
  | 0x104 => some .tenCmdBaseHi
  | 0x108 => some .tenRplBaseLo
  | 0x10c => some .tenRplBaseHi
  | 0x110 => some .tenRplHeadLo
  | 0x114 => some .tenRplHeadHi
  | 0x118 => some .tenCmdCtrl
  | 0x11c => some .tenCmdStatus
  | 0x120 => some .tenCmdDb
  | 0x124 => some .tenRplDb
  | 0x128 => some .ledLastLo
  | 0x12c => some .ledLastHi
  | 0x180 => some .tenQpSel
  | 0x184 => some .tenQpStatus
  | 0x188 => some .tenQpCount
  | 0x200 => some .criCause
  | 0x204 => some .criCauseEn
  | 0x208 => some .criEvtCtrl
  | 0x20c => some .criQpPend
  | 0x210 => some .criQpCause
  | 0x214 => some .criQpMod
  | 0x280 => some .tenWeirQuota
  | 0x284 => some .tenCisShare
  | 0x288 => some .tenPwrVote
  | 0x300 => some .tenWinSel
  | 0x304 => some .tenWinAttr
  | 0x308 => some .tenWinBaseLo
  | 0x30c => some .tenWinBaseHi
  | 0x310 => some .tenWinLimitLo
  | 0x314 => some .tenWinLimitHi
  | 0x318 => some .tenIsoFault
  | 0x320 => some .tenIsoAddrLo
  | 0x324 => some .tenIsoAddrHi
  | 0x400 => some .dmaSel
  | 0x404 => some .dmaChCtrl
  | 0x408 => some .dmaChStatus
  | 0x40c => some .dmaPrgPos
  | 0x410 => some .dmaChErrLo
  | 0x414 => some .dmaChErrHi
  | 0x418 => some .dmaPrgLoadLo
  | 0x41c => some .dmaPrgLoadHi
  | 0x420 => some .dmaPrgAddrLo
  | 0x424 => some .dmaPrgAddrHi
  | 0x428 => some .dmaPrgPos2
  | 0x42c => some .dmaPrgXfer
  | 0x430 => some .dmaFnErrLo
  | 0x434 => some .dmaFnErrHi
  | 0x438 => some .dmaFnErrInfo
  | 0x500 => some .secStatus
  | 0x504 => some .secCertSel
  | 0x508 => some .secCertData
  | 0x50c => some .secKeyStatus
  | 0x510 => some .secKeyLabel
  | _ => none

/-- The global block of the PF, by offset from 0x01_0000 (Table 19-4). -/
def globalReg : Nat → Option Reg
  | 0x0 => some .gblTimeCtrl
  | 0x4 => some .gblSyncCtrl
  | 0x8 => some .gblSyncCapLo
  | 0xc => some .gblSyncCapHi
  | 0x10 => some .gblSyncCapCnt
  | 0x14 => some .gblStrikeCtrl
  | 0x18 => some .gblCfgState
  | 0x1c => some .gblTreeStatus
  | 0x20 => some .gblHpCtrl
  | 0x24 => some .gblCisEcc
  | 0x28 => some .gblCisEccAddr
  | 0x2c => some .gblCisScrub
  | 0x40 => some .gblTenSel
  | 0x44 => some .gblTenState
  | 0x48 => some .gblWinBaseLo
  | 0x4c => some .gblWinBaseHi
  | 0x50 => some .gblWinLimitLo
  | 0x54 => some .gblWinLimitHi
  | 0x58 => some .gblWinAttr
  | 0x80 => some .gblGpioCfg
  | 0x84 => some .gblGpioOut
  | 0x88 => some .gblGpioIn
  | 0x8c => some .gblGpioEvt
  | _ => none

/-- The Millrace, power, Ledger, security, Crier and DMA blocks, by offset in BAR0 (Table 19-5). -/
def blockReg : Nat → Option Reg
  | 0x11000 => some .mrcCtrl
  | 0x11004 => some .mrcLenMin
  | 0x11008 => some .mrcLenMax
  | 0x1100c => some .mrcLenFixed
  | 0x11010 => some .mrcAngleOfs
  | 0x11014 => some .mrcEncCfg
  | 0x11018 => some .mrcStatus
  | 0x1101c => some .mrcPhase
  | 0x11020 => some .mrcBusSrc
  | 0x11024 => some .mrcLenNext
  | 0x11028 => some .mrcFloor
  | 0x12000 => some .pwrState
  | 0x12004 => some .pwrVoters
  | 0x12008 => some .pwrSupply
  | 0x1200c => some .pwrTherm
  | 0x12010 => some .pwrRtcLo
  | 0x12014 => some .pwrRtcHi
  | 0x12018 => some .pwrAlarmLo
  | 0x1201c => some .pwrAlarmHi
  | 0x13000 => some .ledHeadLo
  | 0x13004 => some .ledHeadHi
  | 0x13008 => some .ledStatus
  | 0x14000 => some .secGlitch
  | 0x15000 => some .criDiagSel
  | 0x15004 => some .criDiag
  | 0x16000 => some .dmaCfg
  | _ => none

/-- One root port, by offset in its block (Table 19-6). -/
def portReg : Nat → Option Reg
  | 0x0 => some .prtProto
  | 0x4 => some .prtProtoCap
  | 0x8 => some .prtAttach
  | 0xc => some .prtLaneCtrl
  | 0x10 => some .prtLaneStatus
  | 0x14 => some .prtPeriodicRes
  | 0x40 => some .prtSofLate
  | 0x44 => some .prtSlotLate
  | 0x48 => some .prtStrikeStat
  | 0x4c => some .prtHpCount
  | 0x50 => some .prtLaneErr
  | 0x54 => some .prtLinkErr
  | 0x58 => some .prtRide
  | 0x80 => some .prtMarginCtrl
  | 0x84 => some .prtMarginStat
  | 0xc0 => some .prtTestCtrl
  | 0xc4 => some .prtTestStat
  | 0xc8 => some .prtTestUser0
  | 0xcc => some .prtTestUser1
  | 0xd0 => some .prtTestBitsLo
  | 0xd4 => some .prtTestBitsHi
  | 0xd8 => some .prtTestErrs
  | _ => none

/-- One twin lane, by offset in its block, as the PRT_ register of the same suffix (Table 19-7, R401). -/
def twinLaneReg : Nat → Option Reg
  | 0x0 => some .prtLaneCtrl
  | 0x4 => some .prtLaneStatus
  | 0x8 => some .prtLaneErr
  | 0x10 => some .prtMarginCtrl
  | 0x14 => some .prtMarginStat
  | 0x20 => some .prtTestCtrl
  | 0x24 => some .prtTestStat
  | 0x28 => some .prtTestUser0
  | 0x2c => some .prtTestUser1
  | 0x30 => some .prtTestBitsLo
  | 0x34 => some .prtTestBitsHi
  | 0x38 => some .prtTestErrs
  | _ => none

/-- The common twin registers (R454). -/
def twinReg : Nat → Option Reg
  | 0x0 => some .twnStatus
  | 0x4 => some .twnCount
  | 0x8 => some .twnTime
  | _ => none

/-- One row of the tenant summary, as the tenant-page register it shows (Table 19-8). -/
def summaryReg : Nat → Option Reg
  | 0x0 => some .tenCmdCtrl
  | 0x4 => some .tenCmdStatus
  | 0x8 => some .tenCmdDb
  | 0xc => some .tenRplDb
  | 0x10 => some .tenWeirQuota
  | 0x14 => some .tenCisShare
  | 0x18 => some .tenIsoFault
  | 0x1c => some .tenPwrVote
  | 0x20 => some .criCause
  | 0x28 => some .ledLastLo
  | 0x2c => some .ledLastHi
  | _ => none

/-- The high half of each 64-bit pair, by its low half (R8). -/
def Reg.hiOf : Reg → Option Reg
  | .gblBusTimeLo => some .gblBusTimeHi
  | .tenCmdBaseLo => some .tenCmdBaseHi
  | .tenRplBaseLo => some .tenRplBaseHi
  | .tenRplHeadLo => some .tenRplHeadHi
  | .ledLastLo => some .ledLastHi
  | .tenWinBaseLo => some .tenWinBaseHi
  | .tenWinLimitLo => some .tenWinLimitHi
  | .tenIsoAddrLo => some .tenIsoAddrHi
  | .dmaChErrLo => some .dmaChErrHi
  | .dmaPrgLoadLo => some .dmaPrgLoadHi
  | .dmaPrgAddrLo => some .dmaPrgAddrHi
  | .dmaFnErrLo => some .dmaFnErrHi
  | .gblSyncCapLo => some .gblSyncCapHi
  | .gblWinBaseLo => some .gblWinBaseHi
  | .gblWinLimitLo => some .gblWinLimitHi
  | .pwrRtcLo => some .pwrRtcHi
  | .pwrAlarmLo => some .pwrAlarmHi
  | .ledHeadLo => some .ledHeadHi
  | .prtTestBitsLo => some .prtTestBitsHi
  | _ => none

/-- The low half of each 64-bit pair, by its high half (R8). -/
def Reg.loOf : Reg → Option Reg
  | .gblBusTimeHi => some .gblBusTimeLo
  | .tenCmdBaseHi => some .tenCmdBaseLo
  | .tenRplBaseHi => some .tenRplBaseLo
  | .tenRplHeadHi => some .tenRplHeadLo
  | .ledLastHi => some .ledLastLo
  | .tenWinBaseHi => some .tenWinBaseLo
  | .tenWinLimitHi => some .tenWinLimitLo
  | .tenIsoAddrHi => some .tenIsoAddrLo
  | .dmaChErrHi => some .dmaChErrLo
  | .dmaPrgLoadHi => some .dmaPrgLoadLo
  | .dmaPrgAddrHi => some .dmaPrgAddrLo
  | .dmaFnErrHi => some .dmaFnErrLo
  | .gblSyncCapHi => some .gblSyncCapLo
  | .gblWinBaseHi => some .gblWinBaseLo
  | .gblWinLimitHi => some .gblWinLimitLo
  | .pwrRtcHi => some .pwrRtcLo
  | .pwrAlarmHi => some .pwrAlarmLo
  | .ledHeadHi => some .ledHeadLo
  | .prtTestBitsHi => some .prtTestBitsLo
  | _ => none

/-- Registers with one instance per function or tenant (R450); every other page register is one for the chip. -/
def Reg.perFn : Reg → Bool
  | .gblBusFault => true
  | .tenCmdBaseLo => true
  | .tenCmdBaseHi => true
  | .tenRplBaseLo => true
  | .tenRplBaseHi => true
  | .tenRplHeadLo => true
  | .tenRplHeadHi => true
  | .tenCmdCtrl => true
  | .tenCmdStatus => true
  | .tenCmdDb => true
  | .tenRplDb => true
  | .ledLastLo => true
  | .ledLastHi => true
  | .tenQpSel => true
  | .tenQpStatus => true
  | .tenQpCount => true
  | .criCause => true
  | .criCauseEn => true
  | .criEvtCtrl => true
  | .criQpPend => true
  | .criQpCause => true
  | .criQpMod => true
  | .tenWeirQuota => true
  | .tenCisShare => true
  | .tenPwrVote => true
  | .tenWinSel => true
  | .tenWinAttr => true
  | .tenWinBaseLo => true
  | .tenWinBaseHi => true
  | .tenWinLimitLo => true
  | .tenWinLimitHi => true
  | .tenIsoFault => true
  | .tenIsoAddrLo => true
  | .tenIsoAddrHi => true
  | .dmaSel => true
  | .dmaChCtrl => true
  | .dmaChStatus => true
  | .dmaPrgPos => true
  | .dmaChErrLo => true
  | .dmaChErrHi => true
  | .dmaPrgLoadLo => true
  | .dmaPrgLoadHi => true
  | .dmaPrgAddrLo => true
  | .dmaPrgAddrHi => true
  | .dmaPrgPos2 => true
  | .dmaPrgXfer => true
  | .dmaFnErrLo => true
  | .dmaFnErrHi => true
  | .dmaFnErrInfo => true
  | .secCertSel => true
  | .secCertData => true
  | .secKeyStatus => true
  | .secKeyLabel => true
  | _ => false

/-- Registers with one instance per root port or twin lane (R453, R454). -/
def Reg.perLane : Reg → Bool
  | .prtProto => true
  | .prtProtoCap => true
  | .prtAttach => true
  | .prtLaneCtrl => true
  | .prtLaneStatus => true
  | .prtPeriodicRes => true
  | .prtSofLate => true
  | .prtSlotLate => true
  | .prtStrikeStat => true
  | .prtHpCount => true
  | .prtLaneErr => true
  | .prtLinkErr => true
  | .prtRide => true
  | .prtMarginCtrl => true
  | .prtMarginStat => true
  | .prtTestCtrl => true
  | .prtTestStat => true
  | .prtTestUser0 => true
  | .prtTestUser1 => true
  | .prtTestBitsLo => true
  | .prtTestBitsHi => true
  | .prtTestErrs => true
  | _ => false

/-- Every register, in the order of the constructors. -/
def allRegs : List Reg :=
  [.gblChipId, .gblBusFault, .gblResetCause, .gblBootStatus, .gblBusTimeLo, .gblBusTimeHi, .gblFrameNum,
   .gblTimeEpoch, .gblTimeStatus, .gblCfgGen, .gblAlmStatus, .gblAlmSwitch, .gblWeirCtrl, .tenCmdBaseLo,
   .tenCmdBaseHi, .tenRplBaseLo, .tenRplBaseHi, .tenRplHeadLo, .tenRplHeadHi, .tenCmdCtrl, .tenCmdStatus,
   .tenCmdDb, .tenRplDb, .ledLastLo, .ledLastHi, .tenQpSel, .tenQpStatus, .tenQpCount, .criCause, .criCauseEn,
   .criEvtCtrl, .criQpPend, .criQpCause, .criQpMod, .tenWeirQuota, .tenCisShare, .tenPwrVote, .tenWinSel,
   .tenWinAttr, .tenWinBaseLo, .tenWinBaseHi, .tenWinLimitLo, .tenWinLimitHi, .tenIsoFault, .tenIsoAddrLo,
   .tenIsoAddrHi, .dmaSel, .dmaChCtrl, .dmaChStatus, .dmaPrgPos, .dmaChErrLo, .dmaChErrHi, .dmaPrgLoadLo,
   .dmaPrgLoadHi, .dmaPrgAddrLo, .dmaPrgAddrHi, .dmaPrgPos2, .dmaPrgXfer, .dmaFnErrLo, .dmaFnErrHi, .dmaFnErrInfo,
   .secStatus, .secCertSel, .secCertData, .secKeyStatus, .secKeyLabel, .gblTimeCtrl, .gblSyncCtrl, .gblSyncCapLo,
   .gblSyncCapHi, .gblSyncCapCnt, .gblStrikeCtrl, .gblCfgState, .gblTreeStatus, .gblHpCtrl, .gblCisEcc,
   .gblCisEccAddr, .gblCisScrub, .gblTenSel, .gblTenState, .gblWinBaseLo, .gblWinBaseHi, .gblWinLimitLo,
   .gblWinLimitHi, .gblWinAttr, .gblGpioCfg, .gblGpioOut, .gblGpioIn, .gblGpioEvt, .mrcCtrl, .mrcLenMin,
   .mrcLenMax, .mrcLenFixed, .mrcAngleOfs, .mrcEncCfg, .mrcStatus, .mrcPhase, .mrcBusSrc, .mrcLenNext, .mrcFloor,
   .pwrState, .pwrVoters, .pwrSupply, .pwrTherm, .pwrRtcLo, .pwrRtcHi, .pwrAlarmLo, .pwrAlarmHi, .ledHeadLo,
   .ledHeadHi, .ledStatus, .secGlitch, .criDiagSel, .criDiag, .dmaCfg, .prtProto, .prtProtoCap, .prtAttach,
   .prtLaneCtrl, .prtLaneStatus, .prtPeriodicRes, .prtSofLate, .prtSlotLate, .prtStrikeStat, .prtHpCount,
   .prtLaneErr, .prtLinkErr, .prtRide, .prtMarginCtrl, .prtMarginStat, .prtTestCtrl, .prtTestStat, .prtTestUser0,
   .prtTestUser1, .prtTestBitsLo, .prtTestBitsHi, .prtTestErrs, .twnStatus, .twnCount, .twnTime, .qpSqDb, .qpCqDb]

/-- The word with every field at its reset value. -/
def Reg.resetWord (r : Reg) : Word :=
  BitVec.ofNat 32 (r.fields.foldl (fun acc f => acc + f.reset * 2 ^ f.lo) 0)

/-- The mask of the bits of a run of `len` bits from `lo`. -/
def bitsMask (lo len : Nat) : Word := BitVec.ofNat 32 ((2 ^ len - 1) * 2 ^ lo)

/-- The mask of the fields that satisfy a test. -/
def Reg.maskOf (r : Reg) (p : Field → Bool) : Word :=
  (r.fields.filter p).foldl (fun acc f => acc ||| bitsMask f.lo f.len) 0

/-- Read a run of bits as a number. -/
def getBits (w : Word) (lo len : Nat) : Nat := w.toNat / 2 ^ lo % 2 ^ len

/-- Replace a run of bits. -/
def putBits (w : Word) (lo len v : Nat) : Word :=
  (w &&& ~~~(bitsMask lo len)) ||| (BitVec.ofNat 32 (v % 2 ^ len * 2 ^ lo) &&& bitsMask lo len)

/-- The mask of the fields of a register that a reset of a class returns to their reset values: the field's class or a
class below it (Table 0-6). -/
def Reg.clearMask (r : Reg) (c : RClass) : Word :=
  r.maskOf fun f =>
    match c with
    | .cold => f.cls == .cold || f.cls == .warm || f.cls == .fn
    | .warm => f.cls == .warm || f.cls == .fn
    | .fn => f.cls == .fn
    | .never => false

/-- A register word after a reset of a class (R9). -/
def Reg.afterReset (r : Reg) (c : RClass) (w : Word) : Word :=
  (w &&& ~~~(r.clearMask c)) ||| (r.resetWord &&& r.clearMask c)

/-- The valid protocol versions of R22 as major and minor digits in one byte. -/
def validVersions : List Nat := [0x10, 0x11, 0x20, 0x21, 0x30, 0x31, 0x32]

/-- The fields that a write would put at a reserved encoding, as a mask (R7): the test of each register's Meaning
column, whether the writer is a VF, and whether the register is a twin lane's (R401). -/
def Reg.reservedMask (r : Reg) (vf twin : Bool) (w : Word) : Word :=
  let g := getBits w
  let bad (c : Bool) (lo len : Nat) : Word := if c then bitsMask lo len else 0
  match r with
  | .prtProtoCap => bad (!(validVersions.contains (g 0 8))) 0 8
  | .gblSyncCtrl => bad (g 6 10 == 0) 6 10
  | .mrcCtrl => bad (decide (3 < g 2 3)) 2 3 ||| bad (g 8 12 == 0) 8 12
  | .mrcEncCfg => bad (decide (g 0 24 < 4)) 0 24
  | .gblHpCtrl => bad (g 16 4 == 0) 16 4
  | .dmaCfg => bad (decide (g 8 8 < 4) || decide (192 < g 8 8)) 8 8
  | .gblCisScrub => bad (g 0 8 == 0) 0 8
  | .prtLaneCtrl => bad (!twin && decide (g 1 6 < 2)) 1 6 ||| bad (decide (9 < g 8 4)) 8 4
  | .prtMarginCtrl => bad (decide (12 < g 2 4)) 2 4
  | .prtTestCtrl => bad (decide (4 < g 0 3) || (twin && g 0 3 == 3)) 0 3 ||| bad (decide (3 < g 4 3)) 4 3
  | .tenCmdCtrl => bad (decide (g 8 4 < 4) || decide (10 < g 8 4)) 8 4 |||
      bad (decide (g 12 4 < 4) || decide (12 < g 12 4)) 12 4 ||| bad (vf && decide (7 < g 16 6)) 16 6
  | .criEvtCtrl => bad (vf && decide (7 < g 0 6)) 0 6
  | .criQpMod => bad (decide (2 ≤ g 0 8) && g 8 10 == 0) 0 18
  | .criDiagSel => bad (decide (11 < g 16 4)) 16 4
  | _ => 0

/-- Bits that a twin lane's register lacks (R401): H_DROWSE_EN, DROWSE_MIN, the P_ fields, SIDE and P_TEST_F. -/
def Reg.twinReserved (r : Reg) : Word :=
  match r with
  | .prtLaneCtrl => bitsMask 0 7
  | .prtLaneStatus => bitsMask 8 5
  | .prtTestCtrl => bitsMask 3 1 ||| bitsMask 14 1
  | _ => 0

/-- Bits of a register that a VF's instance lacks: causes 11 to 16 (R335, Table 13-7). -/
def Reg.vfReserved (r : Reg) : Word :=
  match r with
  | .criCause => bitsMask 11 6
  | .criCauseEn => bitsMask 11 6
  | _ => 0

end Sys2Proof.Machine
end

