-- ==== Sys2Proof/Config.lean ====
section
/-!
DEFINITION. What the spec leaves open: free values, the cryptographic functions that it names without giving them, and
the fused constants of one chip. None has a body, so no statement can rest on a value of one.
-/
namespace Sys2Proof

/-- A fresh 64-bit value where the spec states none (log entry 6); the argument is the counter `free` of the state. -/
opaque Config.freeWord : Nat → DWord

/-- SHA-256 as 32 bytes (R273, R371, R408; log entry 10). -/
opaque Config.sha256 : List Byte → List Byte

/-- ECDSA P-256 verification: key number, digest, signature (R285, R406, R413; log entry 10). -/
opaque Config.ecdsaVerify : Nat → List Byte → List Byte → Bool

/-- ECDSA P-256 verification under a public key that the message carries (R413, R414; log entry 10). -/
opaque Config.ecdsaVerifyPub : List Byte → List Byte → List Byte → Bool

/-- A signature by the identity key, 64 bytes (R412; log entry 10). -/
opaque Config.ecdsaSign : List Byte → List Byte

/-- AES-256-GCM opening: key, nonce, additional data, text, tag (R175, R410; log entry 10). -/
opaque Config.gcmOpen : List Byte → List Byte → List Byte → List Byte → List Byte → Option (List Byte)

/-- The wrapping key of R410 from the sender's ephemeral key and the serial number (log entry 10). -/
opaque Config.wrapKey : List Byte → DWord → List Byte

/-- The session key of R413 for one sender's strap from both chips' HELLO contents, the receiver's first (log entry 10). -/
opaque Config.twinKey : List Byte → List Byte → Nat → List Byte

/-- A twin frame's payload and tag by AES-256-GCM: key, nonce, header, payload (R386; log entry 10). -/
opaque Config.gcmSeal : List Byte → List Byte → List Byte → List Byte → List Byte

/-- The chip's twin protocol version, which the spec does not state (R386; log entry 41). -/
opaque Config.twinProtocol : Half

/-- The predicted load of R355 in µA at a junction temperature in quarter degrees (i85 and i105 are fused per chip;
log entry 11). -/
opaque Config.predictedLoad : Int → Nat

/-- The translator buffer count taken for an expected hub whose descriptor has not been read, by its address (R50 and
R92 state none; log entry 20). -/
opaque Config.expectedBuffers : Nat → Nat

/-- Firmware's settings of a Crier source: ENABLED, PRIORITY and TARGET (R326; log entry 8). -/
opaque Config.crierSource : Nat → Bool × Nat × Nat

/-- Firmware's setting of an engine's THRESHOLD (R328; log entry 8). -/
opaque Config.crierThreshold : Nat → Nat

/-- Firmware's setting of a level shim's POLARITY (R333; log entry 8). -/
opaque Config.shimPolarity : Nat → Bool

/-- The bits in error that a test mode's checker has counted since its lock: lane, tick of the lock, tick of the reading (R251;
log entry 40). -/
opaque Config.lineErrors : Nat → Nat → Nat → Nat

end Sys2Proof
end

