-- ==== Sys2Proof/Machine/State.lean ====
section
/-!
DEFINITION. The state of the block as plain data, the state after reset, and the reasons for which a step can stop.
The register words live in `regs`, keyed by register and instance; everything that is not a register word has its own
field.
-/
namespace Sys2Proof.Machine

/-- Why a step stops with a fault. -/
inductive Fault where
  /-- Raised by no meaning: a command whose operands name no access or event of the spec does nothing (log entry 1). Safe. -/
  | illFormed
  deriving DecidableEq, Repr

/-- Why a step refuses a command. -/
inductive Refusal where
  /-- Raised by the dispatcher for a command that has no meaning yet. Safe: nothing is claimed of it. -/
  | notModelled (mnemonic : String)
  deriving DecidableEq, Repr

/-- What the block puts on its outputs, in order (log entry 3). -/
inductive Output where
  /-- Data returned to a register read of a function. -/
  | readData (fn off : Nat) (v : DWord)
  /-- Unsupported Request returned to an access (Table 19-9). -/
  | unsupported (fn off : Nat)
  /-- A posted write to host memory with the tenant's requester ID (R165). -/
  | hostWrite (t : Nat) (addr : DWord) (data : List Byte)
  /-- A read request to host memory. -/
  | hostRead (t : Nat) (addr : DWord) (len : Nat)
  /-- A zero-length flush read of a doubleword (R176). -/
  | flushRead (t : Nat) (addr : DWord)
  /-- An MSI-X message (R337). -/
  | msix (t vec : Nat)
  /-- A packet on one side of a root port (R29, R30), first byte first, at a speed: 3 H, 2 F, 1 L (R235). Machine/Wire.lean
  gives its symbols or bits on the wire. -/
  | packet (p : Nat) (sd : Side) (speed : Nat) (bytes : List Byte)
  /-- H-lane ordered sets (Table 9-1, Table 2-3): how many in a row, 0 for sets sent until the next output of the lane, and the
  bytes that a set carries. Machine/Wire.lean gives a set's symbols. -/
  | ordered (lane : Nat) (name : String) (n : Nat) (bytes : List Byte)
  /-- Line signalling on a lane or pair: the name of R233, R236 to R241. -/
  | signal (link : Nat) (name : String)
  /-- The level of a pin. -/
  | pin (name : String) (level : Bool)
  /-- A high pulse of a pin: the tick at which it rises, and how many ticks it lasts (R80). -/
  | pulse (name : String) (start : DWord) (ticks : Nat)
  /-- A twin frame sent: type, FLAGS, SEQ, payload (Table 16-1). -/
  | twinFrame (type flags : Nat) (seq : Word) (payload : List Byte)
  /-- An SMBus answer; none is a refused acknowledge (R439). -/
  | smbus (answer : Option (List Byte))
  /-- A JTAG answer (R414). -/
  | jtag (data : List Byte)
  /-- The Crier signals an engine (R328). -/
  | engineSignal (e : Nat)
  /-- A level shim sends its source's doorbell to the Crier (R333). -/
  | shimDoorbell (src : Nat)
  /-- A level shim withdraws its source's doorbell (R333). -/
  | shimWithdrawal (src : Nat)
  /-- A claim register's answer (R330). -/
  | claim (e : Nat) (v : Word)
  /-- An engine resumes from its sleep instruction (R332). -/
  | engineResume (e : Nat)
  /-- A flash operation issued: address and whether it erases (R283). -/
  | flashOp (addr : Nat) (erase : Bool)
  /-- A power switch of a domain opens (false) or closes (R343). -/
  | domain (d : Nat) (on : Bool)
  /-- An angle source or panel report handed to the Millrace or keeper (R71, R202). -/
  | report (bytes : List Byte)
  deriving DecidableEq, Repr

/-- Bus time and the frame grid (R60 to R62, R82). -/
structure TimeSt where
  bus : DWord
  frame : Word
  start : DWord
  len : Nat
  beat : Nat
  running : Bool
  /-- End of the last frame before the last time event (R82). -/
  lastEnd : DWord
  /-- The epoch record in flash: SEQ, EPOCH, LSTART (R284). -/
  recSeq : Word
  recEpoch : Word
  lstart : Word
  /-- The next reset restarts bus time (cold) rather than carrying it. -/
  carried : Bool
  /-- After a carried event: the first SOF after it plus UNCERT, and the skipped frames (R83). -/
  gapTick : DWord
  gapFrom : Word
  gapTo : Word
  /-- GUARD_BEATS as it stood at the latest opening of frame n+2 (R141). -/
  guard : Nat
  /-- The length of the frame before the running one (R122). -/
  prevLen : Nat
  deriving DecidableEq, Repr

/-- The halt (R53, R54, R369) and the level of HALT_IN#. -/
structure HaltSt where
  stands : Bool
  cause : Byte
  pinLow : Bool
  outAsserted : Bool
  release : Bool
  /-- Links on which the HALT token is still to be sent. -/
  due : List Nat
  /-- Tick at which HALT left a root port, by port (R137). -/
  sentAt : Tab DWord
  deriving DecidableEq, Repr

/-- The Millrace loop beyond its registers (R70 to R79). -/
structure MrcSt where
  count : Int
  origin : Int
  index : Int
  lastTick : DWord
  angle : Option Int
  prevAngle : Option Int
  carry : Rat
  lockRun : Nat
  levels : Tab (Bool × Bool)
  silentBeats : Nat
  /-- Counts per tick over the last two edges or reports. -/
  speed : Rat
  /-- The parameters in force, words of MRC_CTRL to MRC_BUS_SRC. -/
  pars : List Word
  /-- Parameter writes waiting: first frame whose length they govern, words of MRC_CTRL to MRC_BUS_SRC (R77). -/
  pend : List (Word × List Word)
  /-- The tracking origin is to be taken at the next report: the bus encoder has given no count since the event (R72). -/
  originDue : Bool
  /-- The count of the furthest point reached in the present direction (R78). -/
  furthest : Int
  /-- The direction of travel at the latest sample, true in reverse (R75). -/
  sampledRev : Bool
  deriving DecidableEq, Repr

/-- A slot record (Table 4-6) with the frame phase, period and beat of the frames that hold it, and whether it runs
on the whole pair. -/
structure Slot where
  period : Nat
  phase : Nat
  beat : Nat
  start : Nat
  role : Nat
  addrEp : Half
  port : Nat
  pair : Bool
  dirIn : Bool
  prio : Nat
  qp : Nat
  maxp : Nat
  contract : Nat
  charge : Nat
  deriving DecidableEq, Repr

/-- A contract (Table 4-1) as admitted, with its placement and its slots. -/
structure Contract where
  id : Nat
  addrEp : Half
  dirIn : Bool
  strike : Bool
  interval : Nat
  maxp : Nat
  prio : Nat
  standing : Bool
  mrcSrc : Bool
  place : Nat
  framePhase : Nat
  beatPhase : Nat
  depth : Nat
  qp : Nat
  tenant : Nat
  slots : List Slot
  deriving DecidableEq, Repr

/-- An accepted Almanac change that awaits its switch (R111, R112). -/
structure AlmChange where
  contracts : List Contract
  frame : Word
  floor : Nat
  deriving DecidableEq, Repr

/-- The Almanac and the Weir (04). -/
structure AlmSt where
  gen : Word
  contracts : List Contract
  floor : Nat
  /-- The frame from which the committed copy has been in force (Table 4-5). -/
  since : Word
  pend : List AlmChange
  /-- Quanta waiting: first frame, tenant, quantum (R110). -/
  quanta : List (Word × Nat × Nat)
  /-- Mode changes waiting: first frame, mode (R107). -/
  mode : List (Word × Nat)
  /-- Weir rounds by root link: next tenant, visited tenants, deficits (R108). -/
  deficit : Tab Nat
  visited : Tab Bool
  nextTen : Tab Nat
  /-- By root port, 1 + the tenant whose turn of the round is not over, or 0 (R108). -/
  turn : Tab Nat
  /-- Control time used in the running beat, in ticks, and the tenant whose control transaction is next, by root port
  (R106). -/
  ctlUsed : Tab Nat
  ctlTurn : Tab Nat
  /-- The next place in the Weir's lists (R45, R108). -/
  order : Nat
  /-- By quad, the tick from which its next transaction may start (R17, R314). -/
  starts : Tab Nat
  /-- By link and direction, the tick at which the charges of what was started end (R38). -/
  busy : Tab Nat
  deriving DecidableEq, Repr

/-- A slot of one opened frame, with the strike placed in it and whether it has departed (R98, R128). -/
structure FSlot where
  slot : Slot
  strike : Option (Nat × Half)
  gone : Bool
  deriving DecidableEq, Repr

/-- One of the three open frames (R16). -/
structure FrameRec where
  number : Word
  slots : List FSlot
  deriving DecidableEq, Repr

/-- A packet in a standing receive area with its arrival tick and frame (R102). -/
structure StandPkt where
  data : List Byte
  tick : DWord
  frame : Word
  deriving DecidableEq, Repr

/-- The kinds of transfer (Table 6-3). -/
inductive XKind where
  | control | bulk | periodic | strike
  deriving DecidableEq, Repr

/-- An endpoint direction of a device (R41, R44, R45, R118, R188). -/
structure Ep where
  addr : Nat
  ep : Nat
  dirIn : Bool
  isOpen : Bool
  owner : Nat
  kind : XKind
  mps : Nat
  basin : Nat
  pool : Option Nat
  backoff : Nat
  waiting : Bool
  waitBeat : Bool
  halted : Bool
  errs : Nat
  toggle : Bool
  seq : Nat
  /-- RESET_COUNT of the place last read before the first of the present failures (R201). -/
  resetSeen : Nat
  /-- The fourth failure awaits the port check of R56. -/
  checking : Bool
  closing : Bool
  /-- The takeover after which the endpoint was last cleared (R391). -/
  cleared : Nat
  deriving DecidableEq, Repr

/-- The tokens that open a transaction (Tables 2-5 and 2-6). -/
inductive TxKind where
  | inTok | outTok | setup | strikeTok | disarm | retract
  deriving DecidableEq, Repr

/-- Where a transaction stands: it reaches its device without a translator, or it is at its start split, waits for its
complete split, or is at its complete split (R39, R49). -/
inductive TxPhase where
  | direct | start | wait | complete
  deriving DecidableEq, Repr

/-- Whose work a transaction is. -/
inductive TxWork where
  | entry (q : Nat) (idx : Half)
  | standing (contract : Nat)
  | keeper (route : DWord)
  deriving DecidableEq, Repr

/-- A transaction outstanding on a link (R39). -/
structure Txn where
  link : Nat
  tag : Nat
  addr : Nat
  ep : Nat
  dirIn : Bool
  kind : TxKind
  phase : TxPhase
  work : TxWork
  bytes : List Byte
  nyets : Nat
  splitHub : Nat
  splitPort : Nat
  low : Bool
  /-- Beats that must pass before the next complete split (R49). -/
  beats : Nat
  /-- The beats, the running one among them, up to the last in which the contract's own complete-split slots serve the
  transaction (Table 4-3, R103). -/
  own : Nat
  outstanding : Bool
  /-- It has started, and its packets wait for the exit that a WAKE_REQ asks for (R240). -/
  unsent : Bool
  deriving DecidableEq, Repr

/-- A control transfer of the keeper, or its read of a hub's status endpoint, whose packets are on their way: the link and
the device, the place that asked, the setup bytes (none for a read), the stage of Table 2-11 (3 when it is over), whether it
succeeded, and the bytes it brought (R47, R198, R202). -/
structure KReq where
  link : Nat
  route : DWord
  asker : DWord
  addr : Nat
  ep : Nat
  setup : List Byte
  stage : Nat
  ok : Bool
  data : List Byte
  deriving DecidableEq, Repr

/-- An expected-topology entry (Table 8-6). -/
structure TopoEntry where
  route : DWord
  addr : Nat
  cls : Half
  verMin : Nat
  verMax : Nat
  speed : Nat
  policy : Nat
  flags : Nat
  owner : Nat
  serial : DWord
  deriving DecidableEq, Repr

/-- A hub descriptor (Table 8-4). -/
structure HubInfo where
  nports : Nat
  tt : Bool
  dual : Bool
  ttBuffers : Nat
  statusEp : Nat
  repeatDelay : Nat
  asym : Int
  deriving DecidableEq, Repr

/-- The steps of Table 8-8 and what the keeper awaits in a place. -/
inductive BringUp where
  | none
  | queued
  | reset (fails : Nat)
  | desc8 (fails : Nat)
  | desc32 (fails : Nat)
  | hubDesc (fails : Nat)
  | setAddr (fails : Nat)
  | feature (fails : Nat)
  | probe (n fails : Nat) (rtts : List Nat)
  | setDelay (fails : Nat)
  | waiting
  deriving DecidableEq, Repr

/-- A place of the tree and the device that stands there (08). -/
structure Place where
  route : DWord
  addr : Nat
  present : Bool
  connected : Bool
  enabled : Bool
  cause : Nat
  owner : Nat
  speed : Nat
  version : Nat
  cls : Half
  serial : DWord
  desc : List Byte
  hub : Option HubInfo
  delay : Nat
  resetCount : Nat
  babbles : List Word
  flaps : List DWord
  step : BringUp
  /-- Bring-up is autonomous, or follows a port reset (step 4 of Table 8-8, R57). -/
  keptByReset : Bool
  autonomous : Bool
  forced : Option Nat
  /-- A disable through the parent hub has been asked for (R225). -/
  disabling : Bool
  /-- The F/L port below a hub dozes (R221). -/
  doze : Bool
  /-- LINK_DELAY last read for the port (R66, Table 8-5). -/
  linkDelay : Nat
  /-- When the last device went: queue pairs with entries posted before, and how far (R216; log entry 31). -/
  before : List (Nat × Half)
  /-- A port reset through the parent hub has been asked for (R226). -/
  resetAsked : Bool
  /-- Ports of this hub whose status the keeper is to read (R56, R202, Table 8-8 step 7). -/
  reads : List Nat
  /-- The keeper is to clear DOZE at the hub port (R221, R223). -/
  dozeExit : Bool
  /-- The keeper is to set DOZE at the hub port (R221). -/
  dozeAsked : Bool
  /-- Frames since the hub port's last traffic (R221). -/
  idleFrames : Nat
  /-- The path delay that SET_PATH_DELAY is to write; `delay` is the one in use (R66). -/
  delayNext : Nat
  /-- The path delay is to be measured again once the present measurement is over (R66). -/
  remeasureDue : Bool
  /-- The address of the device that stood in the place last, when it went (R214, R216). -/
  wasAddr : Nat
  /-- The frame in which the keeper's latest read of the hub's status endpoint fell due (R202). -/
  pollAt : Word
  deriving DecidableEq, Repr

/-- The state of a root link or twin lane beyond its registers (09, R221 to R224). Links are numbered 2 × port for the
H lane, 2 × port + 1 for the pair, and 32 + k for twin lane k. -/
structure Link where
  /-- Good TS1 and FAST or plain TS2 sets received in the present training (R232, R243). -/
  lock : Nat
  ts2 : Nat
  peer : Word
  /-- The agreed version as in Table 10-8, 0 while none is agreed (R23). -/
  ver : Nat
  mismatch : Bool
  /-- This side ran its port's last capability step (R58). -/
  capLast : Bool
  quick : Bool
  dirDrowse : Bool
  /-- Attempts of the pair's capability step (R236), or unbroken detect pulses of a twin lane. -/
  attempts : Nat
  /-- A device packet is arriving that delays SOF (R64). -/
  arriving : Bool
  sofHeld : Bool
  slotHeld : List Nat
  /-- The link has received its first SOF (R65). -/
  marked : Bool
  /-- In a resume window, or relocking after being parked (R222, R241). -/
  resume : Bool
  resumeEnded : Bool
  /-- Places whose wake was seen and is still to be reported (R224). -/
  wakes : List DWord
  resetWaits : Bool
  /-- Margin scan: direction 0 to 3, clean steps so far, far-end wait (R247). -/
  scanDir : Nat
  scanStep : Nat
  scanFar : Bool
  testIdle : Bool
  injectDue : Bool
  /-- Frames since the link's last traffic (R221). -/
  idleFrames : Nat
  /-- Both directions drowse under R241. -/
  parked : Bool
  /-- Tick of the entry to Doze, of the end of the resume signalling, or of the checker's lock. -/
  since : DWord
  /-- The SOF that the link holds back carries DISC (R64, R82). -/
  disc : Bool
  /-- The highest version that this end offers in the present bring-up (R59). -/
  cap : Nat
  /-- The tick at which the last SKP set was begun (R230). -/
  skp : DWord
  /-- The tick of the WAKE_REQ that has had no exit yet (R240). -/
  wakeReq : Option DWord
  deriving DecidableEq, Repr

/-- States of a queue pair (Table 6-2). -/
inductive QpState where
  | disabled | running | draining | halted | faulted
  deriving DecidableEq, Repr

/-- Where a submission entry stands. -/
inductive EPhase where
  | queued | started | flushing | finished
  deriving DecidableEq, Repr

/-- Where a strike stands (R116 to R134). -/
inductive StrikePhase where
  | unplaced | placed | staged | acked | committed | settling | withdrawing | readStatus
  deriving DecidableEq, Repr

/-- A submission entry in the descriptor cache (Table 6-3) with its run. -/
structure Entry where
  idx : Half
  kind : XKind
  dirIn : Bool
  prog : Bool
  zlp : Bool
  noIrq : Bool
  actMode : Nat
  addr : Nat
  ep : Nat
  len : Nat
  buf : DWord
  setup : List Byte
  act : DWord
  tag : DWord
  route : DWord
  phase : EPhase
  status : Byte
  count : Nat
  stage : Nat
  flags : Byte
  tick : DWord
  frame : Word
  /-- OUT: bytes in the basin not yet sent. IN: bytes accepted and not yet written. -/
  data : List Byte
  /-- Bytes not yet requested from, or not yet written to, host memory (XFER, R181). -/
  xfer : Nat
  /-- IN: the writes to host memory that no flush read has proved yet (R176, R178). -/
  unflushed : List (DWord × List Byte)
  /-- First element assigned, counted from the program's start, and how many (R171). -/
  chan : Nat
  slot : Nat
  elem0 : Nat
  elems : Nat
  inFlight : Nat
  strike : StrikePhase
  seq : Nat
  tAct : DWord
  commitAt : DWord
  actFrame : Word
  slotFrame : Word
  slotContract : Nat
  slotBeat : Nat
  maybeHeld : Bool
  wStatus : Byte
  /-- A withdrawal packet has been sent for the strike (R133, R134). -/
  wSent : Bool
  /-- A DISARM of the strike failed and is to be sent again (R134). -/
  wAgain : Bool
  /-- The strike is to be placed again after a slip (R131, R138). -/
  slipped : Bool
  /-- GUARD_BEATS as its placement took it (R141). -/
  guard : Nat
  /-- The transfer has started, or the strike is placed or staged (A of R157). -/
  begun : Bool
  /-- The place in the Weir's list, by the order of entering it (R45, R108). -/
  order : Nat
  /-- The tick and frame of the transfer's last handshake (Table 6-7). -/
  last : Option (DWord × Word)
  /-- IN: the tick at which the oldest byte not yet written arrived on the bus (Table 7-1). -/
  arrived : DWord
  /-- OUT: a byte of the payload has been on the bus (R180). -/
  sent : Bool
  deriving DecidableEq, Repr

/-- A queue pair (06, 13 R336 to R338). -/
structure Qp where
  owner : Option Nat
  homeQuad : Nat
  sqBase : DWord
  sqSize : Nat
  cqBase : DWord
  cqSize : Nat
  headAddr : DWord
  vector : Nat
  configured : Bool
  state : QpState
  sqProd : Half
  sqCons : Half
  fetchIdx : Half
  cqProd : Half
  cqCons : Half
  headIdx : Half
  headEpoch : Half
  epoch : Half
  haltCause : Nat
  faultKind : Nat
  dbFault : Bool
  held : Bool
  bp : Bool
  contract : Option Nat
  entries : List Entry
  /-- Completions held, each with its NO_IRQ flag. -/
  holding : List (Bool × List Byte)
  missed : Nat
  late : Nat
  drops : Nat
  causes : Nat
  modCount : Nat
  modUsec : Nat
  unsignalled : Nat
  timer : Bool
  /-- Accepted submission doorbells whose entries are not all fetched: the value and its number (R166). -/
  doorbells : List (Half × Nat)
  dropped : Bool
  haltAddr : Nat
  /-- A disable from Halted aborts what has not started (R161). -/
  aborting : Bool
  /-- A hub status contract of T0 whose slots go on polling after T0's function-level reset (R321). -/
  polls : Bool
  /-- Entries before this index were queued when the contract's last slot passed (R113). -/
  closedTo : Option Half
  deriving DecidableEq, Repr

/-- States of a DMA channel (Table 7-4). -/
inductive ChState where
  | stopped | running | retrying | pausing | paused | halted
  deriving DecidableEq, Repr

/-- A loaded program slot (Table 7-2) and its position, as the number of elements consumed (R170 to R172). -/
structure Prog where
  base : DWord
  origin : DWord
  elemSize : Nat
  write : Bool
  sealed_ : Bool
  rep : Bool
  swap : Nat
  qp : Nat
  count0 : Nat
  count1 : Nat
  count2 : Nat
  step0 : Word
  step1 : Word
  step2 : Word
  salt : Word
  /-- Elements assigned since the load: the position (R172). -/
  pos : Nat
  /-- The element after the last committed one (R136). -/
  committed : Nat
  /-- Where the structure was fetched (R371). -/
  addr : DWord
  deriving DecidableEq, Repr

/-- A DMA channel (R168, R178 to R184). -/
structure Chan where
  owner : Option Nat
  state : ChState
  pause : Bool
  afterCount : Bool
  errWrite : Bool
  errKind : Nat
  retries : Nat
  errAddr : DWord
  loadRefused : Bool
  slots : Tab Prog
  /-- Slots whose structures are to be fetched: slot, address, number in doorbell order (R166, R169). -/
  loading : List (Nat × DWord × Nat)
  /-- Slots whose structures are to be fetched again, with the position they keep (R371). -/
  refetch : List (Nat × Prog)
  deriving DecidableEq, Repr

/-- What an issued host request is for (R165). -/
inductive ReqWhat where
  | subEntry (q : Nat)
  | payload (q : Nat) (idx : Half)
  | program (ch slot : Nat)
  | inWrite (q : Nat) (idx : Half)
  | flush (q : Nat) (idx : Half)
  | command (t : Nat)
  /-- A completion entry (R153). -/
  | completion (q : Nat)
  /-- A head record (R156). -/
  | head (q : Nat)
  deriving DecidableEq, Repr

/-- An issued host request. A write is listed with its bytes while it stands in the staging buffer (R167; log entry 133). -/
structure Req where
  id : Nat
  tenant : Nat
  what : ReqWhat
  addr : DWord
  len : Nat
  /-- The element of a payload read; for a flush read, how many writes it proves. -/
  elem : Nat
  tries : Nat
  data : Option (List Byte)
  deriving DecidableEq, Repr

/-- A cistern word in error: whether both of two bits have flipped, whether the patrol has found and counted it, and what it
belongs to (R190, R191; log entry 19). -/
structure BadWord where
  addr : BitVec 24
  double : Bool
  found : Bool
  who : Nat
  deriving DecidableEq, Repr

/-- The DMA engines: issued requests, and the round-robin turns of the read engine's classes 2 and 3 (R166). -/
structure DmaSt where
  chans : Tab Chan
  reqs : List Req
  nextId : Nat
  readTurn : Nat
  liveTurn : Nat
  /-- The number of the next doorbell or load (R166). -/
  dbNext : Nat
  /-- Cistern words in error (R190, R191). -/
  bad : List BadWord
  /-- Bytes of released units that await clearing, by tenant (R192). -/
  released : Tab Nat
  deriving DecidableEq, Repr

/-- A pool (R189). -/
structure Pool where
  size : Nat
  count : Nat
  reserve : Nat
  deriving DecidableEq, Repr

/-- A tenant's command path (R254 to R259, R265). -/
structure CmdPath where
  prod : Half
  cons : Half
  rplProd : Half
  rplCons : Half
  headIdx : Half
  headEpoch : Half
  epoch : Half
  ifVer : Nat
  /-- Event records held, in groups of records that belong together. -/
  held : List (List (List Byte))
  dropped : Nat
  deriving DecidableEq, Repr

/-- A Ledger entry (Table 10-12). -/
structure LedEntry where
  lseq : DWord
  time : DWord
  gen : Word
  seq : Word
  opcode : Half
  tenant : Nat
  status : Byte
  detail : Byte
  flags : Byte
  session : Half
  result : DWord
  digest : List Byte
  deriving DecidableEq, Repr

/-- A reply that waits for the partner's acknowledgement (R277). -/
structure HeldReply where
  lseq : DWord
  tenant : Nat
  record : List Byte
  irq : Bool
  deriving DecidableEq, Repr

/-- The Ledger (R273 to R277). -/
structure LedSt where
  entries : List LedEntry
  next : Word
  lstart : Word
  removed : Tab DWord
  waiting : List HeldReply
  deriving DecidableEq, Repr

/-- The running configuration (R286, R291) by sections. -/
structure RunCfg where
  topo : List TopoEntry
  /-- Tenant, enabled, units, channels. -/
  tenants : List (Nat × Bool × Nat × Nat)
  /-- First queue pair, count, tenant, home quad. -/
  queues : List (Nat × Nat × Nat × Nat)
  contracts : List Contract
  weirMode : Nat
  quanta : Tab Nat
  mrc : List Word
  autoIdle : Nat
  allowed : Tab Nat
  mrcPerm : Tab Bool
  sealPerm : Tab Bool
  partnerId : List Byte
  debugKey : List Byte
  secFlags : Nat
  glitchLimit : Nat
  deriving DecidableEq, Repr

/-- The kinds of scheduled soft reset (R299, R300, R367). -/
inductive Restart where
  | none | soft | activate | rollback | trial
  deriving DecidableEq, Repr

/-- A command that holds the chip lock while it waits: for its flash operation, or for the partner's answer (R267, R283,
R395). `lseq` is there once its entry is journalled. -/
structure ChipCmd where
  tenant : Nat
  op : Nat
  pkt : CmdPkt
  flash : Bool
  lseq : Option DWord
  deriving DecidableEq, Repr

/-- Configuration and firmware (11). -/
structure CfgSt where
  flash : Flash
  /-- The directory in force (Table 11-2): DIR_SEQ, GEN_HIGH, roles, flags. -/
  dirSeq : Word
  genHigh : Word
  active : Nat
  previous : Nat
  staged : Nat
  rejected : Bool
  fwBoot : Nat
  trial : Bool
  probation : Bool
  deadline : DWord
  dueRaised : Bool
  shadow : RunCfg
  shadowValid : Bool
  /-- The running configuration before any amendment (R291, R302). -/
  base : RunCfg
  /-- The staged image passed validation; the last validation failed. -/
  valid : Bool
  invalid : Bool
  check : Nat
  checkDetail : Nat
  checkSection : Nat
  checkOffset : Nat
  blocking : Word
  floor : Nat
  /-- The firmware image loaded into the engines. -/
  fwRunning : List Byte
  restart : Restart
  eraseDue : List Nat
  busy : Option ChipCmd
  /-- Share sizes to be reached as units are freed (R322). -/
  shares : Tab Nat
  /-- Tenants being taken out of the tenant map, whose teardown runs (R322). -/
  removing : List Nat
  deriving DecidableEq, Repr

/-- A Crier source (Table 13-2). -/
structure Src where
  enabled : Bool
  prio : Nat
  target : Nat
  pending : Bool
  active : Bool
  deriving DecidableEq, Repr

/-- An engine as the Crier sees it (R328 to R332): the stack of claimed sources with their priorities. -/
structure Eng where
  threshold : Nat
  stack : List (Nat × Nat)
  spurious : Nat
  deriving DecidableEq, Repr

/-- States of a level shim (R333). -/
inductive ShimState where
  | idle | sent | claimed
  deriving DecidableEq, Repr

/-- A level shim. -/
structure Shim where
  state : ShimState
  polarity : Bool
  level : Bool
  deriving DecidableEq, Repr

/-- The Crier (13). -/
structure CriSt where
  srcs : Tab Src
  engs : Tab Eng
  shims : Tab Shim
  /-- Firmware has made its settings of sources, engines and shims (R326; log entry 8). -/
  set_ : Bool
  deriving DecidableEq, Repr

/-- An MSI-X vector (R337). -/
structure Vec where
  addr : DWord
  data : Word
  mask : Bool
  pend : Bool
  deriving DecidableEq, Repr

/-- The power state of the host link (Table 14-1, R361): L0 with L0s and L1 under ASPM, L1, L1.2, or none. -/
inductive HostLink where
  | l0 | l1 | l12 | off
  deriving DecidableEq, Repr

/-- What the host link advertises (R361, Table 14-8): support for ASPM L0s and L1 and for the four L1 PM substates, the encoded
exit latencies, and the times of its port in microseconds. -/
structure HostLinkCaps where
  aspmL0s : Bool
  aspmL1 : Bool
  aspmL11 : Bool
  aspmL12 : Bool
  pciPmL11 : Bool
  pciPmL12 : Bool
  l0sExit : Nat
  l1Exit : Nat
  commonModeRestoreUs : Nat
  tPowerOnUs : Nat
  deriving DecidableEq, Repr

/-- The values of Table 14-8 (R361). -/
def HostLinkCaps.advertised : HostLinkCaps := ⟨true, true, true, true, true, true, 3, 3, 30, 70⟩

/-- PCIe state that the host controls (R303, R337, R360). Vectors are keyed by 64 × function + vector. -/
structure PcieSt where
  vfEnable : Bool
  /-- NumVFs as last set with VF Enable; a return of configuration space to its defaults leaves it known (R374). -/
  numVfs : Nat
  d3 : Tab Bool
  msixEnable : Tab Bool
  fnMask : Tab Bool
  vecs : Tab Vec
  perst : Bool
  /-- The link's capabilities, the host's enabling of L1.2, and the link's state (R350, R361). -/
  caps : HostLinkCaps
  l12 : Bool
  link : HostLink
  deriving DecidableEq, Repr

/-- Power (14). Domains are bit masks of Table 14-2. -/
structure PwrSt where
  /-- Domains that are powering up (R343). -/
  rising : Nat
  /-- The step of Table 14-6 that runs, 0 when none, and the state that is left: 1 Idle, 2 Sleep, 3 DeepSleep. -/
  returnStep : Nat
  returnFrom : Nat
  /-- Domains that the present low state has switched off (R353). -/
  dropped : Nat
  /-- The return leads to Sleep after a thermal trip (R357). -/
  thermal : Bool
  braceStart : DWord
  /-- The low states entered, each with the state before it in bits 15 to 8 and the tick of the change (R363). -/
  lows : List (Nat × DWord)
  lowAt : DWord
  /-- Entry is the automatic one to Idle (R347). -/
  idleAuto : Bool
  /-- Blocker 8 (R356). -/
  refused : Bool
  /-- The RTC count at a tick of bus time (R81). -/
  rtcBase : DWord
  rtcAt : DWord
  /-- The fraction of a tick kept in carrying bus time by the RTC, in 65,536ths (R81). -/
  rtcFrac : Nat
  deriving DecidableEq, Repr

/-- Resets and start-up (15). -/
structure RstSt where
  asserted : Bool
  keepLink : Bool
  wdogTimes : List DWord
  chipEvents : List (List Byte)
  trialAtReset : Bool
  coldPending : Bool
  /-- The gap of bus time that the release of the reset reported (R82). -/
  gap : DWord
  /-- A firmware return at this start: the version left and the cause of Table 11-8 (R300). -/
  fwLeft : Option (Word × Nat)
  deriving DecidableEq, Repr

/-- The twin pair (16). -/
structure TwnSt where
  txSeq : Word
  rxSeq : Word
  unacked : List (Word × Nat × List Byte)
  silent : Bool
  partnerStrap : Nat
  partnerRole : Nat
  partnerFw : Word
  partnerGen : Word
  lastTakeover : DWord
  /-- Takeovers since the cold start (Table 16-5); TWN_COUNT.TAKEOVERS is read-to-clear. -/
  takeovers : Nat
  switchFrame : Option Word
  switchAcked : Bool
  /-- Twice the bumps of PAIR_EPOCH still allowed, plus 1 while one is due (R393). -/
  bump : Nat
  offsetRun : Nat
  copied : Bool
  txKey : List Byte
  rxKey : List Byte
  pendingKey : Option (Word × List Byte × List Byte)
  /-- After a takeover: the tick from which a frame start sends the first SOF (R391). -/
  sofFrom : Option DWord
  /-- The contents of this member's latest HELLO (R413). -/
  hello : List Byte
  /-- Endpoints whose strike state is to be read before the first STRIKE after a takeover (R391). -/
  freshEndpoints : List Nat
  /-- Takeovers since the reset; each endpoint is cleared once after the last (R391). -/
  clears : Nat
  chunks : List (Nat × List Byte)
  deriving DecidableEq, Repr

/-- A tenant key (R410). -/
structure TenKey where
  key : List Byte
  label : Word
  deriving DecidableEq, Repr

/-- The Watchman (17): fuses, OTP, keys, challenge, glitches. -/
structure SecSt where
  deployed : Bool
  decommissioned : Bool
  debugOpen : Bool
  cert : List Byte
  keys : Tab TenKey
  identity : Bool
  challenge : Option (List Byte × DWord)
  glitches : List DWord
  unlockWaits : Bool
  burnWaits : List (Nat × Nat)
  deriving DecidableEq, Repr

/-- Slow pins and sensors (18). -/
structure PinSt where
  gpioIn : Half
  alert : Nat
  alertTemp : Nat
  smbAddr : Nat
  pwrEn : Bool
  wakeOut : Bool
  /-- The tick of the latest SYNC_IN edge (R448). -/
  syncEdge : Option DWord
  /-- The boundary whose SYNC_OUT pulse was driven last (R80). -/
  syncOut : Option DWord
  deriving DecidableEq, Repr

/-- The state of the block. -/
structure State where
  /-- Commands waiting, first in first out. -/
  pending : List Instr
  /-- What has been put on the outputs, oldest first. -/
  out : List Output
  /-- The model's own counter for free values (log entry 6). -/
  free : Nat
  /-- Register words, keyed by register and instance; an unlisted one reads as its reset word. -/
  regs : Tab Word
  /-- Holding copies of R8, keyed by function and register. -/
  holds : Tab Word
  time : TimeSt
  halt : HaltSt
  mrc : MrcSt
  alm : AlmSt
  frames : List FrameRec
  areas : Tab (List StandPkt)
  links : Tab Link
  places : Tab Place
  eps : Tab Ep
  txns : List Txn
  keeper : List KReq
  qps : Tab Qp
  dma : DmaSt
  pools : Tab Pool
  cmds : Tab CmdPath
  led : LedSt
  cfg : CfgSt
  cri : CriSt
  pcie : PcieSt
  pwr : PwrSt
  rst : RstSt
  twn : TwnSt
  sec : SecSt
  pins : PinSt
  deriving DecidableEq, Repr

/-- A blank flash (log entry 7). -/
def Flash.blank : Flash := ⟨[], [], [], [], [], [], [], [], []⟩

/-- No configuration (R293), the Millrace at the defaults of R85. -/
def RunCfg.empty : RunCfg where
  topo := []
  tenants := []
  queues := []
  contracts := []
  weirMode := 0
  quanta := []
  mrc := [0x04000140, 0x9C46ACFC, 0x89544, 0x7A120, 0, 0x0C000004, 0]
  autoIdle := 0
  allowed := []
  mrcPerm := []
  sealPerm := []
  partnerId := List.replicate 32 0
  debugKey := List.replicate 32 0
  secFlags := 0
  glitchLimit := 4

/-- The block right after the power-on reset: every register at its reset value, nothing configured, stage 0
(R9, R367, R375; log entries 4, 5, 7, 8 and 9). -/
def State.reset : State where
  pending := []
  out := []
  free := 0
  regs := []
  holds := []
  time := ⟨0, 0, 0, 500000, 0, false, 0, 0, 0, 0, false, 0, 0, 0, 1, 0⟩
  halt := ⟨false, 0, false, true, false, [], []⟩
  mrc := ⟨0, 0, 0, 0, none, none, 0, 0, [], 0, 0, RunCfg.empty.mrc, [], true, 0, false⟩
  alm := ⟨0, [], 250000, 0, [], [], [], [], [], [], [], [], [], 0, [], []⟩
  frames := [⟨0, []⟩, ⟨1, []⟩, ⟨2, []⟩]
  areas := []
  links := []
  places := []
  eps := []
  txns := []
  keeper := []
  qps := []
  dma := ⟨[], [], 0, 0, 0, 0, [], []⟩
  pools := []
  cmds := []
  led := ⟨[], 1, 0, [], []⟩
  cfg := ⟨Flash.blank, 0, 0, 0xFF, 0xFF, 0xFF, false, 0, false, false, 0, false, RunCfg.empty, false,
    RunCfg.empty, false, false, 0, 0, 0, 0, 0, 0, [], .none, [], none, [], []⟩
  cri := ⟨[], [], [], false⟩
  pcie := ⟨false, 0, [], [], [], [], false, .advertised, false, .l0⟩
  pwr := ⟨0, 0, 0, 0, false, 0, [], 0, false, false, 0, 0, 0⟩
  rst := ⟨false, false, [], [], false, true, 0, none⟩
  twn := ⟨0, 0, [], false, 0, 0, 0, 0, 0, 0, none, false, 0, 0, false, [], [], none, none, [], [], 0, []⟩
  sec := ⟨false, false, false, List.replicate 256 0, [], false, none, [], false, []⟩
  pins := ⟨0, 0, 100, 0, true, false, none, none⟩

end Sys2Proof.Machine
end

