-- ==== Sys2Proof/Machine/Flags.lean ====
section
/-!
DEFINITION. Conditions and index arithmetic: serial comparison, ring counts, doorbell acceptance, back-pressure.
-/
namespace Sys2Proof.Machine

/-- Frame a is later than frame b (R61). -/
def laterFrame (a b : Word) : Bool := decide (1 ≤ (a - b).toNat ∧ (a - b).toNat ≤ 2 ^ 31 - 1)

/-- Frame a is b or later (R61). -/
def atOrAfter (a b : Word) : Bool := a == b || laterFrame a b

/-- The later of two frames (R61, R121). -/
def maxFrame (a b : Word) : Word := if laterFrame b a then b else a

/-- Entries between a consumer and a producer index (R145). -/
def idxCount (prod cons : Half) : Nat := (prod - cons).toNat

/-- A submission doorbell value is accepted (R146). -/
def sqDbOk (v prod cons : Half) (size : Nat) : Bool :=
  decide (idxCount v cons ≤ size) && decide (idxCount prod cons ≤ idxCount v cons)

/-- A completion doorbell value is accepted (R147). -/
def cqDbOk (v head cons : Half) : Bool := decide (idxCount v cons ≤ idxCount head cons)

/-- Free slots R of the completion ring (R157). -/
def Qp.ringFree (q : Qp) : Nat := q.cqSize - idxCount q.cqProd q.cqCons

/-- Free entries O of the holding area (R157). -/
def Qp.holdFree (q : Qp) : Nat := 64 - q.holding.length

/-- Transfers A that have started and not yet completed (R157). -/
def Qp.started (q : Qp) : Nat := (q.entries.filter (·.begun)).length

/-- The queue pair is enabled for R98 and R157 (R144). -/
def Qp.enabled (q : Qp) : Bool := q.state = .running ∨ q.state = .draining

/-- Back-pressure stands: A ≥ R + O on an enabled queue pair (R157, R144). -/
def Qp.bpNow (q : Qp) : Bool := q.enabled && decide (q.ringFree + q.holdFree ≤ q.started)

/-- The queue pair with its back-pressure flag brought up to date; the flag's rise sets the cause, which ends
moderation (R157, R158, R336). -/
def Qp.settleBp (q : Qp) : Qp :=
  if q.bpNow && !q.bp then
    if q.causes / 4 % 2 = 0 then { q with bp := true, causes := q.causes + 4, unsignalled := 0, timer := false }
    else { q with bp := true }
  else { q with bp := q.bpNow }

/-- A message is due because the rise of back-pressure made the cause set gain a member (R336). -/
def Qp.bpMessage (q : Qp) : Bool := q.bpNow && !q.bp && decide (q.causes / 4 % 2 = 0)

/-- Add with saturation at a field's maximum. -/
def satAdd (len v n : Nat) : Nat := min (v + n) (2 ^ len - 1)

/-- A value is a power of two between two bounds. -/
def powerOfTwoIn (n lo hi : Nat) : Bool := decide (lo ≤ n ∧ n ≤ hi) && (List.range 17).any fun k => n == 2 ^ k

/-- The quad of a root port. -/
def quadOf (port : Nat) : Nat := port / 4

end Sys2Proof.Machine
end

