-- ==== Sys2Proof/Machine/Operands.lean ====
section
/-!
DEFINITION. Operand forms: byte layouts, the two checks, the packets of both formats, and the capability word.
-/
namespace Sys2Proof.Machine

/-- A number as little-endian bytes (R4). -/
def leBytes : Nat → Nat → List Byte
  | 0, _ => []
  | n + 1, v => BitVec.ofNat 8 v :: leBytes n (v / 256)

/-- Little-endian bytes as a number (R4). -/
def leNat : List Byte → Nat
  | [] => 0
  | b :: r => b.toNat + 256 * leNat r

/-- A field of a record by offset and size in bytes. -/
def fieldAt (b : List Byte) (off size : Nat) : Nat := leNat ((b.drop off).take size)

/-- A run of bits of a number. -/
def bitsOf (v lo len : Nat) : Nat := v / 2 ^ lo % 2 ^ len

/-- Bytes cut or padded with zeros to a length. -/
def padTo (n : Nat) (b : List Byte) : List Byte := b.take n ++ List.replicate (n - b.length) 0

/-- One bit of the CRC8 division (R34). -/
def crc8Bit (c : Byte) : Byte := if c.msb then (c <<< 1) ^^^ 7 else c <<< 1

/-- One byte of the CRC8 (R34). -/
def crc8Byte (c b : Byte) : Byte :=
  crc8Bit (crc8Bit (crc8Bit (crc8Bit (crc8Bit (crc8Bit (crc8Bit (crc8Bit (c ^^^ b))))))))

/-- CRC8 (R34). -/
def crc8 (b : List Byte) : Byte := b.foldl crc8Byte 0

/-- One bit of the CRC32 division (R35). -/
def crc32Bit (c : Word) : Word := if c.getLsbD 0 then (c >>> 1) ^^^ 0xEDB88320 else c >>> 1

/-- One byte of the CRC32 (R35). -/
def crc32Byte (c : Word) (b : Byte) : Word :=
  crc32Bit (crc32Bit (crc32Bit (crc32Bit (crc32Bit (crc32Bit (crc32Bit (crc32Bit (c ^^^ b.setWidth 32))))))))

/-- CRC32 (R35). -/
def crc32 (b : List Byte) : Word := ~~~(b.foldl crc32Byte 0xFFFFFFFF)

/-- CRC32 in the order sent, least significant byte first (R35). -/
def crc32Bytes (b : List Byte) : List Byte := leBytes 4 (crc32 b).toNat

/-- The bytes followed by their CRC8. -/
def withCrc8 (b : List Byte) : List Byte := b ++ [crc8 b]

/-- Packet types (Table 2-4). -/
inductive Pid where
  | out | ack | data0 | beat | sof | nyet | strike | halt | inTok | nak | data1 | disarm | setup | stall | retract
  deriving DecidableEq, Repr

/-- The type number of Table 2-4. -/
def Pid.code : Pid → Nat
  | .out => 1 | .ack => 2 | .data0 => 3 | .beat => 4 | .sof => 5 | .nyet => 6 | .strike => 7 | .halt => 8
  | .inTok => 9 | .nak => 10 | .data1 => 11 | .disarm => 12 | .setup => 13 | .stall => 14 | .retract => 15

/-- The packet type of a number; 0 is reserved. -/
def Pid.ofCode : Nat → Option Pid
  | 1 => some .out | 2 => some .ack | 3 => some .data0 | 4 => some .beat | 5 => some .sof | 6 => some .nyet
  | 7 => some .strike | 8 => some .halt | 9 => some .inTok | 10 => some .nak | 11 => some .data1
  | 12 => some .disarm | 13 => some .setup | 14 => some .stall | 15 => some .retract | _ => none

/-- Byte 0 of a packet: the type and its ones' complement (R28). -/
def Pid.byte (p : Pid) : Byte := BitVec.ofNat 8 (p.code + 16 * (15 - p.code))

/-- The ADDR_EP field (Table 2-5). -/
def addrEp (addr ep : Nat) : Nat := addr % 4096 + 4096 * (ep % 16)

/-- How a token reaches a device behind a translator: hub address, hub port, complete split, L speed, kind (R31). -/
structure SplitTok where
  hub : Nat
  port : Nat
  complete : Bool
  low : Bool
  kind : Nat
  deriving DecidableEq, Repr

/-- The XFLAGS byte of a token (R31). -/
def xflags (tag : Nat) (sp : Option SplitTok) : Nat :=
  match sp with
  | none => tag % 8
  | some q => tag % 8 + 8 + (if q.complete then 16 else 0) + (if q.low then 32 else 0) + 64 * (q.kind % 4)

/-- The SPLIT field of a token (Table 2-6). -/
def splitField (sp : Option SplitTok) : Nat :=
  match sp with
  | none => 0
  | some q => q.hub % 4096 + 4096 * (q.port % 32)

/-- The first seven bytes of a format E token (Table 2-6). -/
def tokenHead (p : Pid) (addr ep tag : Nat) (sp : Option SplitTok) : List Byte :=
  p.byte :: leBytes 2 (addrEp addr ep) ++ leBytes 1 (xflags tag sp) ++ leBytes 3 (splitField sp)

/-- An IN, OUT or SETUP token in either format (Tables 2-5 and 2-6). -/
def tokenPkt (fmtE : Bool) (p : Pid) (addr ep tag : Nat) (sp : Option SplitTok) : List Byte :=
  if fmtE then withCrc8 (tokenHead p addr ep tag sp) else withCrc8 (p.byte :: leBytes 2 (addrEp addr ep))

/-- A STRIKE token (Table 2-6). -/
def strikePkt (addr ep tag seq : Nat) (sp : Option SplitTok) (act : Nat) : List Byte :=
  withCrc8 (tokenHead .strike addr ep tag sp ++ leBytes 1 seq ++ leBytes 8 act)

/-- A DISARM token (Table 2-6). -/
def disarmPkt (addr ep tag seq : Nat) (sp : Option SplitTok) : List Byte :=
  withCrc8 (tokenHead .disarm addr ep tag sp ++ leBytes 1 seq)

/-- A RETRACT token (Table 2-6). -/
def retractPkt (hub tag addr ep seq : Nat) : List Byte :=
  withCrc8 (Pid.retract.byte :: leBytes 2 (addrEp hub 0) ++ leBytes 1 (tag % 8) ++ leBytes 2 (addrEp addr ep) ++
    leBytes 1 seq)

/-- An SOF (Tables 2-5 and 2-6). -/
def sofPkt (fmtE : Bool) (frame : Word) (disc halt : Bool) (pairEpoch : Nat) (tick : DWord) : List Byte :=
  let fl := (if disc then 1 else 0) + (if halt then 2 else 0)
  let h := Pid.sof.byte :: leBytes 2 frame.toNat ++ leBytes 1 fl
  if fmtE then withCrc8 (h ++ leBytes 1 pairEpoch ++ leBytes 6 tick.toNat) else withCrc8 h

/-- A BEAT (Table 2-6). -/
def beatPkt (k : Nat) (frame : Word) (tick : DWord) : List Byte :=
  withCrc8 (Pid.beat.byte :: leBytes 1 (k % 8) ++ leBytes 2 frame.toNat ++ leBytes 6 tick.toNat)

/-- A HALT token, the same in both formats (Tables 2-5 and 2-6). -/
def haltPkt (cause : Byte) : List Byte := withCrc8 [Pid.halt.byte, cause]

/-- A handshake (Tables 2-5 and 2-6). -/
def handshakePkt (fmtE : Bool) (p : Pid) (tag : Nat) : List Byte :=
  if fmtE then withCrc8 [p.byte, BitVec.ofNat 8 (tag % 8)] else [p.byte]

/-- A data packet (Tables 2-5 and 2-6). -/
def dataPkt (fmtE toggle : Bool) (tag : Nat) (payload : List Byte) : List Byte :=
  let pid := if toggle then Pid.data1.byte else Pid.data0.byte
  let h := if fmtE then withCrc8 (pid :: BitVec.ofNat 8 (tag % 8) :: leBytes 2 (payload.length % 2048)) else [pid]
  h ++ payload ++ crc32Bytes payload

/-- What a receiver makes of a packet. -/
inductive RxPkt where
  /-- Discarded with no response; nothing of it can be read (R26 to R28, R36). -/
  | discarded
  /-- A handshake with its tag. -/
  | shake (p : Pid) (tag : Nat)
  /-- A data packet whose checks pass. -/
  | data (toggle : Bool) (tag : Nat) (payload : List Byte)
  /-- A data packet with a good header whose CRC32 or LENGTH fails (R36). -/
  | dataBad (tag : Nat)
  /-- A well-formed packet of a type that answers no transaction; a type that has no TAG gives 8, which no transaction holds. -/
  | other (p : Pid) (tag : Nat)
  deriving DecidableEq, Repr

/-- Receive a packet that answers a transaction, by the checks of R26 to R28 and R36. -/
def receive (fmtE : Bool) (rx : LineRx) : RxPkt :=
  match rx.bytes with
  | [] => .discarded
  | b0 :: rest =>
    let t := b0.toNat % 16
    if !rx.lineOk || b0.toNat / 16 != 15 - t then .discarded
    else match Pid.ofCode t with
    | none => .discarded
    | some p =>
      let isData := p = .data0 ∨ p = .data1
      let isShake := p = .ack ∨ p = .nak ∨ p = .stall ∨ p = .nyet
      if fmtE then
        let hdr := if isData then 5 else if isShake then 3 else rx.bytes.length
        let h := rx.bytes.take hdr
        if h.length < hdr || h.length < 3 || crc8 (h.take (hdr - 1)) != (h.getD (hdr - 1) 0) then .discarded
        else
          let tag := (h.getD 1 0).toNat % 8
          if isShake then (if rx.bytes.length = 3 then .shake p tag else .discarded)
          else if isData then
            let body := rx.bytes.drop 5
            let n := body.length - 4
            if body.length < 4 || n != fieldAt h 2 2 % 2048 || crc32Bytes (body.take n) != body.drop n then .dataBad tag
            else .data (p = .data1) tag (body.take n)
          else .other p (if p = .sof ∨ p = .beat ∨ p = .halt then 8 else (h.getD 3 0).toNat % 8)
      else
        if p = .beat ∨ p = .nyet ∨ p = .strike ∨ p = .disarm ∨ p = .retract then .discarded
        else if isShake then (if rest.isEmpty then .shake p 0 else .discarded)
        else if isData then
          let n := rest.length - 4
          if rest.length < 4 || crc32Bytes (rest.take n) != rest.drop n then .dataBad 0
          else .data (p = .data1) 0 (rest.take n)
        else if crc8 (rx.bytes.take (rx.bytes.length - 1)) != rx.bytes.getLastD 0 then .discarded
        else .other p 0

/-- Setup bytes (Table 8-2). -/
def setupBytes (b0 b1 value index len : Nat) : List Byte :=
  leBytes 1 b0 ++ leBytes 1 b1 ++ leBytes 2 value ++ leBytes 2 index ++ leBytes 2 len

/-- The capability word's highest and lowest version offered, as digit bytes (Table 2-2). -/
def capHi (w : Word) : Nat := getBits w 0 8

/-- The lowest version offered (Table 2-2). -/
def capLo (w : Word) : Nat := getBits w 8 8

/-- The version that two ranges agree: the highest valid one within both (R23). -/
def agreeVersion (hi1 lo1 hi2 lo2 : Nat) : Option Nat :=
  (validVersions.filter fun v => decide (v ≤ hi1 ∧ v ≤ hi2 ∧ lo1 ≤ v ∧ lo2 ≤ v)).getLast?

end Sys2Proof.Machine
end

