-- ==== Sys2Proof/Machine/Ops.lean ====
section
/-!
DEFINITION. The named operations that the meanings share: register words and fields, outputs, causes and messages,
windows and host accesses, event records, and the end of every step.
-/
namespace Sys2Proof.Machine

/-! ### Registers -/

/-- A register word. -/
def State.reg (s : State) (r : Reg) (i : Nat) : Word := Tab.getD s.regs (r.ctorIdx * 4096 + i) r.resetWord

/-- Set a register word. -/
def State.setReg (s : State) (r : Reg) (i : Nat) (w : Word) : State :=
  { s with regs := Tab.set s.regs (r.ctorIdx * 4096 + i) w }

/-- A field of a register. -/
def State.getF (s : State) (f : Fld) (i : Nat) : Nat := getBits (s.reg f.reg i) f.lo f.len

/-- A one-bit field of a register. -/
def State.bit (s : State) (f : Fld) (i : Nat) : Bool := s.getF f i == 1

/-- Set a field of a register. -/
def State.setF (s : State) (f : Fld) (i v : Nat) : State := s.setReg f.reg i (putBits (s.reg f.reg i) f.lo f.len v)

/-- Add to a counter field, which saturates. -/
def State.addF (s : State) (f : Fld) (i n : Nat) : State := s.setF f i (satAdd f.len (s.getF f i) n)

/-- A 64-bit value held in two registers (R8). -/
def State.reg64 (s : State) (lo hi : Reg) (i : Nat) : DWord := s.reg hi i ++ s.reg lo i

/-- Set a 64-bit value held in two registers. -/
def State.setReg64 (s : State) (lo hi : Reg) (i : Nat) (v : DWord) : State :=
  (s.setReg lo i (v.setWidth 32)).setReg hi i ((v >>> 32).setWidth 32)

/-- The key of a holding copy: the function, and the low half of the pair with its lane (R8). A row of the tenant summary
counts as function 256 + tenant (R455). -/
def holdKey (fn : Nat) (r : Reg) (i : Nat) : Nat := fn * 4096 + r.ctorIdx * 20 + (if r.perLane then i else 0)

/-- The low half of the pair of a holding copy. -/
def holdReg (k : Nat) : Reg := allRegs.getD (k % 4096 / 20) .gblChipId

/-- Every field that a reset class clears returns to its reset value, and the holding copies of the pairs that it clears
empty (R8, R9). -/
def State.clearRegs (s : State) (c : RClass) : State :=
  { s with
    regs := Tab.mapVal s.regs fun k w => (allRegs.getD (k / 4096) .gblChipId).afterReset c w
    holds := Tab.keep s.holds fun k _ => (holdReg k).clearMask c == 0 }

/-- A function-level reset: the fields cleared by function in one tenant's registers (R9, R317). -/
def State.clearFnRegs (s : State) (t : Nat) : State :=
  { s with
    regs := Tab.mapVal s.regs fun k w =>
      let r := allRegs.getD (k / 4096) .gblChipId
      if r.perFn && k % 4096 == t then r.afterReset .fn w else w
    holds := Tab.keep s.holds fun k _ => k / 4096 != t || (holdReg k).clearMask .fn == 0 }

/-! ### Outputs, free values, tables -/

/-- Put something on the outputs. -/
def State.emit (s : State) (o : Output) : State := { s with out := s.out ++ [o] }

/-- The free value of the present count (log entry 6). -/
def State.freeValue (s : State) : DWord := Config.freeWord s.free

/-- Move on to the next free value. -/
def State.nextFree (s : State) : State := { s with free := s.free + 1 }

/-- n free words from the present count, as bytes. -/
def State.freeBytes (s : State) (words : Nat) : List Byte :=
  (List.range words).flatMap fun k => leBytes 8 (Config.freeWord (s.free + k)).toNat

/-- Move on past n free values. -/
def State.skipFree (s : State) (n : Nat) : State := { s with free := s.free + n }

/-- A queue pair with nothing set. -/
def Qp.blank : Qp :=
  { owner := none, homeQuad := 0, sqBase := 0, sqSize := 0, cqBase := 0, cqSize := 0, headAddr := 0, vector := 0,
    configured := false, state := .disabled, sqProd := 0, sqCons := 0, fetchIdx := 0, cqProd := 0, cqCons := 0,
    headIdx := 0, headEpoch := 0, epoch := 0, haltCause := 0, faultKind := 0, dbFault := false, held := false,
    bp := false, contract := none, entries := [], holding := [], missed := 0, late := 0, drops := 0, causes := 0,
    modCount := 0, modUsec := 0, unsignalled := 0, timer := false, doorbells := [], dropped := false, haltAddr := 0, aborting := false, polls := false, closedTo := none }

/-- A queue pair. -/
def State.qp (s : State) (q : Nat) : Qp := Tab.getD s.qps q Qp.blank

/-- Set a queue pair. -/
def State.setQp (s : State) (q : Nat) (v : Qp) : State := { s with qps := Tab.set s.qps q v }

/-- Change a queue pair. -/
def State.modQp (s : State) (q : Nat) (f : Qp → Qp) : State := s.setQp q (f (s.qp q))

/-- A command path with nothing set. -/
def CmdPath.blank : CmdPath := ⟨0, 0, 0, 0, 0, 0, 0, 0, [], 0⟩

/-- A tenant's command path. -/
def State.cmd (s : State) (t : Nat) : CmdPath := Tab.getD s.cmds t CmdPath.blank

/-- Change a tenant's command path. -/
def State.modCmd (s : State) (t : Nat) (f : CmdPath → CmdPath) : State :=
  { s with cmds := Tab.set s.cmds t (f (s.cmd t)) }

/-- A DMA channel with nothing set. -/
def Chan.blank : Chan := ⟨none, .stopped, false, false, false, 0, 0, 0, false, [], [], []⟩

/-- A DMA channel. -/
def State.chan (s : State) (c : Nat) : Chan := Tab.getD s.dma.chans c Chan.blank

/-- Change a DMA channel. -/
def State.modChan (s : State) (c : Nat) (f : Chan → Chan) : State :=
  { s with dma := { s.dma with chans := Tab.set s.dma.chans c (f (s.chan c)) } }

/-- A link with nothing set. -/
def Link.blank : Link :=
  { lock := 0, ts2 := 0, peer := 0, ver := 0, mismatch := false, capLast := false, quick := false, dirDrowse := false,
    attempts := 0, arriving := false, sofHeld := false, slotHeld := [], marked := false, resume := false,
    resumeEnded := false, wakes := [], resetWaits := false, scanDir := 0, scanStep := 0, scanFar := false,
    testIdle := false, injectDue := false, idleFrames := 0, parked := false, since := 0, disc := false,
    cap := 0, skp := 0, wakeReq := none }

/-- A link. -/
def State.link (s : State) (l : Nat) : Link := Tab.getD s.links l Link.blank

/-- Change a link. -/
def State.modLink (s : State) (l : Nat) (f : Link → Link) : State :=
  { s with links := Tab.set s.links l (f (s.link l)) }

/-- The link of a side of a root port (R194). -/
def linkOf (p : Nat) (sd : Side) : Nat := 2 * p + (if sd = .h then 0 else 1)

/-- The side of a link. -/
def sideOf (l : Nat) : Side := if l % 2 = 0 then .h else .p

/-- The root port of a link. -/
def portOf (l : Nat) : Nat := l / 2

/-- The highest version that a root port offers (R23, R59). -/
def State.protoCap (s : State) (p : Nat) : Nat :=
  16 * s.getF Fld.prtProtoCapCapMajor p + s.getF Fld.prtProtoCapCapMinor p

/-- The speed of what is sent to the device on a link itself: 3 H, 2 F, 1 L (R235). -/
def State.linkSpeed (s : State) (l : Nat) : Nat := if l % 2 = 0 then 3 else s.getF Fld.prtLaneStatusPSpeed (l / 2)

/-- An H link that drowses outbound is woken for what is due on it (R238, R239; log entry 135). -/
def State.wakeLane (s : State) (l : Nat) : State :=
  if l % 2 = 0 && s.bit Fld.prtLaneStatusHTxDrowse (l / 2) then
    (s.setF Fld.prtLaneStatusHTxDrowse (l / 2) 0).emit (.signal l "wake burst")
  else s

/-- The key of an endpoint direction. -/
def epKey (addr ep : Nat) (dirIn : Bool) : Nat := addr * 32 + ep * 2 + (if dirIn then 1 else 0)

/-- An endpoint direction with nothing set; the Vohus's own room for address 0 is not limited (log entry 35). -/
def Ep.blank (addr ep : Nat) (dirIn : Bool) : Ep :=
  { addr := addr, ep := ep, dirIn := dirIn, isOpen := false, owner := 0, kind := .bulk, mps := 64,
    basin := if addr = 0 then 1048576 else 0,
    pool := none, backoff := 0, waiting := false, waitBeat := false, halted := false, errs := 0, toggle := false,
    seq := 0, resetSeen := 0, checking := false, closing := false, cleared := 0 }

/-- An endpoint direction. -/
def State.ep (s : State) (addr ep : Nat) (dirIn : Bool) : Ep :=
  Tab.getD s.eps (epKey addr ep dirIn) (Ep.blank addr ep dirIn)

/-- Change an endpoint direction. -/
def State.modEp (s : State) (addr ep : Nat) (dirIn : Bool) (f : Ep → Ep) : State :=
  { s with eps := Tab.set s.eps (epKey addr ep dirIn) (f (s.ep addr ep dirIn)) }

/-- Change every endpoint of a device. -/
def State.modDevEps (s : State) (addr : Nat) (f : Ep → Ep) : State :=
  { s with eps := Tab.mapVal s.eps fun _ e => if e.addr = addr then f e else e }

/-- The place with a route. -/
def State.place (s : State) (route : DWord) : Option Place := Tab.find s.places route.toNat

/-- Set a place. -/
def State.setPlace (s : State) (p : Place) : State := { s with places := Tab.set s.places p.route.toNat p }

/-- Change a place, if it stands. -/
def State.modPlace (s : State) (route : DWord) (f : Place → Place) : State :=
  match s.place route with
  | none => s
  | some p => s.setPlace (f p)

/-- The place of the device at an address. -/
def State.placeOf (s : State) (addr : Nat) : Option Place :=
  if addr = 0 then none else (s.places.find? fun e => e.2.addr == addr).map (·.2)

/-! ### The keeper's transfers -/

/-- Take the keeper's transfer that a test picks off the list, with the transfer if it is over (log entry 32). -/
def State.takeKreq (s : State) (pick : KReq → Bool) : State × Option KReq :=
  ({ s with keeper := s.keeper.filter fun k => !pick k }, s.keeper.find? fun k => pick k && k.stage == 3)

/-- The answer of a request: what its packets brought where they are over, else what the completion says. A round-trip time is
measured at the lane and always comes with the completion. -/
def KReq.answer (k : Option KReq) (given : KeeperReply) : KeeperReply :=
  match k with
  | none => given
  | some k => if !k.ok then .failed else match given with | .rtt t => .rtt t | _ => .data k.data

/-- The endpoint direction that a CLEAR_FEATURE ENDPOINT_HALT of the keeper names (Table 8-2, R391). -/
def KReq.clears (k : KReq) : Option (Nat × Bool) :=
  if k.ep = 0 ∧ fieldAt k.setup 0 2 = 0x0102 then some (fieldAt k.setup 4 1 % 16, decide (128 ≤ fieldAt k.setup 4 1)) else none

/-- A transfer of the keeper that no KEEPER_REQUEST_COMPLETE ends: GET_PORT_STATUS and GET_STRIKE_STATUS, whose outcomes have
rows of their own, a report read, and CLEAR_FEATURE. -/
def KReq.isRead (k : KReq) : Bool :=
  k.ep != 0 || fieldAt k.setup 0 2 == 0x00A3 || fieldAt k.setup 0 2 == 0x3280 || k.clears.isSome

/-! ### Functions, causes and messages -/

/-- The tenant's function exists (R303). -/
def State.exists_ (s : State) (t : Nat) : Bool :=
  t == 0 || (s.pcie.vfEnable && decide (1 ≤ t) && decide (t ≤ s.pcie.numVfs))

/-- The tenant is enabled (R303). -/
def State.enabled (s : State) (t : Nat) : Bool := t == 0 || s.bit Fld.gblTenStateEnabled t

/-- A function-level reset of the tenant runs (R317). -/
def State.flrBusy (s : State) (t : Nat) : Bool := s.bit Fld.gblTenStateFlrBusy t

/-- The tenant has an open session (R263). -/
def State.sessionOpen (s : State) (t : Nat) : Bool := s.bit Fld.tenCmdStatusSessionOpen t

/-- A message falls due on a vector of a function (R317, R337, R360). -/
def State.msix (s : State) (t vec : Nat) : State :=
  let v := Tab.getD s.pcie.vecs (64 * t + vec) ⟨0, 0, true, false⟩
  if !s.exists_ t || s.flrBusy t || !Tab.getD s.pcie.msixEnable t true then s
  else if v.mask || Tab.getD s.pcie.fnMask t false || Tab.getD s.pcie.d3 t false then
    { s with pcie := { s.pcie with vecs := Tab.set s.pcie.vecs (64 * t + vec) { v with pend := true } } }
  else s.emit (.msix t vec)

/-- The vector of a tenant cause (Table 13-5). -/
def State.causeVector (s : State) (t bit : Nat) : Nat :=
  if bit = 2 ∨ bit = 3 ∨ bit = 4 then s.getF Fld.tenCmdCtrlVector t else s.getF Fld.criEvtCtrlVector t

/-- Raise a tenant cause: the bit sets, and a message falls due when the enabled set gains a member (R335). -/
def State.raise (s : State) (t bit : Nat) : State :=
  let c := s.reg .criCause t
  if c.getLsbD bit then s
  else
    let s1 := s.setReg .criCause t (c ||| bitsMask bit 1)
    if (s.reg .criCauseEn t).getLsbD bit then s1.msix t (s.causeVector t bit) else s1

/-- Raise a cause to T0 and to every other tenant that a test names. -/
def State.raiseTo (s : State) (p : Nat → Bool) (bit : Nat) : State :=
  (List.range 256).foldl (fun s t => if p t then s.raise t bit else s) s

/-- The POWER cause, to every tenant with an open session (Table 13-5). -/
def State.raisePower (s : State) : State := s.raiseTo s.sessionOpen 8

/-- The MILLRACE cause, to T0 and to tenants with the Millrace permission (Table 13-5). -/
def State.raiseMillrace (s : State) : State :=
  s.raiseTo (fun t => t == 0 || Tab.getD s.cfg.shadow.mrcPerm t false) 10

/-- Set a bit of GBL_BUS_FAULT of a function (R21): ACCESS 0, ENCODING 1, DOMAIN_OFF 2. FIRST_OFFSET keeps its value while no
bit is set, until the next fault writes it (log entry 139). -/
def State.busFault (s : State) (fn off bit : Nat) : State :=
  let w := s.reg .gblBusFault fn
  let any := getBits w 0 3 != 0
  let w1 := if any then w ||| bitsMask 3 1 else putBits w 8 24 off
  let s1 := s.setReg .gblBusFault fn (w1 ||| bitsMask bit 1)
  if w.getLsbD bit then s1 else s1.raise fn 0

/-- Set queue-pair causes of a queue pair; a message falls due when the set gains a member, and it ends moderation
(R336). QERR 1, HALT 2, BACKPRESSURE 4, STANDING 8. -/
def State.qpCause (s : State) (q bit : Nat) : State :=
  let v := s.qp q
  if v.causes / bit % 2 = 1 then s
  else
    let s1 := s.setQp q { v with causes := v.causes + bit, unsignalled := 0, timer := false }
    match v.owner with
    | none => s1
    | some t => s1.msix t v.vector

/-- DB_FAULT of a queue pair, with the queue-error cause (R144, R146, R147). -/
def State.dbFault (s : State) (q : Nat) : State := (s.modQp q fun v => { v with dbFault := true }).qpCause q 1

/-- A bit of the SMBus alert status sets: SMB_ALERT# is low while any bit is 1 (R439, Table 18-12). -/
def State.alert (s : State) (bit : Nat) : State :=
  let a := s.pins.alert
  if a / 2 ^ bit % 2 = 1 then s
  else
    let s1 := { s with pins := { s.pins with alert := a + 2 ^ bit } }
    if a = 0 then s1.emit (.pin "SMB_ALERT#" false) else s1

/-- The Steward records a chip event: 64 bytes whose content the spec does not give, the latest 255 kept, with the
cause to T0 and the SMBus alert (Table 13-5, Table 15-1, Table 18-12; log entry 6). -/
def State.chipEvent (s : State) : State :=
  let log := s.rst.chipEvents ++ [s.freeBytes 8]
  let s1 := { s.skipFree 8 with rst := { s.rst with chipEvents := log.drop (log.length - 255) } }
  (s1.alert 3).raise 0 14

/-! ### Host windows (R307 to R309) -/

/-- The base of a window. -/
def State.winBase (s : State) (t w : Nat) : Nat :=
  (s.reg64 .gblWinBaseLo .gblWinBaseHi (t * 16 + w)).toNat / 4096 * 4096

/-- The last byte of a window; bits 11 to 0 are taken as 0xFFF. -/
def State.winLimit (s : State) (t w : Nat) : Nat :=
  (s.reg64 .gblWinLimitLo .gblWinLimitHi (t * 16 + w)).toNat / 4096 * 4096 + 4095

/-- An access of a tenant is permitted: all its bytes lie inside one enabled window that grants it (R307). -/
def State.windowOk (s : State) (t : Nat) (addr : DWord) (len : Nat) (write : Bool) : Bool :=
  (List.range 16).any fun w =>
    s.bit Fld.gblWinAttrEn (t * 16 + w) &&
    (if write then s.bit Fld.gblWinAttrWrite (t * 16 + w) else s.bit Fld.gblWinAttrRead (t * 16 + w)) &&
    decide (s.winBase t w ≤ addr.toNat ∧ addr.toNat + len ≤ s.winLimit t w + 1)

/-- What every window refusal sets (R308). -/
def State.isoRefuse (s : State) (t : Nat) (addr : DWord) : State :=
  (((s.setF Fld.tenIsoFaultWindow t 1).addF Fld.tenIsoFaultRefused t 1).setReg64 .tenIsoAddrLo .tenIsoAddrHi t addr).raise t 5

/-- A doorbell of a queue pair that the function does not own (R324). -/
def State.foreign (s : State) (t : Nat) : State := (s.setF Fld.tenIsoFaultForeign t 1).raise t 5

/-! ### The reply ring (R254 to R259) -/

/-- The command path is enabled and not in fault. -/
def State.pathUp (s : State) (t : Nat) : Bool := s.bit Fld.tenCmdCtrlEnable t && !s.bit Fld.tenCmdStatusFaulted t

/-- The command path enters fault (R255). -/
def State.pathFault (s : State) (t : Nat) : State := (s.setF Fld.tenCmdStatusFaulted t 1).raise t 1

/-- Free slots of the reply ring. -/
def State.rplRoom (s : State) (t : Nat) : Nat :=
  2 ^ s.getF Fld.tenCmdCtrlRplSize t - idxCount (s.cmd t).rplProd (s.cmd t).rplCons

/-- Publish the reply head: the record, then the register copy, then the message (R156, R255). -/
def State.publishReply (s : State) (t : Nat) : State :=
  let c := s.cmd t
  let a := s.reg64 .tenRplHeadLo .tenRplHeadHi t
  if s.windowOk t a 4 true then
    (s.emit (.hostWrite t a (leBytes 2 c.rplProd.toNat ++ leBytes 2 c.epoch.toNat))).modCmd t fun c =>
      { c with headIdx := c.rplProd, headEpoch := c.epoch }
  else (s.isoRefuse t a).pathFault t

/-- Write one record at the producer index of the reply ring (Tables 10-2 and 10-3). -/
def State.putReply (s : State) (t : Nat) (rec : List Byte) : State :=
  let c := s.cmd t
  let size := 2 ^ s.getF Fld.tenCmdCtrlRplSize t
  let a := s.reg64 .tenRplBaseLo .tenRplBaseHi t + BitVec.ofNat 64 (c.rplProd.toNat % size * 32)
  if !s.pathUp t then s
  else if s.windowOk t a 32 true then
    (s.emit (.hostWrite t a (padTo 32 rec))).modCmd t fun c => { c with rplProd := c.rplProd + 1 }
  else (s.isoRefuse t a).pathFault t

/-- Publish while the path is up. -/
def State.publishUp (s : State) (t : Nat) : State := if s.pathUp t then s.publishReply t else s

/-- An event record (Table 10-3). -/
def eventRecord (session code kind cls d0 d1 d2 : Nat) : List Byte :=
  leBytes 3 0 ++ leBytes 1 code ++ leBytes 2 session ++ leBytes 1 kind ++ leBytes 1 cls ++ leBytes 8 d0 ++
    leBytes 8 d1 ++ leBytes 8 d2

/-- The first record of a group with the current session in it, or 0 if none is open (Table 10-3). -/
def State.stamp (s : State) (t : Nat) : List (List Byte) → List (List Byte)
  | [] => []
  | r :: rest =>
    (r.take 4 ++ leBytes 2 (if s.sessionOpen t then s.getF Fld.tenCmdStatusSession t else 0) ++ r.drop 6) :: rest

/-- The class of a group of event records. -/
def eventClass : List (List Byte) → Nat
  | [] => 0
  | r :: _ => (r.getD 7 0).toNat

/-- Records held. -/
def CmdPath.heldCount (c : CmdPath) : Nat := (c.held.map List.length).sum

/-- Write records that belong together, publish, and raise EVENT, and TREE for class 1 (R259, R335). -/
def State.putEvents (s : State) (t : Nat) (recs : List (List Byte)) : State :=
  let s1 := ((s.stamp t recs).foldl (fun s r => s.putReply t r) s).publishUp t
  if !s1.pathUp t then s1
  else
    let s2 := s1.raise t 3
    if eventClass recs = 1 then s2.raise t 4 else s2

/-- A group may be written now: the path is up with room in Run, and a tree or twin event waits for a session (R259, R363,
R377, R399; log entry 13). -/
def State.eventFits (s : State) (t : Nat) (recs : List (List Byte)) : Bool :=
  s.pathUp t && s.getF Fld.pwrStateState 0 == 0 && decide (recs.length ≤ s.rplRoom t) &&
  (s.sessionOpen t || (eventClass recs != 1 && eventClass recs != 4))

/-- An event for a tenant: written at once while nothing is held, else held, up to 8 records, else dropped and counted
(R259). -/
def State.event (s : State) (t : Nat) (recs : List (List Byte)) : State :=
  let c := s.cmd t
  if s.eventFits t recs && c.held.isEmpty && c.dropped == 0 then s.putEvents t recs
  else if c.dropped == 0 && decide (c.heldCount + recs.length ≤ 8) then
    s.modCmd t fun c => { c with held := c.held ++ [recs] }
  else s.modCmd t fun c => { c with dropped := c.dropped + 1 }

/-- A single event record for a tenant. -/
def State.event1 (s : State) (t cls code d0 d1 d2 : Nat) : State :=
  s.event t [eventRecord 0 code 1 cls d0 d1 d2]

/-- Whether a VF's or T0's requests get a power event: every tenant with an open session. -/
def State.eventAll (s : State) (cls code d0 d1 d2 : Nat) : State :=
  (List.range 256).foldl (fun s t => if s.sessionOpen t then s.event1 t cls code d0 d1 d2 else s) s

/-! ### Time -/

/-- Bus time (R60). -/
def State.now (s : State) : DWord := s.time.bus

/-- Bus time moves up to a tick, and never back (log entry 2). -/
def State.upTo (s : State) (tick : DWord) : State :=
  if s.time.bus.toNat < tick.toNat then { s with time := { s.time with bus := tick } } else s

/-- The start of beat k of the running frame (R62). -/
def State.beatStartTick (s : State) (k : Nat) : DWord := s.time.start + BitVec.ofNat 64 (k * s.time.len / 8)

/-! ### The end of a step -/

/-- Bring the back-pressure flag of every queue pair up to date and send the messages that this makes due
(R157, R158). -/
def settle (s : State) : State :=
  let due := s.qps.filter fun e => e.2.bpMessage
  let s1 := { s with qps := Tab.mapVal s.qps fun _ q => q.settleBp }
  due.foldl (fun s e =>
    match e.2.owner with
    | none => s
    | some t => s.msix t e.2.vector) s1

/-- How every meaning ends. -/
def done (s : State) : Host.Outcome State Fault Refusal := .next (settle s)

end Sys2Proof.Machine
end

