-- ==== Sys2Proof/Machine/Journal.lean ====
section
/-!
DEFINITION. Sending twin frames, and the Ledger: its entries, floors, registers and mirroring (10 R273 to R277, 16 R386).
-/
namespace Sys2Proof.Machine

/-- ROLE of TWN_STATUS: 0 single, 1 joining, 2 primary, 3 standby (Table 16-5). -/
def State.role (s : State) : Nat := s.getF Fld.twnStatusRole 0

/-- The twin link is up (R386). -/
def State.twinUp (s : State) : Bool := s.bit Fld.twnStatusLinkUp 0

/-- SYNC of TWN_STATUS: 0 none, 1 Syncing, 2 Synced, 3 Lost (R389). -/
def State.sync (s : State) : Nat := s.getF Fld.twnStatusSync 0

/-- Entries are mirrored to the partner (R277, R389). -/
def State.mirrors (s : State) : Bool := s.role == 2 && s.twinUp && !s.twn.silent && (s.sync == 1 || s.sync == 2)

/-- The nonce of a twin frame: SEQ and the sender's strap (R386). -/
def twinNonce (seq : Word) (strap : Nat) : List Byte := leBytes 4 seq.toNat ++ leBytes 1 strap

/-- The clear header of a twin frame (Table 16-1). -/
def twinHeader (type flags len : Nat) (seq ack : Word) : List Byte :=
  leBytes 1 type ++ leBytes 1 flags ++ leBytes 2 len ++ leBytes 4 seq.toNat ++ leBytes 4 ack.toNat

/-- Put a twin frame of a given number on the link, encrypted (R386). -/
def State.twinPut (s : State) (type flags : Nat) (seq : Word) (payload : List Byte) : State :=
  let strap := s.getF Fld.twnStatusStrap 0
  let h := twinHeader type flags payload.length seq s.twn.rxSeq
  s.emit (.twinFrame type flags seq (Config.gcmSeal s.twn.txKey (twinNonce seq strap) h payload))

/-- The key for a frame number: freshly agreed keys count from the number that a HELLO named (R413). -/
def keyFor (pending : Option (Word × List Byte × List Byte)) (seq : Word) (tx : Bool) (old : List Byte) : List Byte :=
  match pending with
  | some (n, t, r) => if n.toNat ≤ seq.toNat then (if tx then t else r) else old
  | none => old

/-- Send a twin frame; frames of types 3 to 8 are kept until acknowledged (R386). -/
def State.twinSend (s : State) (type : Nat) (payload : List Byte) : State :=
  if !s.twinUp then s
  else
    let seq := s.twn.txSeq + 1
    let s1 := { s with twn := { s.twn with
      txSeq := seq
      txKey := keyFor s.twn.pendingKey seq true s.twn.txKey
      unacked := if 3 ≤ type then s.twn.unacked ++ [(seq, type, payload)] else s.twn.unacked } }
    s1.twinPut type 0 seq payload

/-- What a HELLO says of a chip (Table 16-2). -/
def helloContent (strap role : Nat) (protocol : Half) (firmware generation : Word) (ephemeral : List Byte) : List Byte :=
  leBytes 1 strap ++ leBytes 1 role ++ leBytes 2 protocol.toNat ++ leBytes 4 firmware.toNat ++ leBytes 4 generation.toNat ++
    ephemeral

/-- Send a HELLO: at link up as frame 1, on a live link with the SEQ from which new keys count. The signature over both
chips' contents follows once the partner's are there (R386, R413; log entry 41). -/
def State.sendHello (s : State) (rekey : Option Word) : State :=
  let eph := s.freeBytes 8
  let c := helloContent (s.getF Fld.twnStatusStrap 0) s.role Config.twinProtocol (BitVec.ofNat 32 (fieldAt s.cfg.fwRunning 4 4))
    (s.reg .gblCfgGen 0) eph
  let seq := if rekey.isSome then s.twn.txSeq + 1 else 1
  let tail := match rekey with | some n => leBytes 4 n.toNat | none => []
  let s1 := { s.skipFree 8 with twn := { s.twn with txSeq := seq, hello := c } }
  s1.emit (.twinFrame 1 0 seq (c ++ s.sec.cert ++ tail))

/-- A twin event for T0, with the TWIN cause (R399, Table 16-4). -/
def State.twinEvent (s : State) (code d0 d1 : Nat) : State := (s.event1 0 4 code d0 d1 0).raise 0 15

/-- MIRROR_LAG follows the unacknowledged LEDGER frames (Table 10-20). -/
def State.setLag (s : State) : State :=
  s.setF Fld.ledStatusMirrorLag 0 (min ((s.twn.unacked.filter fun u => u.2.1 == 5).length) 65535)

/-- A Ledger entry as 64 bytes (Table 10-12). -/
def LedEntry.bytes (e : LedEntry) (hideDigest : Bool) : List Byte :=
  leBytes 8 e.lseq.toNat ++ leBytes 8 e.time.toNat ++ leBytes 4 e.gen.toNat ++ leBytes 4 e.seq.toNat ++
    leBytes 2 e.opcode.toNat ++ leBytes 1 e.tenant ++ [e.status, e.detail, e.flags] ++ leBytes 2 e.session.toNat ++
    leBytes 8 e.result.toNat ++ leBytes 8 0 ++ (if hideDigest then List.replicate 16 0 else padTo 16 e.digest)

/-- A Ledger entry from 64 bytes (Table 10-12). -/
def LedEntry.ofBytes (b : List Byte) : LedEntry where
  lseq := BitVec.ofNat 64 (fieldAt b 0 8)
  time := BitVec.ofNat 64 (fieldAt b 8 8)
  gen := BitVec.ofNat 32 (fieldAt b 16 4)
  seq := BitVec.ofNat 32 (fieldAt b 20 4)
  opcode := BitVec.ofNat 16 (fieldAt b 24 2)
  tenant := fieldAt b 26 1
  status := BitVec.ofNat 8 (fieldAt b 27 1)
  detail := BitVec.ofNat 8 (fieldAt b 28 1)
  flags := BitVec.ofNat 8 (fieldAt b 29 1)
  session := BitVec.ofNat 16 (fieldAt b 30 2)
  result := BitVec.ofNat 64 (fieldAt b 32 8)
  digest := (b.drop 48).take 16

/-- The floor of a tenant in a full Ledger (R275). -/
def ledFloor (t : Nat) : Nat := if t = 0 then 1024 else 16

/-- The oldest entry whose tenant holds more than its floor, by position (R275). -/
def evictIdx (es : List LedEntry) : Option Nat :=
  es.findIdx? fun e => decide (ledFloor e.tenant < (es.filter fun x => x.tenant == e.tenant).length)

/-- The Ledger's registers follow its contents (Tables 10-15 and 10-20). -/
def State.ledRegs (s : State) : State :=
  (s.setReg64 .ledHeadLo .ledHeadHi 0 (s.led.lstart ++ s.led.next)).setF Fld.ledStatusCount 0 s.led.entries.length

/-- Store an entry with a given LSEQ, evicting when the Ledger is full (R267, R275). -/
def State.ledStore (s : State) (e : LedEntry) : State :=
  let es := s.led.entries ++ [e]
  let led :=
    if es.length ≤ 8192 then { s.led with entries := es }
    else match evictIdx es with
      | none => { s.led with entries := es.drop 1 }
      | some i =>
        match es[i]? with
        | none => { s.led with entries := es.drop 1 }
        | some x => { s.led with entries := es.eraseIdx i, removed := Tab.set s.led.removed x.tenant x.lseq }
  let s1 := { s with led := { led with next := BitVec.ofNat 32 (e.lseq.toNat % 2 ^ 32) + 1 } }
  let s2 := s1.ledRegs
  if e.flags.getLsbD 0 then s2 else s2.setReg64 .ledLastLo .ledLastHi e.tenant e.lseq

/-- The LSEQ that the next entry receives (R273). -/
def State.nextLseq (s : State) : DWord := s.led.lstart ++ s.led.next

/-- Commit an entry: it receives its LSEQ, is stored, and is sent to a standby (R267, R273, R277). The payload of the
LEDGER frame carries the command's parameters after the entry, so that a standby can apply it (DESIGN CHOICE, log entry
29). -/
def State.journal (s : State) (e : LedEntry) (params : List Byte) : State :=
  let e1 := { e with lseq := s.nextLseq, time := s.now, gen := s.reg .gblCfgGen 0 }
  let s1 := s.ledStore e1
  if s1.mirrors then (s1.twinSend 5 (e1.bytes false ++ params)).setLag else s1

/-- An entry that the Vohus itself makes (R274). -/
def State.journalInternal (s : State) (op : Half) (result : DWord) : State :=
  s.journal ⟨0, 0, 0, 0, op, 0, 0, 0, 1, 0, result, []⟩ []

/-- An entry reads as visible to a tenant (R276). -/
def ledVisible (t : Nat) (e : LedEntry) : Bool := t == 0 || e.tenant == t || e.tenant == 0

/-- The Ledger is started empty under an increased LSTART, which goes to the epoch record (R273, R275). -/
def State.ledgerStart (s : State) (kind : Nat) : State :=
  let l := s.led.lstart + 1
  let s1 := { s with
    led := { s.led with entries := [], next := 1, lstart := l, removed := [], waiting := [] }
    time := { s.time with lstart := l } }
  let s2 := { s1 with regs := Tab.keep s1.regs fun k _ =>
    k / 4096 != Reg.ledLastLo.ctorIdx && k / 4096 != Reg.ledLastHi.ctorIdx }
  s2.journalInternal 1 (BitVec.ofNat 64 kind)

end Sys2Proof.Machine
end

