-- ==== Sys2Proof/Machine/Shadow.lean ====
section
/-!
DEFINITION. The running configuration as the shadow holds it: its sections in image format, and what amends it (11 R285, R286,
R291).
-/
namespace Sys2Proof.Machine

/-- The code of a standing depth (Table 4-1). -/
def depthCode (d : Nat) : Nat := if d = 1 then 0 else if d = 2 then 1 else if d = 4 then 2 else 3

/-- The record of a contract as admitted (CON_QUERY). -/
def Contract.record (c : Contract) : List Byte :=
  leBytes 2 c.addrEp.toNat ++ leBytes 1 ((if c.dirIn then 1 else 0) + (if c.strike then 2 else 0)) ++
    leBytes 1 c.interval ++ leBytes 2 c.maxp ++ leBytes 1 c.prio ++
    leBytes 1 ((if c.standing then 1 else 0) + (if c.mrcSrc then 2 else 0) + 4 * c.place) ++ leBytes 2 c.framePhase ++
    leBytes 1 c.beatPhase ++ leBytes 1 (depthCode c.depth) ++ leBytes 2 c.qp ++ leBytes 1 c.tenant ++ leBytes 1 0 ++
    leBytes 2 c.id ++ leBytes 14 0

/-- The contracts after every accepted change. -/
def State.latestContracts (s : State) : List Contract :=
  match s.alm.pend.getLast? with
  | none => s.alm.contracts
  | some ch => ch.contracts

/-- The quantum that a tenant has been given last (R110). -/
def State.quantum (s : State) (t : Nat) : Nat :=
  match (s.alm.quanta.filter fun e => e.2.1 == t).getLast? with
  | some e => e.2.2
  | none => s.getF Fld.tenWeirQuotaQuantum t

/-- The Weir is in strict mode, or will be (R107). -/
def State.strictNext (s : State) : Bool :=
  match s.alm.mode.getLast? with
  | some m => m.2 == 1
  | none => s.bit Fld.gblWeirCtrlMode 0

/-! ### Sections (Table 11-4) -/

/-- An expected-topology entry (Table 8-6). -/
def TopoEntry.bytes (e : TopoEntry) : List Byte :=
  leBytes 8 e.route.toNat ++ leBytes 2 e.addr ++ leBytes 2 e.cls.toNat ++ leBytes 1 e.verMin ++ leBytes 1 e.verMax ++
    leBytes 1 e.speed ++ leBytes 1 e.policy ++ leBytes 1 e.flags ++ leBytes 1 e.owner ++ leBytes 2 0 ++
    leBytes 8 e.serial.toNat ++ leBytes 4 0

/-- Bits of a tenant map as bytes, least significant first. -/
def tenantBits (f : Nat → Bool) : List Byte :=
  (List.range 32).map fun k => BitVec.ofNat 8 ((List.range 8).map fun j => if f (8 * k + j) then 2 ^ j else 0).sum

/-- The Millrace permission of a tenant as the policy records it (Table 17-5). -/
def RunCfg.millrace (c : RunCfg) (t : Nat) : Bool := Tab.getD c.mrcPerm t false

/-- SEALED allows a tenant (Table 17-5). -/
def RunCfg.seals (c : RunCfg) (t : Nat) : Bool := Tab.getD c.sealPerm t true

/-- The sections of a running configuration: type, COUNT and bytes. -/
def RunCfg.sections (c : RunCfg) : List (Nat × Nat × List Byte) :=
  [(1, c.topo.length, c.topo.flatMap TopoEntry.bytes),
   (2, c.tenants.length, c.tenants.flatMap fun x =>
     leBytes 1 x.1 ++ leBytes 1 (if x.2.1 then 1 else 0) ++ leBytes 2 x.2.2.1 ++ leBytes 4 0 ++ leBytes 8 x.2.2.2),
   (3, c.queues.length, c.queues.flatMap fun x =>
     leBytes 2 x.1 ++ leBytes 2 x.2.1 ++ leBytes 1 x.2.2.1 ++ leBytes 1 x.2.2.2 ++ leBytes 2 0),
   (4, c.contracts.length, c.contracts.flatMap Contract.record),
   (5, 1, leBytes 1 c.weirMode ++ leBytes 3 0 ++ (List.range 256).flatMap fun t => leBytes 2 (Tab.getD c.quanta t 0)),
   (6, 1, c.mrc.flatMap fun w => leBytes 4 w.toNat),
   (7, 1, leBytes 4 c.autoIdle ++ leBytes 4 0 ++ (List.range 256).flatMap fun t => leBytes 2 (Tab.getD c.allowed t 0x7FC)),
   (8, 1, tenantBits c.millrace ++ tenantBits c.seals ++ padTo 32 c.partnerId ++ padTo 32 c.debugKey ++ leBytes 4 c.secFlags ++
     leBytes 1 c.glitchLimit ++ leBytes 11 0)]

/-- Lay sections out from an offset, each at a multiple of 8 (R285): table entries and bytes. -/
def layOut : Nat → List (Nat × Nat × List Byte) → List Byte × List Byte
  | _, [] => ([], [])
  | at_, s :: rest =>
    let n := s.2.2.length
    let pad := (8 - n % 8) % 8
    let r := layOut (at_ + n + pad) rest
    (leBytes 2 s.1 ++ leBytes 2 0 ++ leBytes 4 at_ ++ leBytes 4 n ++ leBytes 4 s.2.1 ++ r.1,
      s.2.2 ++ leBytes pad 0 ++ r.2)

/-- A running configuration in image format, unsigned (R285, R291). -/
def RunCfg.image (c : RunCfg) (gen : Word) : List Byte :=
  let ss := c.sections
  let b := layOut (64 + 16 * ss.length) ss
  let n := 64 + b.1.length + b.2.length
  leBytes 4 0x47435856 ++ leBytes 2 0x100 ++ leBytes 2 ss.length ++ leBytes 4 gen.toNat ++ leBytes 4 n ++
    leBytes 4 0x4840 ++ leBytes 44 0 ++ b.1 ++ b.2

/-- VERSION of a firmware image (R298, Table 17-4). -/
def fwVersion (b : List Byte) : Word := BitVec.ofNat 32 (fieldAt b 4 4)

/-! ### Amendments (R291) -/

/-- Queue pairs q to q + n - 1 as ranges of one tenant and home quad, after the ranges found before. -/
def State.queueRanges (s : State) : List (Nat × Nat × Nat × Nat) :=
  let owned := s.qps.filterMap fun e => e.2.owner.map fun t => (e.1, t, e.2.homeQuad)
  (owned.foldl (fun acc x =>
    match acc with
    | r :: rest =>
      if r.1 + r.2.1 = x.1 ∧ r.2.2.1 = x.2.1 ∧ r.2.2.2 = x.2.2 then (r.1, r.2.1 + 1, r.2.2.1, r.2.2.2) :: rest
      else (x.1, 1, x.2.1, x.2.2) :: r :: rest
    | [] => [(x.1, 1, x.2.1, x.2.2)]) []).reverse

/-- The DMA channels of a tenant as a mask. -/
def State.channelMask (s : State) (t : Nat) : Nat :=
  (s.dma.chans.map fun c => if c.2.owner = some t then 2 ^ c.1 else 0).sum

/-- The running configuration as grants, contracts and quanta stand (R291). -/
def State.amended (s : State) : RunCfg :=
  let units := fun t => Tab.getD s.cfg.shares t (s.getF Fld.tenCisShareUnits t)
  let listed := (List.range 256).filter fun t => s.enabled t || units t != 0 || s.channelMask t != 0
  { s.cfg.shadow with
    tenants := listed.map fun t => (t, s.enabled t, units t, s.channelMask t)
    queues := s.queueRanges
    contracts := s.latestContracts
    weirMode := if s.strictNext then 1 else 0
    quanta := (List.range 256).filterMap fun t => if s.quantum t = 0 then none else some (t, s.quantum t) }

/-- The commands whose effect a section describes (R291). -/
def amends (op : Nat) : Bool :=
  [0x0301, 0x0302, 0x0501, 0x0502, 0x0601, 0x0602, 0x0603, 0x0605, 0x0606, 0x0801, 0x0802, 0x0B01, 0x0B02].contains op

/-- The amendment of a command that has been carried out enters the shadow (R291, R372). AMENDED tells whether the running
configuration now differs from the active image (R302). -/
def State.amend (s : State) : State :=
  let c := s.amended
  { s.setF Fld.gblCfgStateAmended 0 (if c.image 0 = s.cfg.base.image 0 then 0 else 1) with cfg := { s.cfg with shadow := c } }

/-- The running configuration would fit its 256 KiB (R291). -/
def State.amendFits (s : State) : Bool := decide ((s.amended.image 0).length ≤ 262144)

end Sys2Proof.Machine
end

