-- ==== Sys2Proof/Machine/Command.lean ====
section
/-!
DEFINITION. How a command packet is taken, checked, carried out, journalled and answered (10 R254 to R268).
-/
namespace Sys2Proof
open Machine

/-- The parameters: PARAM, or with PTR the host block (R256). -/
def CmdPkt.params (k : CmdPkt) : List Byte :=
  if k.flags.getLsbD 0 then padTo k.plen.toNat (k.block.getD []) else padTo 40 k.param

/-- The host address of the parameter block (Table 10-1). -/
def CmdPkt.blockAddr (k : CmdPkt) : DWord := BitVec.ofNat 64 (fieldAt k.param 0 8)

/-- Check 1 of R260: reserved fields are 0 and PLEN agrees with PTR. -/
def CmdPkt.wellPacked (k : CmdPkt) : Bool :=
  k.flags.toNat < 4 && k.rsvd == 0 && k.rsvd2 == 0 &&
  (if k.flags.getLsbD 0 then
    decide (1 ≤ k.plen.toNat ∧ k.plen.toNat ≤ 4096) && ((padTo 40 k.param).drop 8).all (· == 0)
  else k.plen == 0)

/-- The first 16 bytes of SHA-256 over PARAM and the parameter block (Table 10-12). -/
def CmdPkt.digest (k : CmdPkt) : List Byte :=
  (Config.sha256 (padTo 40 k.param ++ (if k.flags.getLsbD 0 then k.params else []))).take 16

end Sys2Proof

namespace Sys2Proof.Machine

/-- A power domain is on (Table 14-2). -/
def State.domainOn (s : State) (d : Nat) : Bool := bitsOf (s.getF Fld.pwrVotersDomainsOn 0) d 1 == 1

/-- The start-up stage (Table 15-7). -/
def State.stage (s : State) : Nat := s.getF Fld.gblBootStatusStage 0

/-- Stage 5 reached (R376). -/
def State.ready (s : State) : Bool := s.bit Fld.gblBootStatusReady 0

/-- The chip is in hold (R378). -/
def State.inHold (s : State) : Bool := s.stage == 6

/-- Brace stands (R358). -/
def State.brace (s : State) : Bool := s.bit Fld.pwrSupplyBrace 0

/-- Status codes of commands (Table 10-5). -/
inductive CmdStatus where
  | ok | badPacket | badOpcode | badParam | noSession | staleSession | badVersion | notPermitted | notOwner
  | wrongState | refused | noResource | windowFault | dmaError | authFailed | flashError | notPrimary | busy
  | internalError
  deriving DecidableEq, Repr

/-- The code of a status (Table 10-5). -/
def CmdStatus.code (c : CmdStatus) : Nat := c.ctorIdx

/-- What carrying out a command gives: the state, the reply's STATUS, DETAIL and RESULT, the output block, and a
RESULT of its own for the Ledger entry where that differs (LED_MARK). -/
structure CmdRes where
  st : State
  status : CmdStatus
  detail : Nat
  result : DWord
  out : List Byte
  ledResult : Option DWord
  /-- No reply follows (a SOFT_RESET that is carried out; a commit that waits for READY). -/
  silent : Bool
  /-- The command goes on later: neither entry nor reply yet (R283, R395). -/
  wait : Bool

/-- Carried out, with a RESULT. -/
def CmdRes.ok (s : State) (r : DWord) : CmdRes := ⟨s, .ok, 0, r, [], none, false, false⟩

/-- Carried out, with an output block whose length is the RESULT. -/
def CmdRes.block (s : State) (b : List Byte) : CmdRes := ⟨s, .ok, 0, BitVec.ofNat 64 b.length, b, none, false, false⟩

/-- A check of order 6 failed: nothing changes. -/
def CmdRes.err (s : State) (c : CmdStatus) : CmdRes := ⟨s, c, 0, 0, [], none, false, false⟩

/-- Refused by admission or placement, with the reason of Table 10-6. -/
def CmdRes.refuse (s : State) (reason : Nat) : CmdRes := ⟨s, .refused, reason, 0, [], none, false, false⟩

/-- The row of Table 10-4 for a command, with what other chapters say of when it is taken. -/
structure CmdInfo where
  op : Nat
  /-- Issuer T0. -/
  t0 : Bool := false
  /-- Issuer Millrace. -/
  mrc : Bool := false
  /-- Column J. -/
  jrn : Bool := true
  /-- Added in interface 1.1 (R263). -/
  since11 : Bool := false
  /-- The parameters, as offset and size. -/
  named : List (Nat × Nat) := []
  /-- The length of the output block, for commands that have one. -/
  outLen : Option (List Byte → Nat) := none
  /-- A standby carries it out (R384). -/
  standby : Bool := false
  /-- Refused with BUSY until READY (R376). -/
  needReady : Bool := false
  /-- Waits for the end of Brace (R268, R359). -/
  flash : Bool := false

/-- Every byte of the parameters that the command's row does not name is 0, and every named one is there (R256; log
entry 12). -/
def CmdInfo.paramsOk (i : CmdInfo) (p : List Byte) : Bool :=
  (i.named.all fun n => decide (n.1 + n.2 ≤ p.length)) &&
  (p.zipIdx.all fun b => b.1 == 0 || i.named.any fun n => decide (n.1 ≤ b.2 ∧ b.2 < n.1 + n.2))

/-- The conditions under which the engine takes a tenant's next command (R255, R258, R267, R317, R341, R376). -/
def State.takes (s : State) (i : CmdInfo) (t : Nat) : Bool :=
  let c := s.cmd t
  s.pathUp t && c.prod != c.cons && !(s.led.waiting.any fun h => h.tenant == t) &&
  decide (c.heldCount + (if c.dropped = 0 then 0 else 1) < s.rplRoom t) && !s.flrBusy t &&
  decide (3 ≤ s.stage) && !s.inHold && s.domainOn 4 && s.getF Fld.pwrStateState 0 == 0 && s.cfg.busy.isNone && s.cfg.restart != .soft &&
  !(i.flash && s.brace)

/-- The status of checks 2 to 4 of R260, none if they pass. -/
def State.earlyCheck (s : State) (i : CmdInfo) (t : Nat) (k : CmdPkt) : Option CmdStatus :=
  let free := i.op == 0x0101 || i.op == 0x0103
  if !k.wellPacked then some .badPacket
  else if !free && !s.sessionOpen t then some .noSession
  else if !free && k.session.toNat != s.getF Fld.tenCmdStatusSession t then some .staleSession
  else if i.since11 && decide ((s.cmd t).ifVer < 0x0101) then some .badOpcode
  else if (i.t0 && t != 0) || (i.mrc && t != 0 && !Tab.getD s.cfg.shadow.mrcPerm t false) then some .notPermitted
  else if i.op == 0x0101 && !s.enabled t then some .notPermitted
  else none

/-- A reply record (Table 10-2). -/
def replyRecord (op : Nat) (status detail : Nat) (k : CmdPkt) (lseq result : DWord) : List Byte :=
  leBytes 2 op ++ leBytes 1 status ++ leBytes 1 detail ++ leBytes 2 k.session.toNat ++ leBytes 2 0 ++
    leBytes 4 k.seq.toNat ++ leBytes 4 0 ++ leBytes 8 lseq.toNat ++ leBytes 8 result.toNat

/-- The command ring is idle: none posted and none being carried out (Table 10-17). -/
def State.ringIdle (s : State) (t : Nat) : Bool :=
  (s.cmd t).prod == (s.cmd t).cons && !(s.led.waiting.any fun h => h.tenant == t) &&
  (match s.cfg.busy with | some p => p.tenant != t | none => true)

/-- A ring reset ends once the ring is idle: the command indices become 0 (R265). -/
def State.endRingReset (s : State) (t : Nat) : State :=
  if s.bit Fld.tenCmdCtrlRingReset t && s.ringIdle t then
    (s.modCmd t fun c => { c with prod := 0, cons := 0 }).setF Fld.tenCmdCtrlRingReset t 0
  else s

/-- Write a reply, publish it, and raise REPLY unless NO_IRQ (R257, Table 13-5). -/
def State.sendReply (s : State) (t : Nat) (rec : List Byte) (irq : Bool) : State :=
  let s1 := (s.putReply t rec).publishUp t
  let s2 := if irq && s1.pathUp t then s1.raise t 2 else s1
  s2.endRingReset t

/-- Journal a result, and reply once the partner has the entry when it mirrors (R260, R267, R277). -/
def State.conclude (i : CmdInfo) (t : Nat) (k : CmdPkt) (r : CmdRes) (entry : Bool) : State :=
  if r.wait then r.st else
  let st := r.status.code
  let s1 := if r.status = .ok ∧ r.out ≠ [] then r.st.emit (.hostWrite t k.outAddr r.out) else r.st
  let lseq := if entry then s1.nextLseq else 0
  let s2 := if entry then
      s1.journal ⟨0, 0, 0, k.seq, BitVec.ofNat 16 i.op, t, BitVec.ofNat 8 st, BitVec.ofNat 8 r.detail, 0, k.session,
        r.ledResult.getD r.result, k.digest⟩ k.params
    else s1
  let rep := replyRecord i.op st r.detail k lseq r.result
  let irq := !k.flags.getLsbD 1
  if r.silent || s2.flrBusy t then s2
  else if entry && s2.mirrors && s2.sync == 2 then
    { s2 with led := { s2.led with waiting := s2.led.waiting ++ [⟨lseq, t, rep, irq⟩] } }
  else s2.sendReply t rep irq

/-- Check 5 of R260: the parameter block and OUT lie inside the tenant's windows and are read without error. -/
def State.blockCheck (s : State) (i : CmdInfo) (t : Nat) (k : CmdPkt) : State × Option CmdStatus :=
  let ptr := k.flags.getLsbD 0
  let n := match i.outLen with | some f => f k.params | none => 0
  if ptr && !s.windowOk t k.blockAddr k.plen.toNat false then (s.isoRefuse t k.blockAddr, some .windowFault)
  else
    let s1 := if ptr then s.emit (.hostRead t k.blockAddr k.plen.toNat) else s
    if ptr && k.block.isNone then (s1, some .dmaError)
    else if n != 0 && !s1.windowOk t k.outAddr n true then (s1.isoRefuse t k.outAddr, some .windowFault)
    else (s1, none)

/-- The commands refused with BUSY while probation stands (R294); FW_ROLLBACK has the conditions of FW_ACTIVATE (R299). -/
def heldInProbation (op : Nat) : Bool :=
  [0x0201, 0x0203, 0x0207, 0x0208, 0x020A, 0x0301, 0x0302, 0x0501, 0x0502, 0x0B01, 0x0B02].contains op

/-- Check 6 of R260, the command's own effect, and the amendment of the running configuration (R291). -/
def State.carryOut (s : State) (i : CmdInfo) (k : CmdPkt) (body : State → List Byte → CmdRes) : CmdRes :=
  if !i.paramsOk k.params || (i.outLen.isNone && k.outAddr != 0) then .err s .badParam
  else if s.role == 3 && !i.standby then .err s .notPrimary
  else if (i.needReady && !s.ready) || (s.cfg.probation && heldInProbation i.op) then .err s .busy
  else
    let r := body s k.params
    if r.status = .ok && amends i.op && r.st.amended != s.cfg.shadow then
      (if r.st.amendFits then { r with st := r.st.amend } else .err s .noResource)
    else r

/-- The host address of the next entry of a command ring (R145, R254). -/
def State.cmdSlot (s : State) (t : Nat) : DWord :=
  s.reg64 .tenCmdBaseLo .tenCmdBaseHi t +
    BitVec.ofNat 64 ((s.cmd t).cons.toNat % 2 ^ s.getF Fld.tenCmdCtrlCmdSize t * 64)

/-- Take a command from the ring, check it in the order of Table 10-7, carry it out, journal it and answer it. A
command that may not be taken leaves the state as it is (log entry 1). -/
def runCmd (i : CmdInfo) (t : Nat) (k : CmdPkt) (body : State → List Byte → CmdRes) (s : State) : State :=
  if !s.takes i t then s
  else
    let a := s.cmdSlot t
    if !s.windowOk t a 64 false then (s.isoRefuse t a).pathFault t
    else
    let s0 := s.modCmd t fun c => { c with cons := c.cons + 1 }
    match s0.earlyCheck i t k with
    | some c => State.conclude i t k (.err s0 c) false
    | none =>
      match s0.blockCheck i t k with
      | (s1, some c) => State.conclude i t k (.err s1 c) false
      | (s1, none) =>
        let r := s1.carryOut i k body
        State.conclude i t k r (i.jrn || r.status == .notPrimary)

/-- A command whose opcode Table 10-4 does not list (R261): refused with BAD_OPCODE at check 3, not journalled. -/
def runUnlisted (t : Nat) (op : Half) (k : CmdPkt) (s : State) : State :=
  let i : CmdInfo := { op := op.toNat, jrn := false }
  if !s.takes i t then s
  else
    let a := s.cmdSlot t
    if !s.windowOk t a 64 false then (s.isoRefuse t a).pathFault t
    else
    let s0 := s.modCmd t fun c => { c with cons := c.cons + 1 }
    State.conclude i t k (.err s0 ((s0.earlyCheck i t k).getD .badOpcode)) false

end Sys2Proof.Machine
end

