-- ==== Sys2Proof/WellFormed.lean ====
section
/-!
DEFINITION. Which commands name the access or event of their row of the opcode table. A command that is not well formed still
runs: where its operands name another access it makes that access, and where they name none nothing happens (log entry 1).
-/
namespace Sys2Proof

/-- The size of BAR0 of a function (R449). -/
def barSize (fn : Nat) : Nat := if fn = 0 then 0x1000000 else 0x10000

/-- An access of 1 to 8 bytes inside BAR0 (R5, R449). -/
def accessWf (fn off size : Nat) : Bool :=
  decide (1 ≤ size ∧ size ≤ 8) && decide (off + size ≤ barSize fn)

/-- Table 10-4 lists the opcode (R261). -/
def listedOpcode (op : Nat) : Bool :=
  let c := op % 256
  match op / 256 with
  | 1 => decide (1 ≤ c ∧ c ≤ 3)
  | 2 => decide (1 ≤ c ∧ c ≤ 10)
  | 3 => decide (1 ≤ c ∧ c ≤ 6)
  | 4 => decide (1 ≤ c ∧ c ≤ 4)
  | 5 => decide (1 ≤ c ∧ c ≤ 11)
  | 6 => decide (1 ≤ c ∧ c ≤ 6)
  | 7 => decide (1 ≤ c ∧ c ≤ 2)
  | 8 => decide (1 ≤ c ∧ c ≤ 3)
  | 9 => decide (1 ≤ c ∧ c ≤ 5)
  | 10 => decide (1 ≤ c ∧ c ≤ 2)
  | 11 => decide (1 ≤ c ∧ c ≤ 5)
  | 12 => decide (1 ≤ c ∧ c ≤ 5)
  | 13 => decide (1 ≤ c ∧ c ≤ 3)
  | 14 => decide (1 ≤ c ∧ c ≤ 4)
  | _ => false

/-- The command names the access or event of its row. -/
def Instr.wf : Instr → Bool
  | .registerWrite fn off size _ _ => accessWf fn off size
  | .rcFieldRead fn off size _ => accessWf fn off size
  | .pairLowHalfRead fn off => accessWf fn off 4 && off % 4 == 0
  | .pairHighHalfRead fn off => accessWf fn off 4 && off % 4 == 0
  | .pair64bitAccess fn off _ => accessWf fn off 8 && off % 8 == 0
  | .windowWrite off _ => off == 0x10048 || off == 0x1004C || off == 0x10050 || off == 0x10054 || off == 0x10058
  | .millraceParameterWrite off _ =>
    off == 0x11000 || off == 0x11004 || off == 0x11008 || off == 0x1100C || off == 0x11010 || off == 0x11014 ||
      off == 0x11020
  | .beatStart k => decide (1 ≤ k ∧ k ≤ 7)
  | .unlistedOpcode _ op _ => !listedOpcode op.toNat
  | _ => true

end Sys2Proof
end

