-- ==== Sys2Proof/Machine/CmdSession.lean ====
section
/-!
DEFINITION. The session, Ledger and diagnostics commands, and the event records of the reply ring (10 R259, R261 to R264,
R276).
-/
namespace Sys2Proof.Machine

/-- The lowest and highest interface version supported: 1.0 and 1.1 (R263; log entry 14). -/
def ifLo : Nat := 0x0100
/-- The highest interface version. -/
def ifHi : Nat := 0x0101

/-- The session of a tenant closes (R264). -/
def State.closeSession (s : State) (t : Nat) : State := s.setF Fld.tenCmdStatusSessionOpen t 0

/-- The next handle: one greater, skipping 0 (R263). -/
def nextHandle (h : Nat) : Nat := if h % 65536 = 65535 then 1 else h % 65536 + 1

/-- SESSION_OPEN (R263, R264). -/
def bodySessionOpen (t : Nat) (s : State) (p : List Byte) : CmdRes :=
  let s0 := s.closeSession t
  let lo := max (fieldAt p 0 2) ifLo
  let hi := min (fieldAt p 2 2) ifHi
  if hi < lo then .err s0 .badVersion
  else
    let h := nextHandle (s.getF Fld.tenCmdStatusSession t)
    let s1 := ((s0.setF Fld.tenCmdStatusSession t h).setF Fld.tenCmdStatusSessionOpen t 1).modCmd t
      fun c => { c with ifVer := hi }
    .ok s1 (BitVec.ofNat 64 (hi + h * 65536 + (s.reg .gblCfgGen 0).toNat * 2 ^ 32))

/-- The row of SessionOpen in Table 10-4. -/
def rowSessionOpen : CmdInfo :=
  { op := 0x0101, named := [(0, 8)], standby := true }

/-- SESSION_OPEN (R263). -/
def execSessionOpen (t : Fin 256) (k : CmdPkt) (s : State) : Host.Outcome State Fault Refusal :=
  done (runCmd rowSessionOpen t k (bodySessionOpen t) s)

/-- The row of SessionClose in Table 10-4. -/
def rowSessionClose : CmdInfo :=
  { op := 0x0102, standby := true }

/-- SESSION_CLOSE (R264). -/
def execSessionClose (t : Fin 256) (k : CmdPkt) (s : State) : Host.Outcome State Fault Refusal :=
  done (runCmd rowSessionClose t k (fun s _ => .ok (s.closeSession t) 0) s)

/-- The row of GetInterface in Table 10-4. -/
def rowGetInterface : CmdInfo :=
  { op := 0x0103, jrn := false, standby := true }

/-- GET_INTERFACE (R261). -/
def execGetInterface (t : Fin 256) (k : CmdPkt) (s : State) : Host.Outcome State Fault Refusal :=
  done (runCmd rowGetInterface t k
    (fun s _ => .ok s (BitVec.ofNat 64 (ifLo + ifHi * 65536 + (fwVersion s.cfg.fwRunning).toNat * 2 ^ 32))) s)

/-- The entries that LED_READ may write: visible, from FROM onwards, in LSEQ order (R276). -/
def State.ledFrom (s : State) (t : Nat) (frm : DWord) : List LedEntry :=
  s.led.entries.filter fun e => ledVisible t e && decide (frm.toNat ≤ e.lseq.toNat)

/-- GAP of LED_READ: a visible entry at or after FROM has been removed, or FROM lies in an earlier start (R276). -/
def State.ledGap (s : State) (t : Nat) (frm : DWord) : Bool :=
  (s.led.removed.any fun r => (t == 0 || r.1 == t || r.1 == 0) && decide (frm.toNat ≤ r.2.toNat)) ||
  (frm != 0 && decide (frm.toNat / 2 ^ 32 < s.led.lstart.toNat))

/-- LED_READ (R276). -/
def bodyLedRead (t : Nat) (s : State) (p : List Byte) : CmdRes :=
  let frm : DWord := BitVec.ofNat 64 (fieldAt p 0 8)
  let n := fieldAt p 8 2
  if n < 1 ∨ 512 < n then .err s .badParam
  else
    let es := s.ledFrom t frm
    let w := es.take n
    let out := w.flatMap fun e => e.bytes (t == 0 && e.tenant != 0)
    let r := w.length + (if n < es.length then 65536 else 0) + (if s.ledGap t frm then 131072 else 0)
    { CmdRes.ok s (BitVec.ofNat 64 r) with out := out }

/-- The row of LedRead in Table 10-4. -/
def rowLedRead : CmdInfo :=
  { op := 0x0A01, jrn := false, named := [(0, 10)], outLen := some (fun p => 64 * fieldAt p 8 2), standby := true }

/-- LED_READ (R276). -/
def execLedRead (t : Fin 256) (k : CmdPkt) (s : State) : Host.Outcome State Fault Refusal :=
  done (runCmd rowLedRead t k (bodyLedRead t) s)

/-- The row of LedMark in Table 10-4. -/
def rowLedMark : CmdInfo :=
  { op := 0x0A02, since11 := true, named := [(0, 8)], standby := true }

/-- LED_MARK: VALUE is journalled as the entry's RESULT (R261). -/
def execLedMark (t : Fin 256) (k : CmdPkt) (s : State) : Host.Outcome State Fault Refusal :=
  done (runCmd rowLedMark t k
    (fun s p => { CmdRes.ok s 0 with ledResult := some (BitVec.ofNat 64 (fieldAt p 0 8)) }) s)

/-- The row of Echo in Table 10-4. -/
def rowEcho : CmdInfo :=
  { op := 0x0E01, jrn := false, named := [(0, 8)], standby := true }

/-- ECHO returns its VALUE (R261). -/
def execEcho (t : Fin 256) (k : CmdPkt) (s : State) : Host.Outcome State Fault Refusal :=
  done (runCmd rowEcho t k
    (fun s p => .ok s (BitVec.ofNat 64 (fieldAt p 0 8))) s)

/-- The row of ChipEventsRead in Table 10-4. -/
def rowChipEventsRead : CmdInfo :=
  { op := 0x0E03, t0 := true, jrn := false, named := [(0, 2)], outLen := some (fun p => 64 * fieldAt p 0 2), standby := true }

/-- CHIP_EVENTS_READ: up to a maximum of records of the chip-event log, oldest first (R261; log entry 15). -/
def execChipEventsRead (t : Fin 256) (k : CmdPkt) (s : State) : Host.Outcome State Fault Refusal :=
  done (runCmd rowChipEventsRead t k
    (fun s p => .block s ((s.rst.chipEvents.take (fieldAt p 0 2)).flatMap (padTo 64))) s)

/-- SOFT_RESET: the entry, then the scheduled reset, never a reply (R257, R367). -/
def bodySoftReset (s : State) (p : List Byte) : CmdRes :=
  if fieldAt p 0 4 = 0x52534554 then
    { CmdRes.ok { s with cfg := { s.cfg with restart := .soft } } 0 with silent := true }
  else .err s .badParam

/-- The row of SoftReset in Table 10-4. -/
def rowSoftReset : CmdInfo :=
  { op := 0x0E04, t0 := true, named := [(0, 4)], standby := true }

/-- SOFT_RESET (R257). -/
def execSoftReset (t : Fin 256) (k : CmdPkt) (s : State) : Host.Outcome State Fault Refusal :=
  done (runCmd rowSoftReset t k bodySoftReset s)

/-- UNLISTED_OPCODE (R261). A packet with a listed opcode is that opcode's command and none of this row. -/
def execUnlistedOpcode (t : Fin 256) (op : Half) (k : CmdPkt) (s : State) : Host.Outcome State Fault Refusal :=
  done (if listedOpcode op.toNat then s else runUnlisted t op k s)

/-- Write the next held event: the events-lost record once events were dropped, else the oldest group (R259). -/
def State.writeEvent (s : State) (t : Nat) : State :=
  let c := s.cmd t
  if c.dropped ≠ 0 then
    let r := [eventRecord 0 0 1 5 c.dropped 0 0]
    if s.eventFits t r then (s.modCmd t fun c => { c with dropped := 0 }).putEvents t r else s
  else match c.held with
    | [] => s
    | g :: rest => if s.eventFits t g then (s.modCmd t fun c => { c with held := rest }).putEvents t g else s

/-- EVENT_RECORD_WRITE (R259). -/
def execEventRecordWrite (t : Fin 256) (s : State) : Host.Outcome State Fault Refusal := done (s.writeEvent t)

end Sys2Proof.Machine
end

