-- ==== Sys2Proof/Machine/Paths.lean ====
section
/-!
DEFINITION. Places and paths: route strings, what stands on a path, and the charges and horizon that follow from it
(08 R194, R195; 02 R37, R38, R52; 05 R126). A place of the expected topology stands in `places` whether or not its
device is present.
-/
namespace Sys2Proof.Machine

/-- Hop k of a route, 1 to 7 (Table 8-1). -/
def hopAt (r : DWord) (k : Nat) : Nat := bitsOf r.toNat (5 * k) 5

/-- The hops of a route up to the first 0 (R194). -/
def hopsOf (r : DWord) : List Nat := ((List.range 7).map fun k => hopAt r (k + 1)).takeWhile (· != 0)

/-- Hops as bits, from bit 5 upwards. -/
def hopBits : List Nat → Nat
  | [] => 0
  | h :: r => h % 32 + 32 * hopBits r

/-- A route from its root attachment (ROOT and SIDE as five bits) and its hops (Table 8-1). -/
def routeMake (root : Nat) (hops : List Nat) : DWord := BitVec.ofNat 64 (root % 32 + 32 * hopBits hops)

/-- The route is well formed (R194). -/
def routeOk (r : DWord) : Bool := routeMake (r.toNat % 32) (hopsOf r) == r

/-- The root port of a route. -/
def routePort (r : DWord) : Nat := r.toNat % 16

/-- The route runs through the F/L pair. -/
def routePair (r : DWord) : Bool := r.getLsbD 4

/-- The root link of a route. -/
def routeLink (r : DWord) : Nat := 2 * routePort r + (if routePair r then 1 else 0)

/-- The route of a root attachment. -/
def rootRoute (p : Nat) (sd : Side) : DWord := BitVec.ofNat 64 (p % 16 + (if sd = .p then 16 else 0))

/-- The routes of the hubs on the way, from the root attachment, and the place itself. -/
def pathOf (r : DWord) : List DWord :=
  (List.range ((hopsOf r).length + 1)).map fun k => routeMake (r.toNat % 32) ((hopsOf r).take k)

/-- The hub above a place. -/
def parentOf (r : DWord) : Option DWord :=
  if hopsOf r = [] then none else some (routeMake (r.toNat % 32) (hopsOf r).dropLast)

/-- The port of its hub on which a place stands. -/
def hubPortOf (r : DWord) : Nat := (hopsOf r).getLastD 0

/-- The place on a port of a hub. -/
def childOf (r : DWord) (port : Nat) : DWord := routeMake (r.toNat % 32) (hopsOf r ++ [port])

/-- A place lies strictly below another. -/
def isBelow (r hub : DWord) : Bool := r != hub && (pathOf r).contains hub

/-- Class 0x09 is a hub (Table 8-3). -/
def isHubClass (c : Half) : Bool := c.toNat / 256 == 9

/-- The place holds or expects a hub. -/
def Place.isHub (p : Place) : Bool := isHubClass p.cls

/-- The expected-topology entry at a route (R204). -/
def State.topoAt (s : State) (r : DWord) : Option TopoEntry := s.cfg.shadow.topo.find? fun e => e.route == r

/-- The expected-topology entry with an address (R204). -/
def State.topoBy (s : State) (addr : Nat) : Option TopoEntry := s.cfg.shadow.topo.find? fun e => e.addr == addr

/-- The places that stand on the path of a route. -/
def State.pathPlaces (s : State) (r : DWord) : List Place := (pathOf r).filterMap s.place

/-- The translator of a place at F or L below an H root link: the deepest hub above it whose own link is an H link
(R49). -/
def State.translator (s : State) (p : Place) : Option Place :=
  if p.speed = 3 ∨ routePair p.route then none
  else ((s.pathPlaces p.route).filter fun h => h.route != p.route && h.speed == 3).getLast?

/-- Every link on the path runs at 3.0 or later (R52). -/
def State.pathE (s : State) (p : Place) : Bool := (s.pathPlaces p.route).all fun q => decide (0x30 ≤ q.version)

/-- The endpoint-0 maximum packet size of the device of a place, 64 while its descriptor has not been read (R92). -/
def Place.ep0Mps (p : Place) : Nat := if p.desc = [] then 64 else fieldAt p.desc 3 1

/-- The commit horizon in ticks (Table 5-5). -/
def State.horizon (s : State) (p : Place) : Nat :=
  if p.speed = 1 then 100000 else ((s.pathPlaces p.route).map fun q => if q.speed = 3 then 1000 else 5000).sum

/-- The largest maximum packet size at a speed, for an endpoint other than 0 (R37). -/
def speedMps (speed : Nat) : Nat := if speed = 1 then 64 else if speed = 2 then 512 else 1024

/-- The charge of a transaction of p bytes at a speed, in ticks (Table 2-8). -/
def charge (speed p : Nat) : Nat :=
  if speed = 1 then ((p + 32) * 7 + 5) / 6 * 320 + 4000
  else if speed = 2 then ((p + 32) * 7 + 5) / 6 * 16 + 500
  else p + 120

/-- A tenant owns a device below a root port (R109). -/
def State.ownersBelow (s : State) (port : Nat) : List Nat :=
  let ps := (s.places.map (·.2)).filter fun p => routePort p.route == port && p.addr != 0
  let hubs := if ps.any Place.isHub then [0] else []
  (List.range 256).filter fun t => hubs.contains t || ps.any fun p => !p.isHub && p.owner == t

/-- A tenant owns devices (R110). -/
def State.ownsDevices (s : State) (t : Nat) : Bool := s.places.any fun p => p.2.addr != 0 && p.2.owner == t

end Sys2Proof.Machine
end

