-- ==== Sys2Proof/Machine/Queue.lean ====
section
/-!
DEFINITION. Queue pairs: completions, heads, moderation, halts, faults, disabling, doorbells, and the queues group of
commands (06, 13 R336 and R338).
-/
namespace Sys2Proof.Machine

/-- Status codes of completions (Table 6-8). -/
inductive XStatus where
  | ok | stalled | transactionError | portReset | deviceGone | badRoute | badSetup | badKind | badLength | badEntry
  | notOwner | unsupported | noContract | contractClosed | dmaError | windowFault | authFailed | aborted
  | retracted | notLocked | wrongDirection | notStaged | halted | angleMissed | actUnknown | timeGap
  deriving DecidableEq, Repr

/-- The code of a completion status (Table 6-8). -/
def XStatus.code : XStatus → Byte
  | .ok => 0 | .stalled => 1 | .transactionError => 2 | .portReset => 3 | .deviceGone => 4 | .badRoute => 5
  | .badSetup => 6 | .badKind => 7 | .badLength => 8 | .badEntry => 9 | .notOwner => 10 | .unsupported => 11
  | .noContract => 12 | .contractClosed => 13 | .dmaError => 14 | .windowFault => 15 | .authFailed => 16
  | .aborted => 17 | .retracted => 0x20 | .notLocked => 0x21 | .wrongDirection => 0x22 | .notStaged => 0x23
  | .halted => 0x24 | .angleMissed => 0x25 | .actUnknown => 0x26 | .timeGap => 0x27

/-- The statuses that rewind a queue pair's programs (R136). -/
def withdrawn (st : Byte) : Bool := st == 0x20 || st == 0x21 || st == 0x24

/-- The entry was withdrawn, which holds its queue pair; NOT_LOCKED at a placement attempt is no withdrawal (R123, R135,
Table 6-8; log entry 30). -/
def Entry.holds (e : Entry) : Bool := withdrawn e.status && e.wStatus != 0

/-- IN data still to be written or proved (R155, R176). -/
def Entry.inPending (e : Entry) : Bool := e.dirIn && (!e.data.isEmpty || !e.unflushed.isEmpty)

/-- TIME and FRAME of an entry whose outcome comes at a tick and frame: those of its last handshake, where it has had one
(Table 6-7). -/
def Entry.at_ (e : Entry) (tick : DWord) (frame : Word) : DWord × Word := e.last.getD (tick, frame)

/-- An entry whose outcome is known: it is finished once its IN data are proved (R153, R155). -/
def Entry.finish (e : Entry) (st : XStatus) (tick : DWord) (frame : Word) : Entry :=
  { e with
    phase := if e.inPending then .flushing else .finished, status := st.code
    tick := (e.at_ tick frame).1, frame := (e.at_ tick frame).2 }

/-- The end of an entry whose remaining data are given up: the writes that were issued for it are still to be proved, and are
the reason to wait (R155, R176). -/
def Entry.giveUp (e : Entry) (st : XStatus) (tick : DWord) (frame : Word) : Entry :=
  let e1 := { e with
    count := if e.dirIn then e.count - e.data.length else e.count
    data := [], xfer := 0, inFlight := 0, phase := if e.unflushed.isEmpty then EPhase.finished else .flushing }
  if e.phase = .flushing ∧ e.status ≠ 0 then e1
  else { e1 with status := st.code, tick := (e.at_ tick frame).1, frame := (e.at_ tick frame).2 }

/-- Change the entry of a queue pair with an index. -/
def Qp.modEntry (q : Qp) (idx : Half) (f : Entry → Entry) : Qp :=
  { q with entries := q.entries.map fun e => if e.idx == idx then f e else e }

/-- The entry of a queue pair with an index. -/
def Qp.entry (q : Qp) (idx : Half) : Option Entry := q.entries.find? fun e => e.idx == idx

/-- The outcome of an entry at the present tick and frame. -/
def State.finishEntry (s : State) (q : Nat) (idx : Half) (st : XStatus) : State :=
  s.modQp q fun v => v.modEntry idx fun e =>
    if e.phase = .finished ∨ e.phase = .flushing then e else e.finish st s.now s.time.frame

/-- A completion entry (Table 6-6). -/
def Entry.completion (e : Entry) : List Byte :=
  leBytes 8 e.tag.toNat ++ leBytes 3 e.count ++ leBytes 1 0 ++ leBytes 2 e.idx.toNat ++ [e.status] ++
    [BitVec.ofNat 8 (e.flags.toNat % 64 + 64 * (if e.kind = .control then e.stage % 4 else 0))] ++
    leBytes 8 e.tick.toNat ++ leBytes 4 e.frame.toNat ++
    leBytes 1 (if e.kind = .strike then e.seq else 0) ++ leBytes 3 0

/-! ### Cistern words in error (R190, R191) -/

/-- The region of a cistern address (Tables 7-6 and 7-17). -/
def cisRegion (a : Nat) : Nat :=
  if a < 0x241000 then 0 else if a < 0x2A1000 then 1 else if a < 0x321000 then 2 else if a < 0x340000 then 3 else 4

/-- An uncorrectable cistern error is counted and latched, with the cause to T0 (R190, Table 7-17). -/
def State.cisUncorrected (s : State) (region : Nat) (addr : BitVec 24) : State :=
  (((s.addF Fld.gblCisEccUncorrected 0 1).setF Fld.gblCisEccLastRegion 0 region).setReg .gblCisEccAddr 0
    (addr.setWidth 32)).raise 0 12

/-- A word in error belongs to something. -/
def BadWord.isOf (b : BadWord) (region who : Nat) : Bool := cisRegion b.addr.toNat == region && b.who == who

/-- A word in error is read: a single-bit error is counted, as is a double-bit one that the patrol has not found. -/
def State.readBad (s : State) (b : BadWord) : State :=
  if !b.double then s.addF Fld.gblCisEccCorrected 0 1
  else if b.found then s
  else s.cisUncorrected (cisRegion b.addr.toNat) b.addr

/-- What belongs to something in a region is read: the errors in it are counted, and the second answer says whether one of them
is beyond correction, so that its effect follows (R190, R191). -/
def State.readWords (s : State) (region who : Nat) : State × Bool :=
  let mine := s.dma.bad.filter fun b => b.isOf region who
  if mine.isEmpty then (s, false)
  else (mine.foldl State.readBad { s with dma := { s.dma with bad := s.dma.bad.filter fun b => !b.isOf region who } },
    mine.any (·.double))

/-- What belongs to something in a region is written whole, which clears its errors (R190). -/
def State.writeWords (s : State) (region who : Nat) : State :=
  if s.dma.bad.any fun b => b.isOf region who then
    { s with dma := { s.dma with bad := s.dma.bad.filter fun b => !b.isOf region who } }
  else s

/-- The queue pair enters Faulted (R160): 1 window refusal, 2 host error, 3 holding-area ECC. -/
def State.qpFault (s : State) (q kind : Nat) : State :=
  let v := s.qp q
  if v.state = .disabled ∨ v.state = .faulted then s
  else (s.setQp q { v with state := .faulted, faultKind := kind }).qpCause q 1

/-- Bytes of a tenant's cistern are released: they await clearing, and until then are given to nothing else (R192; log entry
134). -/
def State.scrubs (s : State) (t bytes : Nat) : State :=
  { s.setF Fld.tenCisShareScrubbing t 1 with
    dma := { s.dma with released := Tab.set s.dma.released t (Tab.getD s.dma.released t 0 + bytes) } }

/-! ### Writes in the staging buffer (R165 to R167, R178) -/

/-- A request is a posted write. -/
def ReqWhat.isWrite : ReqWhat → Bool
  | .inWrite _ _ | .completion _ | .head _ => true
  | _ => false

/-- Posted writes that were issued before have left the staging buffer: nothing can fail in them any more, and a channel whose
write was being tried again goes on (R167, R178, Table 7-4; log entry 133). -/
def State.writesLeave (s : State) : State :=
  let again := fun c : Chan => if c.state = .retrying then { c with state := if c.pause then .pausing else .running } else c
  let chans := (s.dma.reqs.filter fun r => r.what.isWrite && r.tries != 0).filterMap fun r =>
    match r.what with
    | .inWrite q idx => (((s.qp q).entries.find? fun e => e.idx == idx).filter (·.prog)).map (·.chan)
    | _ => none
  chans.foldl (fun s c => s.modChan c again)
    { s with dma := { s.dma with reqs := s.dma.reqs.filter fun r => !r.what.isWrite } }

/-- A write is issued and stands in the staging buffer (R165, R167). -/
def State.issueWrite (s : State) (what : ReqWhat) (t : Nat) (addr : DWord) (data : List Byte) : State :=
  { s with dma := { s.dma with
    nextId := s.dma.nextId + 1
    reqs := s.dma.reqs ++ [(⟨s.dma.nextId, t, what, addr, data.length, 0, 0, some data⟩ : Req)] } }.emit (.hostWrite t addr data)

/-- A message for moderated completions: the count returns to 0 and the timer stops (R338). -/
def State.modMessage (s : State) (q : Nat) : State :=
  let v := s.qp q
  let s1 := s.setQp q { v with unsignalled := 0, timer := false }
  match v.owner with
  | none => s1
  | some t => s1.msix t v.vector

/-- A head was published that covers k completions without NO_IRQ (R338). -/
def State.moderate (s : State) (q k : Nat) : State :=
  if k = 0 then s
  else
    let v := s.qp q
    let n := v.unsignalled + k
    let s1 := s.setQp q { v with unsignalled := n, timer := true }
    if v.modCount ≤ 1 || decide (v.modCount ≤ n) then s1.modMessage q else s1

/-- Publish the head: the record, then the register copy, then any message (R156). -/
def State.publishHead (s : State) (q k : Nat) : State :=
  let v := s.qp q
  let t := v.owner.getD 0
  if s.windowOk t v.headAddr 4 true then
    ((s.issueWrite (.head q) t v.headAddr (leBytes 2 v.cqProd.toNat ++ leBytes 2 v.epoch.toNat)).setQp q
      { v with headIdx := v.cqProd, headEpoch := v.epoch }).moderate q k
  else (s.isoRefuse t v.headAddr).qpFault q 1

/-- Write one completion into the next ring slot (R145, R153). -/
def State.putCompletion (s : State) (q : Nat) (rec : List Byte) : State :=
  let v := s.qp q
  let t := v.owner.getD 0
  let a := v.cqBase + BitVec.ofNat 64 (v.cqProd.toNat % v.cqSize * 32)
  if s.windowOk t a 32 true then
    (s.issueWrite (.completion q) t a rec).setQp q { v with cqProd := v.cqProd + 1 }
  else (s.isoRefuse t a).qpFault q 1

/-- Enter Disabled from another state: the descriptor cache and holding area empty, and completions not yet signalled
are signalled at once (R161, R338 rule 5). -/
def State.enterDisabled (s : State) (q : Nat) : State :=
  let v := s.qp q
  let s1 := if v.unsignalled = 0 then s else s.modMessage q
  let s2 := s1.modQp q fun v => { v with
    state := .disabled, haltCause := 0, faultKind := 0, held := false, bp := false, entries := [], holding := []
    aborting := false, fetchIdx := v.sqProd, doorbells := [], timer := false, unsignalled := 0 }
  let mine := fun w : ReqWhat =>
    match w with
    | .subEntry k | .payload k _ | .inWrite k _ | .flush k _ => k == q
    | _ => false
  { s2 with dma := { s2.dma with reqs := s2.dma.reqs.filter fun r => !mine r.what } }.scrubs (v.owner.getD 0) 2048

/-- Draining ends, or an abort from Halted ends, once every posted entry has completed, the holding area is empty and
the final head is published (R161). -/
def State.drainCheck (s : State) (q : Nat) : State :=
  let v := s.qp q
  if (v.state = .draining ∨ v.aborting) && v.entries.isEmpty && v.sqCons == v.sqProd && v.holding.isEmpty &&
      v.headIdx == v.cqProd then s.enterDisabled q
  else s

/-- Entries that a disable from Halted completes with ABORTED: those not started (R161). -/
def State.abortEntries (s : State) (q : Nat) : State :=
  let s1 := s.modQp q fun v => { v with
    aborting := true
    entries := v.entries.map fun e =>
      if e.phase = .queued ∧ ¬e.begun then e.finish .aborted s.now s.time.frame else e }
  s1.drainCheck q

/-- The queue pair halts: 1 STALL, 2 transaction errors, 3 port reset (R159). In Draining a halt acts as a disable from
Halted (R161). -/
def State.qpHalt (s : State) (q cause addr : Nat) : State :=
  let v := s.qp q
  if v.state = .running then
    (s.setQp q { v with state := .halted, haltCause := cause, haltAddr := addr }).qpCause q 2
  else if v.state = .draining then
    ((s.setQp q { v with state := .halted, haltCause := cause, haltAddr := addr }).qpCause q 2).abortEntries q
  else s

/-- Elements become committed in the program slot that feeds an entry (R136). -/
def State.commitElems (s : State) (e : Entry) : State :=
  if e.prog && e.elems != 0 then
    s.modChan e.chan fun c => { c with slots := Tab.mapVal c.slots fun k p =>
      if k = e.slot then { p with committed := max p.committed (e.elem0 + e.elems) } else p }
  else s

/-- Give the unfinished entries of a queue pair their elements again from a slot's position, in index order (R136,
R171; log entry 16). -/
def reassign (ch slot elemSize : Nat) : Nat → List Entry → Nat × List Entry
  | pos, [] => (pos, [])
  | pos, e :: rest =>
    if e.prog && e.chan == ch && e.slot == slot && e.elems != 0 && e.phase = .queued then
      let r := reassign ch slot elemSize (pos + e.elems) rest
      (r.1, { e with elem0 := pos, data := [], xfer := e.len, inFlight := 0 } :: r.2)
    else
      let r := reassign ch slot elemSize pos rest
      (r.1, e :: r.2)

/-- Rewind one program slot that feeds a queue pair to the element after its last committed one (R136). -/
def State.rewindSlot (s : State) (q ch slot : Nat) (p : Prog) : State :=
  let r := reassign ch slot p.elemSize p.committed (s.qp q).entries
  (s.modQp q fun v => { v with entries := r.2 }).modChan ch fun c =>
    { c with slots := Tab.set c.slots slot { p with pos := r.1 } }

/-- Rewind every program that feeds a queue pair, and discard what was read beyond (R136, R183). -/
def State.rewind (s : State) (q : Nat) : State :=
  let s1 := s.dma.chans.foldl (fun s c =>
    c.2.slots.foldl (fun s sl => if sl.2.qp = q then s.rewindSlot q c.1 sl.1 sl.2 else s) s) s
  { s1 with dma := { s1.dma with reqs := s1.dma.reqs.filter fun r =>
      match r.what with
      | .payload q' idx => q' != q || !((s1.qp q).entries.any fun e => e.idx == idx && e.prog && e.phase = .queued)
      | _ => true } }

/-- A device has answers to come to packets of an OUT entry whose data failed: what it acknowledges still counts (R181). -/
def State.outLive (s : State) (q : Nat) (e : Entry) : Bool :=
  s.txns.any fun x => decide (x.work = .entry q e.idx) && (x.outstanding || x.phase = .wait || x.phase = .complete)

/-- The reset that cut off a transfer still runs at its root attachment: until it is over the completion waits, since a
disconnect during it prevails (R227, Table 8-11). -/
def State.resetting (s : State) (e : Entry) : Bool :=
  e.status == 3 && (match (if e.addr = 0 then s.place e.route else s.placeOf e.addr) with
    | none => false
    | some p => match Tab.find s.places (p.route.toNat % 32) with
      | none => false
      | some r => r.resetAsked)

/-- An entry may complete now (R153, R155, R181, R227). -/
def State.mayComplete (s : State) (q : Nat) (e : Entry) : Bool :=
  (e.phase = .finished || (e.phase = .flushing && !e.dirIn && !s.outLive q e)) && !s.resetting e

/-- Start splits of an entry that is over and that wait to be sent again are given up. -/
def State.dropStarts (s : State) (q : Nat) (idx : Half) : State :=
  if s.txns.any fun x => decide (x.work = .entry q idx) && !x.outstanding && decide (x.phase = .start) then
    { s with txns := s.txns.filter fun (x : Txn) => !(decide (x.work = .entry q idx) && !x.outstanding && decide (x.phase = .start)) }
  else s

/-- The front entry of a queue pair completes: into the ring while it has room and nothing is held, else into the
holding area; then the rewind of a withdrawal, the head, and the end of draining (R136, R153 to R158, R161). -/
def State.completeFront (s : State) (q : Nat) : State :=
  let v := s.qp q
  match v.entries with
  | [] => s
  | e :: rest =>
    if !s.mayComplete q e ∨ v.state = .faulted ∨ v.state = .disabled then s
    else if (v.ringFree = 0 ∨ v.holding ≠ []) ∧ 64 ≤ v.holding.length then s
    else
      let rep := e.completion
      let s1 := (s.setQp q { v with entries := rest }).dropStarts q e.idx
      let s2 := if withdrawn e.status then s1.rewind q else s1.commitElems e
      if v.ringFree = 0 ∨ v.holding ≠ [] then
        (if v.holding = [] then s2.writeWords 4 (4 * q) else s2).modQp q fun v =>
          { v with holding := v.holding ++ [(e.noIrq, rep)] }
      else
        let s3 := s2.putCompletion q rep
        if (s3.qp q).state = .faulted then s3
        else (s3.publishHead q (if e.noIrq then 0 else 1)).drainCheck q

/-- Move held completions into free ring slots, in order, and publish one head for them (R158); a word of the holding area that
is beyond correction faults the queue pair (R160, Table 7-8). -/
def State.drainHolding (s0 : State) (q : Nat) : State :=
  let v := s0.qp q
  let n := min v.ringFree v.holding.length
  let r := s0.readWords 4 (4 * q)
  let s := r.1
  if n = 0 ∨ v.state = .faulted then s0
  else if r.2 then s.qpFault q 3
  else
    let s1 := (v.holding.take n).foldl (fun s r => s.putCompletion q r.2)
      (s.setQp q { v with holding := v.holding.drop n })
    if (s1.qp q).state = .faulted then s1 else s1.publishHead q ((v.holding.take n).filter (!·.1)).length

/-- Close every endpoint that a test names and release its basin (R192). -/
def State.closeEps (s : State) (pick : Ep → Bool) : State :=
  let mine := s.eps.filter fun e => e.2.isOpen && pick e.2
  let shut := fun (e : Ep) => { e with isOpen := false, basin := 0, pool := none, closing := false }
  let s1 := { s with eps := Tab.mapVal s.eps fun _ e => if pick e then shut e else e }
  mine.foldl (fun s e => s.scrubs e.2.owner e.2.basin) s1

/-- A transfer is in progress at an endpoint direction. -/
def State.epBusy (s : State) (e : Ep) : Bool :=
  s.qps.any fun v => v.2.entries.any fun x =>
    x.addr == e.addr && x.ep == e.ep && (x.dirIn == e.dirIn || x.kind = .control) && x.begun && x.phase ≠ .finished

/-- Endpoints on a device taken from its owner close once they have no transfer in progress (R322). -/
def State.sweepEps (s : State) : State :=
  if s.eps.any fun e => e.2.closing && e.2.isOpen && !s.epBusy e.2 then
    s.closeEps fun e => e.closing && e.isOpen && !s.epBusy e
  else s

/-- MODERATION_TIMER_EXPIRY (R338 rule 2). -/
def execModerationTimerExpiry (q : Fin 4096) (s : State) : Host.Outcome State Fault Refusal :=
  let v := s.qp q
  done (if v.timer && v.unsignalled != 0 && decide (2 ≤ v.modCount) then s.modMessage q else s)

/-! ### Doorbells -/

/-- The function owns the queue pair (R451). -/
def State.ownsQp (s : State) (fn q : Nat) : Bool := (s.qp q).owner == some fn

/-- A submission doorbell value written by the owner (R144, R146). -/
def State.sqDoorbell (s : State) (q : Nat) (v : Half) : State :=
  let p := s.qp q
  if p.state = .running ∨ p.state = .halted then
    if sqDbOk v p.sqProd p.sqCons p.sqSize then
      if v = p.sqProd then s
      else { s with
        qps := Tab.set s.qps q { p with sqProd := v, doorbells := p.doorbells ++ [(v, s.dma.dbNext)] }
        dma := { s.dma with dbNext := s.dma.dbNext + 1 } }
    else s.dbFault q
  else s.dbFault q

/-- A completion doorbell value written by the owner: freed slots take held completions at once (R147, R158). -/
def State.cqDoorbell (s : State) (q : Nat) (v : Half) : State :=
  let p := s.qp q
  if p.state = .disabled ∨ p.state = .faulted then s.dbFault q
  else if cqDbOk v p.headIdx p.cqCons then ((s.writesLeave.setQp q { p with cqCons := v }).drainHolding q).drainCheck q
  else s.dbFault q

/-! ### The queues group -/

/-- Bytes of cistern that a standing contract's receive area takes (R187). -/
def Contract.areaBytes (c : Contract) : Nat := if c.standing then (c.depth * (c.maxp + 8) + 63) / 64 * 64 else 0

/-- Every contract of the committed Almanac and of the changes that await their switch, once each. -/
def State.allContracts (s : State) : List Contract :=
  s.alm.pend.foldl (fun cs ch => cs ++ ch.contracts.filter fun c => !cs.any fun d => d.id == c.id) s.alm.contracts

/-- Bytes of a tenant's share in use: holding areas, standing areas, basins or pools (R143, R187). -/
def State.shareUsed (s : State) (t : Nat) : Nat :=
  ((s.qps.filter fun e => e.2.owner == some t && e.2.state ≠ .disabled).length) * 2048 +
  ((s.allContracts.filter fun c => c.tenant == t).map Contract.areaBytes).sum +
  (if s.bit Fld.tenCisSharePoolMode t then
    ((s.pools.filter fun p => p.1 / 16 == t).map fun p => p.2.size * p.2.count).sum
  else ((s.eps.filter fun e => e.2.isOpen && e.2.owner == t).map fun e => e.2.basin).sum)

/-- A tenant's share has room for more bytes; what was released and awaits clearing is not given out (R192). -/
def State.shareFits (s : State) (t bytes : Nat) : Bool :=
  decide (s.shareUsed t + Tab.getD s.dma.released t 0 + bytes ≤ s.getF Fld.tenCisShareUnits t * 4096)

/-- A ring base is aligned to the smaller of the ring's size in bytes and 4 KiB (Table 6-1, R254). -/
def ringAligned (base : DWord) (bytes : Nat) : Bool := base.toNat % min bytes 4096 == 0

/-- An address lies inside a ring. -/
def inRing (a base : DWord) (bytes : Nat) : Bool := decide (base.toNat ≤ a.toNat ∧ a.toNat < base.toNat + bytes)

/-- QP_CONFIGURE (R142, Table 6-1). -/
def bodyQpConfigure (t : Nat) (s : State) (p : List Byte) : CmdRes :=
  let q := fieldAt p 0 2
  let vec := fieldAt p 2 1
  let sqSize := fieldAt p 4 2
  let cqSize := fieldAt p 6 2
  let sqBase : DWord := BitVec.ofNat 64 (fieldAt p 8 8)
  let cqBase : DWord := BitVec.ofNat 64 (fieldAt p 16 8)
  let head : DWord := BitVec.ofNat 64 (fieldAt p 24 8)
  if 4096 ≤ q then .err s .badParam
  else if !s.ownsQp t q then .err s .notOwner
  else if (s.qp q).state ≠ .disabled then .err s .wrongState
  else if !powerOfTwoIn sqSize 16 32768 || !powerOfTwoIn cqSize 16 32768 || !ringAligned sqBase (sqSize * 64) ||
      !ringAligned cqBase (cqSize * 32) || head.toNat % 4 != 0 || inRing head sqBase (sqSize * 64) ||
      inRing head cqBase (cqSize * 32) || decide ((if t = 0 then 63 else 7) < vec) then .err s .badParam
  else .ok (s.modQp q fun v => { v with
    sqBase := sqBase, sqSize := sqSize, cqBase := cqBase, cqSize := cqSize, headAddr := head, vector := vec
    configured := true }) 0

/-- The row of QpConfigure in Table 10-4. -/
def rowQpConfigure : CmdInfo :=
  { op := 0x0303, named := [(0, 3), (4, 28)] }

/-- QP_CONFIGURE (R142). -/
def execQpConfigure (t : Fin 256) (k : CmdPkt) (s : State) : Host.Outcome State Fault Refusal :=
  done (runCmd rowQpConfigure t k (bodyQpConfigure t) s)

/-- The queue pair starts: indices 0, epoch increased, head record written, causes and moderation cleared, Running
(R143, R336). -/
def State.qpStart (s : State) (q : Nat) : State :=
  let s1 := s.modQp q fun v => { v with
    state := .running, sqProd := 0, sqCons := 0, fetchIdx := 0, cqProd := 0, cqCons := 0, epoch := v.epoch + 1
    haltCause := 0, faultKind := 0, held := false, bp := false, entries := []
    holding := [], doorbells := [], causes := 0, unsignalled := 0, timer := false, aborting := false, polls := false, dropped := false, closedTo := none }
  s1.writesLeave.publishHead q 0

/-- QP_ENABLE (R143). -/
def bodyQpEnable (t : Nat) (s : State) (p : List Byte) : CmdRes :=
  let q := fieldAt p 0 2
  if 4096 ≤ q then .err s .badParam
  else if !s.ownsQp t q then .err s .notOwner
  else if (s.qp q).state ≠ .disabled ∨ ¬(s.qp q).configured then .err s .wrongState
  else if !s.shareFits t 2048 then .err s .noResource
  else .ok (s.qpStart q) (BitVec.ofNat 64 ((s.qp q).epoch + 1).toNat)

/-- The row of QpEnable in Table 10-4. -/
def rowQpEnable : CmdInfo :=
  { op := 0x0304, named := [(0, 2)], needReady := true }

/-- QP_ENABLE (R143). -/
def execQpEnable (t : Fin 256) (k : CmdPkt) (s : State) : Host.Outcome State Fault Refusal :=
  done (runCmd rowQpEnable t k (bodyQpEnable t) s)

/-- QP_DISABLE (R160, R161). -/
def bodyQpDisable (t : Nat) (s : State) (p : List Byte) : CmdRes :=
  let q := fieldAt p 0 2
  if 4096 ≤ q then .err s .badParam
  else if !s.ownsQp t q then .err s .notOwner
  else match (s.qp q).state with
    | .running => .ok ((s.modQp q fun v => { v with state := .draining }).drainCheck q) 0
    | .halted => if (s.qp q).aborting then .err s .wrongState else .ok (s.abortEntries q) 0
    | .faulted => .ok (s.enterDisabled q) 0
    | _ => .err s .wrongState

/-- The row of QpDisable in Table 10-4. -/
def rowQpDisable : CmdInfo :=
  { op := 0x0305, named := [(0, 2)] }

/-- QP_DISABLE (R161). -/
def execQpDisable (t : Fin 256) (k : CmdPkt) (s : State) : Host.Outcome State Fault Refusal :=
  done (runCmd rowQpDisable t k (bodyQpDisable t) s)

/-- The number of a queue pair state (Table 6-15). -/
def QpState.code : QpState → Nat
  | .disabled => 0 | .running => 1 | .draining => 2 | .halted => 3 | .faulted => 4

/-- A queue pair record (Table 10-9). -/
def Qp.record (v : Qp) (q : Nat) : List Byte :=
  leBytes 2 q ++ leBytes 1 (v.state.code + (if v.held then 8 else 0) + (if v.bp then 16 else 0)) ++
    leBytes 1 v.vector ++ leBytes 2 v.sqProd.toNat ++ leBytes 2 v.sqCons.toNat ++ leBytes 2 v.cqCons.toNat ++
    leBytes 2 v.headIdx.toNat ++ leBytes 2 v.epoch.toNat ++ leBytes 2 (v.contract.getD 0xFFFF) ++
    leBytes 2 v.sqSize ++ leBytes 2 v.cqSize ++ leBytes 4 0 ++ leBytes 8 v.sqBase.toNat ++
    leBytes 8 v.cqBase.toNat ++ leBytes 8 v.headAddr.toNat

/-- QP_QUERY (R272). -/
def bodyQpQuery (t : Nat) (s : State) (p : List Byte) : CmdRes :=
  let q := fieldAt p 0 2
  if 4096 ≤ q then .err s .badParam
  else if !s.ownsQp t q then .err s .notOwner
  else .block s ((s.qp q).record q)

/-- The row of QpQuery in Table 10-4. -/
def rowQpQuery : CmdInfo :=
  { op := 0x0306, jrn := false, named := [(0, 2)], outLen := some (fun _ => 48), standby := true }

/-- QP_QUERY (R272). -/
def execQpQuery (t : Fin 256) (k : CmdPkt) (s : State) : Host.Outcome State Fault Refusal :=
  done (runCmd rowQpQuery t k
    (bodyQpQuery t) s)

end Sys2Proof.Machine
end

