-- ==== Sys2Proof/Machine/Almanac.lean ====
section
/-!
DEFINITION. The Almanac: contract records and their checks, charges, admission, placement, the compiled copies, the switch
of a change, and the commands of the contracts group (04 R86 to R97, R107, R110 to R114).
-/
namespace Sys2Proof.Machine

/-! ### Contract records (R86, R87) -/

/-- A contract record without a reserved encoding or a non-zero reserved field, for a tenant and identifier
(Table 4-1); none is BAD_CONTRACT. -/
def Contract.parse (b : List Byte) (tenant id : Nat) : Option Contract :=
  let ae := fieldAt b 0 2
  let kind := fieldAt b 2 1
  let iv := fieldAt b 3 1
  let mx := fieldAt b 4 2
  let pr := fieldAt b 6 1
  let fl := fieldAt b 7 1
  let fp := fieldAt b 8 2
  let bp := fieldAt b 10 1
  let de := fieldAt b 11 1
  let qp := fieldAt b 12 2
  if decide (4 ≤ kind) || decide (16 ≤ iv) || decide (11 ≤ iv ∧ iv ≤ 14) || decide (1024 < mx) || decide (8 ≤ pr) ||
      decide (16 ≤ fl) || bitsOf fl 2 2 == 3 || decide ((if iv = 15 then 1 else 2 ^ iv) ≤ fp) || decide (8 ≤ bp) ||
      decide (4 ≤ de) || decide (4096 ≤ qp) || fieldAt b 15 1 != 0 || fieldAt b 18 14 != 0 || decide (16384 ≤ id) then none
  else some
    { id := id, addrEp := BitVec.ofNat 16 ae, dirIn := bitsOf kind 0 1 == 1, strike := bitsOf kind 1 2 == 1
      interval := iv, maxp := mx, prio := pr, standing := bitsOf fl 0 1 == 1, mrcSrc := bitsOf fl 1 1 == 1
      place := bitsOf fl 2 2, framePhase := fp, beatPhase := bp, depth := 2 ^ de, qp := qp, tenant := tenant, slots := [] }

/-- The device address of a contract. -/
def Contract.addr (c : Contract) : Nat := c.addrEp.toNat % 4096

/-- The endpoint number of a contract. -/
def Contract.ep (c : Contract) : Nat := c.addrEp.toNat / 4096

/-- The period in frames (Table 4-2). -/
def Contract.period (c : Contract) : Nat := if c.interval = 15 then 1 else 2 ^ c.interval

/-- The beats of a frame in which the contract has a slot. -/
def Contract.beats (c : Contract) : List Nat := if c.interval = 15 then List.range 8 else [c.beatPhase]

/-- The contract has a slot in a cell, which is 8 × cycle frame + beat (R87). -/
def Contract.inCell (c : Contract) (cell : Nat) : Bool :=
  cell / 8 % c.period == c.framePhase && c.beats.contains (cell % 8)

/-! ### Checks (R88 to R90) -/

/-- The least reserve of pool buffers for the endpoint direction of a contract: 2, and a buffer for each packet of the slots of
two frames where the payload goes through the pool (R189; log entry 138). -/
def Contract.poolNeed (c : Contract) : Nat :=
  if c.standing || c.mrcSrc || decide (1 < c.period) then 2 else 2 * c.beats.length

/-- The checks of R88 on a parsed contract, against the contracts that stay; the reason of the first that fails
(Table 10-6). An endpoint attached to a pool with too small a reserve fails the fifth (R189; log entry 138). -/
def State.conCheck (s : State) (live : List Contract) (closing : Option Nat) (c : Contract) : Option Nat :=
  match s.placeOf c.addr with
  | none => some 4
  | some p =>
    let q := s.qp c.qp
    let e := s.ep c.addr c.ep c.dirIn
    if p.owner != c.tenant || (p.isHub && c.tenant != 0) then some 2
    else if q.owner != some c.tenant || q.homeQuad != quadOf (routePort p.route) ||
        !(q.contract.isNone || q.contract == closing) || (live.any fun d => d.qp == c.qp) then some 3
    else if c.ep = 0 || (live.any fun d => d.addrEp == c.addrEp && d.dirIn == c.dirIn) ||
        decide ((if e.isOpen then e.mps else speedMps p.speed) < c.maxp) ||
        (match (if e.isOpen then e.pool else none) with
          | some k => decide (((Tab.find s.pools (c.tenant * 16 + k)).map (·.reserve)).getD 0 < c.poolNeed)
          | none => false) then some 1
    else if (c.strike && c.dirIn) || ((c.standing || c.mrcSrc) && !c.dirIn) || (c.mrcSrc && c.interval != 15) then some 1
    else if c.strike && !s.pathE p then some 5
    else none

/-! ### Charges (R91) -/

/-- The resources that admission checks: a link direction, a pair, a translator's downstream time, a quad's transactions
and payload, a translator's buffers. -/
inductive Resource where
  | link (port : Nat) (inbound : Bool)
  | pair (port : Nat)
  | trans (hub : Nat)
  | txn (quad : Nat)
  | bytes (quad : Nat)
  | buf (hub : Nat)
  deriving DecidableEq, Repr

/-- A charge of a slot: resource, beats after the slot's beat, amount, and the ROLE of the slot record it makes. -/
structure Load where
  res : Resource
  off : Nat
  amt : Nat
  role : Option Nat
  deriving DecidableEq, Repr

/-- The charges of a contract's slot on the path of its device (Table 4-3). The start split of a strike has the role of a
strike, and the complete split of its DISARM that of the DISARM reserve (log entry 22). A strike on an F/L pair is charged by
Table 2-8 with a token 9 bytes longer than another, and a DISARM beside it (log entry 21). -/
def State.loadsOf (s : State) (c : Contract) : List Load :=
  match s.placeOf c.addr with
  | none => []
  | some p =>
    let port := routePort p.route
    let q := quadOf port
    let m := c.maxp
    let out := Resource.link port false
    let pay := Resource.link port (c.dirIn && m != 0)
    let bytes : Load := ⟨.bytes q, 0, m, none⟩
    if routePair p.route then
      if c.strike then
        [⟨.pair port, 0, charge p.speed (m + 9), some 3⟩, ⟨.pair port, 0, charge p.speed 0, some 4⟩, ⟨.txn q, 0, 2, none⟩, bytes]
      else [⟨.pair port, 0, charge p.speed m, some 0⟩, ⟨.txn q, 0, 1, none⟩, bytes]
    else match s.translator p with
      | none =>
        if c.strike then [⟨out, 0, m + 129, some 3⟩, ⟨out, 0, 120, some 4⟩, ⟨.txn q, 0, 2, none⟩, bytes]
        else [⟨pay, 0, m + 120, some 0⟩, ⟨.txn q, 0, 1, none⟩, bytes]
      | some h =>
        let d := if p.speed = 1 then 2 else 1
        let held := (List.range (d + 2)).map fun k => (⟨.buf h.addr, k, 1, none⟩ : Load)
        if c.strike then
          [⟨out, 0, m + 129, some 3⟩, ⟨out, d, 120, some 2⟩, ⟨out, d, 120, some 5⟩, ⟨out, d, 120, some 4⟩,
           ⟨out, d + 1, 120, some 2⟩, ⟨out, d + 1, 120, some 4⟩,
           ⟨.trans h.addr, 1, charge p.speed (m + 9) + charge p.speed 0, none⟩, ⟨.txn q, 0, 1, none⟩,
           ⟨.txn q, d, 3, none⟩, ⟨.txn q, d + 1, 2, none⟩, bytes] ++ held
        else
          let fin := if c.dirIn then m + 120 else 120
          [⟨out, 0, if c.dirIn then 120 else m + 120, some 1⟩, ⟨pay, d, fin, some 2⟩, ⟨pay, d + 1, fin, some 2⟩,
           ⟨.trans h.addr, 1, charge p.speed m, none⟩, ⟨.txn q, 0, 1, none⟩, ⟨.txn q, d, 1, none⟩,
           ⟨.txn q, d + 1, 1, none⟩, bytes] ++ held

/-- A contract with its charges. -/
abbrev Charged := Contract × List Load

/-- Contracts with their charges. -/
def State.charged (s : State) (cs : List Contract) : List Charged := cs.map fun c => (c, s.loadsOf c)

/-- What a contract puts on a resource in a cell. -/
def Charged.at_ (c : Charged) (x : Resource) (cell : Nat) : Nat :=
  (c.2.map fun l => if l.res = x && c.1.inCell ((cell + 8192 - l.off) % 8192) then l.amt else 0).sum

/-- The sum of the charges on a resource in a cell: Res, Txn, Bytes or Buf of R92. -/
def resAt (cs : List Charged) (x : Resource) (cell : Nat) : Nat := (cs.map fun c => Charged.at_ c x cell).sum

/-- The resources that contracts use. -/
def resourcesOf (cs : List Charged) : List Resource := (cs.flatMap fun c => c.2.map (·.res)).eraseDups

/-- Round a quotient up. -/
def ceilDiv (a b : Nat) : Nat := (a + b - 1) / b

/-- The beat length that a reservation on a resource needs (R92, R95). -/
def Resource.need (x : Resource) (n : Nat) : Nat :=
  match x with
  | .link _ _ | .pair _ | .trans _ => ceilDiv (n * 5) 4
  | .txn _ => ceilDiv (n * 125) 4
  | .bytes _ => ceilDiv n 5
  | .buf _ => 0

/-- The reason of Table 10-6 for a resource. -/
def Resource.reason (x : Resource) : Nat :=
  match x with
  | .link _ _ | .pair _ => 6
  | .trans _ => 7
  | .txn _ | .bytes _ => 9
  | .buf _ => 8

/-! ### Admission (R92, R93) -/

/-- The buffer count of a translator by its hub's address (R50). -/
def State.nbuf (s : State) (hub : Nat) : Nat :=
  match (s.placeOf hub).bind (·.hub) with
  | some h => h.ttBuffers
  | none => 1 + Config.expectedBuffers hub % 32

/-- c[x] of R92 for the pairs and translators that have devices. -/
def State.controlRoom (s : State) : List (Resource × Nat) :=
  let ps := (s.places.map (·.2)).filter fun p => p.present || p.addr != 0
  let key := fun p : Place =>
    if routePair p.route then some (Resource.pair (routePort p.route))
    else (s.translator p).map fun h => Resource.trans h.addr
  ((ps.filterMap key).eraseDups).map fun x =>
    (x, ((ps.filter fun p => key p == some x).map fun p => charge p.speed p.ep0Mps).foldl max 0)

/-- The needs of R92 with the reason that each would give, in the order of its loops. -/
def State.needTerms (s : State) (cs : List Charged) : List (Nat × Nat) :=
  let xs := resourcesOf cs
  (List.range 8192).flatMap (fun cell => xs.map fun x => (x.need (resAt cs x cell), x.reason)) ++
    s.controlRoom.flatMap fun xc =>
      (List.range 1024).map fun f =>
        let best := ((List.range 8).map fun b => resAt cs xc.1 (8 * f + b) + xc.2).foldl min (2 ^ 64)
        (ceilDiv (best * 20) 19, xc.1.reason)

/-- The largest need, with the reason of the resource that set it first. -/
def worstNeed (ts : List (Nat × Nat)) : Nat × Nat := ts.foldl (fun m t => if m.1 < t.1 then t else m) (0, 6)

/-- A translator would hold more than its buffer count less one (R92, R93). -/
def State.buffersFull (s : State) (cs : List Charged) : Bool :=
  (resourcesOf cs).any fun x =>
    match x with
    | .buf h => (List.range 8192).any fun cell => decide (s.nbuf h - 1 < resAt cs x cell)
    | _ => false

/-- Admission of a candidate set: its floor, or the reason of a refusal (R92). -/
def State.admission (s : State) (cs : List Contract) (limit : Nat) : Except Nat Nat :=
  let ch := s.charged cs
  let w := worstNeed (s.needTerms ch)
  let floor := max 250000 (8 * w.1)
  if s.buffersFull ch then .error 8 else if limit < floor then .error w.2 else .ok floor

/-- The limit of R92 in a Millrace mode. -/
def mrcLimit (mode fixed max : Nat) : Nat := if mode = 0 ∨ mode = 3 then fixed else max

/-- The limit of R92 under the Millrace parameters written last. -/
def State.floorLimit (s : State) : Nat :=
  mrcLimit (s.getF Fld.mrcCtrlMode 0) (s.getF Fld.mrcLenFixedLen 0) (s.getF Fld.mrcLenMaxLen 0)

/-! ### Placement and START offsets (R95, R96) -/

/-- A slot record occupies the inbound direction of its H link: it carries payload inwards. -/
def Slot.inbound (x : Slot) : Bool := x.dirIn && x.maxp != 0 && (x.role == 0 || x.role == 2)

/-- A slot record exists in a cycle frame and beat. -/
def Slot.inBeat (x : Slot) (f b : Nat) : Bool := x.beat == b && f % x.period == x.phase

/-- The ranges occupied on a resource in one beat. -/
def rangesIn (sl : List Slot) (port : Nat) (onPair inbound : Bool) (f b : Nat) : List (Nat × Nat) :=
  (sl.filter fun x => x.inBeat f b && x.port == port && x.pair == onPair && (onPair || x.inbound == inbound)).map fun x =>
    (x.start, x.start + x.charge)

/-- The lowest free range of a length, within a bound (R96). -/
def lowestFree (rs : List (Nat × Nat)) (len bound : Nat) : Option Nat :=
  let ok := fun a : Nat => decide (a + len ≤ bound) && rs.all fun r => decide (a + len ≤ r.1 ∨ r.2 ≤ a)
  ((0 :: rs.map (·.2)).filter ok).foldl (fun m a => match m with | none => some a | some x => some (min x a)) none

/-- The slots of one charge of a contract from one of its beats: one record for the period where every START is the
same, else one for each frame of the cycle. -/
def pieceSlots (c : Contract) (port : Nat) (onPair : Bool) (sl : List Slot) (bound : Nat) (l : Load) (role b : Nat) :
    Option (List Slot) :=
  let beat := (b + l.off) % 8
  let ph := (c.framePhase + (b + l.off) / 8) % c.period
  let mk := fun (period phase start : Nat) =>
    ({ period := period, phase := phase, beat := beat, start := start, role := role, addrEp := c.addrEp, port := port
       pair := onPair, dirIn := c.dirIn, prio := c.prio, qp := c.qp, maxp := c.maxp, contract := c.id
       charge := l.amt } : Slot)
  let inb := (mk 1 0 0).inbound
  let fs := (List.range 1024).filter fun f => f % c.period == ph
  let at_ := fs.map fun f => lowestFree (rangesIn sl port onPair inb f beat) l.amt bound
  match at_ with
  | [] => some []
  | none :: _ => none
  | some a :: _ =>
    if at_.all fun x => x == some a then some [mk c.period ph a]
    else if at_.all Option.isSome then some ((fs.zip at_).map fun x => mk 1024 x.1 (x.2.getD 0))
    else none

/-- The slots of a contract at its position, each at the lowest free range (R96). -/
def State.slotsOf (s : State) (others : List Slot) (c : Contract) (bound : Nat) : Option (List Slot) :=
  match s.placeOf c.addr with
  | none => some []
  | some p =>
    let todo := (s.loadsOf c).flatMap fun l =>
      match l.role with
      | none => []
      | some r => c.beats.map fun b => (l, r, b)
    todo.foldl (fun acc x =>
      match acc with
      | none => none
      | some mine =>
        (pieceSlots c (routePort p.route) (routePair p.route) (others ++ mine) bound x.1 x.2.1 x.2.2).map (mine ++ ·))
      (some [])

/-- The planned length of the shortest beat under a floor (R38, R74). -/
def plannedBeat (floor : Nat) : Nat := floor / 8 * 95 / 100

/-- RES_MAX of a port: the largest reservation end over all beats and both directions (Table 4-5). -/
def resMax (cs : List Contract) (port : Nat) : Nat :=
  ((cs.flatMap (·.slots)).filter fun x => x.port == port).foldl (fun m x => max m (x.start + x.charge)) 0

/-- The length of a tenant's window on a port with a given planned beat (R109). -/
def State.windowLen (s : State) (quantum : Nat → Nat) (port resEnd planned t : Nat) : Nat :=
  let total := ((s.ownersBelow port).map quantum).sum
  if total = 0 then 0 else (planned - resEnd) * quantum t / total

/-- Strict mode would leave T0's window on a port with hubs too short for one endpoint-0 transaction (R110). -/
def State.windowShort (s : State) (cs : List Contract) (floor : Nat) (quantum : Nat → Nat) : Bool :=
  (List.range 16).any fun port =>
    let hubs := (s.places.map (·.2)).filter fun p => p.isHub && p.addr != 0 && routePort p.route == port
    let mps := (hubs.map Place.ep0Mps).foldl max 0
    !hubs.isEmpty && decide (s.windowLen quantum port (resMax cs port) (plannedBeat floor) 0 <
      (hubs.map fun p => charge p.speed mps).foldl max 0)

/-- The load of a contract's position over the resources it uses (R95). -/
def State.loadAt (s : State) (others : List Charged) (c : Contract) : Nat :=
  let me : Charged := (c, s.loadsOf c)
  let xs := ((me.2.map (·.res)).eraseDups)
  (List.range 1024).foldl (fun m f =>
    max m ((List.range 8).map fun b =>
      (xs.map fun x =>
        let own := Charged.at_ me x (8 * f + b)
        if own = 0 then 0 else x.need (resAt others x (8 * f + b) + own)).sum).sum) 0

/-- Try a contract at one position: its slots and the floor, or the reason (R92, R95, R96, R110). -/
def State.tryAt (s : State) (others : List Contract) (c : Contract) (limit : Nat) (strict : Bool) (frame beat : Nat) :
    Except Nat (Contract × Nat) :=
  let c1 := { c with framePhase := frame, beatPhase := beat }
  match s.admission (others ++ [c1]) limit with
  | .error r => .error r
  | .ok floor =>
    match s.slotsOf (others.flatMap (·.slots)) c1 (plannedBeat floor) with
    | none => .error 10
    | some sl =>
      let c2 := { c1 with slots := sl }
      if strict && s.windowShort (others ++ [c2]) floor s.quantum then .error 13 else .ok (c2, floor)

/-- The positions of a contract, in cycle order from its preferred one. -/
def Contract.positions (c : Contract) : List (Nat × Nat) :=
  if c.interval = 15 then [(0, c.beatPhase)]
  else
    let all := (List.range (8 * c.period)).map fun k => (k / 8, k % 8)
    let k0 := 8 * c.framePhase + c.beatPhase
    all.drop k0 ++ all.take k0

/-- Place one contract beside others as its PLACE field directs (R95). -/
def State.placeOne (s : State) (others : List Contract) (c : Contract) (limit : Nat) (strict : Bool) :
    Except Nat (Contract × Nat) :=
  let try_ := fun fb : Nat × Nat => s.tryAt others c limit strict fb.1 fb.2
  let good := fun fb : Nat × Nat => match try_ fb with | .ok r => some r | .error _ => none
  if c.place = 0 then try_ (c.framePhase, c.beatPhase)
  else if c.place = 1 then
    match c.positions.findSome? good with
    | some r => .ok r
    | none => .error 10
  else
    let ch := s.charged others
    let all := ({ c with framePhase := 0, beatPhase := 0 } : Contract).positions
    let best := all.foldl (fun m fb =>
      match good fb with
      | none => m
      | some r =>
        let l := s.loadAt ch r.1
        match m with
        | none => some (l, r)
        | some x => if l < x.1 then some (l, r) else some x) (none : Option (Nat × Contract × Nat))
    match best with
    | some x => .ok x.2
    | none => .error 10

/-- The order in which a batch is placed: higher PRIO, shorter interval, lower CONTRACT_ID (R95). -/
def Contract.before (a b : Contract) : Bool :=
  let len := fun c : Contract => if c.interval = 15 then 1 else 8 * 2 ^ c.interval
  decide (b.prio < a.prio) || (a.prio == b.prio &&
    (decide (len a < len b) || (len a == len b && decide (a.id < b.id))))

/-- Insertion into an ordered list. -/
def insertBy {α : Type} (lt : α → α → Bool) (x : α) : List α → List α
  | [] => [x]
  | y :: r => if lt x y then x :: y :: r else y :: insertBy lt x r

/-- Order a list; equal elements keep their order. -/
def orderBy {α : Type} (lt : α → α → Bool) (l : List α) : List α := l.foldl (fun acc x => insertBy lt x acc) []

/-- The copy of one quad as runs of slot records: equal slot lists of beats share one run (Table 4-5; log entry 23). -/
def quadBeat (cs : List Contract) (quad f b : Nat) : List Slot :=
  orderBy (fun x y => decide (x.start < y.start))
    ((cs.flatMap (·.slots)).filter fun x => quadOf x.port == quad && x.inBeat f b)

/-- The different runs of a quad. -/
def quadRuns (cs : List Contract) (quad : Nat) : List (List Slot) :=
  ((List.range 8192).map fun k => quadBeat cs quad (k / 8) (k % 8)).eraseDups

/-- A quad's slot array or a beat's slot count would not hold its records (Table 4-4, Table 4-5). -/
def almanacFull (cs : List Contract) : Bool :=
  (List.range 4).any fun q =>
    let rs := quadRuns cs q
    decide (16384 < (rs.map List.length).sum) || rs.any fun r => decide (4095 < r.length)

/-- A full compile of a set: positions in batch order, then every beat laid out from offset 0, strikes first
(R95, R96, R114). -/
def State.fullCompile (s : State) (cs : List Contract) (limit : Nat) (strict : Bool) : Except Nat (List Contract × Nat) :=
  let step := fun (acc : Except Nat (List Contract)) (c : Contract) =>
    match acc with
    | .error r => .error r
    | .ok done => match s.placeOne done c limit strict with
      | .error r => .error r
      | .ok x => .ok (done ++ [x.1])
  match (orderBy Contract.before cs).foldl step (.ok []) with
  | .error r => .error r
  | .ok placed =>
    match s.admission placed limit with
    | .error r => .error r
    | .ok floor =>
      let lay := (placed.filter (·.strike) ++ placed.filter (!·.strike)).foldl (fun acc c =>
        match acc with
        | none => none
        | some done => (s.slotsOf (done.flatMap (·.slots)) c (plannedBeat floor)).map fun sl =>
          done ++ [{ c with slots := sl }]) (some [] : Option (List Contract))
      match lay with
      | none => .error 10
      | some r =>
        if strict && s.windowShort r floor s.quantum then .error 13
        else if almanacFull r then .error 11 else .ok (r, floor)

/-! ### Changes and their switch (R74, R111 to R114) -/

/-- The contracts in force in a frame. -/
def State.contractsIn (s : State) (frame : Word) : List Contract :=
  match (s.alm.pend.filter fun ch => atOrAfter frame ch.frame).getLast? with
  | none => s.alm.contracts
  | some ch => ch.contracts

/-- floor_now: the highest floor of the committed Almanac and of every accepted change (R74). -/
def State.floorNow (s : State) : Nat := s.alm.pend.foldl (fun m ch => max m ch.floor) s.alm.floor

/-- The registers that show the Almanac follow it (Tables 3-7, 4-11, 4-12, 4-15; log entry 24). -/
def State.almRegs (s : State) : State :=
  let s1 := ((s.setF Fld.mrcFloorLen 0 s.floorNow).setF Fld.gblAlmStatusPending 0
    (if s.alm.pend.isEmpty then 0 else 1)).setF Fld.gblAlmStatusGen 0 s.alm.gen.toNat
  s1.setReg .gblAlmSwitch 0 (match s.alm.pend.head? with | some ch => ch.frame | none => s.alm.since)

/-- PRT_PERIODIC_RES of every port from the committed Almanac (Table 4-15, R115). -/
def State.periodicRes (s : State) : State :=
  let ch := s.charged s.alm.contracts
  let top := fun x : Resource => (List.range 8192).foldl (fun m c => max m (resAt ch x c)) 0
  (List.range 16).foldl (fun s p =>
    let pr := top (.pair p)
    (s.setF Fld.prtPeriodicResOutRes p (min 65535 (ceilDiv (max (top (.link p false)) pr) 4))).setF
      Fld.prtPeriodicResInRes p (min 65535 (ceilDiv (max (top (.link p true)) pr) 4))) s

/-- The switch frame that a change accepted now receives (R111, R112; log entry 25). -/
def State.nextSwitch (s : State) : Word :=
  match s.alm.pend.getLast? with
  | none => s.time.frame + 3
  | some ch => maxFrame (s.time.frame + 3) (ch.frame + 3)

/-- Accept a change: it waits for its switch frame, and its floor counts from now (R74, R111). -/
def State.acceptChange (s : State) (cs : List Contract) (floor : Nat) : State :=
  { s with alm := { s.alm with pend := s.alm.pend ++ [(⟨cs, s.nextSwitch, floor⟩ : AlmChange)] } : State }.almRegs

/-- An entry still queued when its contract's last slot has passed (R113). -/
def Entry.stillQueued (e : Entry) : Bool :=
  (e.phase = .queued || e.phase = .started) &&
  (e.kind != .strike || e.strike = .unplaced || e.strike = .placed)

/-- A queue pair is unbound when the last slot of its contract has passed (R113). -/
def State.unbind (s : State) (q : Nat) : State :=
  let busy := fun (e : Entry) => s.txns.any fun x => x.outstanding && decide (x.work = .entry q e.idx)
  s.modQp q fun v =>
    if v.contract.isNone then v
    else { v with
      contract := none
      closedTo := some v.sqProd
      entries := v.entries.map fun e =>
        if e.stillQueued && !busy e then e.finish .contractClosed s.now s.time.frame else e }

/-- The end of a contract at its switch frame: its queue pair is unbound unless the new copy binds it, and its standing
area is released (R113, R192). -/
def State.endContract (s : State) (new : List Contract) (c : Contract) : State :=
  let s1 := if new.any fun d => d.qp == c.qp then s else s.unbind c.qp
  if c.standing then { s1 with areas := Tab.del s1.areas c.id }.scrubs c.tenant c.areaBytes else s1

/-- The contracts bind their queue pairs (R89). -/
def State.bind (s : State) (cs : List Contract) : State :=
  cs.foldl (fun s c => s.modQp c.qp fun v => { v with contract := some c.id, closedTo := none }) s

/-- At its switch frame a change becomes the committed copy, and a queue pair that passes to a replacement is bound to it
(R111, R113). -/
def State.switchAlmanac (s : State) (ch : AlmChange) (rest : List AlmChange) : State :=
  let old := s.alm.contracts
  let s1 := { s with alm := { s.alm with
    gen := s.alm.gen + 1, contracts := ch.contracts, floor := ch.floor, since := ch.frame, pend := rest } }
  let gone := old.filter fun c => !ch.contracts.any fun d => d.id == c.id && d.qp == c.qp && d.tenant == c.tenant
  let own := ch.contracts.filter fun c => (s.qp c.qp).owner == some c.tenant
  ((gone.foldl (fun s c => s.endContract ch.contracts c) s1).bind own).almRegs.periodicRes

/-- The changes whose switch frame has come (R111). -/
def State.switchDue (s : State) : Nat → State
  | 0 => s
  | n + 1 =>
    match s.alm.pend with
    | [] => s
    | ch :: rest => if atOrAfter s.time.frame ch.frame then (s.switchAlmanac ch rest).switchDue n else s

/-- The slots of a frame that the builder opens (R16, R97). -/
def State.openFrame (s : State) (frame : Word) : FrameRec :=
  let sl := ((s.contractsIn frame).flatMap (·.slots)).filter fun x => x.inBeat (frame.toNat % 1024) x.beat
  let lt := fun x y : Slot => decide (x.beat * 2 ^ 20 + x.start < y.beat * 2 ^ 20 + y.start)
  ⟨frame, (orderBy lt sl).map fun x => ⟨x, none, false⟩⟩

/-! ### The contracts group -/

/-- The lowest free contract identifier (log entry 26). -/
def State.freeContract (s : State) : Option Nat :=
  (List.range 16384).find? fun k => !s.allContracts.any fun c => c.id == k

/-- Open a contract in place of one that closes, if any: the checks, admission, and the switch frame (R88, R92, R95,
R111, R113). -/
def State.conChange (s : State) (t : Nat) (b : List Byte) (closing : Option Nat) : CmdRes :=
  let keep := s.latestContracts.filter fun c => some c.id != closing
  match Contract.parse b t 0 with
  | none => .refuse s 1
  | some c0 =>
    match s.conCheck keep closing c0, s.freeContract with
    | some r, _ => .refuse s r
    | none, none => .refuse s 11
    | none, some id =>
      let c := { c0 with id := id }
      match s.placeOne keep c s.floorLimit s.strictNext with
      | .error r => .refuse s r
      | .ok (c1, floor) =>
        if almanacFull (keep ++ [c1]) then .refuse s 11
        else if !s.shareFits t c1.areaBytes then .refuse s 12
        else
          let sf := s.nextSwitch
          let bound := if (s.qp c1.qp).contract.isNone then [c1] else []
          .ok ((s.acceptChange (keep ++ [c1]) floor).bind bound) (BitVec.ofNat 64 (id + sf.toNat * 65536))

/-- A contract command that would be accepted while another change is pending waits until that change has switched: nothing
of it happens yet, and its packet stays at the front of the ring (R112). -/
def State.conTurn (s : State) (run : State → State) : State :=
  let u := run s
  if !s.alm.pend.isEmpty && decide (s.alm.pend.length < u.alm.pend.length) then s else u

/-- The row of ConOpen in Table 10-4. -/
def rowConOpen : CmdInfo :=
  { op := 0x0601, named := [(0, 32)] }

/-- CON_OPEN (R88). -/
def execConOpen (t : Fin 256) (k : CmdPkt) (s : State) : Host.Outcome State Fault Refusal :=
  done (s.conTurn (runCmd rowConOpen t k fun s p => s.conChange t p none))

/-- The contract that a command names: BAD_PARAM where none has the identifier, NOT_OWNER where another tenant holds it. -/
def State.namedContract (s : State) (t id : Nat) : Except CmdStatus Contract :=
  match s.latestContracts.find? fun c => c.id == id with
  | none => .error .badParam
  | some c => if c.tenant = t then .ok c else .error .notOwner

/-- CON_CLOSE (R113). -/
def bodyConClose (t : Nat) (s : State) (p : List Byte) : CmdRes :=
  match s.namedContract t (fieldAt p 0 2) with
  | .error e => .err s e
  | .ok c =>
    let keep := s.latestContracts.filter fun d => d.id != c.id
    match s.admission keep s.floorLimit with
    | .error r => .refuse s r
    | .ok floor =>
      if s.strictNext && s.windowShort keep floor s.quantum then .refuse s 13
      else .ok (s.acceptChange keep floor) (BitVec.ofNat 64 (s.nextSwitch.toNat * 65536))

/-- The row of ConClose in Table 10-4. -/
def rowConClose : CmdInfo :=
  { op := 0x0602, named := [(0, 2)] }

/-- CON_CLOSE (R113). -/
def execConClose (t : Fin 256) (k : CmdPkt) (s : State) : Host.Outcome State Fault Refusal :=
  done (s.conTurn (runCmd rowConClose t k (bodyConClose t)))

/-- CON_REPLACE (R113). -/
def bodyConReplace (t : Nat) (s : State) (p : List Byte) : CmdRes :=
  match s.namedContract t (fieldAt p 0 2) with
  | .error e => .err s e
  | .ok c => s.conChange t (p.drop 8) (some c.id)

/-- The row of ConReplace in Table 10-4. -/
def rowConReplace : CmdInfo :=
  { op := 0x0603, named := [(0, 2), (8, 32)] }

/-- CON_REPLACE (R113). -/
def execConReplace (t : Fin 256) (k : CmdPkt) (s : State) : Host.Outcome State Fault Refusal :=
  done (s.conTurn (runCmd rowConReplace t k (bodyConReplace t)))

/-- CON_QUERY: the record as admitted, at the position that placement gave (R261; log entry 26). -/
def bodyConQuery (t : Nat) (s : State) (p : List Byte) : CmdRes :=
  match s.allContracts.find? fun c => c.id == fieldAt p 0 2 with
  | none => .err s .badParam
  | some c => if c.tenant = t then .block s c.record else .err s .notOwner

/-- The row of ConQuery in Table 10-4. -/
def rowConQuery : CmdInfo :=
  { op := 0x0604, jrn := false, named := [(0, 2)], outLen := some (fun _ => 32), standby := true }

/-- CON_QUERY (R261). -/
def execConQuery (t : Fin 256) (k : CmdPkt) (s : State) : Host.Outcome State Fault Refusal :=
  done (runCmd rowConQuery t k
    (bodyConQuery t) s)

/-- A quantum is 0, or lies between 256 and 65,535, and is not 0 for a tenant that owns devices (R110). -/
def State.quantumOk (s : State) (t v : Nat) : Bool := (v == 0 && !s.ownsDevices t) || decide (256 ≤ v ∧ v ≤ 65535)

/-- WEIR_QUOTA (R110). -/
def bodyWeirQuota (s : State) (p : List Byte) : CmdRes :=
  let ten := fieldAt p 0 1
  let v := fieldAt p 2 2
  let sf := s.time.frame + 3
  let s1 := { s with alm := { s.alm with quanta := s.alm.quanta ++ [(sf, ten, v)] } }
  if !s.quantumOk ten v then .err s .badParam
  else if s.strictNext && s.windowShort s.latestContracts s.floorNow s1.quantum then .refuse s 13
  else .ok s1 (sf.setWidth 64)

/-- The row of WeirQuota in Table 10-4. -/
def rowWeirQuota : CmdInfo :=
  { op := 0x0605, t0 := true, named := [(0, 1), (2, 2)] }

/-- WEIR_QUOTA (R110). -/
def execWeirQuota (t : Fin 256) (k : CmdPkt) (s : State) : Host.Outcome State Fault Refusal :=
  done (runCmd rowWeirQuota t k bodyWeirQuota s)

/-- WEIR_MODE (R107). -/
def bodyWeirMode (s : State) (p : List Byte) : CmdRes :=
  let m := fieldAt p 0 1
  let sf := s.time.frame + 3
  if 1 < m then .err s .badParam
  else if m = 1 ∧ s.windowShort s.latestContracts s.floorNow s.quantum then .refuse s 13
  else .ok { s with alm := { s.alm with mode := s.alm.mode ++ [(sf, m)] } } (sf.setWidth 64)

/-- The row of WeirMode in Table 10-4. -/
def rowWeirMode : CmdInfo :=
  { op := 0x0606, t0 := true, named := [(0, 1)] }

/-- WEIR_MODE (R107). -/
def execWeirMode (t : Fin 256) (k : CmdPkt) (s : State) : Host.Outcome State Fault Refusal :=
  done (runCmd rowWeirMode t k bodyWeirMode s)

/-- Quanta and the mode whose first frame has come (R107, R110). -/
def State.weirDue (s : State) : State :=
  let due := s.alm.quanta.filter fun e => atOrAfter s.time.frame e.1
  let s1 := due.foldl (fun s e => s.setF Fld.tenWeirQuotaQuantum e.2.1 e.2.2)
    { s with alm := { s.alm with quanta := s.alm.quanta.filter fun e => !atOrAfter s.time.frame e.1 } }
  let modes := s1.alm.mode.filter fun m => atOrAfter s.time.frame m.1
  modes.foldl (fun s m => s.setF Fld.gblWeirCtrlMode 0 m.2)
    { s1 with alm := { s1.alm with mode := s1.alm.mode.filter fun m => !atOrAfter s.time.frame m.1 } }

/-! ### The dump (R97) -/

/-- A slot record (Table 4-6). -/
def Slot.bytes (x : Slot) : List Byte :=
  leBytes 4 (x.start % 131072 + 131072 * x.role) ++ leBytes 2 x.addrEp.toNat ++
    leBytes 1 (x.port % 16 + (if x.dirIn then 16 else 0) + (if x.pair then 32 else 0)) ++ leBytes 1 x.prio ++
    leBytes 2 x.qp ++ leBytes 2 x.maxp ++ leBytes 2 x.contract ++ leBytes 2 x.charge

/-- The index of a run in the slot array and its length, as a directory word. -/
def dirWord (runs : List (List Slot)) (run : List Slot) : Nat :=
  let k := runs.findIdx (· == run)
  (((runs.take k).map List.length).sum % 16384) + 16384 * run.length

/-- One copy of one quad's Almanac (Table 4-5). -/
def copyBytes (cs : List Contract) (gen since : Word) (floor quad : Nat) : List Byte :=
  let runs := quadRuns cs quad
  let recs := runs.flatMap id
  leBytes 4 gen.toNat ++ leBytes 4 since.toNat ++ leBytes 4 floor ++ leBytes 2 recs.length ++ leBytes 2 0 ++
    (List.range 4).flatMap (fun k => leBytes 4 (resMax cs (4 * quad + k))) ++ leBytes 32 0 ++
    (List.range 8192).flatMap (fun k => leBytes 4 (dirWord runs (quadBeat cs quad (k / 8) (k % 8)))) ++
    padTo 262144 (recs.flatMap Slot.bytes)

/-- ALMANAC_DUMP (R97); with no change pending the pending copy is refused with WRONG_STATE (log entry 26). -/
def bodyAlmanacDump (s : State) (p : List Byte) : CmdRes :=
  let q := fieldAt p 0 1
  let w := fieldAt p 1 1
  if 3 < q ∨ 1 < w then .err s .badParam
  else if w = 0 then .block s (copyBytes s.alm.contracts s.alm.gen s.alm.since s.alm.floor q)
  else match s.alm.pend with
    | [] => .err s .wrongState
    | ch :: _ => .block s (copyBytes ch.contracts (s.alm.gen + 1) ch.frame ch.floor q)

/-- The row of AlmanacDump in Table 10-4. -/
def rowAlmanacDump : CmdInfo :=
  { op := 0x0E02, t0 := true, jrn := false, named := [(0, 2)], outLen := some (fun _ => 294976), standby := true }

/-- ALMANAC_DUMP (R97). -/
def execAlmanacDump (t : Fin 256) (k : CmdPkt) (s : State) : Host.Outcome State Fault Refusal :=
  done (runCmd rowAlmanacDump t k
    bodyAlmanacDump s)

end Sys2Proof.Machine
end

