-- ==== Sys2Proof/Machine/MrcCore.lean ====
section
/-!
DEFINITION. The Millrace loop: parameters, the sampled angle, the phase error and the next frame length (03 R70 to R79,
R459), and the frame starts and act ticks that follow from the lengths (05 R121, R122, R127). Angles and lengths are
exact rationals (log entry 27).
-/
namespace Sys2Proof.Machine

/-- The Millrace parameters of the seven registers MRC_CTRL to MRC_BUS_SRC. -/
structure MrcPar where
  mode : Nat
  source : Nat
  gain : Nat
  fpr : Nat
  slipThr : Nat
  lenMin : Nat
  slew : Nat
  lenMax : Nat
  fixed : Nat
  ofs : Nat
  cpr : Nat
  zEn : Bool
  dirInv : Bool
  busSrc : Nat
  deriving DecidableEq, Repr

/-- Word k of a list of parameter words. -/
def parWord (ws : List Word) (k : Nat) : Word := ws.getD k 0

/-- The parameters that words hold (Tables 3-7 and 3-11 to 3-13). -/
def MrcPar.ofWords (ws : List Word) : MrcPar where
  mode := getBits (parWord ws 0) 0 2
  source := getBits (parWord ws 0) 2 3
  gain := getBits (parWord ws 0) 5 3
  fpr := getBits (parWord ws 0) 8 12
  slipThr := getBits (parWord ws 0) 20 8
  lenMin := getBits (parWord ws 1) 0 20
  slew := getBits (parWord ws 1) 20 12
  lenMax := getBits (parWord ws 2) 0 20
  fixed := getBits (parWord ws 3) 0 20
  ofs := getBits (parWord ws 4) 0 24
  cpr := getBits (parWord ws 5) 0 24
  zEn := getBits (parWord ws 5) 24 1 == 1
  dirInv := getBits (parWord ws 5) 25 1 == 1
  busSrc := getBits (parWord ws 6) 0 16

/-- The registers of the parameter words, in the order of MRC_SET. -/
def mrcRegs : List Reg := [.mrcCtrl, .mrcLenMin, .mrcLenMax, .mrcLenFixed, .mrcAngleOfs, .mrcEncCfg, .mrcBusSrc]

/-- The parameters written last. -/
def State.mrcWords (s : State) : List Word := mrcRegs.map fun r => s.reg r 0

/-- The parameters in force (R77). -/
def State.par (s : State) : MrcPar := MrcPar.ofWords s.mrc.pars

/-- Counts per revolution of the source in force: SYNC_IN gives one edge per revolution (Table 3-3). -/
def MrcPar.cprEff (p : MrcPar) : Nat := if p.source = 3 then 1 else max p.cpr 1

/-- The Millrace samples (R76, R79). -/
def State.samples (s : State) : Bool := s.par.mode != 0 && !s.bit Fld.mrcStatusSrcLost 0

/-- A rational held between two bounds. -/
def clampRat (x lo hi : Rat) : Rat := if x < lo then lo else if hi < x then hi else x

/-- The position in counts at a tick, on the line through the last two edges or reports, at most one count beyond an
edge (R72; log entry 28). -/
def State.positionAt (s : State) (tick : DWord) : Rat :=
  let run := s.mrc.speed * (((tick - s.mrc.lastTick).toNat : Int) : Rat)
  (s.mrc.count : Rat) + (if s.par.source = 2 then run else clampRat run (-1) 1)

/-- Counts as 2^-24 revolution (R72). -/
def MrcPar.units (p : MrcPar) (counts : Rat) : Int := (counts * (2 ^ 24 : Rat) / ((p.cprEff : Int) : Rat)).floor

/-- The count of angle 0: the latest index, or the tracking origin (R72). -/
def State.zeroCount (s : State) : Int :=
  if s.par.zEn && s.bit Fld.mrcStatusZSeen 0 then s.mrc.index else s.mrc.origin

/-- The shaft's place in frames past boundary 0, forwards (R72). -/
def State.framesPast (s : State) (angle : Int) : Rat :=
  let p := s.par
  ((angle - p.units (s.zeroCount : Rat) - (p.ofs : Int) : Int) : Rat) * ((p.fpr : Int) : Rat) / (2 ^ 24 : Rat)

/-- The boundary nearest a place, and the signed distance from it in [-1/2, 1/2). -/
def nearest (x : Rat) : Int × Rat :=
  let j := (x + 1 / 2).floor
  (j, x - (j : Rat))

/-- REV_FRAME and e in the direction of travel (R72, R73). -/
def State.phaseOf (s : State) (angle : Int) : Nat × Rat :=
  let x := s.framesPast angle
  let fpr : Int := (max s.par.fpr 1 : Nat)
  if s.bit Fld.mrcStatusDir 0 then
    let r := nearest (-x)
    (((-r.1) % fpr).toNat, r.2)
  else
    let r := nearest x
    ((r.1 % fpr).toNat, r.2)

/-- REV_FRAME is valid (R72). -/
def State.revValid (s : State) : Bool := !s.par.zEn || s.bit Fld.mrcStatusZSeen 0

/-- Put parameters in force: a change of SOURCE or to TRACK moves the tracking origin, and one of SOURCE, CPR or FPR, or
of MODE from OFF to TRACK, leaves no pair of samples (R72, R459). -/
def State.putPars (s : State) (ws : List Word) : State :=
  let a := s.par
  let b := MrcPar.ofWords ws
  let track := b.mode == 1 && a.mode != 1
  let fresh := a.source != b.source || a.cpr != b.cpr || a.fpr != b.fpr || (a.mode == 0 && b.mode == 1)
  let m := s.mrc
  let s1 := { s with mrc := { m with
    pars := ws
    origin := if track || a.source != b.source then m.count else m.origin
    originDue := m.originDue || (a.source != b.source && b.source == 2)
    index := if a.source != b.source || (b.zEn && !a.zEn) then m.count else m.index
    furthest := if a.source != b.source then m.count else m.furthest
    lastTick := if a.source != b.source then 0 else m.lastTick
    speed := if a.source != b.source then 0 else m.speed
    angle := if fresh then none else m.angle
    prevAngle := if fresh then none else m.prevAngle } }
  if b.mode = 1 then s1
  else { s1.setF Fld.mrcStatusLocked 0 0 with mrc := { s1.mrc with lockRun := 0 } }

/-- The parameter writes that govern the length of a frame come into force (R77). -/
def State.parsDue (s : State) (frame : Word) : State :=
  match (s.mrc.pend.filter fun e => atOrAfter frame e.1).getLast? with
  | none => s
  | some e => { s with mrc := { s.mrc with pend := s.mrc.pend.filter fun e => !atOrAfter frame e.1 } }.putPars e.2

/-- A length held between the bounds of R73. -/
def clampLen (n lo hi : Nat) : Nat := min (max n lo) hi

/-- The TRACK computation (R73): the next length, the carried fraction, and whether a clamp changed it. -/
def trackLen (p : MrcPar) (floorNow len : Nat) (e carry : Rat) (delta : Option Nat) (ticks : Nat) : Nat × Rat × Bool :=
  let lo : Rat := ((max p.lenMin floorNow : Nat) : Int)
  let hi : Rat := ((p.lenMax : Nat) : Int)
  let l : Rat := ((len : Nat) : Int)
  let slew : Rat := ((p.slew : Nat) : Int)
  let fin := fun (len : Rat) (sat : Bool) =>
    let n := len.floor.toNat
    (n, if sat then (0 : Rat) else len - ((n : Int) : Rat), sat)
  match delta with
  | none =>
    let n := clampLen len (max p.lenMin floorNow) p.lenMax
    (n, 0, n != len)
  | some 0 => fin (clampRat (l + slew) lo hi) true
  | some d =>
    let ideal : Rat := ((ticks : Int) : Rat) * (2 ^ 24 : Rat) / (((max p.fpr 1 : Nat) : Int) : Rat) / ((d : Int) : Rat)
    let gain : Rat := 1 / (2 ^ (p.gain + 1) : Rat)
    let raw := ideal * (1 - gain * e) + carry
    let out := clampRat (clampRat raw (l - slew) (l + slew)) lo hi
    fin out (out != raw)

/-- A phase error in 1/65,536 frame, to the nearest, below one half (Table 3-5; log entry 27). -/
def phase16 (e : Rat) : Int := min 32767 (e * (65536 : Rat) + 1 / 2).floor

/-- The boundary nearest an angle, counted in the direction of travel from boundary 0 without end (R73). -/
def State.boundaryAt (s : State) (angle : Int) : Int :=
  let x := s.framesPast angle
  (nearest (if s.bit Fld.mrcStatusDir 0 then -x else x)).1

/-- How many times the error has carried e across ±0.5 since the sample before: the nearest boundary moves on by one from frame
to frame while none slips. A sample in the other direction of travel, or none, gives no such count (R75; log entry 120). -/
def State.slippedBy (s : State) (angle : Int) : Nat :=
  match s.mrc.angle with
  | none => 0
  | some b =>
    if s.mrc.sampledRev != s.bit Fld.mrcStatusDir 0 then 0 else (s.boundaryAt angle - s.boundaryAt b - 1).natAbs

/-- Sample the angle at a frame start and report e, REV_FRAME, SLIP and SLIPPED (R73, R75, R76). -/
def State.mrcReport (s : State) : State :=
  if !s.samples then { s with mrc := { s.mrc with angle := none, prevAngle := none } }
  else
    let a := s.par.units (s.positionAt s.time.start)
    let r := s.phaseOf a
    let thr : Rat := ((s.par.slipThr : Int) : Rat) / 256
    let past := decide (thr < r.2) || decide (r.2 < -thr)
    let slips := s.slippedBy a
    let crossed := decide (0 < slips)
    let s1 := { s with mrc := { s.mrc with
      prevAngle := s.mrc.angle, angle := some a, sampledRev := s.bit Fld.mrcStatusDir 0 } }
    let s2 := (s1.setF Fld.mrcPhasePhaseErr 0 (BitVec.ofInt 16 (phase16 r.2)).toNat).setF Fld.mrcPhaseRevFrame 0 r.1
    let s3 := if crossed then s2.addF Fld.mrcStatusSlipped 0 slips else s2
    let good := decide (r.2 ≤ 1 / 64) && decide (-(1 / 64) ≤ r.2)
    let run := if s.par.mode == 1 && s.revValid && good then s.mrc.lockRun + 1 else 0
    let s4 := { s3 with mrc := { s3.mrc with lockRun := run } }
    let s5 :=
      if past then s4.setF Fld.mrcStatusLocked 0 0
      else if 16 ≤ run then s4.setF Fld.mrcStatusLocked 0 1 else s4
    if past || crossed then (s5.setF Fld.mrcStatusSlip 0 1).raiseMillrace else s5

/-- The loop at S(n): report, then fix L(n+1) in MRC_LEN_NEXT (R73, R76, R79, R459). `ticks` is the length of the frame
that has just ended. A source lost in TRACK holds the last length as FREEZE does; in FIXED mode MRC_LEN_FIXED stays the length
(log entry 121). -/
def State.mrcFrame (s : State) (ticks : Nat) : State :=
  let s0 := s.parsDue (s.time.frame + 1)
  let s1 := s0.mrcReport
  let p := s1.par
  let lo := max p.lenMin s1.floorNow
  let len := s1.time.len
  if p.mode = 1 ∧ s1.samples then
    let delta := match s1.mrc.prevAngle, s1.mrc.angle with
      | some a, some b => some (b - a).natAbs
      | _, _ => none
    let e : Rat := match s1.mrc.angle with | some a => (s1.phaseOf a).2 | none => 0
    let r := trackLen p s1.floorNow len e s1.mrc.carry delta ticks
    ({ s1 with mrc := { s1.mrc with carry := r.2.1 } }.setF Fld.mrcLenNextLen 0 r.1).setF Fld.mrcStatusSaturated 0
      (if r.2.2 then 1 else 0)
  else if p.mode = 1 ∨ p.mode = 2 then s1.setF Fld.mrcLenNextLen 0 (clampLen len lo p.lenMax)
  else s1.setF Fld.mrcLenNextLen 0 p.fixed

/-- The length of the first frame after a start or a return (R459). -/
def State.firstLen (s : State) : Nat :=
  let p := s.par
  if p.mode = 0 ∨ p.mode = 3 then p.fixed else clampLen (s.getF Fld.mrcLenNextLen 0) (max p.lenMin s.floorNow) p.lenMax

/-- Sampling starts or resumes: the tracking origin, no samples, no lock (R72, R75, R459). -/
def State.mrcStart (s : State) : State :=
  { s.setF Fld.mrcStatusLocked 0 0 with
    mrc := { s.mrc with
      pars := s.mrcWords, pend := [], origin := s.mrc.count, angle := none, prevAngle := none, carry := 0
      lockRun := 0, silentBeats := 0, lastTick := 0, speed := 0, index := s.mrc.count, furthest := s.mrc.count
      originDue := (MrcPar.ofWords s.mrcWords).source == 2 } }

/-! ### Frame starts and act ticks -/

/-- How many frames a frame number lies after the running one; earlier ones count as 0 (R61). -/
def State.ahead (s : State) (frame : Word) : Nat := if laterFrame frame s.time.frame then (frame - s.time.frame).toNat else 0

/-- The start of the frame k frames ahead, predicted with L(n+1) for every length not yet fixed (R62, R127). -/
def State.startAhead (s : State) (k : Nat) : Nat :=
  if k = 0 then s.time.start.toNat
  else s.time.start.toNat + s.time.len + (k - 1) * s.getF Fld.mrcLenNextLen 0

/-- The length of the frame k frames ahead. -/
def State.lenAhead (s : State) (k : Nat) : Nat := if k = 0 then s.time.len else s.getF Fld.mrcLenNextLen 0

/-- The tick of phase P / 2^24 of a frame ahead (R122). -/
def State.phaseTick (s : State) (frame : Word) (phase : Nat) : Nat :=
  let k := s.ahead frame
  s.startAhead k + (if k = 0 then (if frame = s.time.frame then phase * s.time.prevLen / 2 ^ 24 else 0)
    else phase * (s.startAhead k - s.startAhead (k - 1)) / 2 ^ 24)

/-- The frame and phase of an angle-mode strike (R121). -/
def State.angleFrame (s : State) (actFrame : Word) (angle : Nat) (reverse : Bool) : Word × Nat :=
  let fpr := max s.par.fpr 1
  let x := (angle + 2 ^ 24 - s.par.ofs) % 2 ^ 24 * fpr
  let j0 := x / 2 ^ 24
  let p0 := x % 2 ^ 24
  let j := if reverse && p0 != 0 then (j0 + 1) % fpr else j0
  let p := if reverse && p0 != 0 then 2 ^ 24 - p0 else p0
  let k0 := (maxFrame actFrame (s.time.frame + 1) - s.time.frame).toNat
  let rev := s.getF Fld.mrcPhaseRevFrame 0
  let at_ := fun k : Nat => if s.bit Fld.mrcStatusDir 0 then (rev + fpr * k - k) % fpr else (rev + k) % fpr
  let k := ((List.range fpr).find? fun d => at_ (k0 + d) == j).getD 0
  (s.time.frame + BitVec.ofNat 32 (k0 + k), p)

end Sys2Proof.Machine
end

