-- ==== Sys2Proof/Machine/Dma.lean ====
section
/-!
DEFINITION. DMA programs, channels, host requests and their outcomes, sealed payloads, pools, and the cistern's errors and
scrubs (07).
-/
namespace Sys2Proof.Machine

/-! ### Programs (R168 to R175) -/

/-- How many elements a program names (R170). -/
def Prog.total (p : Prog) : Nat := p.count0 * p.count1 * p.count2

/-- The position of an element number within the program: REPEAT starts again after the last (R170). -/
def Prog.wrap (p : Prog) (n : Nat) : Nat := if p.rep then n % p.total else n

/-- Inner index (R170). -/
def Prog.i0 (p : Prog) (n : Nat) : Nat := p.wrap n % p.count0

/-- Middle index (R170). -/
def Prog.i1 (p : Prog) (n : Nat) : Nat := p.wrap n / p.count0 % p.count1

/-- Outer index (R170). -/
def Prog.i2 (p : Prog) (n : Nat) : Nat := p.wrap n / (p.count0 * p.count1)

/-- The host address of an element, modulo 2^64 (R170). -/
def Prog.elemAddr (p : Prog) (n : Nat) : DWord :=
  p.base + BitVec.ofNat 64 (p.i0 n) * p.step0.signExtend 64 + BitVec.ofNat 64 (p.i1 n) * p.step1.signExtend 64 +
    BitVec.ofNat 64 (p.i2 n) * p.step2.signExtend 64

/-- All elements consumed, without REPEAT (R170). -/
def Prog.ended (p : Prog) : Bool := !p.rep && decide (p.total ≤ p.pos)

/-- Bytes that an element occupies in host memory (R170). -/
def Prog.elemBytes (p : Prog) : Nat := p.elemSize + (if p.sealed_ then 16 else 0)

/-- The unit of a swap mode in bytes, 0 where reserved (Table 7-3). -/
def swapUnit (m : Nat) : Nat := match m with | 0 => 1 | 1 => 2 | 2 => 4 | 3 => 8 | 4 => 4 | _ => 0

/-- Swap one unit (Table 7-3). -/
def swapOne (m : Nat) (b : List Byte) : List Byte := if m = 4 then b.drop 2 ++ b.take 2 else b.reverse

/-- Swap the whole units of an element, from its first byte (R174). -/
def swapBytes (m : Nat) : Nat → List Byte → List Byte
  | 0, b => b
  | n + 1, b =>
    let u := swapUnit m
    if u ≤ 1 || decide (b.length < u) then b else swapOne m (b.take u) ++ swapBytes m n (b.drop u)

/-- The nonce of a sealed element: SALT and the offset from SEAL_ORIGIN (R175). -/
def Prog.nonce (p : Prog) (n : Nat) : List Byte :=
  leBytes 4 p.salt.toNat ++ leBytes 8 (p.elemAddr n - p.origin).toNat

/-- A program structure (Table 7-2), without the queue-pair checks; none where a reserved encoding, a non-zero reserved
field or a bad count or size refuses it (R169). -/
def Prog.parse (b : List Byte) : Option Prog :=
  let b := padTo 64 b
  let mode := fieldAt b 18 1
  let size := fieldAt b 16 2
  let swap := bitsOf mode 3 3
  let isSealed := bitsOf mode 1 1 == 1
  let wr := bitsOf mode 0 1 == 1
  let c0 := fieldAt b 24 2
  let c1 := fieldAt b 26 2
  let c2 := fieldAt b 28 2
  if decide (8192 ≤ size) || decide (64 ≤ mode) || swapUnit swap == 0 || fieldAt b 19 1 != 0 ||
      decide (4096 ≤ fieldAt b 20 2) || fieldAt b 22 2 != 0 || fieldAt b 30 2 != 0 || fieldAt b 48 16 != 0 ||
      (!isSealed && (fieldAt b 8 8 != 0 || fieldAt b 44 4 != 0)) || c0 == 0 || c1 == 0 || c2 == 0 || size == 0 ||
      decide (4096 < size) || size % swapUnit swap != 0 || (isSealed && wr) then none
  else some
    { base := BitVec.ofNat 64 (fieldAt b 0 8), origin := BitVec.ofNat 64 (fieldAt b 8 8), elemSize := size
      write := wr, sealed_ := isSealed, rep := bitsOf mode 2 1 == 1, swap := swap, qp := fieldAt b 20 2
      count0 := c0, count1 := c1, count2 := c2, step0 := BitVec.ofNat 32 (fieldAt b 32 4)
      step1 := BitVec.ofNat 32 (fieldAt b 36 4), step2 := BitVec.ofNat 32 (fieldAt b 40 4)
      salt := BitVec.ofNat 32 (fieldAt b 44 4), pos := 0, committed := 0, addr := 0 }

/-- The slot of a channel that is bound to a queue pair (R168). -/
def Chan.slotOf (c : Chan) (q : Nat) : Option (Nat × Prog) := c.slots.find? fun e => e.2.qp == q

/-- An entry assigned elements of a slot has not completed (R169). -/
def State.slotBusy (s : State) (ch slot : Nat) : Bool :=
  s.qps.any fun q => q.2.entries.any fun e => e.prog && e.chan == ch && e.slot == slot && e.elems != 0

/-- A load or unload is refused: LOAD_REFUSED, with the DMA channel cause (R169, Table 13-5). -/
def State.loadRefused (s : State) (ch : Nat) : State :=
  match (s.chan ch).owner with
  | none => s
  | some t => (s.modChan ch fun c => { c with loadRefused := true }).raise t 6

/-- LOAD on the selected slot: the fetch of the program structure is requested, or refused (R169). -/
def State.dmaLoad (s : State) (fn : Nat) : State :=
  let ch := s.getF Fld.dmaSelChannel fn
  let slot := s.getF Fld.dmaSelSlot fn
  let a := s.reg64 .dmaPrgLoadLo .dmaPrgLoadHi fn
  if (s.chan ch).owner ≠ some fn then s
  else if s.slotBusy ch slot || a.toNat % 64 != 0 then s.loadRefused ch
  else
    let s1 := s.modChan ch fun c =>
      { c with loading := (c.loading.filter fun x => x.1 != slot) ++ [(slot, a, s.dma.dbNext)] }
    { s1 with dma := { s1.dma with dbNext := s1.dma.dbNext + 1 } }

/-- UNLOAD of the selected slot; the last unload stops the channel (R169, Table 7-4). -/
def State.dmaUnload (s : State) (fn : Nat) : State :=
  let ch := s.getF Fld.dmaSelChannel fn
  let slot := s.getF Fld.dmaSelSlot fn
  if (s.chan ch).owner ≠ some fn then s
  else if s.slotBusy ch slot then s.loadRefused ch
  else s.modChan ch fun c =>
    let sl := Tab.del c.slots slot
    { c with slots := sl, state := if sl.isEmpty then .stopped else c.state }

/-- The states that PAUSE leads to (Table 7-4). -/
def State.dmaPause (s : State) (ch : Nat) : State :=
  s.modChan ch fun c => { c with pause := true, state := if c.state = .running then .pausing else c.state }

/-- Clearing PAUSE resumes a pausing or paused channel (Table 7-4, R182). -/
def State.dmaResume (s : State) (ch : Nat) : State :=
  s.modChan ch fun c =>
    { c with pause := false, state := if c.state = .paused ∨ c.state = .pausing then .running else c.state }

/-- CLEAR leaves Halted and clears the latched error (R180); elsewhere it has no effect (Table 7-5). -/
def State.dmaClear (s : State) (ch : Nat) : State :=
  s.modChan ch fun c =>
    if c.state = .halted then
      { c with state := if c.pause then .paused else .running, errKind := 0, errWrite := false, errAddr := 0
               afterCount := false, retries := 0 }
    else c

/-- A write of DMA_CH_CTRL by a function: the bits act in the order PAUSE, CLEAR, LOAD, UNLOAD (R169, R180, R184;
log entry 17). -/
def State.dmaCtrl (s : State) (fn : Nat) (v : Word) : State :=
  let ch := s.getF Fld.dmaSelChannel fn
  if (s.chan ch).owner ≠ some fn then s
  else
    let s1 := if v.getLsbD 0 then s.dmaPause ch else s.dmaResume ch
    let s2 := if v.getLsbD 1 then s1.dmaClear ch else s1
    let s3 := if v.getLsbD 2 then s2.dmaLoad fn else s2
    if v.getLsbD 3 then s3.dmaUnload fn else s3

/-- Requests issued for a channel and not yet done. -/
def State.chanBusy (s : State) (ch : Nat) : Bool :=
  s.dma.reqs.any fun r =>
    match r.what with
    | .payload q idx | .inWrite q idx | .flush q idx =>
      (s.qp q).entries.any fun e => e.idx == idx && e.prog && e.chan == ch
    | .program c _ => c == ch
    | _ => false

/-- Writes of a channel's entries that no flush has proved. -/
def State.chanUnproved (s : State) (ch : Nat) : Bool :=
  s.qps.any fun q => q.2.entries.any fun e => e.prog && e.chan == ch && !e.unflushed.isEmpty

/-- DMA_PAUSE_DRAINED (R184). -/
def execDmaPauseDrained (ch : Fin 64) (s : State) : Host.Outcome State Fault Refusal :=
  let u := s.writesLeave
  done (if (u.chan ch).state = .pausing ∧ ¬u.chanBusy ch ∧ ¬u.chanUnproved ch then
    u.modChan ch fun c => { c with state := .paused } else u)

/-- The structure fetched by the slot's oldest request is checked and loaded at its first element, or refused (R169). A channel with PAUSE set issues
nothing, so it goes to Pausing (R184; log entry 42). -/
def State.programFetched (s : State) (ch slot : Nat) (b : List Byte) : State :=
  let c := s.chan ch
  let here := fun r : Req => decide (r.what = .program ch slot)
  match s.dma.reqs.find? here with
  | none => s
  | some r =>
    let kept := (c.refetch.find? fun x => x.1 == slot).map (·.2)
    let s0 := s.modChan ch fun c => { c with refetch := c.refetch.filter fun x => x.1 != slot }
    let s1 := { s0 with dma := { s0.dma with reqs := s0.dma.reqs.filter (·.id != r.id) } }.writeWords 3 ch
    match c.owner, Prog.parse b with
    | some t, some p =>
      if s1.slotBusy ch slot || (s1.qp p.qp).owner != some t ||
          (c.slots.any fun e => e.1 != slot && e.2.qp == p.qp) then s1.loadRefused ch
      else
        let q := match kept with
          | some k => { p with pos := k.pos, committed := k.committed, addr := r.addr }
          | none => { p with addr := r.addr }
        s1.modChan ch fun c =>
          { c with
            slots := Tab.set c.slots slot q
            state := if c.state = .stopped then (if c.pause then .pausing else .running) else c.state }
    | _, _ => s1.loadRefused ch

/-- PROGRAM_STRUCTURE_FETCHED (R169). -/
def execProgramStructureFetched (ch : Fin 64) (slot : Fin 16) (data : List Byte) (s : State) :
    Host.Outcome State Fault Refusal := done (s.programFetched ch slot data)

/-! ### Errors (R178 to R183) -/

/-- ERR_KIND of a failure (Table 7-12). -/
def errKind : HostErr → Nat
  | .unsupported => 1 | .abort => 2 | .poisoned => 3 | .timeout => 4 | .staging => 5 | .flush => 6

/-- Latch an error outside a channel, with the DMA_FN cause (R182, Table 7-14). -/
def State.fnErr (s : State) (t : Nat) (addr : DWord) (write : Bool) (kind what : Nat) : State :=
  if s.bit Fld.dmaFnErrInfoValid t then s
  else
    ((s.setReg64 .dmaFnErrLo .dmaFnErrHi t addr).setReg .dmaFnErrInfo t
      (BitVec.ofNat 32 (1 + (if write then 2 else 0) + 4 * kind + 32 * what))).raise t 7

/-- Add flags to a completion: PARTIAL is bit 4, ERR_WRITE bit 5 (Table 6-6). -/
def Entry.addFlags (e : Entry) (m : Byte) : Entry := { e with flags := e.flags ||| m }

/-- Any byte of the entry has reached the bus or host memory (R173, R180). -/
def Entry.moved (e : Entry) : Bool := e.count != 0 || e.sent || !e.unflushed.isEmpty || (e.dirIn && decide (e.xfer < e.len))

/-- A host access of a transfer failed for good (R180 to R182): a status other than OK is kept. Writes that can still be proved
are; an OUT waits for the answers to what it has sent. -/
def Entry.dmaFail (e : Entry) (write after proof : Bool) (tick : DWord) (frame : Word) : Entry :=
  let e1 := if e.moved || after then e.addFlags 0x10 else e
  let e2 := if write then e1.addFlags 0x20 else e1
  let e3 := Entry.giveUp { e2 with unflushed := if proof then e.unflushed else [] } .dmaError tick frame
  if e.dirIn ∨ e.phase ≠ .started then e3 else { e3 with phase := .flushing }

/-- An entry of a halted channel needs a further host access (R180). -/
def Entry.needsHost (e : Entry) : Bool :=
  e.phase ≠ .finished && e.elems != 0 && (if e.dirIn then true else e.xfer != 0 || e.inFlight != 0)

/-- Another entry of a halted channel that needed the host (R180). -/
def Entry.haltedOut (e : Entry) (tick : DWord) (frame : Word) : Entry :=
  { e.dmaFail false false false tick frame with count := 0, flags := e.flags, phase := .finished }

/-- The channel enters Halted (R180): its requests end, the failing entry and every other that needs the host complete
with DMA_ERROR, the error is latched, and the cause is raised. -/
def State.chanHalt (s : State) (ch kind : Nat) (write after : Bool) (addr : DWord) (fail : Option (Nat × Half)) : State :=
  let fix := fun (q : Nat) (e : Entry) =>
    if e.prog && e.chan == ch then
      if fail = some (q, e.idx) then e.dmaFail write after false s.now s.time.frame
      else if e.needsHost then e.haltedOut s.now s.time.frame
      else e
    else e
  let s1 := { s with
    qps := Tab.mapVal s.qps fun q v => { v with entries := v.entries.map (fix q) }
    dma := { s.dma with reqs := s.dma.reqs.filter fun (r : Req) =>
      match r.what with
      | .payload q idx | .inWrite q idx | .flush q idx =>
        !((s.qp q).entries.any fun e => e.idx == idx && e.prog && e.chan == ch)
      | .program c _ => c != ch
      | _ => true } }
  let s2 := s1.modChan ch fun c => { c with
    state := .halted, errKind := kind, errWrite := write, errAddr := addr, afterCount := after }
  match (s2.chan ch).owner with
  | none => s2
  | some t => s2.raise t 6

/-- Change one entry of one queue pair. -/
def State.modEntry (s : State) (q : Nat) (idx : Half) (f : Entry → Entry) : State :=
  s.modQp q fun v => v.modEntry idx f

/-- A write that failed in the staging buffer never reached host memory: it is no more to be proved, nor counted (R155, R178). -/
def Entry.unwritten (e : Entry) (addr : DWord) : Entry :=
  { e with
    unflushed := e.unflushed.filter fun w => w.1 != addr
    count := e.count - ((e.unflushed.filter fun w => w.1 == addr).map (·.2.length)).sum }

/-- An access of a transfer failed for good, through a channel or a plain buffer (R180 to R182). -/
def State.xferFail (s : State) (q : Nat) (idx : Half) (kind : Nat) (write : Bool) (addr : DWord) : State :=
  match (s.qp q).entry idx with
  | none => s
  | some e =>
    let after := e.xfer == 0
    if e.prog then
      (if write && kind != 6 then s.modEntry q idx fun e => e.unwritten addr else s).chanHalt e.chan kind write after addr
        (some (q, idx))
    else
      let s1 := { s with dma := { s.dma with reqs := s.dma.reqs.filter fun (r : Req) =>
        !(decide (r.what = ReqWhat.payload q idx) || decide (r.what = ReqWhat.inWrite q idx) || decide (r.what = ReqWhat.flush q idx)) } }
      let lost := fun e : Entry => if write && kind != 6 then e.unwritten addr else e
      (s1.modEntry q idx fun e => (lost e).dmaFail write after (kind != 6) s.now s.time.frame).fnErr
        ((s.qp q).owner.getD 0) addr write kind 0

/-- An entry ends for what a window or a cistern word does to its remaining data: what it sent is still answered, and what it
wrote is still proved (R173, R176, Table 7-8). -/
def Entry.cutOff (e : Entry) (st : XStatus) (part : Bool) (tick : DWord) (frame : Word) : Entry :=
  let e1 := (if part then e.addFlags 0x10 else e).giveUp st tick frame
  if e.dirIn ∨ e.phase ≠ .started then e1 else { e1 with phase := .flushing }

/-- A window refused an access of a transfer: its entry completes with WINDOW_FAULT, PARTIAL telling whether bytes
moved, and the channel does not halt (R173, R308). -/
def State.xferWindow (s : State) (q : Nat) (idx : Half) (t : Nat) (addr : DWord) : State :=
  (s.isoRefuse t addr).modEntry q idx fun e => e.cutOff .windowFault e.moved s.now s.time.frame

/-! ### The cistern's room (R188, R189) -/

/-- Bytes that an entry holds in its endpoint's basin or is fetching into it. -/
def Entry.held (e : Entry) : Nat := e.data.length + e.inFlight + (e.unflushed.map (·.2.length)).sum

/-- The entries that hold bytes of an endpoint direction. -/
def State.epEntries (s : State) (addr ep : Nat) (dirIn : Bool) : List Entry :=
  s.qps.flatMap fun q => q.2.entries.filter fun e =>
    e.addr == addr && e.ep == ep && (e.dirIn == dirIn || e.kind = .control) && e.phase ≠ .finished

/-- Bytes that the entries of an endpoint direction hold in its basin or are fetching into it. -/
def State.epHeld (s : State) (addr ep : Nat) (dirIn : Bool) : Nat := ((s.epEntries addr ep dirIn).map Entry.held).sum

/-- Buffers of an endpoint in use: one per packet of each of its entries (R189). -/
def State.epBuffers (s : State) (e : Ep) : Nat :=
  ((s.epEntries e.addr e.ep e.dirIn).map fun x => (x.held + e.mps - 1) / e.mps).sum

/-- Room for more bytes at an endpoint direction: its basin's, or its pool buffers' (R188, R189). -/
def State.epRoom (s : State) (e : Ep) : Nat :=
  match e.pool with
  | none => e.basin - s.epHeld e.addr e.ep e.dirIn
  | some p =>
    let pool := Tab.getD s.pools (e.owner * 16 + p) ⟨64, 0, 0⟩
    let others := (s.eps.filter fun x => x.2.isOpen && x.2.owner == e.owner && x.2.pool == some p &&
      !(x.2.addr == e.addr && x.2.ep == e.ep && x.2.dirIn == e.dirIn)).map fun x =>
        max (s.epBuffers x.2) pool.reserve
    (pool.count - others.sum - s.epBuffers e) * e.mps

/-- Room for more bytes of one entry: in a pool, with what is left of the buffer of its last packet (R189). -/
def State.entryRoom (s : State) (ep : Ep) (e : Entry) : Nat :=
  s.epRoom ep + (if ep.pool.isNone || e.held % ep.mps == 0 then 0 else ep.mps - e.held % ep.mps)

/-! ### Host requests (R165 to R167) -/

/-- What a request would be: purpose, tenant, address, length, write, and its place in the order of its class. -/
structure Cand where
  what : ReqWhat
  tenant : Nat
  addr : DWord
  len : Nat
  elem : Nat
  rank : Nat
  deriving DecidableEq, Repr

/-- The planned departure of the slot, among those of the open frames, that serves the entry of a queue pair with k scheduled
entries before it: its place in the order of the slots (Table 7-1). -/
def State.departRank (s : State) (q k : Nat) : Nat :=
  let sl := (s.frames.flatMap fun f => f.slots.filter (!·.gone)).zipIdx.filter fun x =>
    x.1.slot.qp == q && (x.1.slot.role == 0 || x.1.slot.role == 1 || x.1.slot.role == 3)
  ((sl.map (·.2))[k]?).getD (65536 + k)

/-- The planned departure of an entry: of the slot in which its strike stands, or of the slot that its place in the queue gives it
(Table 7-1). -/
def State.entryRank (s : State) (q : Nat) (e : Entry) : Nat :=
  if e.kind = .strike ∧ e.strike ≠ .unplaced then
    (s.frames.flatMap fun f => f.slots.filter (!·.gone)).findIdx fun x => x.strike == some (q, e.idx)
  else
    let before := (s.qp q).entries.takeWhile fun x => x.idx != e.idx
    s.departRank q (before.filter fun x => x.phase = .queued || x.phase = .started).length

/-- Entries that a queue pair may still read into the descriptor cache (R186). -/
def Qp.cacheRoom (v : Qp) : Bool :=
  let waiting := (v.entries.filter fun e => e.phase = .queued && !e.begun).length
  v.aborting || decide (waiting + idxCount v.fetchIdx v.sqCons < (if v.contract.isSome then 8 else 2))

/-- The number of the doorbell that posted the next entry to fetch (R166). -/
def Qp.doorbellRank (v : Qp) : Nat :=
  match v.doorbells.find? fun d => decide (0 < idxCount d.1 v.fetchIdx ∧ idxCount d.1 v.fetchIdx ≤ v.sqSize) with
  | none => 0
  | some d => d.2

/-- A quad's schedule entries or live entries of the descriptor cache are all in use (R186). -/
def State.cacheFull (s : State) (v : Qp) : Bool :=
  decide (1024 ≤ ((s.qps.filter fun e => e.2.homeQuad == v.homeQuad && e.2.contract.isSome == v.contract.isSome).map
    fun e => e.2.entries.length + (s.dma.reqs.filter fun r => decide (r.what = .subEntry e.1)).length).sum)

/-- Submission-entry fetches due (R148, R186). -/
def State.fetchCands (s : State) (bound : Bool) : List Cand :=
  s.qps.filterMap fun e =>
    let v := e.2
    match v.owner with
    | none => none
    | some t =>
      if v.contract.isSome == bound && (v.enabled || v.state = .halted) && v.fetchIdx != v.sqProd && v.cacheRoom &&
          !s.cacheFull v then
        some ⟨.subEntry e.1, t, v.sqBase + BitVec.ofNat 64 (v.fetchIdx.toNat % v.sqSize * 64), 64, 0,
          if bound then s.departRank e.1 ((v.entries.filter fun x => x.phase = .queued || x.phase = .started).length +
            idxCount v.fetchIdx v.sqCons)
          else v.doorbellRank⟩
      else none

/-- Program structure loads due (R169), and those to be made again after a return (R371). -/
def State.loadCands (s : State) : List Cand :=
  s.dma.chans.flatMap fun c =>
    match c.2.owner with
    | none => []
    | some t =>
      (c.2.refetch.filter fun x => !s.dma.reqs.any fun r => decide (r.what = .program c.1 x.1)).map
        (fun x => ⟨.program c.1 x.1, t, x.2.addr, 64, 0, 0⟩) ++
      c.2.loading.map fun x => ⟨.program c.1 x.1, t, x.2.1, 64, 0, x.2.2⟩

/-- Command-ring entries due (R266): the next command of each tenant that has some posted. -/
def State.cmdCands (s : State) : List Cand :=
  s.cmds.filterMap fun c =>
    if s.pathUp c.1 && c.2.prod != c.2.cons && !s.dma.reqs.any fun r => decide (r.what = .command c.1) then
      some ⟨.command c.1, c.1, s.cmdSlot c.1, 64, 0, 0⟩
    else none

/-- The channel of an entry lets requests go out (R180, R184). -/
def State.chanGo (s : State) (e : Entry) : Bool := !e.prog || (s.chan e.chan).state = .running

/-- The program of an entry's slot. -/
def State.progOf (s : State) (e : Entry) : Option Prog := Tab.find (s.chan e.chan).slots e.slot

/-- The most bytes that a request of an entry may have, so that it does not wait for ever: its part of the staging buffer, or
the tenant's cap in the shared part (R167). -/
def State.stageMax (s : State) (e : Entry) : Nat :=
  if (e.kind = .periodic ∨ e.kind = .strike) ∧ ¬e.dirIn then 65536 else max 1 (s.getF Fld.dmaCfgStageCap 0 * 1024)

/-- Where a request of an entry stands within its class: by planned departure, or by the Weir's list (Table 7-1). -/
def State.payRank (s : State) (q : Nat) (e : Entry) : Nat :=
  if e.kind = .periodic ∨ e.kind = .strike then s.entryRank q e else if e.kind = .control then 0 else e.order

/-- The next payload request of an OUT entry, if its basin has room (R165, R171, R173; log entry 18). -/
def State.payloadCand (s : State) (q : Nat) (v : Qp) (e : Entry) : Option Cand :=
  let room := s.entryRoom (s.ep e.addr e.ep false) e
  if e.dirIn || e.xfer == 0 || e.phase = .finished || e.phase = .flushing || !s.chanGo e then none
  else if e.kind = .strike ∧ e.strike = .unplaced then none
  else if e.prog then
    match s.progOf e with
    | none => none
    | some p =>
      let n := (e.len - e.xfer) / p.elemSize
      if p.elemSize ≤ room then
        some ⟨.payload q e.idx, v.owner.getD 0, p.elemAddr (e.elem0 + n), p.elemBytes, e.elem0 + n, s.payRank q e⟩
      else none
  else if room = 0 then none
  else some ⟨.payload q e.idx, v.owner.getD 0, e.buf + BitVec.ofNat 64 (e.len - e.xfer),
    min (min room e.xfer) (s.stageMax e), 0, s.payRank q e⟩

/-- OUT payload requests due: of scheduled kinds for every read entry, of live kinds for the first one. -/
def State.payloadCands (s : State) (sched : Bool) : List Cand :=
  s.qps.flatMap fun qv =>
    let es := qv.2.entries.filter fun e => decide ((e.kind = .periodic ∨ e.kind = .strike) = (sched = true))
    let live := es.filter fun e => e.phase ≠ .finished && e.phase ≠ .flushing
    if qv.2.enabled then (if sched then es else live.take 1).filterMap (s.payloadCand qv.1 qv.2) else []

/-- The next write of an IN entry's accepted data, ranked by its arrival on the bus (R165, R171, R174, Table 7-1). -/
def State.writeCand (s : State) (q : Nat) (v : Qp) (e : Entry) : Option Cand :=
  if !e.dirIn || e.data.isEmpty || e.phase = .finished || !s.chanGo e then none
  else if e.prog then
    match s.progOf e with
    | none => none
    | some p =>
      let n := (e.len - e.xfer) / p.elemSize
      if p.elemSize ≤ e.data.length ∨ e.phase = .flushing then
        some ⟨.inWrite q e.idx, v.owner.getD 0, p.elemAddr (e.elem0 + n), min p.elemSize e.data.length, e.elem0 + n,
          e.arrived.toNat⟩
      else none
  else some ⟨.inWrite q e.idx, v.owner.getD 0, e.buf + BitVec.ofNat 64 (e.len - e.xfer),
    min e.data.length (s.stageMax e), 0, e.arrived.toNat⟩

/-- IN payload writes due, of periodic kinds or of the others. -/
def State.writeCands (s : State) (sched : Bool) : List Cand :=
  (s.qps.filter fun qv => qv.2.state ≠ .disabled).flatMap fun qv =>
    (qv.2.entries.filter fun e => decide ((e.kind = .periodic) = (sched = true))).filterMap (s.writeCand qv.1 qv.2)

/-- The last doubleword of the last write that awaits proof (R176). -/
def Entry.lastDword (e : Entry) : DWord :=
  match e.unflushed.getLast? with
  | none => 0
  | some w => BitVec.ofNat 64 ((w.1.toNat + w.2.length - 1) / 4 * 4)

/-- Flush reads due: every write of the entry has been issued, and either its bus part has ended or its basin needs the
room, or its channel drains for a pause (R176, R184, R188). -/
def State.flushCands (s : State) : List Cand :=
  (s.qps.filter fun qv => qv.2.state ≠ .disabled).flatMap fun qv =>
    qv.2.entries.filterMap fun e =>
      let mps := (s.ep e.addr e.ep true).mps
      let drains := e.prog && (s.chan e.chan).state = .pausing
      if e.dirIn && (e.data.isEmpty || drains) && !e.unflushed.isEmpty && e.phase ≠ .finished &&
          (e.phase = .flushing || decide (s.epRoom (s.ep e.addr e.ep true) < mps) || drains) &&
          !s.dma.reqs.any (fun r => decide (r.what = .flush qv.1 e.idx)) then
        some ⟨.flush qv.1 e.idx, qv.2.owner.getD 0, e.lastDword, 0, e.unflushed.length, 0⟩
      else none

/-- A request belongs to class 1 of the read engine (Table 7-1). -/
def State.firstClass (s : State) (w : ReqWhat) : Bool :=
  match w with
  | .subEntry q => (s.qp q).contract.isSome
  | .payload q idx =>
    match (s.qp q).entry idx with
    | none => false
    | some e => decide (e.kind = .periodic ∨ e.kind = .strike)
  | _ => false

/-- Staging bytes that a request holds. An element longer than the tenant's cap passes in pieces of at most the cap (R167; log
entry 18). -/
def State.stageLen (s : State) (cls1 : Bool) (len : Nat) : Nat :=
  max 4 (if cls1 then len else min len (s.getF Fld.dmaCfgStageCap 0 * 1024))

/-- Staging bytes that issued requests hold in one of the two parts, of a tenant or of all (R167). -/
def State.staged (s : State) (cls1 : Bool) (t : Option Nat) : Nat :=
  ((s.dma.reqs.filter fun r => s.firstClass r.what == cls1 &&
    (match t with | none => true | some t => r.tenant == t)).map fun r => s.stageLen cls1 r.len).sum

/-- The request fits its part of the staging buffer: 64 KiB for class 1 of the read engine, and the other 192 KiB shared
under STAGE_CAP (R167). -/
def State.stagingOk (s : State) (cls1 : Bool) (c : Cand) : Bool :=
  if cls1 then decide (s.staged true none + c.len ≤ 65536)
  else decide (s.staged false none + s.stageLen false c.len ≤ 196608 ∧
    s.staged false (some c.tenant) + s.stageLen false c.len ≤ s.getF Fld.dmaCfgStageCap 0 * 1024)

/-- The candidate of a class that goes first: round robin over tenants from a turn, then by rank (Table 7-1). -/
def pickCand (turn : Nat) (cs : List Cand) : Option Cand :=
  cs.foldl (fun best c =>
    match best with
    | none => some c
    | some b =>
      let key := fun x : Cand => ((x.tenant + 255 - turn) % 256) * 2 ^ 40 + x.rank
      if key c < key b then some c else some b) none

/-- The candidate of class 1: by planned departure (Table 7-1). -/
def pickFirst (cs : List Cand) : Option Cand :=
  cs.foldl (fun best c =>
    match best with | none => some c | some b => if c.rank < b.rank then some c else some b) none

/-- The read engine's next request (Table 7-1). -/
def State.readChoice (s : State) : Option Cand :=
  let c1 := (s.fetchCands true ++ s.payloadCands true).filter (s.stagingOk true)
  let c2 := (s.fetchCands false ++ s.loadCands ++ s.cmdCands).filter (s.stagingOk false)
  let c3 := (s.payloadCands false).filter (s.stagingOk false)
  match pickFirst c1 with
  | some c => some c
  | none => match pickCand s.dma.readTurn c2 with
    | some c => some c
    | none => pickCand s.dma.liveTurn c3

/-- The payload write that goes next: of periodic slots and standing areas, then of control and bulk, each in the order of arrival
on the bus (Table 7-1). -/
def State.payloadWrite (s : State) : Option Cand :=
  match pickFirst ((s.writeCands true).filter (s.stagingOk false)) with
  | some c => some c
  | none => pickFirst ((s.writeCands false).filter (s.stagingOk false))

/-- The write engine's next request (Table 7-1). -/
def State.writeChoice (s : State) : Option Cand :=
  match s.payloadWrite with
  | some c => some c
  | none => s.flushCands.find? (s.stagingOk false)

/-- TRANSFER_COMPLETION (R153): completion entries and head records give way to payload writes that are ready (Table 7-1). -/
def execTransferCompletion (q : Fin 4096) (s : State) : Host.Outcome State Fault Refusal :=
  let u := s.writesLeave
  done (if u.payloadWrite.isSome then u else (u.completeFront q).sweepEps)

/-- Record an issued request under the next number; the turn of its class passes on (R166). -/
def State.issue (s : State) (c : Cand) : State :=
  let first := s.firstClass c.what
  let live := match c.what with | .payload _ _ => true | _ => false
  let flush := match c.what with | .flush _ _ => true | _ => false
  { s with dma := { s.dma with
    nextId := s.dma.nextId + 1
    readTurn := if first || live || flush then s.dma.readTurn else c.tenant
    liveTurn := if live && !first then c.tenant else s.dma.liveTurn
    reqs := s.dma.reqs ++ [⟨s.dma.nextId, c.tenant, c.what, c.addr, c.len, c.elem, 0, none⟩] } }

/-- Issue a chosen request: the window is checked first (R165, R173, R307, R308, R310). -/
def State.issueCand (s : State) (c : Cand) : State :=
  match c.what with
  | .subEntry q =>
    if s.windowOk c.tenant c.addr 64 false then
      ((s.issue c).modQp q fun v => { v with
        fetchIdx := v.fetchIdx + 1
        doorbells := v.doorbells.filter fun d => d.1 != v.fetchIdx + 1 }).emit (.hostRead c.tenant c.addr 64)
    else (s.isoRefuse c.tenant c.addr).qpFault q 1
  | .program ch slot =>
    let s1 := s.modChan ch fun x => { x with loading := x.loading.filter fun y => y.1 != slot }
    if s.windowOk c.tenant c.addr 64 false then (s1.issue { c with what := .program ch slot }).emit (.hostRead c.tenant c.addr 64)
    else
      (s1.isoRefuse c.tenant c.addr).loadRefused ch |>.modChan ch fun x => { x with refetch := x.refetch.filter fun y => y.1 != slot }
  | .command t =>
    if s.windowOk t c.addr 64 false then (s.issue c).emit (.hostRead t c.addr 64)
    else (s.isoRefuse t c.addr).pathFault t
  | .payload q idx =>
    if s.windowOk c.tenant c.addr c.len false then
      ((s.issue c).modEntry q idx fun e =>
        let n := match s.progOf e with | some p => if e.prog then p.elemSize else c.len | none => c.len
        { e with xfer := e.xfer - n, inFlight := e.inFlight + n }).emit (.hostRead c.tenant c.addr c.len)
    else s.xferWindow q idx c.tenant c.addr
  | .inWrite q idx =>
    match (s.qp q).entry idx with
    | none => s
    | some e =>
      let prog := if e.prog then s.progOf e else none
      if s.windowOk c.tenant c.addr ((prog.map (·.elemSize)).getD c.len) true then
        let raw := e.data.take c.len
        let out := match prog with
          | some p => swapBytes p.swap raw.length raw
          | none => raw
        (s.modEntry q idx fun e => { e with
          data := e.data.drop c.len, xfer := e.xfer - c.len, unflushed := e.unflushed ++ [(c.addr, out)] }).issueWrite
          c.what c.tenant c.addr out
      else s.xferWindow q idx c.tenant c.addr
  | .flush q idx =>
    if s.windowOk c.tenant c.addr 4 true then (s.issue c).emit (.flushRead c.tenant c.addr)
    else (s.isoRefuse c.tenant c.addr).modEntry q idx fun e =>
      Entry.cutOff { e with unflushed := [] } .windowFault true s.now s.time.frame
  | .completion _ | .head _ => s

/-- An unfinished entry of a queue pair ends with a cistern error: the first, or the first of a direction (Table 7-8). The
descriptor cache's error gives COUNT 0 and no PARTIAL; one of the data gives PARTIAL to an IN and to an OUT that has had
packets acknowledged. -/
def State.frontEcc (s : State) (q : Nat) (dirIn : Option Bool) (part : Bool) : State :=
  match (s.qp q).entries.find? fun e => e.phase ≠ .finished && (match dirIn with | none => true | some d => e.dirIn == d) with
  | none => s
  | some e => s.modEntry q e.idx fun e =>
      let e1 := e.cutOff .dmaError (part && (e.dirIn || e.count != 0)) s.now s.time.frame
      { e1 with count := if dirIn.isNone then 0 else e1.count }

/-- What an entry's next access reads in the cistern is read: its words in the descriptor cache, the state of its program slot, and
for a write its data. An error beyond correction has its effect in place of the access (R190, R191, Table 7-8). -/
def State.readFor (s : State) (q : Nat) (e : Entry) (data : Bool) : State × Bool :=
  let a := s.readWords 2 q
  if a.2 then (a.1.frontEcc q none false, true)
  else
    let b := if e.prog then a.1.readWords 3 e.chan else (a.1, false)
    if b.2 then (b.1.chanHalt e.chan 7 false false 0 none, true)
    else if !data then b
    else
      let c := b.1.readWords 4 (4 * q + (if e.dirIn then 3 else 2))
      if c.2 then (c.1.frontEcc q (some e.dirIn) true, true) else c

/-- A chosen request is issued once what it reads in the cistern is sound. -/
def State.issueRead (s : State) (c : Cand) : State :=
  match c.what with
  | .payload q idx | .inWrite q idx | .flush q idx =>
    match (s.qp q).entry idx with
    | none => s.issueCand c
    | some e =>
      let wr := match c.what with | .inWrite _ _ => true | _ => false
      let r := s.readFor q e wr
      if r.2 then r.1 else r.1.issueCand c
  | _ => s.issueCand c

/-- A cistern word that the chosen request reads has a double-bit error: an entry in the descriptor cache, or IN data in
a basin (R190, Table 7-8; the word's address is a free value). -/
def State.issueEcc (s : State) (c : Cand) : State :=
  let a : BitVec 24 := s.freeValue.setWidth 24
  match c.what with
  | .payload q idx => (s.nextFree.cisUncorrected 2 a).modEntry q idx fun e =>
      { e.cutOff .dmaError false s.now s.time.frame with count := 0 }
  | .inWrite q idx => (s.nextFree.cisUncorrected 4 a).modEntry q idx fun e => e.cutOff .dmaError true s.now s.time.frame
  | _ => s.issueRead c

/-- HOST_REQUEST_ISSUE (R166). Writes that the write engine issued before have left the staging buffer (log entry 133). -/
def execHostRequestIssue (wr ecc : Bool) (s : State) : Host.Outcome State Fault Refusal :=
  let u := if wr then s.writesLeave else s
  match if wr then u.writeChoice else u.readChoice with
  | none => done u
  | some c => done (if ecc then u.issueEcc c else u.issueRead c)

/-- An issued request by its number. -/
def State.req (s : State) (id : Nat) : Option Req := s.dma.reqs.find? (·.id == id)

/-- The bytes of one payload read as they go to the cistern: opened when sealed, then swapped (R174, R175); none where
the tag fails, or where the Watchman holds no key of the tenant (R411). -/
def State.openPayload (s : State) (e : Entry) (r : Req) (b : List Byte) : Option (List Byte) :=
  match (if e.prog then s.progOf e else none) with
  | none => some (padTo r.len b)
  | some p =>
    let b := padTo p.elemBytes b
    let key := (Tab.getD s.sec.keys r.tenant ⟨[], 0⟩).key
    if p.sealed_ && (Tab.find s.sec.keys r.tenant).isNone then none
    else if p.sealed_ then
      (Config.gcmOpen key (p.nonce r.elem) [] (b.take p.elemSize) (b.drop p.elemSize)).map fun x =>
        swapBytes p.swap p.elemSize (padTo p.elemSize x)
    else some (swapBytes p.swap p.elemSize b)

/-- The AES-GCM unit has the tenant's key (R175). -/
def State.sealKey (s : State) (t : Nat) : Bool := (Tab.find s.sec.keys t).isSome

/-- Payload that has arrived moves into the basin in request order (R171). -/
def State.landPayload (s : State) (q : Nat) (idx : Half) : List Req → State
  | [] => s
  | r :: rest =>
    if decide (r.what = .payload q idx) then
      match r.data with
      | none => s
      | some b =>
        match (s.qp q).entry idx with
        | none => State.landPayload { s with dma := { s.dma with reqs := s.dma.reqs.filter (·.id != r.id) } } q idx rest
        | some e =>
          let s1 := { s with dma := { s.dma with reqs := s.dma.reqs.filter (·.id != r.id) } }
          if e.phase = .finished then State.landPayload s1 q idx rest
          else match s.openPayload e r b with
          | some x =>
            let s2 := if e.data = [] then s1.writeWords 4 (4 * q + 2) else s1
            State.landPayload (s2.modEntry q idx fun e =>
              { e with data := e.data ++ x, inFlight := e.inFlight - x.length }) q idx rest
          | none =>
            State.landPayload (s1.modEntry q idx fun e => e.cutOff .authFailed false s.now s.time.frame) q idx rest
    else State.landPayload s q idx rest

/-- A retry that succeeds returns the channel to Running, or Pausing while PAUSE is 1 (Table 7-4). -/
def State.retryDone (s : State) (q : Nat) (idx : Half) : State :=
  match (s.qp q).entry idx with
  | none => s
  | some e => if e.prog then s.modChan e.chan fun c =>
      if c.state = .retrying then { c with state := if c.pause then .pausing else .running } else c
    else s

/-- HOST_READ_COMPLETION: payload goes to the cistern; a command-ring entry has been read (R165). Submission entries and
program structures have rows of their own. -/
def State.readDone (s : State) (id : Nat) (b : List Byte) : State :=
  match s.req id with
  | none => s
  | some r =>
    match r.what with
    | .payload q idx =>
      let s1 := { s with dma := { s.dma with reqs := s.dma.reqs.map fun (x : Req) =>
        if x.id == id then { x with data := some b } else x } }
      (s1.retryDone q idx).landPayload q idx s1.dma.reqs
    | .command _ => { s with dma := { s.dma with reqs := s.dma.reqs.filter (·.id != id) } }
    | _ => s

/-- HOST_READ_COMPLETION (R165). -/
def execHostReadCompletion (id : Nat) (data : List Byte) (s : State) : Host.Outcome State Fault Refusal :=
  done (s.readDone id data)

/-- A flush read completes: the writes issued before it have arrived, and a transfer whose bus part has ended and whose every write
is proved is finished (R155, R176, R177). -/
def State.flushDone (s : State) (id : Nat) : State :=
  match s.req id with
  | none => s
  | some r =>
    match r.what with
    | .flush q idx =>
      let s1 := { s with dma := { s.dma with reqs := s.dma.reqs.filter (·.id != id) } }
      (s1.retryDone q idx).modEntry q idx fun e =>
        let e1 := { e with unflushed := e.unflushed.drop r.elem }
        if e.phase = .flushing ∧ e.data = [] ∧ e1.unflushed = [] then { e1 with phase := .finished } else e1
    | _ => s

/-- FLUSH_READ_COMPLETION (R176). -/
def execFlushReadCompletion (id : Nat) (s : State) : Host.Outcome State Fault Refusal := done (s.flushDone id)

/-- R179 is in force: the chip is a member of a twin pair, by its strap (R382). PAIR_POLICY shows it. -/
def State.pairPolicy (s : State) : Bool := s.getF Fld.twnStatusStrap 0 != 0

/-- Retries allowed: none in a member of a twin pair (R178, R179). -/
def State.retryLimit (s : State) : Nat := if s.pairPolicy then 0 else s.getF Fld.dmaCfgRetry 0

/-- Issue a failing access again; a flush resends the writes that it was to prove, and a write its bytes (R178). -/
def State.retry (s : State) (r : Req) : State :=
  let s1 := { s with dma := { s.dma with reqs := s.dma.reqs.map fun (x : Req) =>
    if x.id == r.id then { x with tries := x.tries + 1 } else x } }
  match r.what with
  | .flush q idx | .payload q idx | .inWrite q idx =>
    match (s.qp q).entry idx with
    | none => s1
    | some e =>
      let s2 := if e.prog then s1.modChan e.chan fun c => { c with state := .retrying, retries := min (r.tries + 1) 7 } else s1
      if r.what.isWrite then s2.emit (.hostWrite r.tenant r.addr (r.data.getD []))
      else if r.len = 0 then
        ((e.unflushed.take r.elem).foldl (fun s w => s.emit (.hostWrite r.tenant w.1 w.2)) s2).emit (.flushRead r.tenant r.addr)
      else s2.emit (.hostRead r.tenant r.addr r.len)
  | .completion _ | .head _ => s1.emit (.hostWrite r.tenant r.addr (r.data.getD []))
  | _ => s1.emit (.hostRead r.tenant r.addr r.len)

/-- A host access has failed: it is retried, or its channel halts, its queue pair faults, or its command path enters
fault (R178 to R182, R255). A write has no completion, so that only the staging buffer can fail it (R178). -/
def State.accessFail (s : State) (id : Nat) (k : HostErr) : State :=
  match s.req id with
  | none => s
  | some r =>
    if r.what.isWrite && k ≠ .staging then s
    else if r.tries < s.retryLimit then s.retry r
    else
      let s1 := { s with dma := { s.dma with reqs := s.dma.reqs.filter (·.id != id) } }
      match r.what with
      | .subEntry q => (s1.fnErr r.tenant r.addr false (errKind k) 1).qpFault q 2
      | .payload q idx => s1.xferFail q idx (errKind k) false r.addr
      | .inWrite q idx => s1.xferFail q idx (errKind k) true r.addr
      | .flush q idx => s1.xferFail q idx 6 true r.addr
      | .program ch slot => ((s1.fnErr r.tenant r.addr false (errKind k) 3).loadRefused ch).modChan ch fun x =>
          { x with refetch := x.refetch.filter fun y => y.1 != slot }
      | .command t => (s1.fnErr t r.addr false (errKind k) 1).pathFault t
      | .completion q => (s1.fnErr r.tenant r.addr true (errKind k) 1).qpFault q 2
      | .head q => (s1.fnErr r.tenant r.addr true (errKind k) 2).qpFault q 2

/-- HOST_ACCESS_FAILURE (R178). -/
def execHostAccessFailure (id : Nat) (kind : HostErr) (s : State) : Host.Outcome State Fault Refusal :=
  done (s.accessFail id kind)

/-! ### ECC and scrubs (R190 to R192) -/

/-- Skip the slots of one quad in one beat of an open frame (Table 7-8). -/
def State.skipBeat (s : State) (quad frame beat : Nat) : State :=
  let skip := fun x : FSlot => if x.slot.beat = beat ∧ quadOf x.slot.port = quad then { x with gone := true } else x
  let fix := fun f : FrameRec => if f.number.toNat = frame then { f with slots := f.slots.map skip } else f
  { s with frames := s.frames.map fix }

/-- What a word belongs to, as it is kept: of the Almanac, 8192 × quad + 8 × (frame modulo 1,024) + beat; of the beat lists,
2^35 × quad + 8 × frame + beat, where PATROL_SCRUB_STEP gives 24 × quad + 8 × (how far ahead the frame is) + beat; of the
descriptor cache, the queue pair; of the engine scratch, the channel; of the tenant region, 4 × queue pair + 0 holding area,
1 standing area, 2 OUT data, 3 IN data (log entry 19). -/
def State.badKey (s : State) (region who : Nat) : Nat :=
  if region = 1 then 2 ^ 35 * (who / 24) + 8 * (s.time.frame + BitVec.ofNat 32 (who % 24 / 8)).toNat + who % 8 else who

/-- The builder reads the Almanac for a frame: where a word is beyond correction, the slots of its beat are skipped, the copy is
rebuilt, and the Steward records a chip event (Table 7-8). -/
def State.readAlmanac (s : State) (frame : Word) : State :=
  (List.range 32).foldl (fun s k =>
    let r := s.readWords 0 (8192 * (k / 8) + 8 * (frame.toNat % 1024) + k % 8)
    if r.2 then (r.1.skipBeat (k / 8) frame.toNat (k % 8)).chipEvent else r.1) s

/-- The beat list of the running beat is read: where a word of a quad's list is beyond correction, the quad's slots of the beat are
skipped (Table 7-8). -/
def State.readBeatLists (s : State) : State :=
  (List.range 4).foldl (fun s k =>
    let r := s.readWords 1 (2 ^ 35 * k + 8 * s.time.frame.toNat + s.time.beat)
    if r.2 then r.1.skipBeat k s.time.frame.toNat s.time.beat else r.1) s

/-- PATROL_SCRUB_STEP (R190, R191): the word at an address is in error. Where the patrol runs and has reached it, a single-bit
error is corrected and a double-bit one latched, with its effect when the word is next used; otherwise the error stands until
the word is read (log entry 44). -/
def execPatrolScrubStep (addr : BitVec 24) (err : EccErr) (who : Nat) (s : State) : Host.Outcome State Fault Refusal :=
  let found := fun reached : Bool => reached && s.bit Fld.gblCisScrubPatrolEn 0
  let r := cisRegion addr.toNat
  let stands := fun (s : State) (double latched : Bool) =>
    { s with dma := { s.dma with bad := s.dma.bad ++ [⟨addr, double, latched, s.badKey r who⟩] } }
  match err with
  | .none => done s
  | .single reached => done (if found reached then s.addF Fld.gblCisEccCorrected 0 1 else stands s false false)
  | .double reached =>
    done (if found reached then stands (s.cisUncorrected r addr) true true else stands s true false)

/-! ### Pools (R187, R189) -/

/-- The tenant has an open endpoint. -/
def State.hasOpenEp (s : State) (t : Nat) : Bool := s.eps.any fun e => e.2.isOpen && e.2.owner == t

/-- POOL_MODE (R187). -/
def bodyPoolMode (t : Nat) (s : State) (p : List Byte) : CmdRes :=
  let m := fieldAt p 0 1
  if 1 < m then .err s .badParam
  else if s.hasOpenEp t then .err s .wrongState
  else .ok (s.setF Fld.tenCisSharePoolMode t m) 0

/-- The row of PoolMode in Table 10-4. -/
def rowPoolMode : CmdInfo :=
  { op := 0x0B03, named := [(0, 1)] }

/-- POOL_MODE (R187). -/
def execPoolMode (t : Fin 256) (k : CmdPkt) (s : State) : Host.Outcome State Fault Refusal :=
  done (runCmd rowPoolMode t k (bodyPoolMode t) s)

/-- POOL_CREATE (R189): the lowest free pool number. -/
def bodyPoolCreate (t : Nat) (s : State) (p : List Byte) : CmdRes :=
  let b := fieldAt p 0 2
  let n := fieldAt p 2 2
  let q := fieldAt p 4 1
  if !powerOfTwoIn b 64 16384 || n == 0 || decide (4096 < n) || decide (15 < q) then .err s .badParam
  else if !s.bit Fld.tenCisSharePoolMode t then .err s .wrongState
  else match (List.range 16).find? fun k => (Tab.find s.pools (t * 16 + k)).isNone with
    | none => .err s .noResource
    | some k =>
      if s.shareFits t (b * n) then
        .ok { s with pools := Tab.set s.pools (t * 16 + k) ⟨b, n, q⟩ } (BitVec.ofNat 64 k)
      else .err s .noResource

/-- The row of PoolCreate in Table 10-4. -/
def rowPoolCreate : CmdInfo :=
  { op := 0x0B04, named := [(0, 5)] }

/-- POOL_CREATE (R189). -/
def execPoolCreate (t : Fin 256) (k : CmdPkt) (s : State) : Host.Outcome State Fault Refusal :=
  done (runCmd rowPoolCreate t k (bodyPoolCreate t) s)

/-- POOL_DESTROY (R189). -/
def bodyPoolDestroy (t : Nat) (s : State) (p : List Byte) : CmdRes :=
  let k := fieldAt p 0 1
  if 15 < k then .err s .badParam
  else if (Tab.find s.pools (t * 16 + k)).isNone then .err s .wrongState
  else if s.eps.any fun e => e.2.isOpen && e.2.owner == t && e.2.pool == some k then .err s .wrongState
  else let p := Tab.getD s.pools (t * 16 + k) ⟨0, 0, 0⟩
    .ok ({ s with pools := Tab.del s.pools (t * 16 + k) }.scrubs t (p.size * p.count)) 0

/-- The row of PoolDestroy in Table 10-4. -/
def rowPoolDestroy : CmdInfo :=
  { op := 0x0B05, named := [(0, 1)] }

/-- POOL_DESTROY (R189). -/
def execPoolDestroy (t : Fin 256) (k : CmdPkt) (s : State) : Host.Outcome State Fault Refusal :=
  done (runCmd rowPoolDestroy t k (bodyPoolDestroy t) s)

end Sys2Proof.Machine
end

