-- ==== Sys2Proof/Machine/Submit.lean ====
section
/-!
DEFINITION. Submission entries as they reach the descriptor cache: layout, checks, the elements of DMA programs, and
deliveries from standing areas (06 R148 to R152, 07 R171 and R172, 04 R102).
-/
namespace Sys2Proof.Machine

/-- The kind of a submission entry (Table 6-3). -/
def XKind.ofCode : Nat → Option XKind
  | 1 => some .control
  | 2 => some .bulk
  | 3 => some .periodic
  | 4 => some .strike
  | _ => none

/-- A submission entry as read (Table 6-3). -/
def Entry.ofBytes (b : List Byte) (idx : Half) (kind : XKind) (order : Nat) : Entry :=
  let fl := fieldAt b 1 1
  { idx := idx, kind := kind, dirIn := bitsOf fl 0 1 == 1, prog := bitsOf fl 1 1 == 1, zlp := bitsOf fl 2 1 == 1
    noIrq := bitsOf fl 3 1 == 1, actMode := bitsOf fl 4 2, addr := fieldAt b 2 2 % 4096, ep := fieldAt b 2 2 / 4096
    len := bitsOf (fieldAt b 4 4) 0 24, buf := BitVec.ofNat 64 (fieldAt b 8 8), setup := (b.drop 16).take 8
    act := BitVec.ofNat 64 (fieldAt b 24 8), tag := BitVec.ofNat 64 (fieldAt b 32 8)
    route := BitVec.ofNat 64 (fieldAt b 40 8), phase := .queued, status := 0, count := 0, stage := 0, flags := 0
    tick := 0, frame := 0, data := [], xfer := bitsOf (fieldAt b 4 4) 0 24, unflushed := []
    chan := bitsOf (fieldAt b 8 8) 0 6, slot := 0, elem0 := 0, elems := 0, inFlight := 0, strike := .unplaced, seq := 0
    tAct := 0, commitAt := 0, actFrame := 0, slotFrame := 0, slotContract := 0, slotBeat := 0, maybeHeld := false
    wStatus := 0, wSent := false, wAgain := false, slipped := false, guard := 0, begun := false, order := order, last := none
    arrived := 0, sent := false }

/-- Check 1 of Table 6-4: no reserved encoding, no reserved field; ACT_MODE 0b11 is left to check 6. -/
def entryFormOk (b : List Byte) (e : Entry) : Bool :=
  let strike := e.kind = .strike
  let act := e.act.toNat
  decide (fieldAt b 0 1 < 16) && decide (fieldAt b 1 1 < 64) && decide (fieldAt b 4 4 < 2 ^ 24) &&
  fieldAt b 48 16 == 0 && (!e.prog || decide (e.buf.toNat < 64)) &&
  (e.kind = .control || fieldAt b 16 8 == 0) && (strike || act == 0) &&
  (!strike || e.actMode == 0 || e.actMode == 3 || decide (act < (if e.actMode = 1 then 2 ^ 56 else 2 ^ 57))) &&
  (e.route == 0 || (e.kind = .control && e.addr == 0)) && (!(e.kind = .control) || e.ep == 0)

/-- The place at which an entry's device stands; address 0 is named by the route (R149, R197). -/
def State.entryPlace (s : State) (e : Entry) : Option Place := if e.addr = 0 then s.place e.route else s.placeOf e.addr

/-- The root port of an entry's device. -/
def State.entryPort (s : State) (e : Entry) : Nat :=
  if e.addr = 0 then routePort e.route
  else match s.placeOf e.addr with
    | some p => routePort p.route
    | none => 16

/-- The setup bytes name a request that Table 8-2 keeps from the tenant (R196, R198). -/
def reservedRequest (t : Nat) (setup : List Byte) : Bool :=
  let b0 := fieldAt setup 0 1
  let b1 := fieldAt setup 1 1
  (b0 == 0x00 && (b1 == 0x05 || b1 == 0x30 || b1 == 0x31)) ||
  (b0 == 0x00 && b1 == 0x03 && fieldAt setup 2 2 == 1) ||
  (b0 == 0x23 && (b1 == 0x03 || b1 == 0x01)) || (b0 == 0xA3 && b1 == 0x00 && t != 0)

/-- Check 6 of Table 6-4 (R47, R120, R196). -/
def entrySetupOk (t : Nat) (e : Entry) : Bool :=
  (!(e.kind = .control) ||
    ((decide (128 ≤ fieldAt e.setup 0 1) == e.dirIn) && fieldAt e.setup 6 2 == e.len && !reservedRequest t e.setup)) &&
  (!(e.kind = .strike) || e.actMode != 3)

/-- Check 7 of Table 6-4: Table 6-5, and whole elements (R151, R171). -/
def entryLenOk (e : Entry) (maxp : Nat) (elem : Option Nat) : Bool :=
  (match e.kind with
    | .control => decide (e.len ≤ 65535) && (e.len != 0 || !e.dirIn)
    | .bulk => e.len != 0 || !e.dirIn
    | .periodic => if e.dirIn then decide (maxp ≤ e.len) else decide (e.len ≤ maxp)
    | .strike => decide (e.len ≤ maxp)) &&
  (match elem with | none => true | some n => e.len % n == 0)

/-- The bound contract of a queue pair: the latest with its identifier. -/
def State.boundContract (s : State) (q : Nat) : Option Contract :=
  match (s.qp q).contract with
  | none => none
  | some id => ((s.alm.pend.flatMap (·.contracts)).reverse ++ s.alm.contracts).find? fun c => c.id == id

/-- The program slot that an entry uses (R168). -/
def State.entrySlot (s : State) (q t : Nat) (e : Entry) : Option (Nat × Prog) :=
  if (s.chan e.chan).owner = some t then (s.chan e.chan).slotOf q else none

/-- An index was posted by the time at which a producer index stood. -/
def Qp.postedBy (v : Qp) (prod i : Half) : Bool := decide (1 ≤ idxCount prod i ∧ idxCount prod i ≤ v.sqSize)

/-- An entry names the device that stood in a place last (R214, R216). -/
def Place.namedLast (p : Place) (e : Entry) : Bool :=
  if e.addr = 0 then e.kind = .control && e.route == p.route else e.addr == p.wasAddr

/-- An entry was posted for a device before it went, with its address and its owner then given up (R214 step 3). -/
def State.goneEntry (s : State) (q : Nat) (e : Entry) : Bool :=
  s.places.any fun p => p.2.namedLast e && p.2.before.any fun b => b.1 == q && (s.qp q).postedBy b.2 e.idx

/-- The checks of Table 6-4 in order: the status of the first that fails (R150). An entry posted for a device that has gone
since ends with DEVICE_GONE in place of NOT_OWNER (R214). -/
def State.entryCheck (s : State) (q t : Nat) (b : List Byte) (e : Entry) : Option XStatus :=
  let c := s.boundContract q
  let closed := match (s.qp q).closedTo with
    | some x => decide (1 ≤ idxCount x e.idx ∧ idxCount x e.idx ≤ (s.qp q).sqSize)
    | none => false
  let owner := if e.addr = 0 then t == 0 else (match s.placeOf e.addr with | some p => p.owner == t | none => false)
  let live := e.kind = .control ∨ e.kind = .bulk
  let agrees := match c with
    | none => false
    | some c => if c.strike then decide (e.kind = .strike) else decide (e.kind = .periodic) && e.dirIn == c.dirIn
  let sl := s.entrySlot q t e
  if !entryFormOk b e then some .badEntry
  else if !owner && s.goneEntry q e then some .deviceGone
  else if !owner || (e.prog && sl.isNone) then some .notOwner
  else if quadOf (s.entryPort e) != (s.qp q).homeQuad then some .badRoute
  else if c.isNone && closed && ¬live then some .contractClosed
  else if c.isNone && ¬live then some .noContract
  else if c.isSome && !agrees then some .badKind
  else if e.kind = .strike ∧ !(match s.entryPlace e with | some p => s.pathE p | none => false) then some .unsupported
  else if !entrySetupOk t e then some .badSetup
  else if !entryLenOk e ((c.map (·.maxp)).getD 0) (if e.prog then sl.map (·.2.elemSize) else none) then some .badLength
  else if !e.prog && e.len != 0 && !s.windowOk t e.buf e.len e.dirIn then some .windowFault
  else none

/-- The device of an entry is there to be served: at its address, or at address 0 at the named place (R197, R214). -/
def State.entryThere (s : State) (e : Entry) : Bool :=
  match s.entryPlace e with
  | none => false
  | some p => if e.addr = 0 then p.enabled && (!p.present || p.keptByReset) else p.present

/-- Assign the next elements of its slot to an entry (R171): none where the program has too few left. -/
def State.assign (s : State) (q t : Nat) (e : Entry) : Option (State × Entry) :=
  match s.entrySlot q t e with
  | none => some (s, e)
  | some (k, p) =>
    let n := e.len / p.elemSize
    if !p.rep && decide (p.total < p.pos + n) then none
    else some (s.modChan e.chan fun c => { c with slots := Tab.set c.slots k { p with pos := p.pos + n } },
      { e with slot := k, elem0 := p.pos, elems := n })

/-- An entry enters the descriptor cache finished, with a status and without bus traffic (R150, R155). -/
def State.enterDone (s : State) (q : Nat) (e : Entry) (st : XStatus) : State :=
  s.modQp q fun v => { v with entries := v.entries ++ [e.finish st s.now s.time.frame] }

/-- An entry that passed its checks: the cases that end it at once, and its elements (R161, R171, R180, R214). -/
def State.enterEntry (s : State) (q t : Nat) (e : Entry) : State :=
  if (s.qp q).aborting then s.enterDone q e .aborted
  else if e.prog && (s.chan e.chan).state = .halted then s.enterDone q e .dmaError
  else match (if e.prog then s.assign q t e else some (s, e)) with
    | none => s.enterDone q e .badLength
    | some (s1, e1) =>
      if !s.entryThere e then s1.enterDone q e1 .deviceGone
      else s1.modQp q fun v => { v with entries := v.entries ++ [e1] }

/-- A fetched submission entry lands in the descriptor cache: SQ_CONS passes it, and it is checked; a buffer
outside the windows is also counted as a refusal (R148, R150, R308). -/
def State.landEntry (s : State) (q : Nat) (b : List Byte) : State :=
  let b := padTo 64 b
  let v := s.qp q
  let t := v.owner.getD 0
  let s1 := (s.setQp q { v with sqCons := v.sqCons + 1 })
  let s2 := { (if v.entries = [] then s1.writeWords 2 q else s1) with alm := { s1.alm with order := s1.alm.order + 1 } }
  match XKind.ofCode (fieldAt b 0 1 % 16) with
  | none => s2.enterDone q (Entry.ofBytes b v.sqCons .bulk s.alm.order) .badEntry
  | some k =>
    let e := Entry.ofBytes b v.sqCons k s.alm.order
    match s.entryCheck q t b e with
    | some .deviceGone => match (if e.prog then s2.assign q t e else none) with
      | some (s3, e1) => s3.enterDone q e1 .deviceGone
      | none => s2.enterDone q e .deviceGone
    | some st => (if st = .windowFault then s2.isoRefuse t e.buf else s2).enterDone q e st
    | none => s2.enterEntry q t e

/-! ### Standing areas (R102) -/

/-- The oldest buffer of a periodic IN queue pair that has received nothing. -/
def Qp.openBuffer (v : Qp) : Option Entry :=
  v.entries.find? fun e => e.kind = .periodic && e.dirIn && (e.phase = .queued || e.phase = .started)

/-- A packet goes to a posted buffer: the bytes go to the basin, and the entry ends (R102, Table 6-7). SHORT is bit 3. -/
def Entry.receivePkt (e : Entry) (data : List Byte) (maxp : Nat) (flags : Nat) (tick : DWord) (frame : Word) : Entry :=
  let short := if data.length < maxp ∧ data.length < e.len then 8 else 0
  Entry.finish { e with
    data := data, count := data.length, flags := BitVec.ofNat 8 (flags + short), begun := true, last := none
    arrived := tick } .ok tick frame

/-- Complete posted buffers from a standing area, oldest packet first, while the queue pair may start work (R102,
R157). -/
def State.deliverStanding (s : State) (q : Nat) (c : Contract) : Nat → State
  | 0 => s
  | n + 1 =>
    let v := s.qp q
    match Tab.getD s.areas c.id [], v.openBuffer with
    | pkt :: rest, some e =>
      if v.enabled && !v.bpNow then
        let v1 := { v.modEntry e.idx fun e =>
          e.receivePkt pkt.data c.maxp (1 + if v.dropped then 2 else 0) pkt.tick pkt.frame with dropped := false }
        State.deliverStanding { s.setQp q v1 with areas := Tab.set s.areas c.id rest } q c n
      else s
    | _, _ => s

/-- Deliver what a queue pair's standing area holds; a word of it that is beyond correction drops the oldest packet held (R102,
Table 7-8). -/
def State.deliver (s : State) (q : Nat) : State :=
  match s.boundContract q with
  | none => s
  | some c =>
    if !c.standing || Tab.getD s.areas c.id [] = [] then s
    else
      let r := s.readWords 4 (4 * q + 1)
      if r.2 then
        ({ r.1 with areas := Tab.set r.1.areas c.id ((Tab.getD r.1.areas c.id []).drop 1) }.modQp q fun v =>
          { v with drops := satAdd 8 v.drops 1 }).deliverStanding q c 8
      else r.1.deliverStanding q c 8

/-- Deliver what the standing areas of all queue pairs hold, after queue pairs have been returned to Running (R102). -/
def State.deliverAll (s : State) : State := s.qps.foldl (fun s v => s.deliver v.1) s

/-- A good packet on a standing contract: into the area while it is not empty or no buffer is posted, displacing the
oldest when it is full; the first into an empty area with no buffer raises the standing-data cause (R102). -/
def State.standPacket (s : State) (c : Contract) (data : List Byte) : State :=
  let area := Tab.getD s.areas c.id []
  let pkt : StandPkt := ⟨data, s.now, s.time.frame⟩
  let full := decide (c.depth ≤ area.length)
  let s0 := if area = [] then s.writeWords 4 (4 * c.qp + 1) else s
  let s1 := { s0 with areas := Tab.set s.areas c.id ((if full then area.drop 1 else area) ++ [pkt]) }
  let s2 := if full then s1.modQp c.qp fun v => { v with dropped := true, drops := satAdd 8 v.drops 1 } else s1
  if area.isEmpty && (s.qp c.qp).openBuffer.isNone then s2.qpCause c.qp 8 else s2

end Sys2Proof.Machine
end

