-- ==== Sys2Proof/Machine/Strikes.lean ====
section
/-!
DEFINITION. Strikes: act ticks, placement, commit points, withdrawals and their outcomes, and the strikes group of commands
(05 R116 to R141).
-/
namespace Sys2Proof.Machine

/-! ### The act (R120 to R123, R126, R127) -/

/-- The place of a strike's device. -/
def State.strikePlace (s : State) (e : Entry) : Option Place := s.placeOf e.addr

/-- The commit horizon of a strike (R126). -/
def State.strikeHorizon (s : State) (e : Entry) : Nat := ((s.strikePlace e).map s.horizon).getD 0

/-- Every link on the path runs at 3.1 or later (R122). -/
def State.path31 (s : State) (e : Entry) : Bool :=
  match s.strikePlace e with
  | none => false
  | some p => (s.pathPlaces p.route).all fun q => decide (0x31 ≤ q.version)

/-- The strike travels in tick mode with a tick that the Vohus computes (R122). -/
def State.tickComputed (s : State) (e : Entry) : Bool := e.actMode != 0 && !s.path31 e

/-- ACT_DIR is reverse (Table 6-3). -/
def Entry.reverse (e : Entry) : Bool := e.act.getLsbD 56

/-- The phase of a frame-phase or angle strike (R120, R121). -/
def State.strikePhase24 (s : State) (e : Entry) : Nat :=
  if e.actMode = 1 then bitsOf e.act.toNat 32 24
  else (s.angleFrame (BitVec.ofNat 32 e.act.toNat) (bitsOf e.act.toNat 32 24) e.reverse).2

/-- The frame F of a frame-phase or angle strike (R121). -/
def State.strikeFrame (s : State) (e : Entry) : Word :=
  if e.actMode = 1 then BitVec.ofNat 32 e.act.toNat
  else (s.angleFrame (BitVec.ofNat 32 e.act.toNat) (bitsOf e.act.toNat 32 24) e.reverse).1

/-- T_act of a strike for a frame F, with the latest prediction (R122, R127). -/
def State.tickOf (s : State) (e : Entry) (frame : Word) : DWord :=
  if e.actMode = 0 then e.act else BitVec.ofNat 64 (s.phaseTick frame (s.strikePhase24 e))

/-- The strike with F, T_act and C from the latest prediction; an act whose frame is running keeps its tick (R127). -/
def State.aim (s : State) (e : Entry) (frame : Word) : Entry :=
  let t := if e.actMode ≠ 0 ∧ s.ahead frame = 0 ∧ e.actFrame = frame ∧ e.tAct ≠ 0 then e.tAct else s.tickOf e frame
  { e with actFrame := frame, tAct := t, commitAt := BitVec.ofNat 64 (t.toNat - s.strikeHorizon e) }

/-- The ACT field (R33). -/
def State.actField (s : State) (e : Entry) : Nat :=
  if e.actMode = 0 ∨ s.tickComputed e then 256 * (e.tAct.toNat % 2 ^ 48)
  else 1 + 256 * (e.actFrame.toNat % 65536) + 2 ^ 24 * (s.strikePhase24 e % 2 ^ 24)

/-! ### Ends -/

/-- A strike ends with a status: COUNT is LENGTH if its data packet was acknowledged (`stage` 1), FRAME that of the
staging slot once it was staged (Table 6-7). -/
def Entry.strikeEnd (e : Entry) (st : XStatus) (tick : DWord) (frame : Word) : Entry :=
  { e with
    phase := .finished, status := st.code, tick := tick, count := if e.stage = 1 then e.len else 0
    frame := if e.phase = .started then e.slotFrame else frame, data := [], xfer := 0, flags := e.flags &&& 0xFB }

/-- A strike has acted: LENGTH bytes at the act tick (R130, Table 6-7). -/
def Entry.strikeActed (e : Entry) (late : Bool) : Entry :=
  { e with
    phase := .finished, status := 0, count := e.len, tick := e.tAct, frame := e.slotFrame, data := [], xfer := 0
    flags := if late then e.flags ||| 4 else e.flags }

/-- Take a strike out of the frame in which it is placed. -/
def State.dropPlacement (s : State) (q : Nat) (idx : Half) : State :=
  let clear := fun x : FSlot => if x.strike = some (q, idx) then { x with strike := none } else x
  { s with frames := s.frames.map fun f => { f with slots := f.slots.map clear } }

/-- A placed strike returns to unplaced (R128, R139, R157). -/
def State.unplace (s : State) (q : Nat) (idx : Half) : State :=
  (s.dropPlacement q idx).modEntry q idx fun e =>
    if e.strike = .placed then { e with strike := .unplaced, begun := false } else e

/-- The queue pair is held from the moment at which one of its entries receives the status of a withdrawal (R135). -/
def Qp.holdFor (v : Qp) (idx : Half) : Qp := { v with held := v.held || v.entries.any fun e => e.idx == idx && e.holds }

/-- End a strike with a status. -/
def State.endStrike (s : State) (q : Nat) (idx : Half) (st : XStatus) : State :=
  match (s.qp q).entry idx with
  | none => s.dropPlacement q idx
  | some e =>
    if e.phase = .finished then s.dropPlacement q idx
    else ((s.dropPlacement q idx).modEntry q idx fun e => e.strikeEnd st s.now s.time.frame).modQp q fun v => v.holdFor idx

/-- The root port of a strike. -/
def State.strikePort (s : State) (e : Entry) : Nat := ((s.strikePlace e).map fun p => routePort p.route).getD 0

/-- The event's status of a withdrawal, as stored in the entry. -/
def XStatus.ofCode (b : Byte) : XStatus :=
  if b == 0x20 then .retracted else if b == 0x21 then .notLocked else if b == 0x24 then .halted else .angleMissed

/-- A strike that a slip withdrew is unplaced again, with nothing left of its withdrawal (R131, R138). -/
def Entry.replaced (e : Entry) : Entry :=
  { e with strike := .unplaced, phase := .queued, begun := false, stage := 0, maybeHeld := false, flags := e.flags &&& 0xFB
           wStatus := 0, wSent := false, wAgain := false, slipped := true }

/-- A staged strike has been withdrawn: it ends with the event's status, or returns to unplaced to be placed again after a
slip (R134, R138). -/
def State.withdrawnOk (s : State) (q : Nat) (idx : Half) (e : Entry) : State :=
  let s1 := s.addF Fld.prtStrikeStatWithdrawn (s.strikePort e) 1
  if e.wStatus = 0x25 then s1.modEntry q idx Entry.replaced
  else s1.endStrike q idx (XStatus.ofCode e.wStatus)

/-- A strike acted although it was to be withdrawn: success with CANCEL_LATE (R132, R134). -/
def State.cancelLate (s : State) (q : Nat) (idx : Half) (e : Entry) : State :=
  (s.addF Fld.prtStrikeStatLateCancel (s.strikePort e) 1).modEntry q idx fun e => e.strikeActed true

/-! ### Placement (R123, R128) -/

/-- T_act of the previous strike on an entry's endpoint: of those before it on its queue pair, and of those placed or
staged on another (R128). -/
def State.prevAct (s : State) (q : Nat) (e : Entry) : Nat :=
  (s.qps.flatMap fun v =>
    ((if v.1 = q then v.2.entries.takeWhile fun x => x.idx != e.idx else v.2.entries).filter fun x =>
      x.kind = .strike && x.addr == e.addr && x.ep == e.ep && x.phase ≠ .finished && x.strike ≠ .unplaced).map
        fun x => x.tAct.toNat).foldl max 0

/-- The beats that a strike's complete splits take below a translator (Table 4-3). -/
def State.splitBeats (s : State) (e : Entry) : Nat :=
  match s.strikePlace e with
  | none => 0
  | some p => match s.translator p with
    | none => 0
    | some _ => if p.speed = 1 then 3 else 2

/-- The start tick of a slot in the frame k frames ahead. -/
def State.slotTick (s : State) (k : Nat) (x : Slot) : Nat := s.startAhead k + x.beat * s.lenAhead k / 8 + x.start

/-- Whether a slot k frames ahead is eligible for a strike aimed at its act, by the GUARD_BEATS that the strike carries
(R122, R128, R141). -/
def State.slotEligible (s : State) (e : Entry) (prev k : Nat) (x : Slot) : Bool :=
  let bl := s.lenAhead k / 8
  let start := s.slotTick k x
  let fin := start + x.charge + s.splitBeats e * bl
  decide (fin + e.guard * bl ≤ e.commitAt.toNat) && decide (prev < start) &&
    (!s.tickComputed e || decide (s.startAhead (s.ahead e.actFrame - 2) ≤ start))

/-- The frame, counted from the running one, of the last slot not yet departed that ends early enough for a strike, if any
slot does; the contract's slots repeat at least once in 1,024 frames (R128). -/
def State.lastEligible (s : State) (e : Entry) (c : Contract) (prev : Nat) : Option Nat :=
  let len := max (s.getF Fld.mrcLenNextLen 0) 1
  let top := (e.commitAt.toNat - s.time.start.toNat) / len + 2
  let frames := (List.range 1028).map fun d => top - d
  frames.find? fun k =>
    c.slots.any fun x =>
      x.role == 3 && (s.time.frame.toNat + k) % x.period == x.phase && s.slotEligible e prev k x &&
        (k != 0 || decide (s.now.toNat < s.slotTick 0 x))

/-- The best open slot for a strike in frames n+1 and n+2: the latest eligible one that carries no strike. -/
def State.bestSlot (s : State) (e : Entry) (q prev : Nat) : Option (Nat × Nat) :=
  let cands := s.frames.zipIdx.flatMap fun f =>
    if f.2 = 0 then []
    else (f.1.slots.zipIdx.filter fun x =>
      x.1.slot.qp == q && x.1.slot.role == 3 && x.1.strike.isNone && !x.1.gone &&
        s.slotEligible e prev f.2 x.1.slot).map fun x => (f.2, x.2)
  cands.getLast?

/-- Place a strike in a slot (R128). -/
def State.placeIn (s : State) (q : Nat) (e : Entry) (k i : Nat) : State :=
  let f := s.frames.getD k ⟨0, []⟩
  let c := ((f.slots.map fun x => (x.slot.contract, x.slot.beat)).getD i (0, 0))
  let put := fun x : FSlot × Nat => if x.2 = i then { x.1 with strike := some (q, e.idx) } else x.1
  let open_ := fun g : FrameRec × Nat =>
    if g.2 = k then { g.1 with slots := g.1.slots.zipIdx.map put } else g.1
  { s with frames := s.frames.zipIdx.map open_ }.modEntry q e.idx fun x =>
    { x with
      strike := .placed, begun := true, tAct := e.tAct, commitAt := e.commitAt, actFrame := e.actFrame
      slotFrame := f.number, slotContract := c.1, slotBeat := c.2, guard := e.guard }

/-- The strike falls in a gap of bus time (R83). An angle strike's commanded frame is taken to be its ACT_FRAME (log entry 124). -/
def State.inGap (s : State) (e : Entry) : Bool :=
  if e.actMode = 0 then decide (e.act.toNat < s.time.gapTick.toNat)
  else
    let f : Word := BitVec.ofNat 32 e.act.toNat
    s.time.gapFrom != s.time.gapTo && atOrAfter f s.time.gapFrom && laterFrame s.time.gapTo f

/-- What a placement attempt does with the oldest unplaced strike of a queue pair, and whether it completed there, so that the
next is tried (R123, R128). A strike whose slot was missed while a halted queue pair is being disabled has not started, and is
aborted (R161). -/
def State.attemptOne (s : State) (q : Nat) : State × Bool :=
  let v := s.qp q
  match v.entries.find? fun e => e.kind = .strike && e.phase = .queued && e.strike = .unplaced with
  | none => (s, false)
  | some e =>
    let fin := fun st : XStatus => (s.endStrike q e.idx st, true)
    if v.aborting then fin .aborted
    else if !v.enabled || v.held || s.halt.stands || s.twn.freshEndpoints.contains (epKey e.addr e.ep false) then (s, false)
    else if s.inGap e then fin .timeGap
    else if e.actMode = 2 ∧ ¬s.bit Fld.mrcStatusLocked 0 then fin .notLocked
    else if e.actMode = 2 ∧ s.bit Fld.mrcStatusDir 0 ≠ e.reverse then fin .wrongDirection
    else match s.boundContract q with
      | none => (s, false)
      | some c =>
        let e1 := s.aim { e with guard := s.time.guard } (s.strikeFrame e)
        let prev := s.prevAct q e
        match s.lastEligible e1 c prev with
        | none => fin (if e.slipped then .angleMissed else .notStaged)
        | some k =>
          if 2 < k ∨ v.bpNow then (s, false)
          else match s.bestSlot e1 q prev with
            | none => (s, false)
            | some x => (s.placeIn q e1 x.1 x.2, false)

/-- One placement attempt for the oldest unplaced strike of a queue pair, and for the next while strikes complete at it
(R123, R128). -/
def State.attempt (s : State) (q : Nat) : Nat → State
  | 0 => s
  | n + 1 =>
    let r := s.attemptOne q
    if r.2 then r.1.attempt q n else r.1

/-- Placement attempts on every strike queue pair (R128). -/
def State.attemptAll (s : State) : State :=
  s.qps.foldl (fun s e => if e.2.contract.isSome then s.attempt e.1 4096 else s) s

/-- At a frame start, F, T_act and C of placed and staged strikes follow the lengths that have been fixed (R127). -/
def State.reaim (s : State) : State :=
  let fix := fun e : Entry =>
    if e.kind = .strike && e.strike ≠ .unplaced && e.strike ≠ .committed && e.phase ≠ .finished && e.actMode != 0 then
      s.aim e e.actFrame
    else e
  { s with qps := Tab.mapVal s.qps fun _ v => { v with entries := v.entries.map fix } }

/-! ### Withdrawal (R131 to R138) -/

/-- Withdraw one strike for an event at the present tick, with the event's status (R131, R132, R133): an unplaced or
placed strike ends at once, a staged one awaits a DISARM, and one beyond its commit point is left. A strike that is being
withdrawn for a slip takes the event's status in place of its new placement. -/
def State.withdraw (s : State) (q : Nat) (idx : Half) (st : XStatus) : State :=
  match (s.qp q).entry idx with
  | none => s
  | some e =>
    if e.kind ≠ .strike ∨ e.phase = .finished then s
    else match e.strike with
      | .unplaced | .placed =>
        if st = .angleMissed then (s.unplace q idx).modEntry q idx fun e => { e with slipped := true }
        else (s.modEntry q idx fun e => { e with wStatus := st.code }).endStrike q idx st
      | .staged | .acked =>
        if s.now.toNat < e.commitAt.toNat then s.modEntry q idx fun e =>
          { e with strike := .withdrawing, wStatus := st.code, wSent := false, wAgain := false }
        else s
      | .withdrawing | .settling | .readStatus =>
        if e.wStatus = 0x25 ∧ st ≠ .angleMissed ∧ s.now.toNat < e.commitAt.toNat then
          s.modEntry q idx fun e => { e with wStatus := st.code }
        else s
      | .committed => s

/-- Withdraw every strike of a queue pair that a test picks. -/
def State.withdrawQp (s : State) (q : Nat) (pick : Entry → Bool) (st : XStatus) : State :=
  ((s.qp q).entries.filter pick).foldl (fun s e => s.withdraw q e.idx st) s

/-- Withdraw every strike of the chip that a test picks. -/
def State.withdrawAll (s : State) (pick : Entry → Bool) (st : XStatus) : State :=
  s.qps.foldl (fun s v => s.withdrawQp v.1 pick st) s

/-- An angle-mode strike. -/
def Entry.isAngle (e : Entry) : Bool := e.kind = .strike && e.actMode == 2

/-- LOCKED falls to 0: every uncommitted angle-mode strike is withdrawn (Table 5-6). -/
def State.lockLost (s : State) : State := s.withdrawAll Entry.isAngle .notLocked

/-- After a slip, angle strikes whose F changes are withdrawn and placed again (R131, R138). -/
def State.slipStrikes (s : State) : State :=
  s.withdrawAll (fun e => e.isAngle && e.strike ≠ .unplaced && s.strikeFrame e != e.actFrame) .angleMissed

/-- What follows for strikes from a change of LOCKED and SLIPPED between two states (Table 5-6). -/
def State.mrcStrikes (s before : State) : State :=
  let s1 := if before.bit Fld.mrcStatusLocked 0 && !s.bit Fld.mrcStatusLocked 0 then s.lockLost else s
  if before.getF Fld.mrcStatusSlipped 0 < s.getF Fld.mrcStatusSlipped 0 then s1.slipStrikes else s1

/-- Strikes concerned by a withdrawal: those not committed. -/
def Entry.uncommitted (e : Entry) : Bool :=
  e.kind = .strike && e.phase ≠ .finished &&
  (e.strike = .unplaced || e.strike = .placed || e.strike = .staged || e.strike = .acked ||
    (e.strike ≠ .committed && e.wStatus == 0x25))

/-- A halt begins: placed strikes leave their frames with HALTED (R137). -/
def State.haltStrikes (s : State) : State :=
  s.withdrawAll (fun e => e.kind = .strike && e.strike = .placed) .halted

/-- A strike is staged below a root link and its act is far enough ahead for the HALT token to withdraw it (R137). -/
def State.haltable (s : State) (link : Nat) (e : Entry) : Bool :=
  e.kind = .strike && e.phase ≠ .finished && (e.strike = .staged || e.strike = .acked || e.strike = .withdrawing) &&
  (match s.strikePlace e with | some p => routeLink p.route == link | none => false)

/-- The HALT token has left a root link at t_h: staged strikes there end with HALTED, counted as withdrawn and with no packet
of theirs left to send, or act (R137, R141). -/
def State.haltSent (s : State) (link : Nat) : State :=
  let ends := fun e : Entry => s.haltable link e && decide (s.now.toNat + s.strikeHorizon e ≤ e.tAct.toNat)
  let fix := fun e : Entry =>
    if ends e then Entry.strikeEnd { e with wStatus := 0x24 } .halted s.now s.time.frame
    else if s.haltable link e then (if e.stage = 1 then { e with strike := .committed } else { e with strike := .settling })
    else e
  let gone := s.qps.flatMap fun v => v.2.entries.filter ends
  let s1 := gone.foldl (fun s e => s.addF Fld.prtStrikeStatWithdrawn (s.strikePort e) 1) s
  let kept := s1.txns.filter fun x => x.outstanding || !(match x.work with
    | .entry q idx => ((s.qp q).entry idx).any ends
    | _ => false)
  { s1 with
    txns := kept
    qps := Tab.mapVal s1.qps fun _ v => { v with entries := v.entries.map fix, held := v.held || v.entries.any ends } }

/-! ### The commit point and after (R127, R130, R134) -/

/-- What may not leave for a strike after C: its retained RETRACT, and a DISARM start split that was not accepted (R133). -/
def Txn.staleAt (x : Txn) (q : Nat) (idx : Half) : Bool :=
  decide (x.work = .entry q idx) && !x.outstanding && (x.kind = .retract || (x.kind = .disarm && x.phase = .start))

/-- A strike passes its commit point (R127, R129, R132, R134). -/
def State.commitPoint (s : State) (q : Nat) (idx : Half) : State :=
  match (s.qp q).entry idx with
  | none => s
  | some e =>
    if e.kind ≠ .strike ∨ e.phase ≠ .started then s
    else
      let s0 := s.upTo e.commitAt
      let s1 := { s0 with txns := s0.txns.filter fun x => !x.staleAt q idx }
      let mine := fun x : Txn => decide (x.work = .entry q idx) && decide (x.kind = .strikeTok)
      let out := s.txns.any fun x => mine x && (x.outstanding || decide (x.phase ≠ .start))
      match e.strike with
      | .acked => (s1.commitElems e).modEntry q idx fun e => { e with strike := .committed }
      | .staged =>
        if e.maybeHeld || out then
          s1.modEntry q idx fun e => { e with strike := .settling }
        else ({ s1 with txns := s1.txns.filter fun x => !mine x }).endStrike q idx .notStaged
      | .withdrawing =>
        if e.wSent then s1.modEntry q idx fun e => { e with strike := .settling }
        else if e.stage = 1 || e.flags.getLsbD 2 then
          (s1.commitElems e).modEntry q idx fun e => { e with strike := .committed, flags := e.flags ||| 4 }
        else s1.modEntry q idx fun e => { e with strike := .settling }
      | _ => s1

/-- STRIKE_COMMIT_POINT (R127). -/
def execStrikeCommitPoint (q : Fin 4096) (idx : Half) (s : State) : Host.Outcome State Fault Refusal :=
  done (s.commitPoint q idx)

/-- After T_act the keeper reads the status of a strike that is to be settled (R127, R134). -/
def State.actPassed (s : State) (q : Nat) (idx : Half) : State :=
  match (s.qp q).entry idx with
  | none => s
  | some e =>
    if e.kind ≠ .strike ∨ e.phase ≠ .started then s
    else
      let s1 := s.upTo e.tAct
      if e.strike = .settling then s1.modEntry q idx fun e => { e with strike := .readStatus } else s1

/-- STRIKE_ACT_TICK_PASSED (R127). -/
def execStrikeActTickPassed (q : Fin 4096) (idx : Half) (s : State) : Host.Outcome State Fault Refusal :=
  done (s.actPassed q idx)

/-- Committed strikes complete at the first beat start at or after T_act (R130). -/
def State.actsDue (s : State) : State :=
  let late := s.qps.flatMap fun v => v.2.entries.filter fun e =>
    e.kind = .strike && e.phase = .started && e.strike = .committed && e.flags.getLsbD 2 && decide (e.tAct.toNat ≤ s.now.toNat)
  let s1 := late.foldl (fun s e => s.addF Fld.prtStrikeStatLateCancel (s.strikePort e) 1) s
  let fix := fun e : Entry =>
    if e.kind = .strike && e.phase = .started && e.strike = .committed && decide (e.tAct.toNat ≤ s.now.toNat) then
      e.strikeActed (e.flags.getLsbD 2)
    else e
  { s1 with qps := Tab.mapVal s1.qps fun _ v => { v with entries := v.entries.map fix } }

/-- The strike status read after a takeover: while it shows `Armed` it is read again, and else the next STRIKE takes
HELD_SEQ + 1 (R391). -/
def State.firstStatus (s : State) (e : Entry) (b : List Byte) : State :=
  if b.length ≠ 16 ∨ fieldAt b 0 1 % 4 = 1 then s
  else
    let s1 := s.modEp e.addr e.ep false fun x => { x with seq := fieldAt b 1 1 }
    { s1 with twn := { s1.twn with freshEndpoints := s1.twn.freshEndpoints.filter (· != epKey e.addr e.ep false) } }

/-- A GET_STRIKE_STATUS reply settles a strike (R127, Tables 5-3 and 5-7); none is no valid answer. A strike found `Armed`
before C has its DISARM repeated, and acts with CANCEL_LATE (FLAGS bit 2) if that cannot leave. One whose withdrawal never
left by C and that has not acted was not staged (R127, R132). -/
def State.settleStrike (s : State) (q : Nat) (idx : Half) (reply : Option (List Byte)) : State :=
  match (s.qp q).entry idx with
  | none => s
  | some e =>
    if e.kind = .strike ∧ e.strike = .unplaced ∧ s.twn.freshEndpoints.contains (epKey e.addr e.ep false) then
      s.firstStatus e (reply.getD [])
    else if e.kind ≠ .strike ∨ e.strike ≠ .readStatus ∨ e.phase ≠ .started then s
    else
      let b := reply.getD []
      let st := fieldAt b 0 1 % 4
      let valid := reply.isSome && b.length == 16
      let armedMine := st == 1 && fieldAt b 1 1 == e.seq
      let actedMine := st == 3 && fieldAt b 2 1 == e.seq
      let gone := match s.strikePlace e with | some p => !p.present | none => true
      let unknown := fun s : State => s.endStrike q idx (if gone then .deviceGone else .actUnknown)
      if e.wStatus = 0 then
        if !valid then unknown s
        else if actedMine then s.modEntry q idx fun e => e.strikeActed false
        else if armedMine then s.endStrike q idx .actUnknown
        else s.endStrike q idx .notStaged
      else if e.tAct.toNat ≤ s.now.toNat then
        if !valid then unknown s
        else if actedMine then s.cancelLate q idx e
        else if armedMine then s.endStrike q idx .actUnknown
        else if e.wSent then s.withdrawnOk q idx e
        else s.endStrike q idx .notStaged
      else
        if !valid then s.modEntry q idx fun e => { e with strike := .settling }
        else if actedMine then s.cancelLate q idx e
        else if armedMine then
          if s.now.toNat < e.commitAt.toNat then
            s.modEntry q idx fun e => { e with strike := .withdrawing, wSent := false, wAgain := false, flags := e.flags ||| 4 }
          else s.cancelLate q idx e
        else s.withdrawnOk q idx e

/-- STRIKE_STATUS_REPLY (R119). -/
def execStrikeStatusReply (q : Fin 4096) (idx : Half) (reply : Option (List Byte)) (s : State) :
    Host.Outcome State Fault Refusal :=
  let e := (s.qp q).entry idx
  let k := s.takeKreq fun k => e.any fun e => k.addr == e.addr && k.setup == setupBytes 0x80 0x32 0 e.ep 16
  done (k.1.settleStrike q idx (match k.2 with | some q => if q.ok then some q.data else none | none => reply))

/-! ### The strikes group (R131, R135) -/

/-- The tenant's strike queue pairs that a command names; none names a queue pair it may not (Table 10-4). -/
def State.strikeQps (s : State) (t n : Nat) : Except CmdStatus (List Nat) :=
  let isStrike := fun q => match s.boundContract q with | some c => c.strike | none => false
  if n = 0xFFFF then .ok ((s.qps.filter fun e => e.2.owner == some t && isStrike e.1).map (·.1))
  else if 4096 ≤ n then .error .badParam
  else if !s.ownsQp t n then .error .notOwner
  else if !isStrike n then .error .wrongState
  else .ok [n]

/-- STRIKE_WITHDRAW (R131): RESULT counts the strikes concerned. -/
def bodyStrikeWithdraw (t : Nat) (s : State) (p : List Byte) : CmdRes :=
  match s.strikeQps t (fieldAt p 0 2) with
  | .error e => .err s e
  | .ok qs =>
    let n := (qs.map fun q => ((s.qp q).entries.filter Entry.uncommitted).length).sum
    .ok (qs.foldl (fun s q => s.withdrawQp q Entry.uncommitted .retracted) s) (BitVec.ofNat 64 n)

/-- The row of StrikeWithdraw in Table 10-4. -/
def rowStrikeWithdraw : CmdInfo :=
  { op := 0x0701, named := [(0, 2)] }

/-- STRIKE_WITHDRAW (R131). -/
def execStrikeWithdraw (t : Fin 256) (k : CmdPkt) (s : State) : Host.Outcome State Fault Refusal :=
  done (runCmd rowStrikeWithdraw t k (bodyStrikeWithdraw t) s)

/-- STRIKE_RESUME: the holds end; waiting strikes are judged at the next attempt (R128, R135). -/
def bodyStrikeResume (t : Nat) (s : State) (p : List Byte) : CmdRes :=
  match s.strikeQps t (fieldAt p 0 2) with
  | .error e => .err s e
  | .ok qs =>
    let n := (qs.filter fun q => (s.qp q).held).length
    .ok (qs.foldl (fun s q => s.modQp q fun v => { v with held := false }) s) (BitVec.ofNat 64 n)

/-- The row of StrikeResume in Table 10-4. -/
def rowStrikeResume : CmdInfo :=
  { op := 0x0702, named := [(0, 2)] }

/-- STRIKE_RESUME (R135). -/
def execStrikeResume (t : Fin 256) (k : CmdPkt) (s : State) : Host.Outcome State Fault Refusal :=
  done (runCmd rowStrikeResume t k (bodyStrikeResume t) s)

end Sys2Proof.Machine
end

