-- ==== Sys2Proof/Machine/Writes.lean ====
section
/-!
DEFINITION. How register accesses are let through, and what a write leaves in a register word (00 R5 to R7, 01 R12, 19 R449
to R458).
-/
namespace Sys2Proof.Machine

/-- How an access to BAR0 of a function is answered (Table 19-9). -/
inductive Gate where
  /-- The layout decides. -/
  | serve
  /-- Unsupported Request. -/
  | unsupported
  /-- Reads 0, writes discarded. -/
  | nothing
  /-- As `nothing`, and DOMAIN_OFF is set (R12). -/
  | dark
  deriving DecidableEq, Repr

/-- The power domain that serves a decoded offset; none where no block is decoded (Tables 19-1 to 19-3). A doorbell of a
queue pair that the function does not own is answered by the host fabric (R451). -/
def State.serving (s : State) (fn off : Nat) : Option Nat :=
  if off < 0x1000 then
    if off = 0x128 ∨ off = 0x12C then some 4
    else if off = 0x210 ∨ off = 0x214 then some (6 + (s.qp (s.getF Fld.tenQpSelQp fn)).homeQuad)
    else some 3
  else if off < (if fn = 0 then 0x1400 else 0x1080) ∨ (0x1800 ≤ off ∧ off < 0x1808) then some 2
  else if off < 0x8000 then none
  else if off < 0x10000 then
    let q := (off - 0x8000) / 8
    some (if (s.qp q).owner = some fn then 6 + (s.qp q).homeQuad else 3)
  else if off < 0x11000 then
    match globalReg (off - 0x10000) with
    | some .gblGpioCfg | some .gblGpioOut | some .gblGpioIn | some .gblGpioEvt => some 0
    | _ => some 3
  else if off < 0x12000 then some 3
  else if off < 0x13000 then some 0
  else if off < 0x14000 then some 4
  else if off < 0x15000 then some 5
  else if off < 0x17000 then some 3
  else if off < 0x18000 then none
  else if off < 0x1C000 then some 3
  else if off < 0x20000 then none
  else if off < 0x30000 then some (6 + (off - 0x20000) / 0x4000)
  else if off < 0x31000 then some 10
  else none

/-- The first condition of Table 19-9 that applies to an access. An offset that names no register inside a block whose domain is
off answers like the rest of the block, and sets DOMAIN_OFF (log entry 119). -/
def State.gate (s : State) (fn off : Nat) (write : Bool) : Gate :=
  if !s.exists_ fn || Tab.getD s.pcie.d3 fn false then .unsupported
  else if s.inHold then
    if !write && (off / 4 == 0 || off / 4 == 2 || off / 4 == 3) then .serve else .dark
  else if s.stage < 3 then (if s.rst.keepLink then .nothing else .unsupported)
  else if s.flrBusy fn then .nothing
  else match s.serving fn off with
    | none => .nothing
    | some d => if s.domainOn d then .serve else .dark

/-- A write by the access codes of Table 0-5: what is stored, and whether a reserved encoding was kept out (R6, R7). Bits
that hardware sets in the same clock prevail over a clear. -/
def Reg.merge (r : Reg) (vf twin : Bool) (old v hw : Word) : Word × Bool :=
  let lacks := (if vf then r.vfReserved else 0) ||| (if twin then r.twinReserved else 0)
  let rw := r.maskOf (fun f => f.acc == .rw) &&& ~~~lacks
  let w1c := r.maskOf (fun f => f.acc == .w1c) &&& ~~~lacks
  let w1s := r.maskOf (fun f => f.acc == .w1s) &&& ~~~lacks
  let new := (old &&& ~~~(rw ||| (v &&& w1c))) ||| (v &&& (rw ||| w1s)) ||| (hw &&& old &&& w1c)
  let bad := r.reservedMask vf twin new
  ((new &&& ~~~bad) ||| (old &&& bad), bad != 0)

/-- The result of `Reg.merge` on a register of the state, and ENCODING where it is due (R7, R21). -/
def State.mergeReg (s : State) (fn off : Nat) (r : Reg) (i : Nat) (v hw : Word) : Word × State :=
  let m := r.merge (fn != 0) (r.perLane && decide (16 ≤ i)) (s.reg r i) v hw
  (m.1, if m.2 then s.busFault fn off 1 else s)

/-- An access that the layout does not reach: nothing happens, or DOMAIN_OFF is set (R12), or Unsupported Request is
returned. -/
def State.turnedAway (s : State) (g : Gate) (fn off : Nat) (write : Bool) : State :=
  match g with
  | .serve => s
  | .unsupported => s.emit (.unsupported fn off)
  | .nothing => if write then s else s.emit (.readData fn off 0)
  | .dark =>
    let s1 := s.busFault fn off 2
    if write then s1 else s1.emit (.readData fn off 0)

/-- Carry out a register write where the layout is reached. -/
def State.gated (s : State) (fn off : Nat) (f : State → State) : State :=
  match s.gate fn off true with
  | .serve => f s
  | g => s.turnedAway g fn off true

end Sys2Proof.Machine
end

