-- ==== Sys2Proof/Machine/Mrc.lean ====
section
/-!
DEFINITION. The Millrace's inputs and parameters: encoder, bus encoder and SYNC pins, reversals, lost sources, parameter
writes and the Millrace group of commands (03 R70 to R80).
-/
namespace Sys2Proof.Machine

/-! ### Sources (R70 to R72, R78, R79) -/

/-- The source is lost: SRC_LOST and SRC_FAULT are set, and the lock is lost (R75, R79). -/
def State.loseSource (s : State) : State :=
  if !s.samples then s
  else
    let s1 := { ((s.setF Fld.mrcStatusSrcLost 0 1).setF Fld.mrcStatusSrcFault 0 1).setF Fld.mrcStatusLocked 0 0 with
      mrc := { s.mrc with lockRun := 0 } }
    (s1.mrcStrikes s).raiseMillrace

/-- SYNC_IN as the source has given no edge within twice the time of the last revolution (R79); before two edges there is no such
time. -/
def State.syncSilent (s : State) : Bool :=
  decide (2 ≤ s.mrc.speed * (((s.now - s.mrc.lastTick).toNat : Int) : Rat))

/-- SOURCE_LOST (R79): an event of the source in use that no other command shows. With SYNC_IN it comes only once the edge is
overdue. -/
def execSourceLost (s : State) : Host.Outcome State Fault Refusal :=
  done (if s.par.source = 3 ∧ !s.syncSilent then s else s.loseSource)

/-- SOURCE_RECOVERED (R79): sampling resumes without a pair of samples; the tracking origin stays (R72). -/
def execSourceRecovered (s : State) : Host.Outcome State Fault Refusal :=
  done (if s.bit Fld.mrcStatusSrcLost 0 then
      { s.setF Fld.mrcStatusSrcLost 0 0 with
        mrc := { s.mrc with
          angle := none, prevAngle := none, silentBeats := 0, lastTick := 0, speed := 0, index := s.mrc.count
          furthest := s.mrc.count } }
    else s)

/-- The angle has moved 1/64 frame against the direction of travel from the furthest point reached (R78). -/
def State.reversed (s : State) : Bool :=
  let back := if s.bit Fld.mrcStatusDir 0 then s.mrc.count - s.mrc.furthest else s.mrc.furthest - s.mrc.count
  decide ((s.par.cprEff : Int) ≤ 64 * (max s.par.fpr 1 : Nat) * back)

/-- MILLRACE_REVERSAL (R78): once the angle has moved far enough against the direction of travel, DIR flips, REVERSED is set, and
every uncommitted angle strike is withdrawn (Table 5-6). -/
def execMillraceReversal (s : State) : Host.Outcome State Fault Refusal :=
  done (if !s.samples || !s.reversed then s
    else
      let s1 := (s.setF Fld.mrcStatusDir 0 (1 - s.getF Fld.mrcStatusDir 0)).setF Fld.mrcStatusReversed 0 1
      let s2 := { s1 with mrc := { s1.mrc with furthest := s1.mrc.count } }
      (s2.withdrawAll Entry.isAngle .retracted).raiseMillrace)

/-- The further of two counts in the direction of travel (R78). -/
def State.furtherOf (s : State) (a b : Int) : Int := if s.bit Fld.mrcStatusDir 0 then min a b else max a b

/-- A count or report takes the angle source to a count at a tick; the speed is that of the last two (R72). While the Millrace
does not sample, no furthest point is kept (R78). -/
def State.moveCount (s : State) (count : Int) (tick : DWord) : State :=
  let m := s.mrc
  let dt : Int := (tick - m.lastTick).toNat
  let speed : Rat := if m.lastTick = 0 ∨ dt = 0 then m.speed else ((count - m.count : Int) : Rat) / (dt : Rat)
  { s with mrc := { m with
    count := count, lastTick := tick, speed := speed
    furthest := if s.samples then s.furtherOf m.furthest count else count } }

/-- An index at a count: Z_SEEN is set (R70, R72). -/
def State.indexAt (s : State) (count : Int) : State :=
  { s.setF Fld.mrcStatusZSeen 0 1 with mrc := { s.mrc with index := count } }

/-- How a quadrature pair moves: the count, or none for an illegal transition (R70, R79). -/
def quadStep (old new : Bool × Bool) : Option Int :=
  let pos := fun x : Bool × Bool =>
    match x with
    | (false, false) => (0 : Nat)
    | (true, false) => 1
    | (true, true) => 2
    | (false, true) => 3
  match (pos new + 4 - pos old) % 4 with
  | 0 => some 0
  | 1 => some 1
  | 3 => some (-1)
  | _ => none

/-- The distance of a count from the nearest whole multiple of CPR. -/
def offMultiple (n : Int) (cpr : Nat) : Nat := min (n % (cpr : Int)).toNat (cpr - (n % (cpr : Int)).toNat)

/-- The encoder in use makes a transition, with or without its index pulse: the count, the index and the checks of R79. -/
def State.encoderStep (s : State) (step : Option Int) (z : Bool) : State :=
  match step with
  | none => s.loseSource
  | some d =>
    let p := s.par
    let n := s.mrc.count + (if p.dirInv then -d else d)
    let s1 := if d = 0 then s else s.moveCount n s.now
    let seen := s.bit Fld.mrcStatusZSeen 0
    if z then
      if p.zEn && seen && decide (4 < offMultiple (n - s.mrc.index) p.cprEff) then (s1.indexAt n).loseSource
      else s1.indexAt n
    else if p.zEn && decide (5 * p.cprEff < 4 * (n - s.mrc.index).natAbs) then s1.loseSource
    else s1

/-- ENCODER_TRANSITION (R72). -/
def execEncoderTransition (enc : Fin 2) (a b z : Bool) (s : State) : Host.Outcome State Fault Refusal :=
  let step := quadStep (Tab.getD s.mrc.levels enc.val (false, false)) (a, b)
  let s1 := { s with mrc := { s.mrc with levels := Tab.set s.mrc.levels enc.val (a, b) } }
  done (if s.par.source = enc.val then s1.encoderStep step z else s1)

/-- A report of the bus encoder (R71, Table 3-4); a shorter one, or one with a reserved field, is not valid. -/
def State.busReport (s : State) (b : List Byte) : State :=
  if s.par.source ≠ 2 ∨ b.length ≠ 16 ∨ fieldAt b 10 1 / 4 ≠ 0 ∨ fieldAt b 11 1 ≠ 0 then s
  else
    let n := (BitVec.ofNat 32 (fieldAt b 0 4)).toInt
    let low : BitVec 48 := BitVec.ofNat 48 (fieldAt b 4 6)
    let age := s.now.setWidth 48 - low
    let s1 := ({ s with mrc := { s.mrc with silentBeats := 0 } }).moveCount n (s.now - age.setWidth 64)
    let s2 := if s.mrc.originDue then
        { s1 with mrc := { s1.mrc with origin := n, index := n, furthest := n, originDue := false } }
      else s1
    let s3 := if bitsOf (fieldAt b 10 1) 0 1 = 1 then s2.indexAt (BitVec.ofNat 32 (fieldAt b 12 4)).toInt else s2
    if bitsOf (fieldAt b 10 1) 1 1 = 1 then s3.loseSource else s3

/-- A beat passes: after eight without a valid report the bus encoder is lost (R79). -/
def State.encoderBeat (s : State) : State :=
  if s.par.source ≠ 2 ∨ !s.samples then s
  else
    let n := s.mrc.silentBeats + 1
    let s1 := { s with mrc := { s.mrc with silentBeats := n } }
    if 8 < n then s1.loseSource else s1

/-! ### SYNC pins (R80, R448) -/

/-- SYNC_IN_EDGE (R80): an edge selected by IN_MODE is captured within ±2 ticks of its bus time, which is a free value, and
counted, unless another edge came less than 20 ns before; as the Millrace source a rising edge is an index. -/
def execSyncInEdge (rising : Bool) (s : State) : Host.Outcome State Fault Refusal :=
  let mode := s.getF Fld.gblSyncCtrlInMode 0
  let close := match s.pins.syncEdge with | none => false | some t => decide ((s.now - t).toNat < 10)
  let s0 := { s with pins := { s.pins with syncEdge := some s.now } }
  let wanted := !close && (if rising then mode == 1 || mode == 3 else mode == 2 || mode == 3)
  let cap := s.now + BitVec.ofNat 64 (s.freeValue.toNat % 5) - 2
  let s1 := if wanted then
      (s0.nextFree.setReg64 .gblSyncCapLo .gblSyncCapHi 0 cap).setReg .gblSyncCapCnt 0 (s.reg .gblSyncCapCnt 0 + 1)
    else s0
  done (if rising && s.par.source == 3 then
      (s1.moveCount (s.mrc.count + 1) s.now).indexAt (s.mrc.count + 1)
    else s1)

/-- OFFSET of GBL_SYNC_CTRL in ticks, signed (Table 3-10). -/
def State.syncShift (s : State) : Int := 64 * (BitVec.ofNat 8 (s.getF Fld.gblSyncCtrlOffset 0)).toInt

/-- The boundary whose SYNC_OUT pulse is next: the frame or beat start that has come, or with an OFFSET below 0 the one to come, if
OUT_MODE chooses it (Table 3-10). -/
def State.syncBoundary (s : State) : Option DWord :=
  let mode := s.getF Fld.gblSyncCtrlOutMode 0
  let early := decide (s.syncShift < 0)
  let frame := if early then s.time.frame + 1 else s.time.frame
  let start := if early then s.time.start + BitVec.ofNat 64 s.time.len else s.time.start
  match mode with
  | 0 => none
  | 2 => some (s.beatStartTick (if early then s.time.beat + 1 else s.time.beat))
  | 3 => if frame.toNat % 2 ^ s.getF Fld.gblSyncCtrlDiv 0 = 0 then some start else none
  | _ => some start

/-- SYNC_OUT_PULSE (R80): one high pulse of WIDTH × 8 ticks for the boundary that OUT_MODE chooses, shifted by OFFSET; a pulse whose
tick has passed, or whose boundary has had one, does not leave. Each edge falls within 2 ticks of its planned tick, a free value
(log entry 6). -/
def execSyncOutPulse (s : State) : Host.Outcome State Fault Refusal :=
  done (match s.syncBoundary with
    | none => s
    | some b =>
      let plan : DWord := BitVec.ofInt 64 ((b.toNat : Int) + s.syncShift)
      let width := 8 * s.getF Fld.gblSyncCtrlWidth 0
      if !s.time.running || s.pins.syncOut == some b || decide (plan.toNat + 2 < s.now.toNat) then s
      else
        let up := plan + BitVec.ofNat 64 (s.freeValue.toNat % 5) - 2
        let down := plan + BitVec.ofNat 64 width + BitVec.ofNat 64 (s.nextFree.freeValue.toNat % 5) - 2
        let s1 := (s.upTo plan).skipFree 2
        { s1 with pins := { s1.pins with syncOut := some b } }.emit (.pulse "SYNC_OUT" up (down - up).toNat))

/-! ### Parameters (R77) -/

/-- The checks of R77 on parameter words. -/
def State.mrcOk (s : State) (ws : List Word) : Bool :=
  let p := MrcPar.ofWords ws
  decide (250000 ≤ p.lenMin) && decide (p.lenMin ≤ p.lenMax) && decide (p.lenMax ≤ 1000000) &&
  decide (s.floorNow ≤ p.lenMax) &&
  (p.mode == 1 || p.mode == 2 || (decide (max p.lenMin s.floorNow ≤ p.fixed) && decide (p.fixed ≤ p.lenMax)))

/-- A write of Millrace parameters: refused with REFUSED, or accepted for L(n+3) and every later length; a change of
SOURCE, ANGLE_OFS or FPR clears LOCKED and Z_SEEN (R77), and one of MODE clears Z_SEEN (Table 3-14): at the write, not when the
parameters come into force (log entry 122). -/
def State.mrcWrite (s : State) (ws : List Word) : State × Bool :=
  if !s.mrcOk ws then ((s.setF Fld.mrcStatusRefused 0 1).raiseMillrace, false)
  else
    let a := MrcPar.ofWords s.mrcWords
    let b := MrcPar.ofWords ws
    let s1 := (mrcRegs.zip ws).foldl (fun s x => s.setReg x.1 0 x.2) s
    let s2 := { s1 with mrc := { s1.mrc with pend := s1.mrc.pend ++ [(s1.time.frame + 3, ws)] } }
    if a.source = b.source ∧ a.ofs = b.ofs ∧ a.fpr = b.fpr then
      (if a.mode = b.mode then s2 else s2.setF Fld.mrcStatusZSeen 0 0, true)
    else
      let s3 := { (s2.setF Fld.mrcStatusLocked 0 0).setF Fld.mrcStatusZSeen 0 0 with mrc := { s2.mrc with lockRun := 0 } }
      (s3.mrcStrikes s, true)

/-- Write one parameter register of the Millrace block (R77, R85). -/
def State.mrcRegWrite (s : State) (off : Nat) (r : Reg) (v : Word) : State :=
  let m := s.mergeReg 0 off r 0 v 0
  (m.2.mrcWrite (mrcRegs.map fun x => if x = r then m.1 else m.2.reg x 0)).1

/-- MILLRACE_PARAMETER_WRITE (R77). -/
def execMillraceParameterWrite (off : Nat) (v : Word) (s : State) : Host.Outcome State Fault Refusal :=
  done (match blockReg off with
    | some r => if mrcRegs.contains r then s.gated 0 off fun s => s.mrcRegWrite off r v else s
    | none => s)

/-- A word of MRC_SET holds no reserved bit and no reserved encoding (R7). -/
def Reg.cleanWord (r : Reg) (w : Word) : Bool := w &&& ~~~(r.maskOf fun _ => true) == 0 && r.reservedMask false false w == 0

/-- The parameter words that MRC_SET writes, with the others as they stand. -/
def State.mrcSelect (s : State) (p : List Byte) : List Word :=
  mrcRegs.zipIdx.map fun x =>
    if bitsOf (fieldAt p 0 2) x.2 1 = 1 then BitVec.ofNat 32 (fieldAt p (4 + 4 * x.2) 4) else s.reg x.1 0

/-- The end of a Millrace command: a write that R77 refuses is answered with BAD_PARAM (log entry 36). -/
def State.mrcAnswer (s : State) (ws : List Word) : CmdRes :=
  match s.mrcWrite ws with
  | (s1, true) => .ok { s1 with cfg := { s1.cfg with shadow := { s1.cfg.shadow with mrc := ws } } }
      ((s.time.frame + 3).setWidth 64)
  | (s1, false) => .err s1 .badParam

/-- MRC_SET (R77). -/
def bodyMrcSet (s : State) (p : List Byte) : CmdRes :=
  let ws := s.mrcSelect p
  if 128 ≤ fieldAt p 0 2 || !((mrcRegs.zip ws).all fun x => x.1.cleanWord x.2) then .err s .badParam
  else s.mrcAnswer ws

/-- The row of MrcSet in Table 10-4. -/
def rowMrcSet : CmdInfo :=
  { op := 0x0801, mrc := true, named := [(0, 2), (4, 28)] }

/-- MRC_SET (R77). -/
def execMrcSet (t : Fin 256) (k : CmdPkt) (s : State) : Host.Outcome State Fault Refusal :=
  done (runCmd rowMrcSet t k bodyMrcSet s)

/-- MRC_MODE (R76). -/
def bodyMrcMode (s : State) (p : List Byte) : CmdRes :=
  let m := fieldAt p 0 1
  if 3 < m then .err s .badParam
  else s.mrcAnswer (putBits (s.reg .mrcCtrl 0) 0 2 m :: (s.mrcWords.drop 1))

/-- The row of MrcMode in Table 10-4. -/
def rowMrcMode : CmdInfo :=
  { op := 0x0802, mrc := true, named := [(0, 1)] }

/-- MRC_MODE (R76). -/
def execMrcMode (t : Fin 256) (k : CmdPkt) (s : State) : Host.Outcome State Fault Refusal :=
  done (runCmd rowMrcMode t k bodyMrcMode s)

/-- MRC_QUERY: MRC_CTRL to MRC_PHASE, clearing no field (R452). -/
def bodyMrcQuery (s : State) (_ : List Byte) : CmdRes :=
  .block s (([.mrcCtrl, .mrcLenMin, .mrcLenMax, .mrcLenFixed, .mrcAngleOfs, .mrcEncCfg, .mrcStatus, .mrcPhase] :
    List Reg).flatMap fun r => leBytes 4 (s.reg r 0).toNat)

/-- The row of MrcQuery in Table 10-4. -/
def rowMrcQuery : CmdInfo :=
  { op := 0x0803, jrn := false, outLen := some (fun _ => 32), standby := true }

/-- MRC_QUERY (R452). -/
def execMrcQuery (t : Fin 256) (k : CmdPkt) (s : State) : Host.Outcome State Fault Refusal :=
  done (runCmd rowMrcQuery t k bodyMrcQuery s)

end Sys2Proof.Machine
end

