-- ==== Sys2Proof/Machine/Device.lean ====
section
/-!
DEFINITION. Devices in their places: the tree's events, what becomes of a device that goes, of one whose port is reset and
of one whose port is disabled, and the halts of endpoints (08 R194 to R228, 02 R41, R46, R55 to R57, 05 R139).
-/
namespace Sys2Proof.Machine

/-! ### Places -/

/-- A place with nothing known. -/
def Place.blank (r : DWord) : Place :=
  { route := r, addr := 0, present := false, connected := false, enabled := false, cause := 0, owner := 0, speed := 0
    version := 0, cls := 0, serial := 0, desc := [], hub := none, delay := 0, resetCount := 0, babbles := [], flaps := []
    step := .none, keptByReset := false, autonomous := false, forced := none, disabling := false, doze := false
    linkDelay := 0, before := [], resetAsked := false, reads := [], dozeExit := false, dozeAsked := false, idleFrames := 0
    delayNext := 0, remeasureDue := false, wasAddr := 0, pollAt := 0 }

/-- The place that an expected-topology entry declares (R204, R206). -/
def Place.ofTopo (e : TopoEntry) : Place :=
  { Place.blank e.route with addr := e.addr, owner := e.owner, speed := e.speed, version := e.verMin, cls := e.cls }

/-- The place at a route, as it stands or as the expected topology declares it. -/
def State.placeAt (s : State) (r : DWord) : Place :=
  match s.place r with
  | some p => p
  | none => match s.topoAt r with
    | some e => Place.ofTopo e
    | none => Place.blank r

/-- Change a place, taking it up if it is new. -/
def State.alter (s : State) (r : DWord) (f : Place → Place) : State := s.setPlace (f (s.placeAt r))

/-- AUTO_RESEAT of an entry (Table 8-6). -/
def TopoEntry.autoReseat (e : TopoEntry) : Bool := bitsOf e.flags 0 1 == 1

/-- AUTO_RESUME of an entry (Table 8-6). -/
def TopoEntry.autoResume (e : TopoEntry) : Bool := bitsOf e.flags 1 1 == 1

/-- The device of a place answers at its address and may be served: it is present, and no bring-up after a reset runs. -/
def Place.served (p : Place) : Bool :=
  p.present && !p.keptByReset && !p.doze &&
  (match p.step with | .none => true | .probe _ _ _ => true | .setDelay _ => true | _ => false)

/-- A device of the place answers at address 0 (R197). -/
def Place.atZero (p : Place) : Bool :=
  p.connected && p.enabled && (!p.present || p.keptByReset) &&
  (match p.step with
    | .queued | .desc8 _ | .desc32 _ | .hubDesc _ | .setAddr _ | .waiting => true
    | _ => false)

/-- The keeper is bringing up the device of the place (R208). -/
def Place.bringing (p : Place) : Bool :=
  (!p.present || p.keptByReset) && (match p.step with | .none | .queued | .waiting => false | _ => true)

/-- The device waits at address 0 (R209). -/
def Place.isWaiting (p : Place) : Bool := match p.step with | .waiting => true | _ => false

/-- The device of the place has taken the address that it was assigned (R196, R208). -/
def Place.addressed (p : Place) : Bool :=
  (p.present && !p.keptByReset) ||
  ((p.present || p.bringing) && (match p.step with | .feature _ | .probe _ _ _ | .setDelay _ => true | _ => false))

/-- Another device below the same root attachment is at address 0 (R197). -/
def State.zeroTaken (s : State) (r : DWord) : Bool :=
  s.places.any fun p => p.2.route != r && routeLink p.2.route == routeLink r && (p.2.atZero || p.2.bringing)

/-- A device stands in the place, at its address or in bring-up. -/
def Place.stood (p : Place) : Bool := p.present || p.isWaiting || p.bringing

/-- The place is one of the tree: it is expected, occupied, or disabled. -/
def State.known (s : State) (p : Place) : Bool := (s.topoAt p.route).isSome || p.connected || p.present || p.cause != 0

/-- All places. -/
def State.allPlaces (s : State) : List Place := s.places.map (·.2)

/-- H_STATE of a root port (Table 9-8). -/
def State.hState (s : State) (p : Nat) : Nat := s.getF Fld.prtLaneStatusHState p

/-- P_STATE of a root port (Table 9-8). -/
def State.pState (s : State) (p : Nat) : Nat := s.getF Fld.prtLaneStatusPState p

/-- A link is in the active state and not parked (R63, R341). -/
def State.linkUp (s : State) (l : Nat) : Bool :=
  if l % 2 = 0 then s.hState (l / 2) == 3 && !(s.link l).parked else s.pState (l / 2) == 3

/-- The root links that are active, in order. -/
def State.activeLinks (s : State) : List Nat := (List.range 32).filter s.linkUp

/-- The link carries format E (R25). -/
def State.fmtE (s : State) (l : Nat) : Bool := decide (0x30 ≤ (s.link l).ver)

/-! ### Tree events (R228, Table 8-15) -/

/-- A tree event record for one tenant (Table 10-3). -/
def State.treeEvent (s : State) (t code : Nat) (r : DWord) (data1 : Nat) (serial : DWord) : State :=
  s.event1 t 1 code r.toNat data1 serial.toNat

/-- A tree event for the owner and for T0. -/
def State.treeBoth (s : State) (owner code : Nat) (r : DWord) (data1 : Nat) (serial : DWord) : State :=
  let s1 := if owner = 0 then s else s.treeEvent owner code r data1 serial
  s1.treeEvent 0 code r data1 serial

/-- CONNECTED for T0, followed by the continuation record that holds the descriptor. -/
def State.connectedEvent (s : State) (p : Place) : State :=
  let a := ((s.topoAt p.route).map (·.addr)).getD 0
  s.event 0 [eventRecord 0 1 1 1 p.route.toNat a 0, padTo 32 p.desc]

/-! ### Halts of endpoints (R41, R46, R159) -/

/-- The entry in progress at an endpoint direction. -/
def State.runner (s : State) (addr ep : Nat) (dirIn : Bool) : Option (Nat × Half) :=
  let picks := s.qps.flatMap fun v => (v.2.entries.filter fun e =>
    e.addr == addr && e.ep == ep && (e.dirIn == dirIn || e.kind = .control) && e.phase = .started).map fun e => (v.1, e.idx)
  picks.head?

/-- End an entry with a status that leaves its IN data to be proved. -/
def State.endEntry (s : State) (q : Nat) (idx : Half) (st : XStatus) : State :=
  s.modEntry q idx fun e =>
    if e.phase = .finished ∨ e.phase = .flushing then e
    else if e.kind = .strike then e.strikeEnd st s.now s.time.frame
    else Entry.finish { e with data := if e.dirIn then e.data else [], begun := true } st s.now s.time.frame

/-- Drop the transactions of an endpoint direction. -/
def State.dropTxns (s : State) (pick : Txn → Bool) : State := { s with txns := s.txns.filter fun x => !pick x }

/-- An endpoint direction halts: 1 STALL, 2 transaction errors; the transfer completes and its queue pair halts (R41,
R46). -/
def State.epHalt (s : State) (addr ep : Nat) (dirIn : Bool) (work : Option (Nat × Half)) (qp : Option Nat) (cause : Nat) :
    State :=
  let s1 := s.modEp addr ep dirIn fun e => { e with halted := true, errs := 0, checking := false }
  let st := if cause = 1 then XStatus.stalled else .transactionError
  let s2 := match work with
    | some w => (s1.dropPlacement w.1 w.2).endEntry w.1 w.2 st
    | none => s1
  match (work.map (·.1)).or qp with
  | some q => s2.qpHalt q cause (epKey addr ep dirIn)
  | none => s2

/-- The queue pair of a standing contract at an endpoint direction. -/
def State.contractQp (s : State) (addr ep : Nat) (dirIn : Bool) : Option Nat :=
  (s.alm.contracts.find? fun c => c.addr == addr && c.ep == ep && c.dirIn == dirIn).map (·.qp)

/-- Return halted queue pairs to Running (R159). -/
def State.resumeQps (s : State) (pick : Qp → Bool) : State :=
  { s with qps := Tab.mapVal s.qps fun _ v =>
      if v.state = .halted && !v.aborting && pick v then { v with state := .running, haltCause := 0 } else v }

/-- The queue pairs that `resumeQps` returns. -/
def State.resumable (s : State) (pick : Qp → Bool) : List Nat :=
  (s.qps.filter fun v => v.2.state = .halted && !v.2.aborting && pick v.2).map (·.1)

/-- Halted by a port reset of the device at an address (R57). -/
def Qp.resetHalt (addr : Nat) (v : Qp) : Bool := v.haltCause == 3 && v.haltAddr == epKey addr 0 false

/-! ### A device that goes (R214) -/

/-- An entry of a device that has gone ends: in progress, with what was moved; else with COUNT 0 (R214 steps 2 and 3). Where
the port reset that ended it is still in progress, the disconnect prevails (R227). -/
def Entry.goneEnd (e : Entry) (resetting : Bool) (tick : DWord) (frame : Word) : Entry :=
  if e.phase = .finished ∨ e.phase = .flushing then
    if resetting && e.status == XStatus.portReset.code then { e with status := XStatus.deviceGone.code } else e
  else if e.kind = .strike then e.strikeEnd .deviceGone tick frame
  else if e.phase = .started then
    Entry.finish { e with data := if e.dirIn then e.data else [] } .deviceGone tick frame
  else Entry.finish { e with count := 0, data := [] } .deviceGone tick frame

/-- An entry names the device that stands in a place. -/
def Place.named (p : Place) (e : Entry) : Bool :=
  if e.addr = 0 then e.kind = .control && e.route == p.route && (!p.present || p.keptByReset) else p.present && e.addr == p.addr

/-- A transaction is one of the device that stands in a place. -/
def Place.ownTxn (p : Place) (x : Txn) : Bool :=
  (x.addr == p.addr && x.addr != 0 && p.present) ||
  (x.addr == 0 && x.link == routeLink p.route && p.atZero) || decide (x.work = .keeper p.route)

/-- Take the strikes of a device out of the frames. -/
def State.dropSlots (s : State) (addr : Nat) : State :=
  let mine := fun w : Nat × Half => match (s.qp w.1).entry w.2 with
    | some e => e.addr == addr
    | none => false
  let clear := fun x : FSlot => match x.strike with
    | some w => if mine w then { x with strike := none } else x
    | none => x
  { s with frames := s.frames.map fun f => { f with slots := f.slots.map clear } }

/-- Queue pairs whose posted entries may name the device, with how far they are posted (R216; log entry 31). -/
def State.postedBefore (s : State) (p : Place) : List (Nat × Half) :=
  (s.qps.filter fun v => v.2.state ≠ .disabled && (v.2.owner == some p.owner) &&
    (v.2.sqCons != v.2.sqProd || v.2.entries.any p.named)).map fun v => (v.1, v.2.sqProd)

/-- Close every contract that a test names, with one switch (R111). -/
def State.closeContracts (s : State) (pick : Contract → Bool) : State :=
  let all := s.latestContracts
  let keep := all.filter fun c => !pick c
  if keep.length = all.length then s
  else s.acceptChange keep (match s.admission keep s.floorLimit with | .ok f => f | .error _ => s.floorNow)

/-- The root attachment of a route. -/
def attachmentOf (r : DWord) : DWord := BitVec.ofNat 64 (r.toNat % 32)

/-- The keeper's transfers to or for a place are given up. -/
def State.dropKeeper (s : State) (r : DWord) : State :=
  { s with keeper := s.keeper.filter fun k => k.route != r && k.asker != r }

/-- One device has gone (R214); `resetting` tells that a reset of its root attachment is in progress (R227). -/
def State.goneOne (s0 : State) (r : DWord) (resetting : Bool) : State :=
  let s := s0.dropKeeper r
  let p := s.placeAt r
  let addr := if p.present then p.addr else 0
  let before := s.postedBefore p
  let fin := fun e : Entry => if p.named e then e.goneEnd resetting s.now s.time.frame else e
  let s1 := (s.dropSlots (if p.present then p.addr else 4096)).dropTxns p.ownTxn
  let s2 := { s1 with qps := Tab.mapVal s1.qps fun _ v => { v with entries := v.entries.map fin } }
  let s3 := s2.modDevEps (if addr = 0 then 4096 + routeLink r else addr) fun e =>
    { e with errs := 0, checking := false, waiting := false, waitBeat := false, halted := false }
  let s4 := if p.stood then s3.addF Fld.prtHpCountDisconnects (routePort r) 1 else s3
  let off := fun p : Place => { p with
    present := false, connected := false, enabled := false, serial := 0, step := .none, keptByReset := false
    autonomous := false, forced := none, disabling := false, doze := false, before := before, resetAsked := false
    reads := [], dozeExit := false, dozeAsked := false, remeasureDue := false, wasAddr := addr }
  let s5 := match s4.topoAt r with
    | some e => s4.alter r fun p => { off p with speed := e.speed, version := e.verMin, cls := e.cls, addr := e.addr }
    | none =>
      let s5 := if addr = 0 then s4 else (s4.closeContracts fun c => c.addr == addr).closeEps fun e => e.addr == addr
      s5.alter r fun p => { off p with addr := 0, owner := 0, cls := 0, version := 0, speed := 0, desc := [], hub := none }
  if p.stood then s5.treeBoth p.owner 2 r addr 0 else s5

/-- The places strictly below a hub, in route order. -/
def State.below (s : State) (r : DWord) : List DWord := (s.allPlaces.filter fun p => isBelow p.route r).map (·.route)

/-- A device has gone, and with a hub every device below it (R214). -/
def State.gone (s : State) (r : DWord) : State :=
  let resetting := (s.placeAt (attachmentOf r)).resetAsked
  (s.below r).foldl (fun s r => s.goneOne r resetting) (s.goneOne r resetting)

/-- The link of a lane: of a root port's H lane, or of a twin lane. -/
def laneLink (lane : Nat) : Nat := if lane < 16 then 2 * lane else 16 + lane

/-- A margin scan that meets a loss, a retrain or a port reset ends (R247, Table 9-5). -/
def State.abortScan (s : State) (lane : Nat) : State :=
  if s.bit Fld.prtMarginStatBusy lane then
    (((s.setF Fld.prtMarginStatBusy lane 0).setF Fld.prtMarginStatAborted lane 1).setF Fld.prtMarginStatDone lane 1).modLink
      (laneLink lane) fun k => { k with scanFar := false }
  else s

/-- A side of a root port is in test mode (R249). -/
def State.inTest (s : State) (l : Nat) : Bool := if l % 2 = 0 then s.hState (l / 2) == 6 else s.pState (l / 2) == 6

/-- A root link stops: it is no longer active, and what was agreed on it is forgotten (R58, R212). A side in test mode stays
there. -/
def State.linkDown (s : State) (l : Nat) : State :=
  let p := l / 2
  let s1 := if s.inTest l then s else if l % 2 = 0 then
      (((((s.abortScan p).setF Fld.prtLaneStatusHState p 0).setF Fld.prtLaneStatusHTxDrowse p 0).setF Fld.prtLaneStatusHRxDrowse p
        0).setF Fld.prtLaneStatusHBitLock p 0).setF Fld.prtLaneStatusHSymLock p 0
    else (s.setF Fld.prtLaneStatusPState p 0).setF Fld.prtLaneStatusPSpeed p 0
  (s1.modLink l fun k => { k with
    ver := 0, marked := false, lock := 0, ts2 := 0, quick := false, dirDrowse := false, arriving := false
    sofHeld := false, slotHeld := [], resume := false, resumeEnded := false, wakes := [], resetWaits := false
    attempts := 0, parked := false, wakeReq := none }).dropTxns fun x => x.link == l

/-! ### Disabling a port (R225, R226) -/

/-- A port has been disabled with a cause: its device and everything below are gone, and DISABLED is raised. -/
def State.portOff (s : State) (r : DWord) (cause : Nat) : State :=
  let p := s.placeAt r
  let s1 := (s.gone r).alter r fun q => { q with cause := cause, enabled := false, connected := p.connected, step := .none }
  (s1.addF Fld.prtHpCountDisables (routePort r) 1).treeBoth p.owner 5 r (cause * 4096) 0

/-- Disable the port of a place: the side of a root attachment at once, a port of a hub by a request of the keeper, which
a port with no device needs no more (R225). -/
def State.disablePort (s : State) (r : DWord) (cause : Nat) : State :=
  match parentOf r with
  | none => (s.portOff r cause).linkDown (routeLink r)
  | some h =>
    if (s.placeAt h).served && (s.placeAt r).connected then s.alter r fun p => { p with disabling := true, cause := cause }
    else s.portOff r cause

/-- A disconnect of the port of a place has been learnt (R213, R214, R218). -/
def State.learnGone (s : State) (r : DWord) : State :=
  let recent := (s.placeAt r).flaps.filter fun t => decide (s.now.toNat - t.toNat < 30000000000)
  let flaps := recent ++ [s.now]
  let limit := s.getF Fld.gblHpCtrlFlapLimit 0
  let off := limit != 0 && decide (limit ≤ flaps.length)
  let s1 := (s.gone r).alter r fun p => { p with flaps := if off then [] else flaps }
  let s2 := if (parentOf r).isNone then s1.linkDown (routeLink r) else s1
  if off then s2.portOff r 3 else s2

/-- A device babbled: its place counts it, and at BABBLE_LIMIT within 1,024 frames its port is disabled (R225). -/
def State.babble (s : State) (r : DWord) : State :=
  let recent := (s.placeAt r).babbles.filter fun f => decide ((s.time.frame - f).toNat < 1024)
  let all := recent ++ [s.time.frame]
  if decide (s.getF Fld.gblHpCtrlBabbleLimit 0 ≤ all.length) then
    (s.alter r fun p => { p with babbles := [] }).disablePort r 1
  else s.alter r fun p => { p with babbles := all }

/-! ### A device whose port was reset (R55 to R57, R139) -/

/-- The port of the root attachment above a place is being reset (R227). -/
def State.rootResets (s : State) (r : DWord) : Bool := (s.placeAt (attachmentOf r)).resetAsked

/-- An entry of a device whose port was reset: what is in progress ends, what has not started stays queued. -/
def Entry.resetEnd (e : Entry) (tick : DWord) (frame : Word) : Entry :=
  if e.phase ≠ .started then
    if e.kind = .strike ∧ e.strike = .placed then { e with strike := .unplaced, begun := false } else e
  else if e.kind = .strike then
    e.strikeEnd (if tick.toNat < e.tAct.toNat then .portReset else .actUnknown) tick frame
  else Entry.finish { e with data := if e.dirIn then e.data else [] } .portReset tick frame

/-- A queue pair is bound to the device at an address: its contract or an entry names it (R57). -/
def State.boundTo (s : State) (addr q : Nat) (v : Qp) : Bool :=
  (match s.boundContract q with | some c => c.addr == addr | none => false) ||
  v.entries.any fun e => e.addr == addr && e.phase ≠ .finished

/-- The port of one device was reset: `self` tells its own port from those below a reset hub. A device that has no address of
its own has its transfers end, with no queue pair to be acknowledged, and its bring-up starts again (R55, R57, R197; log entry
131). -/
def State.resetOne (s0 : State) (r : DWord) (self : Bool) : State :=
  let s := s0.dropKeeper r
  let p := s.placeAt r
  let mine := fun e : Entry => p.named e || (p.present && e.addr == p.addr)
  let fin := fun e : Entry => if mine e then e.resetEnd s.now s.time.frame else e
  let s1 := (if p.present then s.dropSlots p.addr else s).dropTxns p.ownTxn
  let s2 := { s1 with qps := Tab.mapVal s1.qps fun _ v => { v with entries := v.entries.map fin } }
  if !p.present then
    if self then (if p.stood then s2.alter r fun p => { p with step := .queued, forced := none } else s)
    else s2.alter r fun p => { p with step := .none, enabled := false, connected := false, forced := none }
  else
    let qs := (s.qps.filter fun v => s.boundTo p.addr v.1 v.2).map (·.1)
    let s3 := qs.foldl (fun s q => s.qpHalt q 3 (epKey p.addr 0 false)) s2
    let s4 := s3.modDevEps p.addr fun e =>
      { e with toggle := false, errs := 0, checking := false, waiting := false, waitBeat := false }
    let s5 := s4.alter r fun p => { p with
      step := .queued, keptByReset := true, enabled := self, forced := none, reads := [], doze := false, dozeExit := false
      dozeAsked := false, remeasureDue := false, resetAsked := false }
    s5.treeEvent p.owner 6 r p.addr 0

/-- A port reset has been learnt: it reaches the device and, of a hub, every device below (R55, R57). -/
def State.learnReset (s : State) (r : DWord) : State :=
  (s.below r).foldl (fun s r => s.resetOne r false) (s.resetOne r true)

/-- A port reset of a root attachment begins on command: it is in progress until the link is active again (R55, R227). -/
def State.beginReset (s : State) (r : DWord) : State := (s.learnReset r).alter r fun p => { p with resetAsked := true }

/-- Start port-reset signalling on a root attachment (R233, R236), which a side in test mode does not carry: 64 RESET sets and
then TS1 on the H lane, SE0 on the pair. The bring-up that begins takes the cap of the moment; an H lane whose cap is below 3.0
stays down, with what stood on it gone (R59). -/
def State.resetRoot (s : State) (r : DWord) : State :=
  let l := routeLink r
  let p := l / 2
  if s.inTest l then s
  else
  let s1 := s.modLink l fun k => { k with
    lock := 0, ts2 := 0, marked := false, attempts := 0, resetWaits := false, resume := false, resumeEnded := false
    wakes := [], sofHeld := false, slotHeld := [], arriving := false, parked := false, cap := s.protoCap p, wakeReq := none }
  let s2 := s1.dropTxns fun x => x.link == l
  if l % 2 = 0 then
    let s3 := s2.emit (.ordered p "RESET" 64 [])
    if s.protoCap p < 0x30 then ((s3.gone r).linkDown l).alter r fun q => { q with connected := true }
    else
      (((((s3.abortScan p).setF Fld.prtLaneStatusHState p 5).setF Fld.prtLaneStatusHBitLock p 0).setF Fld.prtLaneStatusHSymLock p
        0).setF Fld.prtLaneStatusHTxDrowse p 0).setF Fld.prtLaneStatusHRxDrowse p 0 |>.emit (.ordered p "TS1" 0 [0])
  else (s2.setF Fld.prtLaneStatusPState p 1).emit (.signal l "SE0")

end Sys2Proof.Machine
end

