-- ==== Sys2Proof/Machine/Tree.lean ====
section
/-!
DEFINITION. The keeper's work in the tree: bringing devices up, hub reports, port status, path delays, and the time limits
of waiting and disabling (08 R202, R205 to R217, R225, 03 R66, 02 R56).
-/
namespace Sys2Proof.Machine

/-! ### Bringing a device up (R207 to R211, Table 8-8) -/

/-- A hub descriptor (Table 8-4). -/
def HubInfo.parse (b : List Byte) : HubInfo where
  nports := fieldAt b 2 1
  tt := bitsOf (fieldAt b 3 1) 0 1 == 1
  dual := bitsOf (fieldAt b 3 1) 1 1 == 1
  ttBuffers := fieldAt b 4 1
  statusEp := fieldAt b 5 1
  repeatDelay := fieldAt b 6 2
  asym := (BitVec.ofNat 16 (fieldAt b 8 2)).toInt

/-- The conditions of Table 8-7 that a device fails, as the mask of Table 8-15. -/
def TopoEntry.mismatch (e : TopoEntry) (p : Place) : Nat :=
  (if e.policy = 0 ∧ p.serial ≠ e.serial then 1 else 0) + (if e.policy ≤ 1 ∧ p.cls ≠ e.cls then 2 else 0) +
  (if e.verMin ≤ p.version ∧ p.version ≤ e.verMax then 0 else 4) + (if p.speed = e.speed then 0 else 8)

/-- Entries posted before the last device of the place went may still be open (R216; log entry 31). -/
def State.oldEntries (s : State) (p : Place) : Bool :=
  p.before.any fun b =>
    let v := s.qp b.1
    let older := fun i : Half => v.postedBy b.2 i
    v.state ≠ .disabled && (v.entries.any (fun e => p.namedLast e && older e.idx) ||
      (older v.sqCons && (v.state = .running || v.state = .draining ||
        (match s.boundContract b.1 with | some c => c.addr == p.wasAddr | none => false))))

/-- The places below a root attachment, itself among them. -/
def State.attachment (s : State) (l : Nat) : List Place := s.allPlaces.filter fun p => routeLink p.route == l

/-- The place that the keeper takes next below a root attachment (R197, R207, R209, R216). -/
def State.nextBringUp (s : State) (l : Nat) : Option DWord :=
  let ps := s.attachment l
  if ps.any fun p => p.bringing || p.isWaiting then none
  else
    let ok := ps.filter fun p =>
      decide (p.step = .queued) && p.cause == 0 && p.connected && !p.resetAsked && !p.disabling &&
      (p.keptByReset || !s.oldEntries p) &&
      (match parentOf p.route with | none => s.linkUp l | some h => (s.placeAt h).served)
    (ok.foldl (fun (m : Option DWord) p => match m with
      | none => some p.route
      | some r => if p.route.toNat < r.toNat then some p.route else some r) none)

/-- The bus is up and no entry to a lower power state has begun (R227, R377). -/
def State.busRuns (s : State) : Bool :=
  decide (4 ≤ s.stage) && !s.inHold && s.getF Fld.pwrStateEntryStep 0 == 0 && s.role != 3 && s.role != 1

/-- The keeper takes the next waiting place and begins Table 8-8: with step 1 at a hub port that has not been reset, else
with step 2 (R208). -/
def State.bringUpStart (s : State) (l : Nat) : State :=
  if !s.busRuns then s
  else match s.nextBringUp l with
    | none => s
    | some r => s.alter r fun p =>
      match parentOf r with
      | none =>
        let p := { p with step := .desc8 0, version := (s.link l).ver }
        if l % 2 = 0 then { p with speed := 3 } else { p with speed := s.getF Fld.prtLaneStatusPSpeed (l / 2) }
      | some _ => if p.keptByReset && p.enabled then { p with step := .desc8 0 } else { p with step := .reset 0 }

/-- DEVICE_BRINGUP_START (R207). -/
def execDeviceBringupStart (p : Fin 16) (sd : Side) (s : State) : Host.Outcome State Fault Refusal :=
  done (s.bringUpStart (linkOf p sd))

/-- The path delay that format S paths report, in 1/8 tick (R69). -/
def State.repeatDelay (s : State) (p : Place) : Nat :=
  (((s.pathPlaces p.route).filter fun h => h.route != p.route && decide (h.version < 0x30)).map fun h =>
    ((h.hub.map (·.repeatDelay)).getD 0) * 4).sum

/-- The summed asymmetry A of the hub repeaters on a path (R66). -/
def State.asymmetry (s : State) (p : Place) : Int :=
  (((s.pathPlaces p.route).filter fun h => h.route != p.route && decide (0x30 ≤ h.version)).map fun h =>
    (h.hub.map (·.asym)).getD 0).sum

/-- D from eight round-trip times, in 1/8 tick (R66). -/
def pathDelay (rtts : List Nat) (rdev : Nat) (a : Int) : Nat :=
  let r := orderBy (fun a b => decide (a < b)) rtts
  min 65535 (((r.getD 3 0 : Int) + (r.getD 4 0 : Int) - 2 * (rdev : Int) + 2 * a + 2) / 4).toNat

/-- A member enumerates a single-homed place whose entry does not say so (R394). -/
def State.undeclared (s : State) (r : DWord) : State :=
  let root := s.placeAt (BitVec.ofNat 64 (r.toNat % 32))
  match s.topoAt r with
  | none => s
  | some e =>
    if s.getF Fld.twnStatusStrap 0 != 0 && bitsOf e.flags 2 1 == 0 && !((root.hub.map (·.dual)).getD false) then
      s.twinEvent 7 r.toNat e.addr
    else s

/-- Steps 7 and 8 of Table 8-8: the device stands at its address, its endpoints are open with DATA0, a hub's ports are to
be read, and the event of the case is raised (R57, R206, R217). -/
def State.bringUpDone (s : State) (r : DWord) : State :=
  let p := s.placeAt r
  let entry := s.topoAt r
  let ports := match p.hub with | some h => (List.range h.nports).map (· + 1) | none => []
  let s1 := s.alter r fun p => { p with
    present := true, step := if p.remeasureDue then .probe 0 0 [] else .none, remeasureDue := false, keptByReset := false
    autonomous := false, forced := none, cause := 0, reads := ports, before := [], pollAt := s.time.frame, idleFrames := 0 }
  let s2 := s1.modDevEps p.addr fun e =>
    { e with toggle := false, errs := 0, checking := false, waiting := false, waitBeat := false }
  let s3 := if p.keptByReset && (entry.map TopoEntry.autoResume).getD false then (s2.resumeQps (Qp.resetHalt p.addr)).deliverAll else s2
  let reseated := fun s : State => s.treeBoth p.owner 3 r p.addr p.serial
  let s3 := s3.undeclared r
  if p.forced.isSome then if entry.isSome then reseated s3 else s3
  else if p.keptByReset || p.autonomous || entry.isNone then s3
  else reseated (s3.addF Fld.prtHpCountReseats (routePort r) 1)

/-- Step 6 of Table 8-8: the path delay of a device on a link that carries format E (R66, R69). -/
def State.bringUpDelay (s : State) (r : DWord) : State :=
  let p := s.placeAt r
  if 0x30 ≤ p.version then
    if (s.translator p).isSome then s.alter r fun p => { p with step := .setDelay 0, delayNext := p.linkDelay }
    else s.alter r fun p => { p with step := .probe 0 0 [] }
  else (s.alter r fun p => { p with delay := s.repeatDelay p }).bringUpDone r

/-- The device waits at address 0 (R209): CONNECTED, and MISMATCH with the failed conditions. -/
def State.waitAtZero (s : State) (r : DWord) (mask : Nat) : State :=
  let s1 := s.alter r fun p => { p with step := .waiting }
  let s2 := s1.connectedEvent (s1.placeAt r)
  match s.topoAt r with
  | none => s2
  | some e => if mask = 0 then s2 else s2.treeBoth e.owner 4 r (mask * 65536) 0

/-- Another place behind another root attachment holds the same hub, at its address, in bring-up or waiting (R211). -/
def State.sameHub (s : State) (p : Place) : Option Place :=
  if !isHubClass p.cls || p.serial == 0 then none
  else s.allPlaces.find? fun h => h.stood && isHubClass h.cls && h.serial == p.serial && routeLink h.route != routeLink p.route

/-- A device that stands elsewhere still holds an address (R196). -/
def State.addrHeld (s : State) (a : Nat) (r : DWord) : Bool :=
  s.allPlaces.any fun p => p.addr == a && p.route != r && p.stood && p.addr != 0

/-- An address passes to a place: no other place keeps it (R196). -/
def State.giveAddr (s : State) (a : Nat) (r : DWord) : State :=
  let places := Tab.mapVal s.places fun _ (p : Place) => if p.addr = a ∧ p.route ≠ r then { p with addr := 0 } else p
  { s with places := places }

/-- Step 3 of Table 8-8: the device is judged against the entry at its route (R205, R208, R209, R211). While another device
holds the entry's address, a matching one waits like one that is not to be reseated (R196; log entry 130). -/
def State.judgeDevice (s : State) (r : DWord) : State :=
  let p := s.placeAt r
  match s.topoAt r with
  | none => s.waitAtZero r 0
  | some e =>
    let m := e.mismatch p
    if m = 0 && (e.autoReseat || p.autonomous || p.keptByReset) && !s.addrHeld e.addr r then
      (s.giveAddr e.addr r).alter r fun p => { p with step := .setAddr 0, addr := e.addr, owner := e.owner }
    else s.waitAtZero r m

/-- The descriptors have been read: a hub found behind two root attachments stays behind the lower one (R211). -/
def State.descriptorsRead (s : State) (r : DWord) : State :=
  match s.sameHub (s.placeAt r) with
  | none => s.judgeDevice r
  | some h =>
    if (attachmentOf h.route).toNat < (attachmentOf r).toNat then s.disablePort (attachmentOf r) 7
    else (s.disablePort (attachmentOf h.route) 7).judgeDevice r

/-- A step's request failed: it is repeated, and the third failure disables the port with cause FAILED (R208). -/
def BringUp.again : BringUp → Option BringUp
  | .reset f => if f < 2 then some (.reset (f + 1)) else none
  | .desc8 f => if f < 2 then some (.desc8 (f + 1)) else none
  | .desc32 f => if f < 2 then some (.desc32 (f + 1)) else none
  | .hubDesc f => if f < 2 then some (.hubDesc (f + 1)) else none
  | .setAddr f => if f < 2 then some (.setAddr (f + 1)) else none
  | .feature f => if f < 2 then some (.feature (f + 1)) else none
  | .probe n f l => if f < 2 then some (.probe n (f + 1) l) else none
  | .setDelay f => if f < 2 then some (.setDelay (f + 1)) else none
  | b => some b

/-- A place has not answered: a dual-homed hub at a root attachment of a primary that began its PAIR_EPOCH at 0 is tried
again after the next frame start has added 85 to PAIR_EPOCH, at most twice (R393); any other port is disabled with cause
FAILED (R208). -/
def State.unanswered (s : State) (r : DWord) : State :=
  let dual := match s.topoAt r with
    | some e => isHubClass e.cls && bitsOf e.flags 2 1 == 0 && r.toNat < 32
    | none => false
  if 2 ≤ s.twn.bump && s.role == 2 && dual then
    let s1 := s.alter r fun p => { p with step := .queued }
    { s1 with twn := { s1.twn with bump := s1.twn.bump / 2 * 2 + 1 } }
  else s.disablePort r 2

/-- A measurement is over: another one that fell due meanwhile follows (R66). -/
def Place.measureDone (p : Place) : Place :=
  { p with step := if p.remeasureDue then .probe 0 0 [] else .none, remeasureDue := false }

/-- The present step of a place failed; a failed measurement of a device already up is given up. -/
def State.stepFailed (s : State) (r : DWord) : State :=
  let p := s.placeAt r
  match p.step.again with
  | some b => s.alter r fun p => { p with step := b }
  | none => if p.bringing then s.unanswered r else s.alter r Place.measureDone

/-- SET_ADDRESS completed: entries to address 0 that name the place end, since no device answers there any more (R197), and
step 5 follows, or step 6 (R44, Table 8-8). -/
def State.addressed (s0 : State) (r : DWord) : State :=
  let p := s0.placeAt r
  let leave := fun e : Entry =>
    if e.addr = 0 ∧ e.kind = .control ∧ e.route = r then e.goneEnd false s0.now s0.time.frame else e
  let s := { s0 with qps := Tab.mapVal s0.qps fun _ v => { v with entries := v.entries.map leave } }
  let s1 := s.modDevEps p.addr fun e => { e with toggle := false }
  if bitsOf (fieldAt p.desc 22 1) 0 1 = 1 then s1.alter r fun p => { p with step := .feature 0 } else s1.bringUpDelay r

/-- The path delay has been measured: it is written at the first measurement, and afterwards when it differs by more than
2 ns (R66). It comes into use once the device has been told. -/
def State.measured (s : State) (r : DWord) (rtts : List Nat) : State :=
  let p := s.placeAt r
  let d := pathDelay rtts (fieldAt p.desc 20 2) (s.asymmetry p)
  if p.bringing || 8 < d - p.delay || 8 < p.delay - d then s.alter r fun p => { p with step := .setDelay 0, delayNext := d }
  else s.alter r Place.measureDone

/-- A keeper request of a bring-up step, of a path measurement, or of a port's disable, doze or resume has completed (R208,
R66, R221, R225; log entry 32). -/
def State.keeperDone (s : State) (r : DWord) (reply : KeeperReply) : State :=
  let p := s.placeAt r
  if p.disabling then match reply with
    | .data _ => s.portOff r p.cause
    | _ => s
  else if p.dozeExit then match reply with
    | .data _ => s.alter r fun p => { p with doze := false, dozeExit := false }
    | _ => s
  else if p.dozeAsked then match reply with
    | .data _ => s.alter r fun p => { p with doze := true, dozeAsked := false }
    | _ => s.alter r fun p => { p with dozeAsked := false }
  else match p.step, reply with
    | .none, _ | .queued, _ | .waiting, _ => s
    | _, .failed => s.stepFailed r
    | .reset f, .data _ => s.alter r fun p => { p with step := .reset f, resetAsked := true }
    | .desc8 _, .data b => if b.length < 8 then s.stepFailed r else s.alter r fun p => { p with step := .desc32 0, desc := b }
    | .desc32 _, .data b =>
      if b.length < 32 then s.stepFailed r
      else
        let c : Half := BitVec.ofNat 16 (fieldAt b 4 2)
        let s1 := s.alter r fun p => { p with desc := b.take 32, cls := c, serial := BitVec.ofNat 64 (fieldAt b 12 8) }
        if !isHubClass c then (s1.alter r fun p => { p with hub := none }).descriptorsRead r
        else if (hopsOf r).length = 7 then s1.disablePort r 4
        else s1.alter r fun p => { p with step := .hubDesc 0 }
    | .hubDesc _, .data b =>
      if b.length < 16 then s.stepFailed r else (s.alter r fun p => { p with hub := some (HubInfo.parse b) }).descriptorsRead r
    | .setAddr _, .data _ => s.addressed r
    | .feature _, .data _ => s.bringUpDelay r
    | .probe n _ l, .rtt t =>
      if n + 1 < 8 then s.alter r fun p => { p with step := .probe (n + 1) 0 (l ++ [t]) } else s.measured r (l ++ [t])
    | .setDelay _, .data _ =>
      let s1 := s.alter r fun p => { p with delay := p.delayNext }
      if p.bringing then s1.bringUpDone r else s1.alter r Place.measureDone
    | _, _ => s

/-- KEEPER_REQUEST_COMPLETE (R208). -/
def execKeeperRequestComplete (route : DWord) (reply : KeeperReply) (s : State) : Host.Outcome State Fault Refusal :=
  let k := s.takeKreq fun k => k.asker == route && !k.isRead
  done (if (s.place route).isSome then k.1.keeperDone route (KReq.answer k.2 reply) else s)

/-- ADOPT_WAIT_EXPIRY (R209): cause UNADOPTED. -/
def execAdoptWaitExpiry (route : DWord) (s : State) : Host.Outcome State Fault Refusal :=
  done (if (s.placeAt route).isWaiting && s.getF Fld.gblHpCtrlAdoptWait 0 != 0 then s.disablePort route 6 else s)

/-! ### Path delays (R66) -/

/-- The keeper measures the path delay of a device again, after the measurement that runs. -/
def State.remeasure (s : State) (r : DWord) : State :=
  let p := s.placeAt r
  let measuring := match p.step with | .probe _ _ _ | .setDelay _ => true | _ => false
  if measuring && (s.translator p).isNone then s.alter r fun p => { p with remeasureDue := true }
  else if !p.served || p.step ≠ .none || decide (p.version < 0x30) then s
  else if (s.translator p).isSome then
    match parentOf r with
    | none => s
    | some h => s.alter h fun q => if q.reads.contains (hubPortOf r) then q else { q with reads := q.reads ++ [hubPortOf r] }
  else s.alter r fun p => { p with step := .probe 0 0 [] }

/-- PATH_DELAY_REMEASURE (R66). -/
def execPathDelayRemeasure (s : State) : Host.Outcome State Fault Refusal :=
  done (if s.getF Fld.gblTimeCtrlRemeasureS 0 = 0 || !s.busRuns then s
    else s.allPlaces.foldl (fun s p => s.remeasure p.route) s)

/-! ### Hub status (R202, R203, R212, R213) -/

/-- A hub's status report: the keeper reads the status of every port named, and bit 0 tells of a changed upstream port
(R202, R219). -/
def State.hubReport (s : State) (r : DWord) (b : List Byte) : State :=
  let p := s.placeAt r
  let v := fieldAt b 0 4
  let n := (p.hub.map (·.nports)).getD 0
  let ports := ((List.range n).map (· + 1)).filter fun k => bitsOf v k 1 == 1 && !p.reads.contains k
  let s1 := s.alter r fun p => { p with reads := p.reads ++ ports }
  if bitsOf v 0 1 = 1 then
    s1.treeEvent 0 8 r (p.addr + s.getF Fld.twnStatusPairEpoch 0 * 2 ^ 24) 0
  else s1

/-- A T0 contract reads the hub's status endpoint (R202). -/
def State.hubContract (s : State) (p : Place) : Bool :=
  s.alm.contracts.any fun c => c.tenant == 0 && c.dirIn && c.addr == p.addr && some c.ep == p.hub.map (·.statusEp)

/-- The hub at a place takes the keeper's requests. -/
def Place.hubUp (p : Place) : Bool := p.served && p.hub.isSome

/-- HUB_POLL (R202): every POLL_FRAMES frames the read of the status endpoint of a hub without a T0 contract falls due; it goes
out as work of order 4, and its answer comes as the answer to its IN token. The hub is named by its root attachment and the hub
ports below it (R194). -/
def execHubPoll (root : Fin 32) (hops : List (Fin 32)) (s : State) : Host.Outcome State Fault Refusal :=
  let hub := routeMake root (hops.map (·.val))
  let p := s.placeAt hub
  let n := s.getF Fld.gblHpCtrlPollFrames 0
  let ep := (p.hub.map (·.statusEp)).getD 0
  done (if !p.hubUp || n = 0 || ep = 0 || (s.ready && s.hubContract p) || decide ((s.time.frame - p.pollAt).toNat < n) ||
      (s.keeper.any fun k => k.route == hub && k.ep != 0) then s
    else
      let s1 := s.alter hub fun p => { p with pollAt := s.time.frame }
      { s1 with keeper := s1.keeper ++ [⟨routeLink hub, hub, hub, p.addr, ep, [], 1, false, []⟩] })

/-- A port status record (Table 8-5). -/
structure PortRec where
  conn : Bool
  en : Bool
  doze : Bool
  resetting : Bool
  speed : Nat
  chConnect : Bool
  chDisabled : Bool
  chReset : Bool
  chWake : Bool
  chRide : Bool
  cause : Nat
  version : Nat
  count : Nat
  linkDelay : Nat
  deriving DecidableEq, Repr

/-- Read a port status record (Table 8-5). -/
def PortRec.parse (b : List Byte) : PortRec :=
  let st := fieldAt b 0 1
  let ch := fieldAt b 1 1
  { conn := bitsOf st 0 1 == 1, en := bitsOf st 1 1 == 1, doze := bitsOf st 2 1 == 1, resetting := bitsOf st 3 1 == 1
    speed := bitsOf st 4 2, chConnect := bitsOf ch 0 1 == 1, chDisabled := bitsOf ch 1 1 == 1
    chReset := bitsOf ch 2 1 == 1, chWake := bitsOf ch 3 1 == 1, chRide := bitsOf ch 4 1 == 1, cause := fieldAt b 2 1 % 8
    version := fieldAt b 3 1, count := fieldAt b 4 1, linkDelay := fieldAt b 6 2 }

/-- A device's remote wake has been seen (R223). -/
def State.remoteWake (s : State) (r : DWord) : State :=
  let p := s.placeAt r
  if p.present then (s.addF Fld.prtHpCountWakes (routePort r) 1).treeBoth p.owner 7 r p.addr 0 else s

/-- What a port's status says once the port is connected and not disabled: resets, ride-throughs, connects (R56, R57, R66,
R207, R208). -/
def State.portLives (s : State) (r : DWord) (x : PortRec) : State :=
  let p := s.placeAt r
  match p.step with
  | .reset _ =>
    if x.chReset && !x.resetting then
      if x.en then s.alter r fun p => { p with
        enabled := true, speed := x.speed, version := x.version, step := .desc8 0, resetAsked := false }
      else (s.alter r fun p => { p with resetAsked := false }).stepFailed r
    else s
  | _ =>
    let moved := x.count != p.resetCount || (x.chReset && decide (p.step = .none))
    if p.present && p.resetAsked && p.keptByReset then
      if x.en && !x.resetting then s.alter r fun p => { p with enabled := true, resetAsked := false, version := x.version }
      else s
    else if p.present && moved && !(p.keptByReset && !p.enabled) then
      let up := x.en && !x.resetting
      (s.learnReset r).alter r fun p => { p with enabled := up, resetAsked := !up, version := x.version }
    else if !p.present && p.stood && x.count != p.resetCount then
      (s.learnReset r).alter r fun p => { p with enabled := x.en && !x.resetting, version := x.version }
    else if p.present && x.chRide then
      (s.below r).foldl (fun s r => s.remeasure r) (s.remeasure r)
    else if !p.connected && p.cause == 0 then
      s.alter r fun p => { p with connected := true, step := .queued, autonomous := !s.ready, speed := x.speed }
    else if !p.connected then s.alter r fun p => { p with connected := true }
    else s

/-- The endpoints of a place that await the read of R56 and have neither gone nor been reset end under R41. -/
def State.failChecked (s : State) (p : Place) : State :=
  let wire := if p.atZero then 0 else p.addr
  let key := if p.atZero then 4096 + routeLink p.route else p.addr
  (s.eps.filter fun e => e.2.addr == key && e.2.checking).foldl (fun s e =>
    s.epHalt e.2.addr e.2.ep e.2.dirIn (s.runner wire e.2.ep e.2.dirIn) (s.contractQp wire e.2.ep e.2.dirIn) 2) s

/-- A GET_PORT_STATUS reply is judged: a disconnect or disable first, then a reset (R56, R212, R227). -/
def State.portStatus (s : State) (hub : DWord) (port : Nat) (b : List Byte) : State :=
  let x := PortRec.parse b
  let r := childOf hub port
  let p := s.placeAt r
  let fin := fun s : State => s.alter r fun p => { p with
    resetCount := x.count, linkDelay := x.linkDelay, doze := if x.doze then p.doze else false }
  let dead := !x.conn || ((x.chDisabled || p.present) && !x.en && !x.resetting && p.enabled)
  let s1 := if x.chWake && p.enabled then
      (s.remoteWake r).alter r fun p => { p with dozeExit := x.doze }
    else s
  if p.disabling && !x.en then fin (s1.portOff r p.cause)
  else if p.cause != 0 && !p.disabling then fin (s1.alter r fun p => { p with connected := x.conn })
  else if dead && (p.stood || p.connected) then
    let s2 := s1.learnGone r
    let s3 := if x.cause != 0 && x.chDisabled && (s2.placeAt r).cause == 0 then
        s2.alter r fun p => { p with cause := x.cause, connected := x.conn } else s2
    fin (if x.conn && (s3.placeAt r).cause == 0 then s3.portLives r x else s3)
  else if x.chConnect && x.conn && !x.en && !x.resetting && p.present && !p.keptByReset then
    fin ((s1.learnGone r).portLives r x)
  else if x.conn then
    let s2 := s1.portLives r x
    let q := s2.placeAt r
    let s3 := if q.served && q.step = .none && decide (0x30 ≤ q.version) && (s2.translator q).isSome &&
        (8 < x.linkDelay - q.delay || 8 < q.delay - x.linkDelay) then
        s2.alter r fun p => { p with step := .setDelay 0, delayNext := x.linkDelay } else s2
    (fin s3).failChecked p
  else fin s1

/-- PORT_STATUS_REPLY (R56): none is a request that failed, after which the endpoints that awaited it end under R41 (log entry
132). -/
def execPortStatusReply (hub : DWord) (port : Fin 32) (reply : Option (List Byte)) (s : State) :
    Host.Outcome State Fault Refusal :=
  let h := s.placeAt hub
  done (if !h.hubUp || !h.reads.contains port.val then s
    else
      let k := s.takeKreq fun k => k.asker == hub && k.setup == setupBytes 0xA3 0 0 port 16
      let s1 := k.1.alter hub fun p => { p with reads := p.reads.filter (· != port.val) }
      match (match k.2 with | some q => if q.ok then some q.data else none | none => reply) with
      | some b => if b.length < 16 then s1.failChecked (s1.placeAt (childOf hub port)) else s1.portStatus hub port b
      | none => s1.failChecked (s1.placeAt (childOf hub port)))

/-! ### Cutting a device off (R225) -/

/-- DISABLE_ESCALATION (R225): the next port up. -/
def execDisableEscalation (route : DWord) (s : State) : Host.Outcome State Fault Refusal :=
  let p := s.placeAt route
  done (if !p.disabling then s
    else match parentOf route with
      | none => s
      | some h => (s.alter route fun p => { p with disabling := false, cause := 0 }).disablePort h p.cause)

/-- PAIR_OVERLONG_TRANSMIT (R225): the device whose turn it is on the pair, or else the attachment itself. -/
def execPairOverlongTransmit (p : Fin 16) (s : State) : Host.Outcome State Fault Refusal :=
  let l := 2 * p.val + 1
  let dev := match s.txns.find? fun x => x.link == l && x.outstanding with
    | none => rootRoute p .p
    | some x => if x.addr = 0 then
        (((s.attachment l).find? Place.atZero).map (·.route)).getD (rootRoute p .p)
      else ((s.placeOf x.addr).map (·.route)).getD (rootRoute p .p)
  done (if !s.linkUp l then s else s.disablePort dev 1)

end Sys2Proof.Machine
end

