-- ==== Sys2Proof/Machine/TreeCmd.lean ====
section
/-!
DEFINITION. The endpoints group and the ports-and-tree group of commands, but for the halt (10 R261, R262, R271; 02 R46,
R57; 07 R188, R189; 08 R210, R226; 12 R305).
-/
namespace Sys2Proof.Machine

/-! ### Endpoints -/

/-- The endpoint direction that a command names. -/
structure EpName where
  addr : Nat
  ep : Nat
  dirIn : Bool

/-- Parse the endpoint direction and check that the tenant owns its device (Table 10-4, R304). -/
def State.namedEp (s : State) (t : Nat) (p : List Byte) : Except CmdStatus EpName :=
  let a := fieldAt p 0 2
  let n : EpName := ⟨a % 4096, a / 4096, bitsOf (fieldAt p 2 1) 0 1 == 1⟩
  match s.placeOf n.addr with
  | none => .error .badParam
  | some d => if d.owner = t then .ok n else .error .notOwner

/-- The kind of an endpoint (Table 10-4). -/
def epKind (v : Nat) : XKind := if v = 0 then .control else if v = 1 then .bulk else if v = 2 then .periodic else .strike

/-- A contract that holds an endpoint direction, committed or awaiting its switch (R262). -/
def State.epContracts (s : State) (n : EpName) : List Contract :=
  s.allContracts.filter fun c => c.addr == n.addr && c.ep == n.ep && (c.dirIn == n.dirIn)

/-- The reserves taken of a pool (R189). -/
def State.poolReserved (s : State) (t k : Nat) : Nat :=
  ((s.eps.filter fun e => e.2.isOpen && e.2.owner == t && e.2.pool == some k).length) *
    ((Tab.find s.pools (t * 16 + k)).map (·.reserve)).getD 0

/-- EP_OPEN (R3, R37, R188, R189; log entry 33 for what the parameters must satisfy). -/
def bodyEpOpen (t : Nat) (s : State) (p : List Byte) : CmdRes :=
  match s.namedEp t p with
  | .error e => .err s e
  | .ok n =>
    let fl := fieldAt p 2 1
    let kind := epKind (bitsOf fl 1 2)
    let mps := fieldAt p 4 2
    let basin := fieldAt p 6 2
    let pool := fieldAt p 8 1
    let pooled := s.bit Fld.tenCisSharePoolMode t
    let speed := ((s.placeOf n.addr).map (·.speed)).getD 3
    let top := if n.ep = 0 then 64 else speedMps speed
    let cons := s.epContracts n
    if 8 ≤ fl ∨ (kind = .control) ≠ (n.ep = 0) ∨ (kind = .strike ∧ n.dirIn) ∨ mps = 0 ∨ top < mps ∨
        cons.any (fun c => decide (mps < c.maxp)) ∨ (pooled ∧ basin ≠ 0) ∨ (¬pooled ∧ pool ≠ 0) then .err s .badParam
    else if (s.ep n.addr n.ep n.dirIn).isOpen then .err s .wrongState
    else if 16384 ≤ (s.eps.filter fun e => e.2.isOpen).length then .err s .noResource
    else
      let open_ := fun (b : Nat) (k : Option Nat) =>
        CmdRes.ok (s.modEp n.addr n.ep n.dirIn fun e => { e with
          isOpen := true, owner := t, kind := kind, mps := mps, basin := b, pool := k, backoff := fieldAt p 10 2
          waiting := false, waitBeat := false }) 0
      if pooled then
        match Tab.find s.pools (t * 16 + pool) with
        | none => .err s .badParam
        | some k =>
          if 16 ≤ pool ∨ k.size < mps ∨ cons.any (fun c => decide (k.reserve < c.poolNeed)) then .err s .badParam
          else if k.count < s.poolReserved t pool + k.reserve then .err s .noResource
          else open_ 0 (some pool)
      else if !powerOfTwoIn basin 64 16384 || decide (basin < max 64 (2 * mps)) then .err s .badParam
      else if !s.shareFits t basin then .err s .noResource
      else open_ basin none

/-- The row of EpOpen in Table 10-4. -/
def rowEpOpen : CmdInfo :=
  { op := 0x0401, named := [(0, 3), (4, 5), (10, 2)] }

/-- EP_OPEN (R188). -/
def execEpOpen (t : Fin 256) (k : CmdPkt) (s : State) : Host.Outcome State Fault Refusal :=
  done (runCmd rowEpOpen t k (bodyEpOpen t) s)

/-- An entry that has been read and has not completed names the endpoint direction (R262). -/
def State.epNamed (s : State) (n : EpName) : Bool :=
  s.qps.any fun v => v.2.entries.any fun e =>
    e.addr == n.addr && e.ep == n.ep && (e.dirIn == n.dirIn || e.kind = .control)

/-- EP_CLOSE (R262). -/
def bodyEpClose (t : Nat) (s : State) (p : List Byte) : CmdRes :=
  match s.namedEp t p with
  | .error e => .err s e
  | .ok n =>
    if 2 ≤ fieldAt p 2 1 then .err s .badParam
    else if !(s.ep n.addr n.ep n.dirIn).isOpen ∨ s.epContracts n ≠ [] ∨ s.epNamed n then .err s .wrongState
    else .ok (s.closeEps fun e => e.addr == n.addr && e.ep == n.ep && e.dirIn == n.dirIn) 0

/-- The row of EpClose in Table 10-4. -/
def rowEpClose : CmdInfo :=
  { op := 0x0402, named := [(0, 3)] }

/-- EP_CLOSE (R262). -/
def execEpClose (t : Fin 256) (k : CmdPkt) (s : State) : Host.Outcome State Fault Refusal :=
  done (runCmd rowEpClose t k (bodyEpClose t) s)

/-- EP_CLEAR_HALT (R44, R46, R159; log entry 34): the queue pairs that the endpoint's halt stopped resume, and the toggles
of the device return to DATA0; a halt of the other kind is refused. -/
def bodyEpClearHalt (t : Nat) (s : State) (p : List Byte) : CmdRes :=
  match s.namedEp t p with
  | .error e => .err s e
  | .ok n =>
    let key := epKey n.addr n.ep n.dirIn
    let other := epKey n.addr n.ep !n.dirIn
    let mine := fun v : Qp => (v.haltCause == 1 || v.haltCause == 2) && v.owner == some t &&
      (v.haltAddr == key || (n.ep == 0 && v.haltAddr == other))
    let byReset := s.qps.any fun v =>
      v.2.state = .halted && v.2.owner == some t && v.2.resetHalt n.addr && s.boundTo n.addr v.1 v.2
    let qs := s.resumable mine
    if 2 ≤ fieldAt p 2 1 then .err s .badParam
    else if qs = [] ∧ byReset ∧ ¬(s.ep n.addr n.ep n.dirIn).halted then .err s .wrongState
    else
      let s1 := s.modEp n.addr n.ep n.dirIn fun e => { e with halted := false, errs := 0 }
      let s2 := if n.ep = 0 then s1.modEp n.addr 0 (!n.dirIn) fun e => { e with halted := false, errs := 0 } else s1
      .ok ((s2.modDevEps n.addr fun e => { e with toggle := false }).resumeQps mine).deliverAll
        (match qs with | q :: _ => BitVec.ofNat 64 q | [] => 0xFFFF)

/-- The row of EpClearHalt in Table 10-4. -/
def rowEpClearHalt : CmdInfo :=
  { op := 0x0403, named := [(0, 3)] }

/-- EP_CLEAR_HALT (R46). -/
def execEpClearHalt (t : Fin 256) (k : CmdPkt) (s : State) : Host.Outcome State Fault Refusal :=
  done (runCmd rowEpClearHalt t k (bodyEpClearHalt t) s)

/-- EP_QUERY (R261). -/
def bodyEpQuery (t : Nat) (s : State) (p : List Byte) : CmdRes :=
  match s.namedEp t p with
  | .error e => .err s e
  | .ok n =>
    let e := s.ep n.addr n.ep n.dirIn
    if 2 ≤ fieldAt p 2 1 then .err s .badParam
    else if !e.isOpen then .err s .wrongState
    else .ok s (BitVec.ofNat 64 (e.mps + e.basin * 65536 + (if e.halted then 2 ^ 32 else 0) + min e.errs 7 * 2 ^ 33))

/-- The row of EpQuery in Table 10-4. -/
def rowEpQuery : CmdInfo :=
  { op := 0x0404, jrn := false, named := [(0, 3)] }

/-- EP_QUERY (R261). -/
def execEpQuery (t : Fin 256) (k : CmdPkt) (s : State) : Host.Outcome State Fault Refusal :=
  done (runCmd rowEpQuery t k (bodyEpQuery t) s)

/-! ### Devices (R305) -/

/-- A tenant that holds a quantum of 0 gains its first device: it receives the default quantum, and a quantum of 0 that waited
for it takes no effect any more (R110). -/
def State.firstDevice (s : State) (t : Nat) : State :=
  let s1 := { s with alm := { s.alm with quanta := s.alm.quanta.filter fun x => !(x.2.1 == t && x.2.2 == 0) } }
  if s1.getF Fld.tenWeirQuotaQuantum t = 0 then s1.setF Fld.tenWeirQuotaQuantum t 4096 else s1

/-- The owner of a place changes, in the tree and in the running configuration (R110, R291, R305). -/
def State.setOwner (s0 : State) (r : DWord) (t : Nat) : State :=
  let s := s0.firstDevice t
  let topo := s.cfg.shadow.topo.map fun (e : TopoEntry) => if e.route = r then { e with owner := t } else e
  { s with cfg := { s.cfg with shadow := { s.cfg.shadow with topo := topo } } }.alter r fun p => { p with owner := t }

/-- The device at an address has an open endpoint or a contract (R305). -/
def State.devInUse (s : State) (addr : Nat) : Bool :=
  (s.eps.any fun e => e.2.isOpen && e.2.addr == addr) || s.allContracts.any fun c => c.addr == addr

/-- DEV_ASSIGN (R305). -/
def bodyDevAssign (s : State) (p : List Byte) : CmdRes :=
  let a := fieldAt p 0 2
  match s.placeOf a with
  | none => .err s .badParam
  | some d =>
    if d.isHub ∨ d.owner ≠ 0 ∨ s.devInUse a then .err s .wrongState else .ok (s.setOwner d.route (fieldAt p 2 1)) 0

/-- The row of DevAssign in Table 10-4. -/
def rowDevAssign : CmdInfo :=
  { op := 0x0501, t0 := true, named := [(0, 3)] }

/-- DEV_ASSIGN (R305). -/
def execDevAssign (t : Fin 256) (k : CmdPkt) (s : State) : Host.Outcome State Fault Refusal :=
  done (runCmd rowDevAssign t k bodyDevAssign s)

/-- DEV_RELEASE (R305). -/
def bodyDevRelease (s : State) (p : List Byte) : CmdRes :=
  let a := fieldAt p 0 2
  match s.placeOf a with
  | none => .err s .badParam
  | some d => if s.devInUse a then .err s .wrongState else .ok (s.setOwner d.route 0) 0

/-- The row of DevRelease in Table 10-4. -/
def rowDevRelease : CmdInfo :=
  { op := 0x0502, t0 := true, named := [(0, 2)] }

/-- DEV_RELEASE (R305). -/
def execDevRelease (t : Fin 256) (k : CmdPkt) (s : State) : Host.Outcome State Fault Refusal :=
  done (runCmd rowDevRelease t k bodyDevRelease s)

/-! ### Ports (R210, R226, R57) -/

/-- An address is in use, or reserved by an entry, at another place (R196, R210). -/
def State.addrTaken (s : State) (a : Nat) (r : DWord) : Bool :=
  (s.cfg.shadow.topo.any fun e => e.addr == a && e.route != r) || s.allPlaces.any fun p => p.addr == a && p.route != r

/-- TREE_ADOPT (R210; log entry 33 for the statuses). -/
def bodyTreeAdopt (s : State) (p : List Byte) : CmdRes :=
  let r : DWord := BitVec.ofNat 64 (fieldAt p 0 8)
  let a := fieldAt p 8 2
  let fl := fieldAt p 10 1
  let d := s.placeAt r
  if !routeOk r || decide (2 ≤ fl) || a == 0 || decide (4096 ≤ a) then .err s .badParam
  else if !d.isWaiting || s.addrTaken a r then .err s .wrongState
  else match s.topoAt r with
    | some e =>
      if fl = 0 then .err s .wrongState
      else if e.addr ≠ a then .err s .badParam
      else .ok ((s.firstDevice e.owner).alter r fun q =>
        { q with step := .setAddr 0, forced := some a, addr := a, owner := e.owner }) 0
    | none => .ok ((s.firstDevice 0).alter r fun q =>
        { q with step := .setAddr 0, forced := some a, addr := a, owner := 0 }) 0

/-- The row of TreeAdopt in Table 10-4. -/
def rowTreeAdopt : CmdInfo :=
  { op := 0x0503, t0 := true, named := [(0, 11)] }

/-- TREE_ADOPT (R210). -/
def execTreeAdopt (t : Fin 256) (k : CmdPkt) (s : State) : Host.Outcome State Fault Refusal :=
  done (runCmd rowTreeAdopt t k bodyTreeAdopt s)

/-- PORT_ENABLE (R226): the port is reset, and what stands there is brought up. -/
def bodyPortEnable (s : State) (p : List Byte) : CmdRes :=
  let r : DWord := BitVec.ofNat 64 (fieldAt p 0 8)
  let d := s.placeAt r
  if !routeOk r then .err s .badParam
  else if d.cause = 0 ∨ d.disabling then .err s .wrongState
  else
    let s1 := s.alter r fun q => { q with cause := 0 }
    match parentOf r with
    | none => .ok (if d.connected then s1.resetRoot r else s1) 0
    | some _ => .ok (if d.connected then s1.alter r fun q => { q with step := .queued, autonomous := !s.ready } else s1) 0

/-- The row of PortEnable in Table 10-4. -/
def rowPortEnable : CmdInfo :=
  { op := 0x0504, t0 := true, named := [(0, 8)] }

/-- PORT_ENABLE (R226). -/
def execPortEnable (t : Fin 256) (k : CmdPkt) (s : State) : Host.Outcome State Fault Refusal :=
  done (runCmd rowPortEnable t k bodyPortEnable s)

/-- PORT_DISABLE: cause COMMAND (R225, Table 8-16). -/
def bodyPortDisable (s : State) (p : List Byte) : CmdRes :=
  let r : DWord := BitVec.ofNat 64 (fieldAt p 0 8)
  if !routeOk r then .err s .badParam
  else if (s.placeAt r).cause ≠ 0 then .err s .wrongState
  else .ok (s.disablePort r 5) 0

/-- The row of PortDisable in Table 10-4. -/
def rowPortDisable : CmdInfo :=
  { op := 0x0505, t0 := true, named := [(0, 8)] }

/-- PORT_DISABLE (R261). -/
def execPortDisable (t : Fin 256) (k : CmdPkt) (s : State) : Host.Outcome State Fault Refusal :=
  done (runCmd rowPortDisable t k bodyPortDisable s)

/-- PORT_RESET (R55, R226, R227, R252): at a root attachment the signalling starts now, or after a retrain; at a hub port the
keeper asks the hub. -/
def bodyPortReset (t : Nat) (s : State) (p : List Byte) : CmdRes :=
  match s.placeOf (fieldAt p 0 2) with
  | none => .err s .badParam
  | some d =>
    let l := routeLink d.route
    if d.owner ≠ t then .err s .notOwner
    else if !d.present || d.keptByReset || d.resetAsked || d.disabling then .err s .wrongState
    else match parentOf d.route with
      | none =>
        if l % 2 = 0 ∧ s.hState (l / 2) = 4 then .ok (s.modLink l fun k => { k with resetWaits := true }) 0
        else .ok ((s.beginReset d.route).resetRoot d.route) 0
      | some h =>
        if (s.placeAt h).served then .ok (s.alter d.route fun q => { q with resetAsked := true }) 0 else .err s .wrongState

/-- The row of PortReset in Table 10-4. -/
def rowPortReset : CmdInfo :=
  { op := 0x0506, named := [(0, 2)] }

/-- PORT_RESET (R226). -/
def execPortReset (t : Fin 256) (k : CmdPkt) (s : State) : Host.Outcome State Fault Refusal :=
  done (runCmd rowPortReset t k (bodyPortReset t) s)

/-- PORT_RESET_ACK (R57, R159): the count of queue pairs resumed. -/
def bodyPortResetAck (t : Nat) (s : State) (p : List Byte) : CmdRes :=
  let a := fieldAt p 0 2
  match s.placeOf a with
  | none => .err s .badParam
  | some d =>
    let mine := fun v : Qp => v.resetHalt a && v.owner == some t
    let n := (s.resumable mine).length
    if d.owner ≠ t then .err s .notOwner
    else if n = 0 then .err s .wrongState
    else .ok (s.resumeQps mine).deliverAll (BitVec.ofNat 64 n)

/-- The row of PortResetAck in Table 10-4. -/
def rowPortResetAck : CmdInfo :=
  { op := 0x0507, named := [(0, 2)] }

/-- PORT_RESET_ACK (R57). -/
def execPortResetAck (t : Fin 256) (k : CmdPkt) (s : State) : Host.Outcome State Fault Refusal :=
  done (runCmd rowPortResetAck t k (bodyPortResetAck t) s)

/-! ### Queries (R271) -/

/-- A path record (Table 10-8). -/
def State.pathRecord (s : State) (p : Place) : List Byte :=
  let entry := s.topoAt p.route
  let st := if p.cause != 0 then 3 else if p.isWaiting then 2 else if p.present then 1 else 0
  let here := p.present || p.isWaiting
  let h := if p.present && s.pathE p then s.horizon p else 0
  leBytes 8 p.route.toNat ++ leBytes 2 (if p.isWaiting then 0 else p.addr) ++ leBytes 1 p.owner ++
    leBytes 1 (st + p.cause * 4 + if entry.isSome then 32 else 0) ++ leBytes 1 p.speed ++ leBytes 1 p.version ++
    leBytes 2 p.cls.toNat ++ leBytes 4 p.delay ++ leBytes 4 h ++ leBytes 8 (if here then p.serial.toNat else 0)

/-- TREE_QUERY (R271): by route, or with route 0 by address. -/
def bodyTreeQuery (t : Nat) (s : State) (p : List Byte) : CmdRes :=
  let r : DWord := BitVec.ofNat 64 (fieldAt p 0 8)
  let d := if r = 0 then s.placeOf (fieldAt p 8 2) else (if routeOk r && s.known (s.placeAt r) then some (s.placeAt r) else none)
  match d with
  | none => .err s .badParam
  | some d => if t ≠ 0 ∧ d.owner ≠ t then .err s .notOwner else .block s (s.pathRecord d)

/-- The row of TreeQuery in Table 10-4. -/
def rowTreeQuery : CmdInfo :=
  { op := 0x050A, jrn := false, named := [(0, 10)], outLen := some (fun _ => 32), standby := true }

/-- TREE_QUERY (R271). -/
def execTreeQuery (t : Fin 256) (k : CmdPkt) (s : State) : Host.Outcome State Fault Refusal :=
  done (runCmd rowTreeQuery t k (bodyTreeQuery t) s)

/-- The places that a tenant sees below a root attachment, in route order (R261). -/
def State.treeList (s : State) (t l : Nat) : List Place :=
  (s.attachment l).filter fun p => s.known p && (t == 0 || p.owner == t)

/-- TREE_LIST (R261, R271). -/
def bodyTreeList (t : Nat) (s : State) (p : List Byte) : CmdRes :=
  let root := fieldAt p 0 1
  let side := fieldAt p 1 1
  if 15 < root ∨ 1 < side then .err s .badParam
  else .block s (((s.treeList t (2 * root + side)).take (fieldAt p 2 2)).flatMap s.pathRecord)

/-- The row of TreeList in Table 10-4. -/
def rowTreeList : CmdInfo :=
  { op := 0x050B, jrn := false, since11 := true, named := [(0, 4)], outLen := some (fun p => fieldAt p 2 2 * 32), standby := true }

/-- TREE_LIST (R261). -/
def execTreeList (t : Fin 256) (k : CmdPkt) (s : State) : Host.Outcome State Fault Refusal :=
  done (runCmd rowTreeList t k
    (bodyTreeList t) s)

end Sys2Proof.Machine
end

