-- ==== Sys2Proof/Machine/Image.lean ====
section
/-!
DEFINITION. Configuration and firmware images: reading them, the directory and the epoch record in flash, and the image checks
(11 R282 to R289, 17 R403, R406, R409).
-/
namespace Sys2Proof.Machine

/-! ### Flash (R283, R284) -/

/-- A directory record (Table 11-2). -/
structure Dir where
  seq : Word
  genHigh : Word
  active : Nat
  previous : Nat
  staged : Nat
  probation : Bool
  rejected : Bool
  fwBoot : Nat
  trial : Bool
  deriving DecidableEq, Repr

/-- The record as programmed, its CRC last. -/
def Dir.bytes (d : Dir) : List Byte :=
  let b := leBytes 4 0x52494456 ++ leBytes 4 d.seq.toNat ++ leBytes 4 d.genHigh.toNat ++ leBytes 1 d.active ++
    leBytes 1 d.previous ++ leBytes 1 d.staged ++
    leBytes 1 ((if d.probation then 1 else 0) + (if d.rejected then 2 else 0)) ++ leBytes 1 d.fwBoot ++
    leBytes 1 (if d.trial then 1 else 0) ++ leBytes 42 0
  b ++ crc32Bytes b

/-- A copy whose magic and CRC32 check. -/
def Dir.parse (b : List Byte) : Option Dir :=
  if b.length < 64 ∨ fieldAt b 0 4 ≠ 0x52494456 ∨ crc32Bytes (b.take 60) ≠ (b.drop 60).take 4 then none
  else some
    { seq := BitVec.ofNat 32 (fieldAt b 4 4), genHigh := BitVec.ofNat 32 (fieldAt b 8 4), active := fieldAt b 12 1
      previous := fieldAt b 13 1, staged := fieldAt b 14 1, probation := bitsOf (fieldAt b 15 1) 0 1 == 1
      rejected := bitsOf (fieldAt b 15 1) 1 1 == 1, fwBoot := fieldAt b 16 1 % 2, trial := bitsOf (fieldAt b 17 1) 0 1 == 1 }

/-- The copy in use: the one that checks with the higher DIR_SEQ (R283). -/
def flashDir (f : Flash) : Option Dir :=
  match Dir.parse f.dir0, Dir.parse f.dir1 with
  | some a, some b => if a.seq.toNat < b.seq.toNat then some b else some a
  | some a, none => some a
  | none, b => b

/-- The directory as the state holds it. -/
def State.dir (s : State) : Dir :=
  let c := s.cfg
  ⟨c.dirSeq, c.genHigh, c.active, c.previous, c.staged, c.probation, c.rejected, c.fwBoot, c.trial⟩

/-- Take a directory into force. -/
def State.putDir (s : State) (d : Dir) : State :=
  { s with cfg := { s.cfg with
    dirSeq := d.seq, genHigh := d.genHigh, active := d.active, previous := d.previous, staged := d.staged
    probation := d.probation, rejected := d.rejected, fwBoot := d.fwBoot, trial := d.trial } }

/-- Write the directory into the copy that is not in use, with the next DIR_SEQ (R283). -/
def State.writeDir (s : State) (d : Dir) : State :=
  let e := { d with seq := d.seq + 1 }
  let f := s.cfg.flash
  let second := Dir.parse f.dir0 == some s.dir
  let s1 := s.putDir e
  { s1 with cfg := { s1.cfg with flash := if second then { f with dir1 := e.bytes } else { f with dir0 := e.bytes } } }

/-- An epoch record: SEQ, EPOCH and LSTART, if its magic and CRC32 check (R284). -/
def epochParse (b : List Byte) : Option (Word × Word × Word) :=
  if b.length < 20 ∨ fieldAt b 0 4 ≠ 0x48434F50 ∨ crc32Bytes (b.take 16) ≠ (b.drop 16).take 4 then none
  else some (BitVec.ofNat 32 (fieldAt b 4 4), BitVec.ofNat 32 (fieldAt b 8 4), BitVec.ofNat 32 (fieldAt b 12 4))

/-- The epoch record as programmed. -/
def epochBytes (seq epoch lstart : Word) : List Byte :=
  let b := leBytes 4 0x48434F50 ++ leBytes 4 seq.toNat ++ leBytes 4 epoch.toNat ++ leBytes 4 lstart.toNat
  b ++ crc32Bytes b

/-- The record with the higher SEQ, or zeros (R284). -/
def flashEpoch (f : Flash) : Word × Word × Word :=
  match epochParse f.rec0, epochParse f.rec1 with
  | some a, some b => if a.1.toNat < b.1.toNat then b else a
  | some a, none => a
  | none, some b => b
  | none, none => (0, 0, 0)

/-- Write the epoch record into the other sector with the next SEQ (R84, R284). -/
def State.writeEpoch (s : State) (epoch lstart : Word) : State :=
  let f := s.cfg.flash
  let cur := flashEpoch f
  let seq := cur.1 + 1
  let b := epochBytes seq epoch lstart
  let second := epochParse f.rec0 == some cur
  { s with
    time := { s.time with recSeq := seq, recEpoch := epoch, lstart := lstart }
    cfg := { s.cfg with flash := if second then { f with rec1 := b } else { f with rec0 := b } } }

/-- The image in a configuration slot. -/
def flashSlot (f : Flash) (k : Nat) : List Byte := match k with | 0 => f.cfg0 | 1 => f.cfg1 | 2 => f.cfg2 | _ => []

/-- Program a configuration slot, or erase it. -/
def State.putSlot (s : State) (k : Nat) (b : List Byte) : State :=
  let f := s.cfg.flash
  { s with cfg := { s.cfg with flash :=
    match k with | 0 => { f with cfg0 := b } | 1 => { f with cfg1 := b } | 2 => { f with cfg2 := b } | _ => f } }

/-- The image in a firmware slot. -/
def flashFw (f : Flash) (k : Nat) : List Byte := if k = 0 then f.fwA else f.fwB

/-- Program a firmware slot, or erase it. -/
def State.putFw (s : State) (k : Nat) (b : List Byte) : State :=
  let f := s.cfg.flash
  { s with cfg := { s.cfg with flash := if k = 0 then { f with fwA := b } else { f with fwB := b } } }

/-! ### Signatures (R403, R406, R419) -/

/-- LIFECYCLE: 0 manufacturing, 1 deployed, 2 debug-opened, 3 decommissioned (Table 17-2). -/
def State.lifecycle (s : State) : Nat := s.getF Fld.secStatusLifecycle 0

/-- Lockdown stands (R419). -/
def State.lockdown (s : State) : Bool := s.bit Fld.secStatusLockdown 0

/-- A configuration key is permitted (R403, Table 17-2). -/
def State.cfgKeyOk (s : State) (k : Nat) : Bool :=
  if s.lifecycle = 3 then false
  else if k = 0x100 then s.lifecycle != 1
  else decide (k < 8) && bitsOf (s.getF Fld.secStatusCfgKeyValid 0) k 1 == 1

/-- A firmware key is permitted (R403, Table 17-2). -/
def State.fwKeyOk (s : State) (k : Nat) : Bool :=
  if s.lifecycle = 3 then false
  else if k = 0x100 then s.lifecycle != 1
  else decide (k < 4) && bitsOf (s.getF Fld.secStatusFwKeyRevoked 0) k 1 == 0

/-- The signature block of an image verifies under its key, numbered from 0x1000 for firmware; lockdown fails every check
(R285, R406, R419). -/
def State.signed (s : State) (b : List Byte) (fw : Bool) : Bool :=
  let blk := b.drop (b.length - 68)
  let k := fieldAt blk 0 4
  !s.lockdown && (if fw then s.fwKeyOk k else s.cfgKeyOk k) &&
    Config.ecdsaVerify (k + if fw then 0x1000 else 0) (Config.sha256 (b.take (b.length - 68))) (blk.drop 4)

/-! ### Firmware images (R298, R406) -/

/-- Instruction and data memory of an engine in bytes (Table 1-2, numbered as in Table 13-2). -/
def engineMemory (e : Nat) : Nat := if e ≤ 7 then 131072 else if e ≤ 9 then 393216 else if e = 10 then 196608 else 98304

/-- The Watchman accepts a firmware image (R406). -/
def State.fwAccepted (s : State) (b : List Byte) : Bool :=
  let chip := s.reg .gblChipId 0
  let major := getBits chip 16 4
  let minor := getBits chip 20 4
  let step := fieldAt b 12 1
  let n := fieldAt b 16 4
  decide (196 ≤ b.length) && fieldAt b 0 4 == 0x57465856 && decide (fieldAt b 8 1 ≤ 64) && decide (fieldAt b 9 1 < 2) &&
    fieldAt b 13 3 == 0 && fieldAt b 20 4 == 0 && n == b.length && n % 4 == 0 && decide (n ≤ 2097152) &&
    fieldAt b 10 2 == 0x4840 && getBits chip 0 16 == 0x4840 && step % 16 == major && decide (step / 16 ≤ minor) &&
    ((List.range 12).all fun e =>
      decide (fieldAt b (32 + 8 * e) 4 + fieldAt b (36 + 8 * e) 4 ≤ n - 68) &&
      decide (fieldAt b (36 + 8 * e) 4 ≤ engineMemory e)) &&
    s.signed b true && decide (s.getF Fld.secStatusFwSvnMin 0 ≤ fieldAt b 8 1)

/-! ### Configuration images (R285, R286) -/

/-- An entry of the section table (R285). -/
structure Sect where
  typ : Nat
  flags : Nat
  off : Nat
  len : Nat
  count : Nat
  deriving DecidableEq, Repr

/-- The section table. -/
def imgSects (b : List Byte) : List Sect :=
  (List.range (fieldAt b 6 2)).map fun k =>
    let o := 64 + 16 * k
    ⟨fieldAt b o 2, fieldAt b (o + 2) 2, fieldAt b (o + 4) 4, fieldAt b (o + 8) 4, fieldAt b (o + 12) 4⟩

/-- A section by type. -/
def imgSect (b : List Byte) (typ : Nat) : Option Sect := (imgSects b).find? fun x => x.typ == typ

/-- The bytes of a section, if it is present. -/
def imgSectBytes (b : List Byte) (typ : Nat) : Option (List Byte) :=
  (imgSect b typ).map fun x => (b.drop x.off).take x.len

/-- The records of a section, with the offset of each in it. -/
def imgRecords (b : List Byte) (typ size : Nat) : List (Nat × List Byte) :=
  match imgSectBytes b typ with
  | none => []
  | some d => (List.range (d.length / size)).map fun k => (size * k, (d.drop (size * k)).take size)

/-- GEN of an image. -/
def imgGen (b : List Byte) : Word := BitVec.ofNat 32 (fieldAt b 8 4)

/-- An expected-topology entry from its 32 bytes. -/
def TopoEntry.ofBytes (b : List Byte) : TopoEntry where
  route := BitVec.ofNat 64 (fieldAt b 0 8)
  addr := fieldAt b 8 2 % 4096
  cls := BitVec.ofNat 16 (fieldAt b 10 2)
  verMin := fieldAt b 12 1
  verMax := fieldAt b 13 1
  speed := fieldAt b 14 1 % 4
  policy := fieldAt b 15 1 % 4
  flags := fieldAt b 16 1
  owner := fieldAt b 17 1
  serial := BitVec.ofNat 64 (fieldAt b 20 8)

/-- The bits of a 32-byte tenant map. -/
def tenantMap (b : List Byte) : Tab Bool :=
  (List.range 256).map fun t => (t, bitsOf (fieldAt b (t / 8) 1) (t % 8) 1 == 1)

/-- The quantum that a tenant has where the Weir section is absent: 4,096 if it owns devices (Table 11-4). -/
def defaultQuanta (topo : List TopoEntry) : Tab Nat :=
  (List.range 256).filterMap fun t => if topo.any fun e => e.owner == t then some (t, 4096) else none

/-- The running configuration that an image describes (R286). -/
def RunCfg.ofImage (b : List Byte) : RunCfg :=
  let topo := (imgRecords b 1 32).map fun r => TopoEntry.ofBytes r.2
  let e := RunCfg.empty
  let weir := imgSectBytes b 5
  let pwr := imgSectBytes b 7
  let sec := imgSectBytes b 8
  { topo := topo
    tenants := (imgRecords b 2 16).map fun r =>
      (fieldAt r.2 0 1, bitsOf (fieldAt r.2 1 1) 0 1 == 1, fieldAt r.2 2 2, fieldAt r.2 8 8)
    queues := (imgRecords b 3 8).map fun r => (fieldAt r.2 0 2, fieldAt r.2 2 2, fieldAt r.2 4 1, fieldAt r.2 5 1)
    contracts := (imgRecords b 4 32).filterMap fun r => Contract.parse r.2 (fieldAt r.2 14 1) (fieldAt r.2 16 2)
    weirMode := (weir.map fun d => bitsOf (fieldAt d 0 1) 0 1).getD 0
    quanta := match weir with
      | none => defaultQuanta topo
      | some d => (List.range 256).filterMap fun t =>
          let v := fieldAt d (4 + 2 * t) 2
          if v = 0 then none else some (t, v)
    mrc := match imgSectBytes b 6 with
      | none => e.mrc
      | some d => (List.range 7).map fun k => BitVec.ofNat 32 (fieldAt d (4 * k) 4)
    autoIdle := (pwr.map fun d => fieldAt d 0 4).getD 0
    allowed := match pwr with
      | none => []
      | some d => (List.range 256).map fun t => (t, fieldAt d (8 + 2 * t) 2)
    mrcPerm := (sec.map fun d => tenantMap (d.take 32)).getD []
    sealPerm := (sec.map fun d => tenantMap ((d.drop 32).take 32)).getD []
    partnerId := (sec.map fun d => (d.drop 64).take 32).getD e.partnerId
    debugKey := (sec.map fun d => (d.drop 96).take 32).getD e.debugKey
    secFlags := (sec.map fun d => fieldAt d 128 4).getD 0
    glitchLimit := (sec.map fun d => fieldAt d 132 1).getD 4 }

/-! ### Checks (R288, R289, Table 11-5) -/

/-- A check that fails: its code, the refusal reason of check 10, the section's type and the offset in the image. -/
structure ImgFail where
  code : Nat
  reason : Nat
  sect : Nat
  off : Nat
  deriving DecidableEq, Repr

/-- The reply status of a check (Table 11-5). -/
def ImgFail.status (f : ImgFail) : CmdStatus := if f.code = 5 then .authFailed else if f.code = 10 then .refused else .badParam

/-- The first of some tests that fails. -/
def firstBad {α : Type} (ts : List (Bool × α)) : Option α := (ts.find? fun t => t.1).map (·.2)

/-- Checks 1 to 4. -/
def State.headCheck (s : State) (b : List Byte) : Option ImgFail :=
  let n := fieldAt b 6 2
  let len := fieldAt b 12 4
  firstBad
    [(decide (b.length < 64) || fieldAt b 0 4 != 0x47435856, ⟨1, 0, 0, 0⟩), (fieldAt b 5 1 != 1, ⟨1, 0, 0, 4⟩),
     (decide (n < 1) || decide (16 < n), ⟨1, 0, 0, 6⟩),
     (len != b.length || len % 4 != 0 || decide (262144 < len) || decide (len < 132 + 16 * n), ⟨1, 0, 0, 12⟩),
     (fieldAt b 16 4 != 0x4840, ⟨2, 0, 0, 16⟩), (decide (fieldAt b 8 4 ≤ s.cfg.genHigh.toNat), ⟨3, 0, 0, 8⟩),
     (decide ((fwVersion s.cfg.fwRunning).toNat < fieldAt b 20 4), ⟨4, 0, 0, 20⟩)]

/-- Check 6: the sections. -/
def sectCheck (b : List Byte) : Option ImgFail :=
  let ss := (imgSects b).zipIdx
  let body := b.length - 68
  let bad := fun x : Sect × Nat =>
    let at_ := 64 + 16 * x.2
    let m := x.1
    let earlier := ss.filter fun y => decide (y.2 < x.2)
    firstBad
      [(m.off % 8 != 0 || decide (m.off < 64 + 16 * ss.length) || decide (body < m.off + m.len),
          (⟨6, 0, m.typ, at_ + 4⟩ : ImgFail)),
       (earlier.any fun y => decide (m.off < y.1.off + y.1.len ∧ y.1.off < m.off + m.len), ⟨6, 0, m.typ, at_ + 4⟩),
       (earlier.any fun y => y.1.typ == m.typ, ⟨6, 0, m.typ, at_⟩),
       ((m.typ == 0 || decide (8 < m.typ)) && bitsOf m.flags 0 1 == 1, ⟨6, 0, m.typ, at_⟩)]
  match ss.findSome? bad with
  | some f => some f
  | none =>
    match [1, 2].find? fun t => (imgSect b t).isNone with
    | some t => some ⟨6, 0, t, 0⟩
    | none => none

/-- The first field of a record that holds a reserved encoding or a non-zero reserved field, by its offset (check 7). -/
def recordBad (typ : Nat) (r : List Byte) : Option Nat :=
  match typ with
  | 1 => firstBad
      [(!routeOk (BitVec.ofNat 64 (fieldAt r 0 8)), 0), (fieldAt r 8 2 == 0 || decide (4096 ≤ fieldAt r 8 2), 8),
       (fieldAt r 14 1 == 0 || decide (4 ≤ fieldAt r 14 1), 14), (decide (3 ≤ fieldAt r 15 1), 15),
       (decide (8 ≤ fieldAt r 16 1), 16), (fieldAt r 18 2 != 0, 18), (fieldAt r 28 4 != 0, 28)]
  | 2 => firstBad [(decide (2 ≤ fieldAt r 1 1), 1), (fieldAt r 4 4 != 0, 4)]
  | 3 => firstBad [(decide (4 ≤ fieldAt r 5 1), 5), (fieldAt r 6 2 != 0, 6)]
  | 4 => if (Contract.parse r (fieldAt r 14 1) (fieldAt r 16 2)).isNone then some 0 else none
  | 5 => firstBad [(decide (2 ≤ fieldAt r 0 1), 0), (fieldAt r 1 3 != 0, 1)]
  | 6 => (mrcRegs.zipIdx.find? fun x => !x.1.cleanWord (BitVec.ofNat 32 (fieldAt r (4 * x.2) 4))).map fun x => 4 * x.2
  | 7 =>
    if 60000 < fieldAt r 0 4 then some 0
    else if fieldAt r 4 4 ≠ 0 then some 4
    else ((List.range 256).find? fun t => (List.range 16).any fun d =>
      bitsOf (fieldAt r (8 + 2 * t) 2) d 1 == 1 && bitsOf 0x7FC d 1 == 0).map fun t => 8 + 2 * t
  | 8 => firstBad
      [(bitsOf (fieldAt r 128 4) 1 7 != 0 || bitsOf (fieldAt r 128 4) 16 16 != 0, 128),
       (fieldAt r 132 1 == 0 || decide (16 ≤ fieldAt r 132 1), 132), (fieldAt r 133 11 != 0, 133)]
  | _ => none

/-- The record size of a section type (Table 11-4). -/
def recordSize (typ : Nat) : Nat :=
  match typ with | 1 => 32 | 2 => 16 | 3 => 8 | 4 => 32 | 5 => 516 | 6 => 28 | 7 => 520 | 8 => 144 | _ => 1

/-- Check 7: the records, section by section. -/
def recordCheck (b : List Byte) : Option ImgFail :=
  (imgSects b).findSome? fun x =>
    if x.typ = 0 ∨ 8 < x.typ then none
    else
      let n := recordSize x.typ
      let top := if 5 ≤ x.typ then 1 else if x.typ = 1 then 4095 else 65536
      let at_ := 64 + 16 * ((imgSects b).findIdx fun y => y == x)
      if x.len ≠ n * x.count ∨ top < x.count ∨ (5 ≤ x.typ ∧ x.count ≠ 1) then some ⟨7, 0, x.typ, at_ + 12⟩
      else (imgRecords b x.typ n).findSome? fun r => (recordBad x.typ r.2).map fun o => ⟨7, 0, x.typ, x.off + r.1 + o⟩

/-- The offset of a record of a section in the image. -/
def recordOff (b : List Byte) (typ k : Nat) : Nat := ((imgSect b typ).map fun x => x.off + recordSize typ * k).getD 0

/-- A test of each record, with its place in the section; the first that fails. -/
def eachRecord {α : Type} (b : List Byte) (typ : Nat) (rs : List α) (bad : Nat → α → Option Nat) : Option ImgFail :=
  rs.zipIdx.findSome? fun x => (bad x.2 x.1).map fun o => ⟨8, 0, typ, recordOff b typ x.2 + o⟩

/-- Check 8: consistency (R204, R286, R409). -/
def State.consistent (s : State) (b : List Byte) (c : RunCfg) : Option ImgFail :=
  let on := fun t : Nat => c.tenants.any fun x => x.1 == t && x.2.1
  let topo := eachRecord b 1 c.topo fun k e => firstBad
    [((c.topo.take k).any (fun d => decide (e.route.toNat ≤ d.route.toNat)), 0),
     ((c.topo.take k).any (fun d => d.addr == e.addr), 8),
     ((isHubClass e.cls && e.owner != 0) || !on e.owner, 17)]
  let ten := eachRecord b 2 c.tenants fun k x => firstBad
    [((c.tenants.take k).any (fun y => y.1 == x.1), 0), (!x.2.1 && (x.1 == 0 || x.2.2.2 != 0), 1),
     (decide (2240 < ((c.tenants.take (k + 1)).map fun y => y.2.2.1).sum), 2),
     ((c.tenants.take k).any (fun y => (List.range 64).any fun j => bitsOf y.2.2.2 j 1 == 1 && bitsOf x.2.2.2 j 1 == 1), 8)]
  let none0 : Option ImgFail := if on 0 then none else some ⟨8, 0, 2, recordOff b 2 0⟩
  let qs := eachRecord b 3 c.queues fun k x => firstBad
    [(decide (4096 < x.1 + x.2.1), 0),
     ((c.queues.take k).any (fun y => decide (x.1 < y.1 + y.2.1 ∧ y.1 < x.1 + x.2.1)), 0), (!on x.2.2.1, 4)]
  let cons := eachRecord b 4 c.contracts fun k x => firstBad
    [((c.contracts.take k).any (fun y => y.id == x.id), 16), (!on x.tenant, 14)]
  let owns := fun t : Nat => c.topo.any fun e => e.owner == t
  let q := fun t : Nat => Tab.getD c.quanta t 0
  let weir := ((List.range 256).find? fun t =>
    (q t != 0 && (decide (q t < 256) || decide (65535 < q t))) || (q t == 0 && owns t)).map
      fun t => (⟨8, 0, 5, recordOff b 5 0 + 4 + 2 * t⟩ : ImgFail)
  let blk := b.drop (b.length - 68)
  let key := fieldAt blk 0 4
  let revoke := bitsOf c.secFlags 8 8
  let left := (List.range 8).any fun k => bitsOf (s.getF Fld.secStatusCfgKeyValid 0) k 1 == 1 && bitsOf revoke k 1 == 0
  let sec : Option ImgFail := if (imgSect b 8).isSome && ((decide (key < 8) && bitsOf revoke key 1 == 1) || !left) then
      some ⟨8, 0, 8, recordOff b 8 0 + 128⟩ else none
  [topo, none0, ten, qs, cons, weir, sec].findSome? id

/-- A place as an image declares it, with the descriptors that have been read from the device there, where it is of the entry's
class (R50, R92). -/
def State.imgPlace (s : State) (e : TopoEntry) : Place :=
  let old := s.placeAt e.route
  let p := { Place.ofTopo e with present := true }
  if old.cls = e.cls then { p with desc := old.desc, hub := old.hub } else p

/-- A chip as an image describes it: its devices at their places, its queue pairs and shares granted, its Millrace bounds,
and nothing in use (R289). -/
def State.asImage (s : State) (c : RunCfg) : State :=
  let s0 := { s with
    places := [], eps := [], qps := [], pools := []
    alm := { s.alm with contracts := [], pend := [], floor := 250000, quanta := [], mode := [] }
    cfg := { s.cfg with shadow := c } }
  let s1 := c.topo.foldl (fun m e => m.setPlace (s.imgPlace e)) s0
  let s2 := c.queues.foldl (fun s x => (List.range x.2.1).foldl (fun s k =>
    s.modQp (x.1 + k) fun v => { v with owner := some x.2.2.1, homeQuad := x.2.2.2 }) s) s1
  let s3 := (List.range 256).foldl (fun s t =>
    (s.setF Fld.tenWeirQuotaQuantum t (Tab.getD c.quanta t 0)).setF Fld.tenCisShareUnits t
      (((c.tenants.find? fun x => x.1 == t).map fun x => x.2.2.1).getD 0)) s2
  (mrcRegs.zip c.mrc).foldl (fun s x => s.setReg x.1 0 x.2) (s3.setF Fld.gblWeirCtrlMode 0 c.weirMode)

/-- Check 10: every contract passes R88 and fits its owner's share, and the whole set is placed (R88, R92, R95, R110). -/
def State.imgAdmit (s : State) (c : RunCfg) : Except Nat (List Contract × Nat) :=
  let m := s.asImage c
  let one := c.contracts.zipIdx.findSome? fun x => m.conCheck (c.contracts.take x.2) none x.1
  match one with
  | some r => .error r
  | none =>
    match m.fullCompile c.contracts m.floorLimit (c.weirMode == 1) with
    | .error r => .error r
    | .ok r =>
      let used := fun t => ((c.contracts.filter fun k => k.tenant == t).map Contract.areaBytes).sum
      if (List.range 256).any fun t => decide (m.getF Fld.tenCisShareUnits t * 4096 < used t) then .error 12 else .ok r

/-- Check 9: the Millrace record against the image's floor (R77). -/
def State.imgMillrace (s : State) (c : RunCfg) : Bool :=
  let m := s.asImage c
  let floor := match s.imgAdmit c with | .ok r => r.2 | .error _ => 250000
  State.mrcOk { m with alm := { m.alm with floor := floor } } c.mrc

/-- The checks of Table 11-5 in order, and the floor where all pass (R289). -/
def State.imgCheck (s : State) (b : List Byte) : Except ImgFail Nat :=
  let c := RunCfg.ofImage b
  match s.headCheck b with
  | some f => .error f
  | none =>
  if !s.signed b false then .error ⟨5, 0, 0, b.length - 68⟩
  else match sectCheck b with
  | some f => .error f
  | none => match recordCheck b with
  | some f => .error f
  | none => match s.consistent b c with
  | some f => .error f
  | none =>
    if !s.imgMillrace c then .error ⟨9, 0, 6, recordOff b 6 0⟩
    else match s.imgAdmit c with
    | .error r => .error ⟨10, r, 4, recordOff b 4 0⟩
    | .ok r => .ok r.2

/-- An image verifies under R408, as the Watchman checks a slot at start or before a rollback. -/
def State.imgVerified (s : State) (b : List Byte) : Bool :=
  decide (132 ≤ b.length) && fieldAt b 0 4 == 0x47435856 && s.signed b false

end Sys2Proof.Machine
end

