-- ==== Sys2Proof/Machine/Crier.lean ====
section
/-!
DEFINITION. The Crier: sources, engines and level shims, GPIO events, and the host side of its causes (13, 18 R447).
-/
namespace Sys2Proof.Machine

/-! ### Sources, engines and shims (R325 to R333) -/

/-- The source has a level shim (Table 13-1). -/
def isLevel (i : Nat) : Bool := decide (0x3C0 ≤ i)

/-- A source (Table 13-2). -/
def State.src (s : State) (i : Nat) : Src :=
  let c := Config.crierSource i
  Tab.getD s.cri.srcs i (if s.cri.set_ then ⟨c.1, c.2.1 % 16, c.2.2 % 12, false, false⟩ else ⟨false, 0, 0, false, false⟩)

/-- Change a source. -/
def State.modSrc (s : State) (i : Nat) (f : Src → Src) : State :=
  { s with cri := { s.cri with srcs := Tab.set s.cri.srcs i (f (s.src i)) } }

/-- An engine as the Crier sees it. -/
def State.eng (s : State) (e : Nat) : Eng :=
  Tab.getD s.cri.engs e ⟨if s.cri.set_ then Config.crierThreshold e % 16 else 0, [], 0⟩

/-- Change an engine. -/
def State.modEng (s : State) (e : Nat) (f : Eng → Eng) : State :=
  { s with cri := { s.cri with engs := Tab.set s.cri.engs e (f (s.eng e)) } }

/-- A level shim. -/
def State.shim (s : State) (i : Nat) : Shim :=
  Tab.getD s.cri.shims i ⟨.idle, if s.cri.set_ then Config.shimPolarity i else true, false⟩

/-- Change a level shim. -/
def State.modShim (s : State) (i : Nat) (f : Shim → Shim) : State :=
  { s with cri := { s.cri with shims := Tab.set s.cri.shims i (f (s.shim i)) } }

/-- Firmware sets the sources, the engines and the shims at start-up; what has been sensed stays PENDING and is judged now
(R326, R327). -/
def State.crierSet (s : State) : State :=
  { s with cri := { s.cri with
    set_ := true
    srcs := Tab.mapVal s.cri.srcs fun i x =>
      let c := Config.crierSource i
      { x with enabled := c.1, prio := c.2.1 % 16, target := c.2.2 % 12 }
    engs := Tab.mapVal s.cri.engs fun e g => { g with threshold := Config.crierThreshold e % 16 }
    shims := Tab.mapVal s.cri.shims fun i h => { h with polarity := Config.shimPolarity i } } }

/-- RUNNING: the priority of the most recently claimed source that is still ACTIVE (R328). -/
def Eng.running (e : Eng) : Nat := (e.stack.head?.map (·.2)).getD 0

/-- A source is eligible for an engine (R328); an ACTIVE source is not until its end of interrupt (R327). -/
def State.eligible (s : State) (e : Nat) (x : Src) : Bool :=
  x.enabled && x.pending && !x.active && x.target == e && decide ((s.eng e).threshold < x.prio) &&
    decide ((s.eng e).running < x.prio)

/-- The better of two choices: the higher priority, then the lower number (R329). -/
def better (a b : Nat × Src) : Nat × Src :=
  if a.2.prio < b.2.prio ∨ (a.2.prio = b.2.prio ∧ b.1 < a.1) then b else a

/-- The source that R329 chooses for an engine. -/
def State.chosen (s : State) (e : Nat) : Option (Nat × Src) :=
  match s.cri.srcs.filter fun x => s.eligible e x.2 with
  | [] => none
  | x :: r => some (r.foldl better x)

/-- Signal an engine while a source is eligible for it (R328). -/
def State.signalEng (s : State) (e : Nat) : State := if (s.chosen e).isSome then s.emit (.engineSignal e) else s

/-- CRIER_DOORBELL (R327). -/
def execCrierDoorbell (src : Fin 1024) (s : State) : Host.Outcome State Fault Refusal :=
  done ((s.modSrc src fun x => { x with pending := true }).signalEng (s.src src).target)

/-- SHIM_WITHDRAWAL (R333): one that reaches the Crier after the claim has no effect. -/
def execShimWithdrawal (src : Fin 1024) (s : State) : Host.Outcome State Fault Refusal :=
  done (if isLevel src && !(s.src src).active then s.modSrc src fun x => { x with pending := false } else s)

/-- A spurious interrupt is counted, up to 255 (R330, R331, Table 13-6). -/
def Eng.spur (e : Eng) : Eng := { e with spurious := min 255 (e.spurious + 1) }

/-- The word of a claim register (R330). -/
def claimWord (i prio : Nat) : Word := BitVec.ofNat 32 (i % 1024 + 1024 * (prio % 16) + 2 ^ 31)

/-- ENGINE_CLAIM_READ (R330). -/
def execEngineClaimRead (e : Fin 12) (s : State) : Host.Outcome State Fault Refusal :=
  done (match s.chosen e with
    | none => (s.modEng e Eng.spur).emit (.claim e 0)
    | some (i, x) =>
      let s1 := (s.modSrc i fun x => { x with pending := false, active := true }).modEng e fun g =>
        { g with stack := (i, x.prio) :: g.stack }
      let s2 := if isLevel i && (s1.shim i).state = .sent then s1.modShim i fun h => { h with state := .claimed } else s1
      s2.emit (.claim e (claimWord i x.prio)))

/-- The signal of a shim is at its active level. -/
def Shim.isActive (h : Shim) : Bool := h.level == h.polarity

/-- A shim goes from one state to another, and sends a doorbell where that is `Sent`, or a withdrawal where it was (Table 13-3). -/
def State.shimGoes (s : State) (i : Nat) (h : Shim) (st : ShimState) : State :=
  let s1 := s.modShim i fun _ => { h with state := st }
  if h.state ≠ .sent ∧ st = .sent then s1.emit (.shimDoorbell i)
  else if h.state = .sent ∧ st = .idle then s1.emit (.shimWithdrawal i)
  else s1

/-- END_OF_INTERRUPT (R331): a level source's shim samples its signal again (R333). -/
def execEndOfInterrupt (e : Fin 12) (src : Fin 1024) (s : State) : Host.Outcome State Fault Refusal :=
  done (match (s.eng e).stack with
    | (i, _) :: rest =>
      if i = src.val then
        let s1 := (s.modSrc i fun x => { x with active := false }).modEng e fun g => { g with stack := rest }
        let s2 := if isLevel i && (s1.shim i).state = .claimed then
            s1.shimGoes i (s1.shim i) (if (s1.shim i).isActive then .sent else .idle)
          else s1
        s2.signalEng e
      else s.modEng e Eng.spur
    | [] => s.modEng e Eng.spur)

/-- ENGINE_SLEEP_WAKE (R332): the engine waits in its sleep instruction; a source that targets it, ENABLED and PENDING with
a priority of 1 or more, lets it go on. -/
def execEngineSleepWake (e : Fin 12) (s : State) : Host.Outcome State Fault Refusal :=
  done (if s.cri.srcs.any fun x => x.2.enabled && x.2.pending && x.2.target == e.val && decide (1 ≤ x.2.prio) then
      s.emit (.engineResume e)
    else s)

/-! ### GPIO (R447) and level signals (R333) -/

/-- The levels at the GPIO pins: what drives each is the chip where OE is set, low only where OD is set too, else the
board (Tables 18-18 to 18-20). -/
def State.gpioLevel (s : State) : Half :=
  let oe : Half := (s.reg .gblGpioCfg 0).setWidth 16
  let od : Half := ((s.reg .gblGpioCfg 0) >>> 16).setWidth 16
  let out : Half := (s.reg .gblGpioOut 0).setWidth 16
  (oe &&& ~~~od &&& out) ||| (oe &&& od &&& out &&& s.pins.gpioIn) ||| (~~~oe &&& s.pins.gpioIn)

/-- Levels of GPIO pins have changed since a state: CHANGED is set for pins with EVT_EN, and its rise raises the cause to
T0 (R447). -/
def State.gpioEvents (s before : State) : State :=
  let moved := (s.gpioLevel ^^^ before.gpioLevel) &&& ((s.reg .gblGpioEvt 0).setWidth 16)
  let was : Half := ((s.reg .gblGpioEvt 0) >>> 16).setWidth 16
  if moved = 0 then s
  else
    let s1 := s.setF Fld.gblGpioEvtChanged 0 (was ||| moved).toNat
    if moved &&& ~~~was = 0 then s1 else s1.raise 0 16

/-- LEVEL_SIGNAL_CHANGE (R333): the filtered level of a level source; of the pins, GPIOn is source 0x3E8 + n. -/
def execLevelSignalChange (src : Fin 1024) (level : Bool) (s : State) : Host.Outcome State Fault Refusal :=
  let i := src.val
  done (if !isLevel i then s
    else
      let h := { s.shim i with level := level }
      let s1 := s.shimGoes i h (if h.state = .claimed then .claimed else if h.isActive then .sent else .idle)
      if 0x3E8 ≤ i ∧ i < 0x3F8 then
        let b := bitsMask (i - 0x3E8) 1
        let m : Half := b.setWidth 16
        let lv := if level then s1.pins.gpioIn ||| m else s1.pins.gpioIn &&& ~~~m
        State.gpioEvents { s1 with pins := { s1.pins with gpioIn := lv } } s1
      else s1)

/-! ### The host side (R335, R337) -/

/-- Enabling a cause that is already set sends a message; when several are enabled at once the set gains members once for
each vector concerned (R335). -/
def State.enableCauses (s : State) (t : Nat) (old new : Word) : State :=
  let gained := s.reg .criCause t &&& new &&& ~~~old &&& ~~~(bitsMask 9 1)
  let vecs := ((List.range 17).filter fun b => gained.getLsbD b).map (s.causeVector t)
  vecs.dedup.foldl (fun s v => s.msix t v) s

/-- A write of CRI_CAUSE_EN. -/
def State.causeEnWrite (s : State) (t : Nat) (v hw : Word) : State :=
  let old := s.reg .criCauseEn t
  let m := s.mergeReg t 0x204 .criCauseEn t v hw
  (m.2.setReg .criCauseEn t m.1).enableCauses t old m.1

/-- CAUSE_ENABLE_WRITE (R335). -/
def execCauseEnableWrite (t : Fin 256) (v : Word) (s : State) : Host.Outcome State Fault Refusal :=
  done (s.gated t 0x204 fun s => s.causeEnWrite t v 0)

/-- The Vohus sends the one message that waited while a vector was masked (R337). -/
def State.vecRelease (s : State) (t vec : Nat) : State :=
  let v := Tab.getD s.pcie.vecs (64 * t + vec) ⟨0, 0, true, false⟩
  if v.pend && !v.mask && !Tab.getD s.pcie.fnMask t false && !Tab.getD s.pcie.d3 t false &&
      Tab.getD s.pcie.msixEnable t true && !s.flrBusy t && s.exists_ t then
    { s with pcie := { s.pcie with vecs := Tab.set s.pcie.vecs (64 * t + vec) { v with pend := false } } }.emit (.msix t vec)
  else s

/-- Unmask a vector of a function. -/
def State.unmask (s : State) (t vec : Nat) : State :=
  let v := Tab.getD s.pcie.vecs (64 * t + vec) ⟨0, 0, true, false⟩
  { s with pcie := { s.pcie with vecs := Tab.set s.pcie.vecs (64 * t + vec) { v with mask := false } } }.vecRelease t vec

/-- MSIX_VECTOR_UNMASK (R337): a VF has eight vectors. -/
def execMsixVectorUnmask (t : Fin 256) (vec : Fin 64) (s : State) : Host.Outcome State Fault Refusal :=
  done (if t.val ≠ 0 ∧ 8 ≤ vec.val then s
    else s.gated t (0x1000 + 16 * vec + 12) fun s => s.unmask t vec)

end Sys2Proof.Machine
end

