-- ==== Sys2Proof/Machine/TxCore.lean ====
section
/-!
DEFINITION. Transactions on the links: endpoints as transactions see them, the time of a start, the packets that open a
transaction, and transaction errors (02 R37 to R41, R49 to R52, 04 R104 to R109, 12 R314).
-/
namespace Sys2Proof.Machine

/-! ### Endpoints and places -/

/-- The address under which an endpoint's toggle and error count are kept: devices at address 0 are told apart by their
root link (R197). -/
def txAddr (l addr : Nat) : Nat := if addr = 0 then 4096 + l else addr

/-- The place of the device that a transaction on a link addresses. -/
def State.txPlace (s : State) (l addr : Nat) : Option Place :=
  if addr = 0 then (s.attachment l).find? Place.atZero else s.placeOf addr

/-- An endpoint direction as a transaction sees it. -/
def State.tep (s : State) (l addr ep : Nat) (dirIn : Bool) : Ep := s.ep (txAddr l addr) ep dirIn

/-- Change an endpoint direction as a transaction sees it. -/
def State.modTep (s : State) (l addr ep : Nat) (dirIn : Bool) (f : Ep → Ep) : State := s.modEp (txAddr l addr) ep dirIn f

/-- The maximum packet size of an endpoint direction; 8 on endpoint 0 until the first 8 bytes of the descriptor are known
(R37, Table 8-8). -/
def State.txMps (s : State) (l addr ep : Nat) (dirIn : Bool) : Nat :=
  let e := s.ep addr ep dirIn
  if e.isOpen then e.mps
  else if ep = 0 then
    match s.txPlace l addr with
    | none => 8
    | some p => if p.desc = [] then (if addr = 0 then 8 else 64) else max 1 p.ep0Mps
  else max 1 e.mps

/-- The root link of an entry's device. -/
def State.entryLink (s : State) (e : Entry) : Option Nat := (s.entryPlace e).map fun p => routeLink p.route

/-- The device of an entry answers (R98, R197). -/
def State.entryAnswers (s : State) (e : Entry) : Bool :=
  match s.entryPlace e with
  | none => false
  | some p => if e.addr = 0 then p.atZero else p.served

/-! ### Room on a link (R39, R53) -/

/-- The transactions outstanding on a link. -/
def State.outstanding (s : State) (l : Nat) : List Txn := s.txns.filter fun x => x.link == l && x.outstanding

/-- The lowest free TAG of a link: eight on an H link, one transaction at a time on a pair and in format S (R39). -/
def State.freeTag (s : State) (l : Nat) : Option Nat :=
  let used := s.outstanding l
  if l % 2 = 0 ∧ s.fmtE l then (List.range 8).find? fun k => !used.any fun x => x.tag == k
  else if used.isEmpty then some 0 else none

/-- After a takeover the endpoint direction still waits for its CLEAR_FEATURE ENDPOINT_HALT (step 7 of R391). -/
def State.uncleared (s : State) (addr ep : Nat) (dirIn : Bool) : Bool :=
  addr != 0 && ep != 0 && (s.ep addr ep dirIn).cleared != s.twn.clears

/-- A transaction of an endpoint direction is outstanding or, for a split, waits for its next step; or the endpoint is not yet
to be used. -/
def State.epTaken (s : State) (l addr ep : Nat) (dirIn : Bool) : Bool :=
  s.uncleared addr ep dirIn || s.txns.any fun x => x.link == l && x.addr == addr && x.ep == ep && x.dirIn == dirIn

/-- A transaction of an endpoint direction is outstanding (R39). -/
def State.epOut (s : State) (l addr ep : Nat) (dirIn : Bool) : Bool :=
  s.txns.any fun x => x.link == l && x.addr == addr && x.ep == ep && x.dirIn == dirIn && x.outstanding

/-- A link can carry a new transaction: it is active, its outbound direction does not drowse, no HALT token is still to
be sent on it, no device packet is arriving on a pair, and it has had its first SOF after a resume (R53, R64, R221, R239).
A standby sends nothing (R384). -/
def State.linkFree (s : State) (l : Nat) : Bool :=
  s.linkUp l && s.role != 1 && s.role != 3 && !(l % 2 == 0 && s.bit Fld.prtLaneStatusHTxDrowse (l / 2)) && !s.halt.due.contains l &&
  !(s.link l).arriving && !(s.link l).resume && (s.freeTag l).isSome

/-! ### Time (R17, R38, R105, R109, R314) -/

/-- The tick at which the running beat began. -/
def State.beatTick (s : State) : Nat := (s.beatStartTick s.time.beat).toNat

/-- The length of the running beat. -/
def State.beatLen (s : State) : Nat := s.time.start.toNat + (s.time.beat + 1) * s.time.len / 8 - s.beatTick

/-- The end of the running beat's planned time (R38). -/
def State.plannedEnd (s : State) : Nat := s.beatTick + s.beatLen * 95 / 100

/-- The Weir runs in strict mode (R107). -/
def State.strict (s : State) : Bool := s.bit Fld.gblWeirCtrlMode 0

/-- The key of a link's direction; a pair has one. -/
def busyKey (l : Nat) (inbound : Bool) : Nat := 2 * l + (if inbound && l % 2 == 0 then 1 else 0)

/-- A compiled slot of a quad, whether or not it sends, starts in the turn that begins at a tick and takes it (R314). -/
def State.turnTaken (s : State) (quad turn : Nat) : Bool :=
  (s.frames.headD ⟨0, []⟩).slots.any fun x =>
    quadOf x.slot.port == quad && decide (turn ≤ s.slotTick 0 x.slot ∧ s.slotTick 0 x.slot < turn + 25)

/-- The first of a port's turns from one on that no slot takes, among as many as there are slots (R314). -/
def State.freeTurn (s : State) (quad : Nat) : Nat → Nat → Nat
  | 0, turn => turn
  | n + 1, turn => if s.turnTaken quad turn then s.freeTurn quad n (turn + 100) else turn

/-- The earliest tick for a start on a link's direction: after the quad's last start, after what was started there, and
in strict mode in the port's next turn that no slot takes (R17, R38, R314). -/
def State.startTick (s : State) (l : Nat) (inbound : Bool) : Nat :=
  let quad := quadOf (portOf l)
  let e := max s.now.toNat (max (Tab.getD s.alm.starts quad 0) (Tab.getD s.alm.busy (busyKey l inbound) 0))
  if s.strict then
    let i := portOf l % 4 * 25
    let past := e - s.beatTick
    s.freeTurn quad (s.frames.headD ⟨0, []⟩).slots.length
      (if past ≤ i then s.beatTick + i else s.beatTick + i + (past - i + 99) / 100 * 100)
  else e

/-- The turnaround timeout that must end in time on a pair (R40). -/
def State.pairWait (s : State) (l : Nat) : Nat :=
  if l % 2 = 0 then 0 else if s.getF Fld.prtLaneStatusPSpeed (l / 2) = 1 then 50000 else 8000

/-- The window of a tenant on a port: its first and last tick (R109). -/
def State.window (s : State) (port t : Nat) : Nat × Nat :=
  let res := resMax s.alm.contracts port
  let len := fun t : Nat => s.windowLen (fun t => s.getF Fld.tenWeirQuotaQuantum t) port res (s.beatLen * 95 / 100) t
  let before := (((s.ownersBelow port).filter fun u => decide (u < t)).map len).sum
  (s.beatTick + res + before, s.beatTick + res + before + len t)

/-- The compiled slots of the running beat that have not departed. -/
def State.slotsLeft (s : State) : List Slot :=
  ((s.frames.headD ⟨0, []⟩).slots.filter fun x => !x.gone && x.slot.beat == s.time.beat).map (·.slot)

/-- A charge from a tick fits: in shared mode before the planned end and before every later slot of the link in the beat, and
25 main clocks before every later slot of the quad, whose start it would otherwise hold up; in strict mode inside the tenant's
window (R17, R105, R109). -/
def State.fits (s : State) (l t start chg : Nat) : Bool :=
  let fin := start + chg + s.pairWait l
  if s.strict then
    let w := s.window (portOf l) t
    decide (w.1 ≤ start) && decide (fin ≤ w.2)
  else
    let here := fun x : Slot => x.port == portOf l && x.pair == (l % 2 == 1)
    decide (start + chg ≤ s.plannedEnd) && s.slotsLeft.all fun x =>
      let k := s.slotTick 0 x
      decide (k < start) || (if here x then decide (fin ≤ k) else quadOf x.port != quadOf (portOf l) || decide (start + 25 ≤ k))

/-- A start at a tick: bus time has come to it, the quad's next start is 25 main clocks later, and the charge falls on the
direction (R17, R38). -/
def State.took (s : State) (l : Nat) (inbound : Bool) (start chg : Nat) : State :=
  let s1 := s.upTo (BitVec.ofNat 64 start)
  { s1 with alm := { s1.alm with
    starts := Tab.set s1.alm.starts (quadOf (portOf l)) (start + 25)
    busy := Tab.set s1.alm.busy (busyKey l inbound) (start + chg) } }

/-! ### Opening packets (R29 to R31, R42, R43, R49, R52) -/

/-- How a device is reached: directly, or through its translator with hub address, hub port and L speed (R31, R49). -/
def State.splitOf (s : State) (p : Place) : Option (Place × Nat) :=
  (s.translator p).map fun h => (h, (hopsOf p.route).getD (hopsOf h.route).length 0)

/-- A transaction to the device of a place, in its opening phase. -/
def State.openTxn (s : State) (p : Place) (addr ep : Nat) (dirIn : Bool) (kind : TxKind) (work : TxWork)
    (bytes : List Byte) : Txn :=
  let l := routeLink p.route
  match s.splitOf p with
  | none => ⟨l, 0, addr, ep, dirIn, kind, .direct, work, bytes, 0, 0, 0, false, 0, 0, true, false⟩
  | some h => ⟨l, 0, addr, ep, dirIn, kind, .start, work, bytes, 0, h.1.addr, h.2, p.speed == 1, 0, 0, true, false⟩

/-- The KIND of a token below a translator (R31). -/
def State.kindCode (s : State) (x : Txn) : Nat :=
  match x.kind with
  | .strikeTok | .disarm | .retract => 3
  | .setup => 0
  | _ =>
    if x.ep = 0 then 0
    else match x.work with
      | .standing _ => 2
      | .keeper _ => 2
      | .entry q idx => match (s.qp q).entry idx with
        | some e => if e.kind = .periodic then 2 else 1
        | none => 1

/-- The strike of a transaction. -/
def State.txEntry (s : State) (x : Txn) : Option Entry :=
  match x.work with
  | .entry q idx => (s.qp q).entry idx
  | _ => none

/-- The speed at which the packets of a transaction go: the target's own on a pair (R235). -/
def State.txSpeed (s : State) (x : Txn) : Nat :=
  if x.link % 2 = 0 then 3 else ((s.txPlace x.link x.addr).map (·.speed)).getD (s.linkSpeed x.link)

/-- A byte of the payload of an entry's transaction has been on the bus (R180). -/
def State.markSent (s : State) (x : Txn) : State :=
  match x.work with
  | .entry q idx => if x.kind ≠ .setup ∧ x.bytes ≠ [] then s.modEntry q idx fun e => { e with sent := true } else s
  | _ => s

/-- The token of a transaction, and its data packet where the phase carries one. -/
def State.sendPackets (s : State) (x : Txn) : State :=
  let l := x.link
  let fmt := s.fmtE l
  let e := s.txEntry x
  let seq := (e.map (·.seq)).getD 0
  let sp : Option SplitTok :=
    if x.phase = .direct then none
    else some ⟨x.splitHub, x.splitPort, x.phase = .complete, x.low, s.kindCode x⟩
  let token := match x.kind with
    | .inTok => tokenPkt fmt .inTok x.addr x.ep x.tag sp
    | .outTok => tokenPkt fmt .out x.addr x.ep x.tag sp
    | .setup => tokenPkt fmt .setup x.addr x.ep x.tag sp
    | .strikeTok => strikePkt x.addr x.ep x.tag seq sp ((e.map s.actField).getD 0)
    | .disarm => disarmPkt x.addr x.ep x.tag seq sp
    | .retract => retractPkt x.splitHub x.tag ((e.map (·.addr)).getD 0) ((e.map (·.ep)).getD 0) seq
  let s1 := s.emit (.packet (portOf l) (sideOf l) (s.txSpeed x) token)
  let carries := x.phase ≠ .complete && (x.kind = .outTok || x.kind = .setup || x.kind = .strikeTok)
  let toggle := x.kind ≠ .setup && (s.tep l x.addr x.ep x.dirIn).toggle
  if carries then (s1.markSent x).emit (.packet (portOf l) (sideOf l) (s.txSpeed x) (dataPkt fmt toggle x.tag x.bytes)) else s1

/-- The direction on which a transaction's charge falls: inbound where it brings payload in (R38). -/
def Txn.inward (x : Txn) : Bool := x.kind = .inTok && x.phase ≠ .start

/-- The charge of a transaction that may bring in up to `mps` bytes (R38, Table 2-8, Table 4-3). A STRIKE's token is 9 bytes
longer than another, on a pair as below a translator (log entry 21). -/
def State.txCharge (s : State) (x : Txn) (mps : Nat) : Nat :=
  let pay :=
    if x.kind = .inTok then (if x.phase = .start then 0 else mps)
    else if x.phase = .complete then 0 else x.bytes.length
  if x.link % 2 = 1 then charge (((s.txPlace x.link x.addr).map (·.speed)).getD 2) (if x.kind = .strikeTok then pay + 9 else pay)
  else if x.kind = .strikeTok && x.phase ≠ .complete then pay + 129
  else pay + 120

/-- The inbound direction of an H link drowses, so that a token that calls for a response waits for its exit (R240). -/
def State.rxDrowses (s : State) (l : Nat) : Bool := l % 2 == 0 && s.bit Fld.prtLaneStatusHRxDrowse (l / 2)

/-- There has been traffic on a link, and on the F/L port of the hub below which a device stands (R221). -/
def State.traffic (s : State) (l addr : Nat) : State :=
  let s1 := s.modLink l fun k => { k with idleFrames := 0 }
  match s.txPlace l addr with
  | none => s1
  | some p => { s1 with places := Tab.mapVal s1.places fun _ (h : Place) =>
      if h.idleFrames != 0 && (pathOf p.route).contains h.route then { h with idleFrames := 0 } else h }

/-- A transaction takes a TAG at a tick, its packets leave, and it is outstanding (R39). Below a drowsing inbound direction its
packets wait for the exit that WAKE_REQ asks for (R240). -/
def State.launchOn (s : State) (x : Txn) (start : Nat) : State :=
  match s.freeTag x.link with
  | none => s
  | some tag =>
    let y := { x with tag := tag, outstanding := true, unsent := s.rxDrowses x.link }
    let mps := s.txMps x.link x.addr x.ep x.dirIn
    let s1 := s.took x.link y.inward start (s.txCharge y mps)
    let s2 := (if y.unsent then s1 else s1.sendPackets y).traffic x.link x.addr
    { s2 with txns := s2.txns ++ [y] }

/-- What a transaction of an entry reads in the cistern, with whether a word is beyond correction (R190). -/
def State.readWork (s : State) (x : Txn) : State × Bool :=
  match x.work with
  | .entry q idx => match (s.qp q).entry idx with
    | some e => s.readFor q e (x.kind = .outTok || x.kind = .strikeTok)
    | none => (s, false)
  | _ => (s, false)

/-- Start a transaction at a tick, once what it reads in the cistern is sound (R39, Table 7-8). -/
def State.launch (s : State) (x : Txn) (start : Nat) : State :=
  let r := s.readWork x
  if r.2 then r.1 else r.1.launchOn x start

/-- The translator has a buffer for another start split (R50). A start split that was given up, or that is to be repeated after
the limit of NYETs, counts no more (log entry 125). -/
def State.bufferFree (s : State) (x : Txn) : Bool :=
  x.phase ≠ .start ||
  decide ((s.txns.filter fun y => y.link == x.link && y.splitHub == x.splitHub && y.phase ≠ .direct &&
    !(decide (y.phase = .start) && !y.outstanding) && y.kind ≠ .retract).length < s.nbuf x.splitHub)

/-! ### Errors (R41, R51, R56) -/

/-- Replace a transaction by another, or drop it. -/
def State.swapTxn (s : State) (x : Txn) (y : Option Txn) : State :=
  { s with txns := (s.txns.filter fun z => !decide (z = x)) ++ y.toList }

/-- A correct response resets the error count (R41). -/
def State.okTxn (s : State) (x : Txn) : State := s.modTep x.link x.addr x.ep x.dirIn fun e => { e with errs := 0 }

/-- What is left of a transaction after an error below the fourth: a split keeps its place in Table 2-12, and anything
else is tried again by whatever starts it. -/
def Txn.afterError (x : Txn) : Option Txn :=
  match x.phase with
  | .direct => if x.kind = .retract then some { x with outstanding := false } else none
  | .start => some { x with outstanding := false, beats := 0 }
  | .wait => some { x with outstanding := false }
  | .complete => some { x with outstanding := false, phase := .wait, beats := 0 }

/-- Whether a STRIKE sent again from a tick ends, with its complete splits, by C − GUARD_BEATS beats (R129). -/
def State.canResend (s : State) (e : Entry) (start : Nat) : Bool :=
  let bl := s.time.len / 8
  let chg := match s.strikePlace e with
    | some p => if routePair p.route then charge p.speed (e.len + 9) else e.len + 129
    | none => e.len + 129
  decide (start + chg + (s.splitBeats e + e.guard) * bl ≤ e.commitAt.toNat)

/-- The STRIKE transactions of an entry, and those of them that the device or its translator may be taking now. -/
def State.strikeTxns (s : State) (q : Nat) (idx : Half) (open_ : Bool) : List Txn :=
  s.txns.filter fun x => decide (x.work = .entry q idx) && decide (x.kind = .strikeTok) &&
    (!open_ || x.outstanding || decide (x.phase ≠ .start))

/-- A staged strike that no device can hold and that cannot be sent again in time ends with NOT_STAGED (R129). -/
def State.strikeLost (s : State) (q : Nat) (idx : Half) : State :=
  match (s.qp q).entry idx with
  | none => s
  | some e =>
    let start := match s.strikePlace e with
      | some p => s.startTick (routeLink p.route) false
      | none => s.now.toNat
    if e.kind = .strike && e.phase = .started && e.strike = .staged && !e.maybeHeld && (s.strikeTxns q idx true).isEmpty &&
        !s.canResend e start then
      let stay := fun x : Txn => !(decide (x.work = .entry q idx) && decide (x.kind = .strikeTok))
      { s with txns := s.txns.filter stay }.endStrike q idx .notStaged
    else s

/-- What an error means for the strike of a transaction: its data packet may have been accepted, or its DISARM is to be sent
again (R129, R134). -/
def State.strikeError (s : State) (x : Txn) : State :=
  match x.work with
  | .entry q idx => s.modEntry q idx fun e =>
      if x.kind = .strikeTok then { e with maybeHeld := e.maybeHeld || !x.unsent }
      else if x.kind = .disarm && x.phase = .direct then { e with wAgain := true }
      else e
  | _ => s

/-! ### The keeper's transfers (R47, R198, R202) -/

/-- A transaction belongs to a transfer of the keeper that is not over. -/
def KReq.owns (k : KReq) (x : Txn) : Bool :=
  (match x.work with | .keeper r => k.route == r | _ => false) && k.link == x.link && k.addr == x.addr && k.ep == x.ep &&
    decide (k.stage < 3)

/-- The keeper's transfer that a transaction serves. -/
def State.kreq (s : State) (x : Txn) : Option KReq := s.keeper.find? fun k => k.owns x

/-- Change the keeper's transfer that a transaction serves. -/
def State.modKreq (s : State) (x : Txn) (f : KReq → KReq) : State :=
  { s with keeper := s.keeper.map fun k => if k.owns x then f k else k }

/-- The keeper's transfer is over. A read of a status endpoint leaves nothing behind, nor does CLEAR_FEATURE, which returns the
toggle to DATA0 and is sent again where it failed (R391). -/
def State.kreqOver (s : State) (x : Txn) (ok : Bool) : State :=
  let gone := fun s : State => { s with keeper := s.keeper.filter fun k => !k.owns x }
  match (s.kreq x).bind KReq.clears with
  | some e => gone (if ok then s.modEp x.addr e.1 e.2 fun p => { p with toggle := false, cleared := s.twn.clears } else s)
  | none => if x.ep = 0 then s.modKreq x fun k => { k with stage := 3, ok := ok } else gone s

/-- The length of the data stage. -/
def KReq.len (k : KReq) : Nat := fieldAt k.setup 6 2

/-- The keeper's request has moved past a stage: to its data stage or its status stage, whose packets begin with DATA1
(Table 2-11). -/
def State.kreqNext (s : State) (x : Txn) : State :=
  match s.kreq x with
  | none => s
  | some k =>
    if x.kind = .setup then
      (((s.modTep x.link x.addr 0 true fun p => { p with toggle := true }).modTep x.link x.addr 0 false fun p =>
        { p with toggle := true })).modKreq x fun k => { k with stage := if k.len = 0 then 2 else 1 }
    else if k.stage = 1 then
      (s.modTep x.link x.addr 0 false fun p => { p with toggle := true }).modKreq x fun k => { k with stage := 2 }
    else s.kreqOver x true

/-- The transfer that a transaction serves: its entry, or the oldest posted buffer of the contract that it polls (R101,
R159; log entry 117). -/
def State.served_ (s : State) (x : Txn) : Option (Nat × Half) :=
  match x.work with
  | .entry q idx => some (q, idx)
  | .standing id =>
    match s.alm.contracts.find? fun c => c.id == id with
    | some c => ((s.qp c.qp).openBuffer).map fun e => (c.qp, e.idx)
    | none => none
  | .keeper _ => none

/-- One transaction error (R41): retried up to three times; the fourth halts the endpoint at a root attachment, and below a
hub first has the port's status read (R56). The fourth of a request of the keeper ends the request, with no endpoint halted
(log entry 32). -/
def State.txError (s : State) (x : Txn) : State :=
  match x.work with
  | .keeper _ =>
    let n := (s.tep x.link x.addr x.ep x.dirIn).errs + 1
    let s1 := s.modTep x.link x.addr x.ep x.dirIn fun e => { e with errs := if n < 4 then n else 0 }
    if n < 4 then s1.swapTxn x x.afterError else (s1.swapTxn x none).kreqOver x false
  | _ =>
    let a := txAddr x.link x.addr
    let e := s.ep a x.ep x.dirIn
    let place := s.txPlace x.link x.addr
    let seen := ((place.map (·.resetCount)).getD 0)
    let s1 := (s.modEp a x.ep x.dirIn fun e =>
      { e with errs := e.errs + 1, resetSeen := if e.errs = 0 then seen else e.resetSeen }).strikeError x
    if e.errs + 1 < 4 then s1.swapTxn x x.afterError
    else
      let s2 := s1.swapTxn x none
      let work := if x.kind = .disarm ∨ x.kind = .retract then none else s2.served_ x
      match place.bind fun p => parentOf p.route with
      | some h =>
        let port := ((place.map fun p => hubPortOf p.route).getD 0)
        let s3 := match work with
          | some w => s2.modEntry w.1 w.2 fun e =>
              if e.phase = EPhase.queued then { e with phase := .started, begun := true } else e
          | none => s2
        (s3.modEp a x.ep x.dirIn fun e => { e with checking := true }).alter h fun p =>
          if p.reads.contains port then p else { p with reads := p.reads ++ [port] }
      | none => s2.epHalt a x.ep x.dirIn work (s2.contractQp x.addr x.ep x.dirIn) 2

/-- TURNAROUND_TIMEOUT (R40). -/
def execTurnaroundTimeout (p : Fin 16) (sd : Side) (tag : Fin 8) (s : State) : Host.Outcome State Fault Refusal :=
  done (match (s.outstanding (linkOf p sd)).find? fun x => x.tag == tag.val && !x.unsent with
    | none => s
    | some x => s.txError x)

/-- NAK_BACKOFF_EXPIRY (R45). -/
def execNakBackoffExpiry (addr : Fin 4096) (ep : Fin 16) (dirIn : Bool) (s : State) : Host.Outcome State Fault Refusal :=
  done (if (s.ep addr ep dirIn).waiting then s.modEp addr ep dirIn fun e => { e with waiting := false } else s)

end Sys2Proof.Machine
end

