-- ==== Sys2Proof/Machine/TxAnswer.lean ====
section
/-!
DEFINITION. The answers to transactions: what a handshake or a data packet does to the transfer, the endpoint and the strike
that it answers (02 R41 to R51, 04 R101, R102, 05 R127 to R134).
-/
namespace Sys2Proof.Machine

/-! ### Transfers (R42 to R48) -/

/-- The direction of the status stage of a control transfer: IN unless the data stage is IN (Table 2-11). -/
def Entry.statusIn (e : Entry) : Bool := e.len == 0 || !e.dirIn

/-- A control transfer enters its status stage, whose packet is DATA1 (Table 2-11). -/
def State.toStatus (s : State) (x : Txn) (q : Nat) (e : Entry) : State :=
  (s.modTep x.link x.addr x.ep e.statusIn fun p => { p with toggle := true }).modEntry q e.idx fun e => { e with stage := 2 }

/-- An entry ends with a status at the present handshake (Table 6-7). -/
def State.endAt (s : State) (q : Nat) (idx : Half) (st : XStatus) (short : Bool) : State :=
  s.modEntry q idx fun e =>
    Entry.finish { e with flags := if short then e.flags ||| 8 else e.flags, begun := true } st s.now s.time.frame

/-- The device accepted an OUT, SETUP or STRIKE data packet (Tables 2-10 and 2-11). A NYET to the zero-length status OUT counts
as its ACK, as NYET does for every other OUT (log entry 126). -/
def State.delivered (s : State) (x : Txn) (q : Nat) (e : Entry) : State :=
  let flip := s.modTep x.link x.addr x.ep x.dirIn fun p => { p with toggle := !p.toggle }
  let n := x.bytes.length
  match x.kind with
  | .setup =>
    let s1 := (s.modTep x.link x.addr x.ep true fun p => { p with toggle := true }).modTep x.link x.addr x.ep false fun p =>
      { p with toggle := true }
    if e.len = 0 then s1.toStatus x q e else s1.modEntry q e.idx fun e => { e with stage := 1 }
  | .strikeTok =>
    let early := decide (s.now.toNat < e.commitAt.toNat)
    flip.modEntry q e.idx fun e =>
      match e.strike with
      | .staged => if early then { e with strike := .acked, stage := 1, maybeHeld := true } else { e with maybeHeld := true }
      | .withdrawing => if early then { e with stage := 1, maybeHeld := true } else { e with maybeHeld := true }
      | .settling | .readStatus => { e with stage := 1, maybeHeld := true }
      | _ => { e with maybeHeld := true }
  | _ =>
    if e.kind = .control ∧ e.stage = 2 then flip.endAt q e.idx .ok false
    else
      let s1 := flip.modEntry q e.idx fun e => { e with count := e.count + n, data := e.data.drop n }
      let full := decide (e.len ≤ e.count + n)
      if e.kind = .control then (if full then s1.toStatus x q e else s1)
      else if !full then s1
      else if e.zlp && e.stage == 0 && e.len != 0 && e.len % s.txMps x.link x.addr x.ep x.dirIn == 0 && e.kind = .bulk then
        s1.modEntry q e.idx fun e => { e with stage := 1 }
      else s1.endAt q e.idx .ok false

/-- A NAK: the transfer goes to the end of its tenant's list, and the endpoint waits out its back-off (R45). -/
def State.naked (s : State) (x : Txn) (q : Nat) (e : Entry) : State :=
  if e.kind = .control ∨ e.kind = .bulk then
    let s1 := s.modEntry q e.idx fun e => { e with order := s.alm.order }
    { s1 with alm := { s1.alm with order := s1.alm.order + 1 } }.modTep x.link x.addr x.ep x.dirIn fun p =>
      { p with waiting := p.backoff != 0 }
  else if e.kind = .strike then s.strikeLost q e.idx
  else s

/-- A STALL: it ends a control transfer, and halts any other endpoint direction (R46, R48). -/
def State.stalled (s : State) (x : Txn) : State :=
  match x.work with
  | .entry q idx =>
    match (s.qp q).entry idx with
    | some e =>
      if e.kind = .control then s.endAt q idx .stalled false
      else s.epHalt (txAddr x.link x.addr) x.ep x.dirIn (some (q, idx)) none 1
    | none => s
  | .standing _ => s.epHalt x.addr x.ep x.dirIn (s.served_ x) (s.contractQp x.addr x.ep x.dirIn) 1
  | .keeper _ => s.kreqOver x false

/-- A data packet of an IN transfer (Table 2-9). -/
def State.received (s : State) (x : Txn) (q : Nat) (e : Entry) (b : List Byte) : State :=
  let mps := s.txMps x.link x.addr x.ep x.dirIn
  if e.kind = .control ∧ e.stage = 2 then s.endAt q e.idx .ok false
  else
    let n := e.count + b.length
    let s0 := if e.data = [] then s.writeWords 4 (4 * q + 3) else s
    let s1 := s0.modEntry q e.idx fun e =>
      { e with count := n, data := e.data ++ b, arrived := if e.data = [] then s.now else e.arrived }
    let short := decide (b.length < mps) && decide (n < e.len)
    let fin := short || decide (e.len ≤ n)
    if !fin then s1
    else if e.kind = .control then
      (if short then s1.modEntry q e.idx fun e => { e with flags := e.flags ||| 8 } else s1).toStatus x q e
    else s1.endAt q e.idx .ok short

/-- The posted buffer to which a good packet of a contract goes, if it goes to one: not while the standing area holds packets,
or its queue pair may start no work (R101, R102). -/
def State.pollBuffer (s : State) (c : Contract) : Option Entry :=
  let v := s.qp c.qp
  if v.polls || (c.standing && !((Tab.getD s.areas c.id []).isEmpty && v.enabled && !v.bpNow)) then none else v.openBuffer

/-- A packet of a periodic IN contract: to the Millrace, to the keeper, and to a posted buffer or the standing area (R71,
R101, R102, R202). -/
def State.polled (s : State) (x : Txn) (c : Contract) (b : List Byte) : State :=
  let s1 := if c.mrcSrc && c.addrEp.toNat == s.par.busSrc then (s.emit (.report b)).busReport b else s
  let s2 := match s1.placeOf x.addr with
    | some p => if c.tenant = 0 ∧ (p.hub.map fun (h : HubInfo) => h.statusEp) = some x.ep then s1.hubReport p.route b else s1
    | none => s1
  match s2.pollBuffer c with
  | some e => s2.modEntry c.qp e.idx fun e => e.receivePkt b c.maxp 0 s2.now s2.time.frame
  | none => if c.standing && !(s2.qp c.qp).polls then (s2.standPacket c b).deliver c.qp else s2

/-- A data packet that the keeper asked for: of its control transfer, or a hub's status report (R47, R202). -/
def State.keeperGot (s : State) (x : Txn) (b : List Byte) : State :=
  match s.kreq x with
  | none => s
  | some k =>
    if x.ep ≠ 0 then (if b.length = 4 then (s.kreqOver x true).hubReport k.route b else s.kreqOver x true)
    else if k.stage = 1 then
      let s1 := s.modKreq x fun k => { k with data := k.data ++ b }
      if b.length < s.txMps x.link x.addr 0 true ∨ k.len ≤ k.data.length + b.length then s1.kreqNext x else s1
    else s.kreqNext x

/-- The contract of a standing poll. -/
def State.pollContract (s : State) (id : Nat) : Option Contract := s.alm.contracts.find? fun c => c.id == id

/-! ### Handshakes and data packets -/

/-- The transfer that a transaction serves has had a handshake now (Table 6-7). -/
def State.shaken (s : State) (x : Txn) : State :=
  match x.work with
  | .entry q idx => s.modEntry q idx fun e =>
      if e.phase = .started ∧ e.kind ≠ .strike then { e with last := some (s.now, s.time.frame) } else e
  | _ => s

/-- A transaction in its direct phase or at its complete split is over, with a handshake. -/
def State.endTxn (s : State) (x : Txn) : State := ((s.swapTxn x none).okTxn x).shaken x

/-- The bytes that an IN transaction may bring: babble is anything longer (R37). -/
def State.inLimit (s : State) (x : Txn) : Nat :=
  let mps := s.txMps x.link x.addr x.ep x.dirIn
  match x.work with
  | .entry q idx => match (s.qp q).entry idx with
    | some e => if e.kind = .control ∧ e.stage = 2 then 0 else min mps (e.len - e.count)
    | none => mps
  | .standing id => match s.pollContract id with
    | some c => match s.pollBuffer c with
      | some e => min c.maxp e.len
      | none => c.maxp
    | none => mps
  | .keeper _ => match s.kreq x with
    | some k => if x.ep ≠ 0 then mps else if k.stage = 1 then min mps (k.len - k.data.length) else 0
    | none => mps

/-- Babble: the packet is discarded, the place counts it, and the transaction fails (R37, R225). -/
def State.babbled (s : State) (x : Txn) : State :=
  let s1 := s.txError x
  match s.txPlace x.link x.addr with
  | some p => s1.babble p.route
  | none => s1

/-- A good data packet in answer to an IN (Table 2-9). -/
def State.inData (s : State) (x : Txn) (toggle : Bool) (b : List Byte) : State :=
  if s.inLimit x < b.length then s.babbled x
  else
    let e := s.tep x.link x.addr x.ep x.dirIn
    let s1 := (s.endTxn x).emit (.packet (portOf x.link) (sideOf x.link) (s.txSpeed x) (handshakePkt (s.fmtE x.link) .ack x.tag))
    if toggle ≠ e.toggle then s1
    else
      let s2 := s1.modTep x.link x.addr x.ep x.dirIn fun p => { p with toggle := !p.toggle }
      match x.work with
      | .entry q idx => match (s.qp q).entry idx with
        | some e => if e.phase = .started then s2.received x q e b else s2
        | none => s2
      | .standing id => match s.pollContract id with
        | some c => s2.polled x c b
        | none => s2
      | .keeper _ => s2.keeperGot x b

/-- A handshake in answer to an IN (Table 2-9). -/
def State.inShake (s : State) (x : Txn) (p : Pid) : State :=
  match p, x.work with
  | .nak, .entry q idx => match (s.qp q).entry idx with
    | some e => (s.endTxn x).naked x q e
    | none => s.endTxn x
  | .nak, .keeper _ => if x.ep = 0 then s.endTxn x else (s.endTxn x).kreqOver x true
  | .nak, _ => s.endTxn x
  | .stall, _ => (s.endTxn x).stalled x
  | _, _ => s.txError x

/-- A handshake in answer to an OUT, SETUP or STRIKE data packet (Table 2-10, R129). One to a packet of an entry whose further data
failed still counts (R181). A SETUP refused by the device behind a
translator is tried again from its start split (R43). -/
def State.outShake (s : State) (x : Txn) (p : Pid) : State :=
  let entry := s.txEntry x
  let live := entry.bind fun e => if e.phase = .started then some e else none
  let cut := entry.any fun e => e.phase = .flushing && !e.dirIn && x.kind = .outTok
  let q := match x.work with | .entry q _ => q | _ => 0
  let took := fun s : State => match live, x.work with
    | some e, _ => s.delivered x q e
    | none, .keeper _ => s.kreqNext x
    | none, .entry q idx =>
      if cut then s.modEntry q idx fun e => { e with count := e.count + x.bytes.length, last := some (s.now, s.time.frame) }
      else s
    | none, _ => s
  if x.kind = .setup ∧ p ≠ .ack then
    (if x.phase = .complete then (s.txError { x with phase := .start }).swapTxn x none else s.txError x)
  else match p with
    | .ack => took (s.endTxn x)
    | .nyet => if s.fmtE x.link then
        (took (s.endTxn x)).modTep x.link x.addr x.ep x.dirIn fun e => { e with waitBeat := true }
      else s.txError x
    | .nak => match live with
      | some e => (s.endTxn x).naked x q e
      | none => s.endTxn x
    | .stall => (s.endTxn x).stalled x
    | _ => s.txError x

/-- The withdrawal of a transaction's strike has succeeded. Its DISARM still has its answer to come (R131, R134). -/
def State.withdrawnTx (s : State) (x : Txn) : State :=
  match x.work with
  | .entry q idx => match (s.qp q).entry idx with
    | some e =>
      if e.kind = .strike && e.phase = .started && e.wStatus != 0 &&
          (e.strike = .withdrawing || e.strike = .settling || e.strike = .readStatus) then
        let drop := fun y : Txn => decide (y.work = x.work) && decide (y.kind = .strikeTok) && !y.outstanding
        (s.withdrawnOk q idx e).dropTxns drop
      else s
    | none => s
  | _ => s

/-- The answer to a DISARM (Table 5-7). -/
def State.disarmShake (s : State) (x : Txn) (p : Pid) : State :=
  match p with
  | .ack => (s.endTxn x).withdrawnTx x
  | .nyet =>
    let s1 := s.endTxn x
    match x.work with
    | .entry q idx => s1.modEntry q idx fun e =>
        if e.kind = .strike ∧ e.phase = .started ∧ e.strike = .withdrawing then { e with strike := .readStatus } else e
    | _ => s1
  | _ => s.txError x

/-- The answer to a RETRACT (Table 5-7). -/
def State.retractShake (s : State) (x : Txn) (p : Pid) : State :=
  match p with
  | .ack => (s.endTxn x).withdrawnTx x
  | .nyet => s.endTxn x
  | _ => s.txError x

/-! ### Splits (R49 to R51) -/

/-- The limit of NYETs to a complete split (R51). -/
def Txn.nyetLimit (x : Txn) : Nat := if x.low then 8 else 4

/-- The translator accepted a start split, or has no buffer, or has not finished (Table 2-12, R51); anything else is an
error. -/
def State.splitShake (s : State) (x : Txn) (p : Pid) : State :=
  match x.phase, p with
  | .start, .ack => (s.okTxn x).swapTxn x (some { x with
      phase := .wait, outstanding := false, beats := if x.low then 2 else 1, nyets := 0 })
  | .start, .nak =>
    let s1 := (s.okTxn x).swapTxn x (some { x with outstanding := false, beats := 1 })
    match x.work with
    | .entry q idx => if x.kind = .strikeTok then s1.strikeLost q idx else s1
    | _ => s1
  | .complete, .nyet =>
    if x.nyetLimit ≤ x.nyets + 1 then s.txError { x with phase := .start, own := 0 } |>.swapTxn x none
    else (s.okTxn x).swapTxn x (some { x with phase := .wait, outstanding := false, beats := 1, nyets := x.nyets + 1 })
  | .complete, .ack | .complete, .nak | .complete, .stall =>
    if x.kind = .disarm then s.disarmShake x p
    else if x.kind = .inTok then s.inShake x p else s.outShake x p
  | _, _ => s.txError x

/-! ### The rows -/

/-- The transaction that a packet answers: by TAG in format E on an H link, else the one outstanding (R39). -/
def State.answered (s : State) (l tag : Nat) : Option Txn :=
  if l % 2 = 0 ∧ s.fmtE l then (s.outstanding l).find? fun x => x.tag == tag && !x.unsent
  else (s.outstanding l).find? fun x => !x.unsent

/-- A discarded packet counts against the link (R28, R36, R246). -/
def State.discarded (s : State) (l : Nat) : State :=
  if l % 2 = 0 then s.addF Fld.prtLinkErrHCrc (l / 2) 1 else s.addF Fld.prtLinkErrPErr (l / 2) 1

/-- A packet arrives in answer to a transaction that a row picks; a good data packet, a handshake and an error each have
their effect. A discarded packet of which nothing can be read is an error of the one transaction that it can answer. -/
def State.answer (s : State) (l : Nat) (rx : LineRx) (pick : Txn → Bool) (data : State → Txn → Bool → List Byte → State)
    (shake : State → Txn → Pid → State) : State :=
  let find := fun tag : Nat => match s.answered l tag with
    | some x => if pick x then some x else none
    | none => none
  if !s.linkUp l then s
  else match receive (s.fmtE l) rx with
    | .discarded =>
      let s1 := s.discarded l
      if l % 2 = 0 ∧ s.fmtE l then s1
      else match find 0 with
        | some x => s1.txError x
        | none => s1
    | .dataBad tag => match find tag with
      | some x => (s.discarded l).txError x
      | none => s.discarded l
    | .shake p tag => match find tag with
      | some x => shake s x p
      | none => s
    | .data t tag b => match find tag with
      | some x => data s x t b
      | none => s
    | .other _ tag => match find tag with
      | some x => s.txError x
      | none => s

/-- IN_TRANSACTION_RESPONSE (R42). -/
def execInTransactionResponse (p : Fin 16) (sd : Side) (rx : LineRx) (s : State) : Host.Outcome State Fault Refusal :=
  done (s.answer (linkOf p sd) rx (fun x => decide (x.kind = .inTok) && decide (x.phase = .direct)) State.inData State.inShake)

/-- OUT_TRANSACTION_RESPONSE (R43). -/
def execOutTransactionResponse (p : Fin 16) (sd : Side) (rx : LineRx) (s : State) : Host.Outcome State Fault Refusal :=
  done (s.answer (linkOf p sd) rx
    (fun x => decide (x.phase = .direct) && (x.kind = .outTok || x.kind = .setup || x.kind = .strikeTok))
    (fun s x _ _ => s.txError x) State.outShake)

/-- SPLIT_RESPONSE (R49). -/
def execSplitResponse (p : Fin 16) (sd : Side) (rx : LineRx) (s : State) : Host.Outcome State Fault Refusal :=
  done (s.answer (linkOf p sd) rx (fun x => decide (x.phase ≠ .direct) && decide (x.kind ≠ .retract))
    (fun s x t b => if x.kind = .inTok ∧ x.phase = .complete then s.inData x t b else s.txError x) State.splitShake)

/-- DISARM_RESPONSE (R134): the device's own answer, direct or at the complete split. -/
def execDisarmResponse (p : Fin 16) (sd : Side) (rx : LineRx) (s : State) : Host.Outcome State Fault Refusal :=
  done (s.answer (linkOf p sd) rx (fun x => decide (x.kind = .disarm) && decide (x.phase ≠ .start))
    (fun s x _ _ => s.txError x) State.disarmShake)

/-- RETRACT_RESPONSE (R134). -/
def execRetractResponse (p : Fin 16) (sd : Side) (rx : LineRx) (s : State) : Host.Outcome State Fault Refusal :=
  done (s.answer (linkOf p sd) rx (fun x => decide (x.kind = .retract)) (fun s x _ _ => s.txError x) State.retractShake)

end Sys2Proof.Machine
end

