-- ==== Sys2Proof/Machine/TxStart.lean ====
section
/-!
DEFINITION. What starts in unreserved time: withdrawals and retries, the keeper's control transactions, tenants' control
transactions, and bulk by the Weir (04 R103 to R109, 05 R129, R133, 12 R314).
-/
namespace Sys2Proof.Machine

/-! ### Live transfers (R106, R108, R152) -/

/-- A transfer of a queue pair may go on or start: one control or bulk transfer at a time, in submission order, and none
starts in back-pressure (R152, R157). -/
def Qp.mayRun (v : Qp) (e : Entry) : Bool :=
  let live := fun x : Entry => x.kind = .control || x.kind = .bulk
  v.enabled && live e &&
  (decide (e.phase = .started) ||
    (decide (e.phase = .queued) && !v.bpNow && !(v.entries.any fun x => live x && decide (x.phase = .started)) &&
      !((v.entries.takeWhile fun x => x.idx != e.idx).any fun x => decide (x.phase = .queued))))

/-- The next transaction of a control or bulk transfer (Table 2-11). -/
def State.nextTxn (s : State) (q : Nat) (e : Entry) (p : Place) : Txn :=
  let l := routeLink p.route
  let piece := fun dirIn : Bool => e.data.take (min (s.txMps l e.addr e.ep dirIn) (e.len - e.count))
  let open_ := s.openTxn p e.addr e.ep
  let w := TxWork.entry q e.idx
  if e.kind = .control then
    if e.stage = 0 then open_ false .setup w e.setup
    else if e.stage = 1 then (if e.dirIn then open_ true .inTok w [] else open_ false .outTok w (piece false))
    else if e.statusIn then open_ true .inTok w [] else open_ false .outTok w []
  else if e.dirIn then open_ true .inTok w []
  else open_ false .outTok w (if e.stage = 1 then [] else piece false)

/-- A sealed payload may begin to leave: every tag has been checked, or the basin can take no further element before some of
it has left (R175; log entry 127). -/
def State.sealsChecked (s : State) (e : Entry) : Bool :=
  match (if e.prog then s.progOf e else none) with
  | none => true
  | some p => !p.sealed_ || e.count != 0 || (e.xfer == 0 && e.inFlight == 0) ||
      (e.inFlight == 0 && decide (s.epRoom (s.ep e.addr e.ep e.dirIn) < p.elemSize))

/-- The packet of a transaction is in its basin and its seals are checked, or the basin has room for a packet of the endpoint's
maximum size and the channel is not paused (R108, R175, R184, R188). -/
def State.roomFor (s : State) (e : Entry) (x : Txn) : Bool :=
  let mps := s.txMps x.link x.addr x.ep x.dirIn
  if x.kind = .outTok then
    (e.kind = .control && e.stage == 2) || e.stage == 1 && e.kind = .bulk ||
      (decide (x.bytes.length = min mps (e.len - e.count)) && s.sealsChecked e)
  else if x.kind = .inTok then
    (e.kind = .control && e.stage == 2) || (s.chanGo e && decide (mps ≤ s.epRoom (s.ep e.addr e.ep e.dirIn)))
  else true

/-- An endpoint direction takes a transaction: it is open, not halted, not awaiting a port check, and not in its NAK
back-off or in the wait after a NYET (R41, R43, R45, R56). -/
def State.epReady (s : State) (l addr ep : Nat) (dirIn : Bool) : Bool :=
  let e := s.tep l addr ep dirIn
  !e.halted && !e.checking && !e.waiting && !e.waitBeat

/-- A control transfer of the keeper runs on a device's endpoint 0 (R47: one control transfer at a time; log entry 32). -/
def State.keeperAt (s : State) (l addr : Nat) : Bool :=
  s.keeper.any fun k => k.link == l && k.addr == addr && k.ep == 0 && decide (k.stage < 3)

/-- The next transaction of an entry, if it can start now on a link (R108). Control transfers run while either direction of
endpoint 0 is open; the NAK back-off is that of the direction that was opened with it (log entry 128). -/
def State.readyTxn (s : State) (l q : Nat) (v : Qp) (e : Entry) : Option Txn :=
  match s.entryPlace e with
  | none => none
  | some p =>
    let x := s.nextTxn q e p
    if routeLink p.route == l && v.mayRun e && s.entryAnswers e && s.epReady l x.addr x.ep x.dirIn &&
        !s.epTaken l x.addr x.ep x.dirIn && s.roomFor e x && s.bufferFree x &&
        !(e.kind = .control && s.keeperAt l e.addr) && (e.addr == 0 || (s.ep e.addr e.ep e.dirIn).isOpen || (s.ep e.addr e.ep (!e.dirIn)).isOpen && e.kind = .control)
    then some x else none

/-- A tenant's transfers of a kind that can start now on a link, in list order (R106, R108). -/
def State.ready_ (s : State) (l t : Nat) (control : Bool) : List (Entry × Txn) :=
  let all := s.qps.flatMap fun v =>
    if v.2.owner = some t then
      v.2.entries.filterMap fun e =>
        if decide (e.kind = .control) == control then (s.readyTxn l v.1 v.2 e).map fun x => (e, x) else none
    else []
  orderBy (fun a b => decide (a.1.order < b.1.order)) all

/-- Tenants with queue pairs, in order. -/
def State.qpOwners (s : State) : List Nat :=
  (List.range 256).filter fun t => s.qps.any fun v => v.2.owner == some t

/-- A transfer starts (R152): it counts in A, and its first packet leaves. -/
def State.startEntry (s : State) (x : Txn) : State :=
  match x.work with
  | .entry q idx => s.modEntry q idx fun e => if e.phase = .queued then { e with phase := .started, begun := true } else e
  | _ => s

/-- Start a transaction of a tenant in unreserved time, if it fits. -/
def State.tryStart (s : State) (t : Nat) (x : Txn) : Option State :=
  let chg := s.txCharge x (s.txMps x.link x.addr x.ep x.dirIn)
  let start := s.startTick x.link x.inward
  if s.time.running && s.linkFree x.link && s.fits x.link t start chg then some ((s.startEntry x).launch x start) else none

/-! ### Order 3: withdrawals and retries (R103, R129, R133) -/

/-- The tenant of a transaction's work. -/
def State.txTenant (s : State) (x : Txn) : Nat :=
  match x.work with
  | .entry q _ => (s.qp q).owner.getD 0
  | .standing id => ((s.pollContract id).map (·.tenant)).getD 0
  | .keeper _ => 0

/-- A split whose next step is due now, or a RETRACT to be sent again (R49, R103, R134). -/
def State.stepDue (s : State) (x : Txn) : Bool :=
  !x.outstanding && x.beats == 0 && (x.phase ≠ .start || s.bufferFree x) && !s.epOut x.link x.addr x.ep x.dirIn

/-- A split served by the contract's own complete-split slots is not work of order 3: the first two of a periodic
transaction or a strike (Table 4-3, R103). -/
def Txn.slotted (x : Txn) : Bool := decide (x.phase = .wait) && x.own != 0 && x.kind ≠ .disarm

/-- Take a retained split to its next step. -/
def State.resumeTxn (s : State) (x : Txn) (start : Nat) : State :=
  let y := { x with phase := if x.phase = .wait then .complete else x.phase }
  (s.swapTxn x none).launch y start

/-- The STRIKE of an entry. -/
def State.strikeTxn (s : State) (q : Nat) (e : Entry) (p : Place) : Txn :=
  s.openTxn p e.addr e.ep false .strikeTok (.entry q e.idx) e.data

/-- A staged strike that is to be sent again from a tick (R129). -/
def State.strikeAgain (s : State) (q : Nat) (e : Entry) (start : Nat) : Bool :=
  e.kind = .strike && e.phase = .started && e.strike = .staged && !s.halt.stands && s.canResend e start &&
  !(s.txns.any fun x => decide (x.work = .entry q e.idx)) &&
  (match s.strikePlace e with | some p => p.served && s.epReady (routeLink p.route) e.addr e.ep false | none => false)

/-- A retained transaction may still leave at a tick: a STRIKE by R129 and while no halt stands (R53), a RETRACT and the start
split of a DISARM by C (R133). -/
def State.stepAllowed (s : State) (x : Txn) (start : Nat) : Bool :=
  match s.txEntry x with
  | none => x.kind ≠ .retract
  | some e =>
    if x.kind = .strikeTok && x.phase = .start then !s.halt.stands && e.strike = .staged && s.canResend e start
    else if x.kind = .retract || (x.kind = .disarm && x.phase = .start) then decide (start ≤ e.commitAt.toNat)
    else true

/-- The start of a DISARM start split that follows at once a RETRACT sent from a tick (R133). -/
def State.afterRetract (s : State) (l start : Nat) : Nat := max start ((s.took l false start 120).startTick l false)

/-- The DISARM of a strike, as it leaves for its device. -/
def State.disarmTxn (s : State) (q : Nat) (e : Entry) (p : Place) : Txn :=
  s.openTxn p e.addr e.ep false .disarm (.entry q e.idx) []

/-- The retained STRIKE packets of an entry are given up. -/
def State.dropStrike (s : State) (q : Nat) (idx : Half) : State :=
  s.dropTxns fun x => decide (x.work = .entry q idx) && decide (x.kind = .strikeTok) && !x.outstanding

/-- Room for a withdrawal on its link: a TAG, and for the RETRACT below a translator a second TAG, the hub's endpoint 0 free,
and a buffer for the DISARM's start split (R39, R50, R133). -/
def State.withdrawRoom (s : State) (q : Nat) (e : Entry) (p : Place) : Bool :=
  let l := routeLink p.route
  s.linkFree l && !s.epOut l e.addr e.ep false &&
  (match s.splitOf p with
    | none => true
    | some h => !s.epTaken l h.1.addr 0 false && decide ((s.outstanding l).length + 2 ≤ 8) &&
        (s.dropStrike q e.idx).bufferFree (s.disarmTxn q e p))

/-- A strike whose withdrawal is still to be sent, or whose failed DISARM is to be sent again, and that can leave from a tick
by C (R133, R134). -/
def State.withdrawDue (s : State) (q : Nat) (e : Entry) (start : Nat) : Bool :=
  e.kind = .strike && e.phase = .started && e.strike = .withdrawing && (!e.wSent || e.wAgain) &&
  (match s.strikePlace e with
    | some p => p.served && !(s.tep (routeLink p.route) e.addr e.ep false).halted && s.withdrawRoom q e p &&
        decide ((if (s.splitOf p).isSome then s.afterRetract (routeLink p.route) start else start) ≤ e.commitAt.toNat)
    | none => false)

/-- Send the withdrawal of a strike from a tick: a DISARM, or a RETRACT followed at once by a DISARM start split (R133). -/
def State.sendWithdrawal (s : State) (q : Nat) (e : Entry) (start : Nat) : State :=
  match s.strikePlace e with
  | none => s
  | some p =>
    let l := routeLink p.route
    let next := if (s.splitOf p).isSome then s.afterRetract l start else start
    let s1 := s.dropStrike q e.idx
    let s2 := match s.splitOf p with
      | none => s1
      | some h => s1.launch ⟨l, 0, h.1.addr, 0, false, .retract, .direct, .entry q e.idx, [], 0, h.1.addr, 0, false, 0, 0, true, false⟩
          start
    (s2.launch (s2.disarmTxn q e p) next).modEntry q e.idx fun e =>
      { e with wSent := true, wAgain := false, maybeHeld := true }

/-- The charge of a withdrawal's packets. -/
def State.withdrawCharge (s : State) (p : Place) : Nat :=
  if routePair p.route then charge p.speed 0 else if (s.splitOf p).isSome then 240 else 120

/-- A withdrawal of a tenant, or of any tenant in shared mode, can leave now on a link; it is the first work of order 3
(R133). -/
def State.withdrawWaits (s : State) (l t : Nat) : Bool :=
  let start := s.startTick l false
  s.qps.any fun v => (!s.strict || v.2.owner.getD 0 == t) && v.2.entries.any fun e =>
    (match s.strikePlace e with
      | some p => routeLink p.route == l && s.fits l (v.2.owner.getD 0) start (s.withdrawCharge p)
      | none => false) && s.withdrawDue v.1 e start

/-- RETRY_WORK_START (R103): the split of an endpoint direction whose next step is due, or a staged strike; a withdrawal that
is due goes first (R133). -/
def State.retryStart (s : State) (addr ep : Nat) (dirIn : Bool) : State :=
  let mine := s.txns.find? fun x => x.addr == addr && x.ep == ep && x.dirIn == dirIn && s.stepDue x && !x.slotted
  match mine with
  | some x =>
    let y := { x with phase := if x.phase = .wait then .complete else x.phase }
    let start := s.startTick x.link y.inward
    if s.time.running && s.linkFree x.link && s.stepAllowed x start && !s.withdrawWaits x.link (s.txTenant x) &&
        s.fits x.link (s.txTenant x) start (s.txCharge y (s.txMps x.link addr ep dirIn)) then s.resumeTxn x start
    else s
  | none =>
    let again := s.qps.findSome? fun v => (v.2.entries.find? fun e =>
      e.addr == addr && e.ep == ep && !dirIn && (match s.strikePlace e with
        | some p => s.strikeAgain v.1 e (s.startTick (routeLink p.route) false)
        | none => false)).map fun e => (v.1, e)
    match again with
    | none => s
    | some qe => match s.strikePlace qe.2 with
      | none => s
      | some p =>
        let x := s.strikeTxn qe.1 qe.2 p
        if s.bufferFree x && !s.withdrawWaits x.link (s.txTenant x) then (s.tryStart (s.txTenant x) x).getD s else s

/-- RETRY_WORK_START (R103). -/
def execRetryWorkStart (addr : Fin 4096) (ep : Fin 16) (dirIn : Bool) (s : State) : Host.Outcome State Fault Refusal :=
  done (s.retryStart addr ep dirIn)

/-- WITHDRAWAL_SEND (R133). -/
def State.withdrawalSend (s : State) (q : Nat) (idx : Half) : State :=
  match (s.qp q).entry idx with
  | none => s
  | some e => match s.strikePlace e with
    | none => s
    | some p =>
      let start := s.startTick (routeLink p.route) false
      if s.time.running && s.withdrawDue q e start &&
          s.fits (routeLink p.route) ((s.qp q).owner.getD 0) start (s.withdrawCharge p) then s.sendWithdrawal q e start
      else s

/-- WITHDRAWAL_SEND (R133). -/
def execWithdrawalSend (q : Fin 4096) (idx : Half) (s : State) : Host.Outcome State Fault Refusal :=
  done (s.withdrawalSend q idx)

/-- A staged strike of a queue pair can be sent again now on a link. -/
def State.againWaits (s : State) (l : Nat) (v : Nat × Qp) : Bool :=
  v.2.entries.any fun e => match s.strikePlace e with
    | some p =>
      let x := s.strikeTxn v.1 e p
      let start := s.startTick l false
      routeLink p.route == l && s.strikeAgain v.1 e start && s.bufferFree x && !s.epTaken l e.addr e.ep false &&
        s.fits l (v.2.owner.getD 0) start (s.txCharge x (s.txMps l e.addr e.ep false))
    | none => false

/-- Work of order 3 waits on a link: of any tenant in shared mode, of the tenant itself in strict mode (R103, R104, R109). -/
def State.order3 (s : State) (l t : Nat) : Bool :=
  let of_ := fun u : Nat => !s.strict || u == t
  (s.txns.any fun x =>
    let start := s.startTick l x.inward
    x.link == l && s.stepDue x && !x.slotted && s.stepAllowed x start && of_ (s.txTenant x) &&
      s.fits l (s.txTenant x) start (s.txCharge x (s.txMps l x.addr x.ep x.dirIn))) ||
  s.withdrawWaits l t || s.qps.any fun v => of_ (v.2.owner.getD 0) && s.againWaits l v

/-! ### Order 4: the keeper (R104, R109, R198) -/

/-- The request that a place's bring-up step, disable, doze, resume or reads ask for: the place and address of the device that
receives it, and the setup bytes (R66, R198, R202, R221, R225, Table 8-8). -/
def State.keeperAsks (s : State) (p : Place) : List (Place × Nat × List Byte) :=
  let port := hubPortOf p.route
  let toHub := fun (b1 feature : Nat) => match parentOf p.route with
    | none => []
    | some h => [(s.placeAt h, (s.placeAt h).addr, setupBytes 0x23 b1 feature port 0)]
  let self := fun (addr : Nat) (b : List Byte) => [(p, addr, b)]
  if p.disabling then toHub 1 1
  else if p.dozeExit then toHub 1 2
  else if p.dozeAsked then toHub 3 2
  else (match p.step with
    | .reset _ => if p.resetAsked then [] else toHub 3 4
    | .desc8 _ => self 0 (setupBytes 0x80 6 0x100 0 8)
    | .desc32 _ => self 0 (setupBytes 0x80 6 0x100 0 32)
    | .hubDesc _ => self 0 (setupBytes 0x80 6 0x2900 0 16)
    | .setAddr _ => self 0 (setupBytes 0 5 p.addr 0 0)
    | .feature _ => self p.addr (setupBytes 0 3 1 0 0)
    | .probe _ _ _ => self p.addr (setupBytes 0 0x30 0 0 0)
    | .setDelay _ => self p.addr (setupBytes 0 0x31 p.delayNext 0 0)
    | _ => if p.resetAsked && p.present && !p.keptByReset && !s.zeroTaken p.route then toHub 3 4 else []) ++
    p.reads.map fun k => (p, p.addr, setupBytes 0xA3 0 0 k 16)

/-- Strike status reads due on a link, those before the first STRIKE after a takeover among them (R119, R127, R134, R391). -/
def State.statusAsks (s : State) (l : Nat) : List (Place × Nat × List Byte) :=
  s.qps.flatMap fun v => v.2.entries.filterMap fun e =>
    if e.kind = .strike ∧ ((e.strike = .readStatus ∧ e.phase = .started) ∨ (e.strike = .unplaced ∧ e.phase = .queued ∧
        s.twn.freshEndpoints.contains (epKey e.addr e.ep false))) then
      (s.strikePlace e).bind fun p =>
        if routeLink p.route = l then some (p, p.addr, setupBytes 0x80 0x32 0 e.ep 16) else none
    else none

/-- CLEAR_FEATURE ENDPOINT_HALT due on a link after a takeover, before the first transaction of an endpoint that is open, under
contract or read by the keeper (step 7 of R391). -/
def State.clearAsks (s : State) (l : Nat) : List (Place × Nat × List Byte) :=
  let uses := ((s.eps.filter fun e => e.2.isOpen).map fun e => (e.2.addr, e.2.ep, e.2.dirIn)) ++
    (s.alm.contracts.map fun c => (c.addr, c.ep, c.dirIn)) ++
    ((s.keeper.filter fun k => k.ep != 0).map fun k => (k.addr, k.ep, true))
  (uses.filter fun u => s.uncleared u.1 u.2.1 u.2.2).filterMap fun u => (s.placeOf u.1).bind fun p =>
    if routeLink p.route = l then some (p, p.addr, setupBytes 2 1 0 (u.2.1 + (if u.2.2 then 128 else 0)) 0) else none

/-- What the keeper asks for below a root attachment: the transfers that would begin now, with the place that asks. -/
def State.keeperWants (s : State) (l : Nat) : List KReq :=
  let control := fun (asker : DWord) (a : Place × Nat × List Byte) => (⟨l, a.1.route, asker, a.2.1, 0, a.2.2, 0, false, []⟩ : KReq)
  let there := fun k : KReq => k.addr == 0 || (s.placeAt k.route).present || (s.placeAt k.route).bringing
  (((s.attachment l).flatMap fun p => (s.keeperAsks p).map (control p.route)) ++
    (s.clearAsks l ++ s.statusAsks l).map (fun a => control a.1.route a)).filter there

/-- Two transfers of the keeper are one request. -/
def KReq.same (a b : KReq) : Bool :=
  a.route == b.route && a.asker == b.asker && a.addr == b.addr && a.ep == b.ep && a.setup == b.setup

/-- The keeper's transfers under way below a root attachment: its reads of status endpoints, and the control transfers that
something still asks for. -/
def State.keeperOld (s : State) (l : Nat) : List KReq :=
  (s.keeper.filter fun k => k.link == l).filter fun k => k.ep != 0 || (s.keeperWants l).any k.same

/-- The keeper's transfers below a root attachment: those under way, and the new ones, which begin only where no control
transfer runs at their endpoint. -/
def State.keeperList (s : State) (l : Nat) : List KReq :=
  let wants := s.keeperWants l
  let old := s.keeperOld l
  let busy := fun w : KReq => w.addr != 0 && s.qps.any fun v => v.2.entries.any fun e =>
    e.kind = .control && e.phase = .started && e.addr == w.addr && w.ep == 0
  wants.foldl (fun ks w => if (ks.any fun k => k.same w || (k.addr == w.addr && k.ep == w.ep && decide (k.stage < 3))) || busy w
    then ks else ks ++ [w]) old

/-- The next transaction of a transfer of the keeper (Table 2-11, R202). -/
def State.keeperTxn (s : State) (k : KReq) : Txn :=
  let open_ := fun (dirIn : Bool) (kind : TxKind) => s.openTxn (s.placeAt k.route) k.addr k.ep dirIn kind (.keeper k.route)
  if k.stage = 0 then open_ false .setup k.setup
  else if k.stage = 1 || k.len = 0 then open_ true .inTok []
  else open_ false .outTok []

/-- Whether the keeper's work for a place may start at a tick (R105, R109). -/
def State.keeperFits (s : State) (l : Nat) (p : Place) (start chg : Nat) : Bool :=
  let port := portOf l
  if !s.strict then s.fits l 0 start chg
  else
    let owners := s.ownersBelow port
    let width := fun t : Nat => (s.window port t).2 - (s.window port t).1
    let who :=
      if s.allPlaces.any fun h => h.isHub && h.addr != 0 && routePort h.route == port then some 0
      else if width p.owner != 0 then some p.owner
      else owners.find? fun t => width t != 0
    match who with
    | some t => s.fits l t start chg
    | none =>
      decide (s.beatTick + resMax s.alm.contracts port ≤ start) &&
      decide (start + chg + s.pairWait l ≤ s.beatTick + s.beatLen * 95 / 100)

/-- The keeper's next transaction on a link, with its transfer and its start, if it can start now. -/
def State.keeperNext (s : State) (l : Nat) : Option (KReq × Txn × Nat) :=
  if !(s.time.running && s.busRuns && s.linkFree l) then none
  else (s.keeperList l).findSome? fun k =>
    if decide (k.stage < 3) && !s.epTaken l k.addr k.ep (s.keeperTxn k).dirIn && !(s.tep l k.addr k.ep (s.keeperTxn k).dirIn).waitBeat &&
        s.bufferFree (s.keeperTxn k) then
      let x := s.keeperTxn k
      let start := s.startTick l x.inward
      if s.keeperFits l (s.placeAt k.route) start (s.txCharge x (s.txMps l x.addr x.ep x.dirIn)) then some (k, x, start) else none
    else none

/-- KEEPER_CONTROL_START (R104): the next packet of the keeper's transfers below a root attachment leaves, after all work of
order 3. How a request ends comes with its completion (log entry 32). -/
def State.keeperStart (s : State) (l : Nat) : State :=
  let s1 := { s with keeper := s.keeper.filter (fun k => k.link != l) ++ s.keeperOld l }
  match s.keeperNext l with
  | none => s1
  | some n =>
    if s.order3 l 0 then s1
    else State.launch { s1 with keeper := if s1.keeper.contains n.1 then s1.keeper else s1.keeper ++ [n.1] } n.2.1 n.2.2

/-- KEEPER_CONTROL_START (R104). -/
def execKeeperControlStart (p : Fin 16) (sd : Side) (s : State) : Host.Outcome State Fault Refusal :=
  done (s.keeperStart (linkOf p sd))

/-! ### Orders 5 and 6 (R106, R108) -/

/-- The charges of the slots of a link in the running beat. -/
def State.reserved (s : State) (l : Nat) : Nat :=
  (((s.frames.headD ⟨0, []⟩).slots.filter fun x =>
    x.slot.beat == s.time.beat && x.slot.port == portOf l && x.slot.pair == (l % 2 == 1)).map fun x => x.slot.charge).sum

/-- The first number of a list at or after a given one, else the first (round robin). -/
def nextFrom (n : Nat) (l : List Nat) : Option Nat :=
  match l.find? fun k => decide (n ≤ k) with
  | some k => some k
  | none => l.head?

/-- The active links of a root port. -/
def State.portLinks (s : State) (port : Nat) : List Nat := [2 * port, 2 * port + 1].filter s.linkUp

/-- A tenant's transfers of a kind that can start now on a root port, on either of its links, in list order (R106, R108). -/
def State.portReady (s : State) (port t : Nat) (control : Bool) : List (Entry × Txn) :=
  orderBy (fun a b => decide (a.1.order < b.1.order)) ((s.portLinks port).flatMap fun l => s.ready_ l t control)

/-- Bulk is pending on a root port: a bulk transfer of an enabled queue pair to a device below it waits or runs (R106). -/
def State.bulkPending (s : State) (port : Nat) : Bool :=
  s.qps.any fun v => v.2.enabled && v.2.entries.any fun e =>
    e.kind = .bulk && (e.phase = .queued || e.phase = .started) && s.entryPort e == port && s.entryThere e

/-- Half of the unreserved planned time of a root port's active links in the running beat (R106). -/
def State.controlHalf (s : State) (port : Nat) : Nat :=
  ((s.portLinks port).map fun l => s.beatLen * 95 / 100 - s.reserved l).sum / 2

/-- A control transaction may start now under R106: bulk is not pending, or control keeps to its half. -/
def State.controlShare (s : State) (port : Nat) (x : Txn) : Bool :=
  s.strict || !s.bulkPending port ||
    decide (Tab.getD s.alm.ctlUsed port 0 + s.txCharge x (s.txMps x.link x.addr x.ep x.dirIn) ≤ s.controlHalf port)

/-- The head of a tenant's control list on a port, if it can start now and no work of an earlier order waits (R104, R106,
R109). -/
def State.controlHead (s : State) (port t : Nat) : Option Txn :=
  match s.portReady port t true with
  | [] => none
  | (_, x) :: _ =>
    if (s.tryStart t x).isSome && !s.order3 x.link t && (s.keeperNext x.link).isNone && s.controlShare port x then some x
    else none

/-- CONTROL_TRANSACTION_START (R106): round robin over the tenants whose head can start; while bulk is pending control takes at
most half of the beat's unreserved planned time. -/
def State.controlStart (s : State) (port : Nat) : State :=
  let ts := s.qpOwners.filter fun t => (s.controlHead port t).isSome
  match nextFrom (Tab.getD s.alm.ctlTurn port 0) ts with
  | none => s
  | some t => match (s.controlHead port t).bind fun x => (s.tryStart t x).map fun u => (x, u) with
    | none => s
    | some xu =>
      let chg := s.txCharge xu.1 (s.txMps xu.1.link xu.1.addr xu.1.ep xu.1.dirIn)
      { xu.2 with alm := { xu.2.alm with
        ctlTurn := Tab.set xu.2.alm.ctlTurn port (t + 1)
        ctlUsed := Tab.set xu.2.alm.ctlUsed port (Tab.getD s.alm.ctlUsed port 0 + chg) } }

/-- CONTROL_TRANSACTION_START (R106): the rule and the round robin are of the port, so the side says only where time is free. -/
def execControlTransactionStart (p : Fin 16) (_sd : Side) (s : State) : Host.Outcome State Fault Refusal :=
  done (s.controlStart p)

/-- The key of a tenant's deficit on a port. -/
def defKey (port t : Nat) : Nat := port * 256 + t

/-- One turn of the Weir for a tenant begins: its quantum is added once a round (R108). -/
def State.weirVisit (s : State) (port t : Nat) : State :=
  let s1 := { s with alm := { s.alm with turn := Tab.set s.alm.turn port (t + 1) } }
  if Tab.getD s.alm.visited (defKey port t) false then s1
  else { s1 with alm := { s1.alm with
    deficit := Tab.set s.alm.deficit (defKey port t)
      (Tab.getD s.alm.deficit (defKey port t) 0 + s.getF Fld.tenWeirQuotaQuantum t)
    visited := Tab.set s.alm.visited (defKey port t) true } }

/-- After a tenant's turn the next tenant follows: its deficit is 0 if its list is empty, and a round ends when all have been
visited (R108). -/
def State.weirNext (s : State) (port t : Nat) (ts : List Nat) : State :=
  let all := ts.all fun u => Tab.getD s.alm.visited (defKey port u) false
  { s with alm := { s.alm with
    nextTen := Tab.set s.alm.nextTen port (t + 1)
    turn := Tab.set s.alm.turn port 0
    deficit := if (s.portReady port t false).isEmpty then Tab.set s.alm.deficit (defKey port t) 0 else s.alm.deficit
    visited := if all then s.alm.visited.filter fun e => e.1 / 256 != port else s.alm.visited } }

/-- The head of a tenant's bulk list on a port, if it can start now and no work of an earlier order waits (R104, R108, R109). -/
def State.weirHead (s : State) (port t : Nat) : Option Txn :=
  match s.portReady port t false with
  | [] => none
  | (_, x) :: _ =>
    if (s.tryStart t x).isSome && !s.order3 x.link t && (s.keeperNext x.link).isNone &&
        (if s.strict then (s.controlHead port t).isNone else !s.qpOwners.any fun u => (s.controlHead port u).isSome) then some x
    else none

/-- The Weir goes round a port until a head is within its tenant's deficit and fits (R108). -/
def State.weirRound (s : State) (port : Nat) (ts : List Nat) : Nat → State
  | 0 => s
  | n + 1 =>
    match nextFrom (Tab.getD s.alm.nextTen port 0) ts with
    | none => s
    | some t =>
      let s1 := s.weirVisit port t
      match s1.portReady port t false with
      | [] => (s1.weirNext port t ts).weirRound port ts n
      | (_, x) :: _ =>
        let chg := s1.txCharge x (s1.txMps x.link x.addr x.ep x.dirIn)
        let d := Tab.getD s1.alm.deficit (defKey port t) 0
        match if chg ≤ d then (s1.weirHead port t).bind (s1.tryStart t) else none with
        | some s2 => { s2 with alm := { s2.alm with
            deficit := Tab.set s2.alm.deficit (defKey port t) (d - chg)
            nextTen := Tab.set s2.alm.nextTen port t } }
        | none => (s1.weirNext port t ts).weirRound port ts n

/-- The turn of a tenant whose list has become empty is over (R108). -/
def State.weirTurn (s : State) (port : Nat) (ts : List Nat) : State :=
  match Tab.getD s.alm.turn port 0 with
  | 0 => s
  | t + 1 => if ts.contains t then s else s.weirNext port t ts

/-- WEIR_BULK_START (R108): the round of the port goes on while some head fits. In strict mode the tenant whose window is open
runs its list in order (R109). -/
def State.weirStart (s : State) (port : Nat) : State :=
  let ts := s.qpOwners.filter fun t => !(s.portReady port t false).isEmpty
  let fit := ts.filter fun t => (s.weirHead port t).isSome
  if fit.isEmpty then s
  else if s.strict then
    match fit.findSome? fun t => (s.weirHead port t).bind (s.tryStart t) with
    | some u => u
    | none => s
  else (s.weirTurn port ts).weirRound port ts (200 * (ts.length + 1))

/-- WEIR_BULK_START (R108): the round is of the port, so the side says only where time is free. -/
def execWeirBulkStart (p : Fin 16) (_sd : Side) (s : State) : Host.Outcome State Fault Refusal :=
  done (s.weirStart p)

end Sys2Proof.Machine
end

