-- ==== Sys2Proof/Machine/Halts.lean ====
section
/-!
DEFINITION. The halt: HALT_IN#, the halt commands, and the HALT token (02 R53, R54, 05 R137).
-/
namespace Sys2Proof.Machine

/-- HALT_OUT# is asserted, low. -/
def State.haltOut (s : State) : State :=
  if s.halt.outAsserted then s
  else { s with halt := { s.halt with outAsserted := true } }.emit (.pin "HALT_OUT#" false)

/-- HALT_OUT# is released. -/
def State.haltRelease (s : State) : State :=
  if s.halt.outAsserted then
    { s with halt := { s.halt with outAsserted := false, release := false } }.emit (.pin "HALT_OUT#" true)
  else { s with halt := { s.halt with release := false } }

/-- A halt begins: HALT_OUT# is asserted, a HALT token is due on every active link, and strikes are treated by R137; a
halt that already stands absorbs it (R53, R54). A standby sends no token (R384). -/
def State.beginHalt (s : State) (cause : Byte) : State :=
  if s.halt.stands then s
  else
    let due := if s.role = 3 then [] else s.activeLinks
    ({ s with halt := { s.halt with
      stands := true, cause := cause, release := false, due := due, sentAt := [] } }.haltOut).haltStrikes

/-- The halt ends: the flag is cleared from the next SOF, and HALT_OUT# is released after it (R53, Table 18-9). With no
active link there is no SOF to wait for. HALT tokens that have still to leave are sent all the same (log entry 129). -/
def State.endHalt (s : State) : State :=
  let s1 := { s with halt := { s.halt with stands := false, release := true } }
  if s.activeLinks.isEmpty then s1.haltRelease else s1

/-- HALT_IN_ASSERTED (R53, R54): the sampled level of the pin; only an asserted pin begins a halt. Before stage 4, and below
`Run`, the pin is not sampled (R352, R377). -/
def execHaltInAsserted (level : Bool) (s : State) : Host.Outcome State Fault Refusal :=
  let s1 := { s with halt := { s.halt with pinLow := level } }
  done (if level && decide (4 ≤ s.stage) && !s.inHold && s.getF Fld.pwrStateState 0 == 0 then s1.beginHalt 1 else s1)

/-- HALT_BEGIN (R54). -/
def bodyHaltBegin (s : State) (_ : List Byte) : CmdRes :=
  if s.halt.stands then .ok s 1 else .ok (s.beginHalt 2) 0

/-- The row of HaltBegin in Table 10-4. -/
def rowHaltBegin : CmdInfo :=
  { op := 0x0508, t0 := true }

/-- HALT_BEGIN (R54). -/
def execHaltBegin (t : Fin 256) (k : CmdPkt) (s : State) : Host.Outcome State Fault Refusal :=
  done (runCmd rowHaltBegin t k bodyHaltBegin s)

/-- HALT_END (R54). -/
def bodyHaltEnd (s : State) (_ : List Byte) : CmdRes :=
  if !s.halt.stands || s.halt.pinLow then .err s .wrongState else .ok s.endHalt 0

/-- The row of HaltEnd in Table 10-4. -/
def rowHaltEnd : CmdInfo :=
  { op := 0x0509, t0 := true, needReady := true }

/-- HALT_END (R54, R376). -/
def execHaltEnd (t : Fin 256) (k : CmdPkt) (s : State) : Host.Outcome State Fault Refusal :=
  done (runCmd rowHaltEnd t k bodyHaltEnd s)

/-- The HALT token leaves a link; staged strikes behind it are then treated by R137. -/
def State.sendHalt (s : State) (l : Nat) : State :=
  let s1 := (s.wakeLane l).emit (.packet (portOf l) (sideOf l) (s.linkSpeed l) (haltPkt s.halt.cause))
  ({ s1 with halt := { s1.halt with
    due := s1.halt.due.filter (· != l), sentAt := Tab.set s1.halt.sentAt l s1.now } }).haltSent l

/-- HALT_TOKEN_SEND (R53): on an H link after the packet in transmission, on a pair after the transaction in progress. -/
def execHaltTokenSend (p : Fin 16) (sd : Side) (s : State) : Host.Outcome State Fault Refusal :=
  let l := linkOf p sd
  done (if s.halt.due.contains l && s.linkUp l && (sd = .h || !s.txns.any fun x => x.link == l && x.outstanding) then
      s.sendHalt l
    else s)

end Sys2Proof.Machine
end

