-- ==== Sys2Proof/Machine/TxSlots.lean ====
section
/-!
DEFINITION. The compiled slots at their START: periodic transactions, splits, strikes and the reserves of withdrawals (04 R98
to R102, 05 R118, R125, R128, R133), and a submission entry's arrival (06 R150).
-/
namespace Sys2Proof.Machine

/-- Mark a slot of the running frame as departed, and take the strike out of it. -/
def State.slotGone (s : State) (i : Nat) : State :=
  let mark := fun x : FSlot × Nat => if x.2 = i then { x.1 with gone := true } else x.1
  match s.frames with
  | [] => s
  | f :: rest => { s with frames := { f with slots := f.slots.zipIdx.map mark } :: rest }

/-- A strike returns from its slot to unplaced; where no slot of its contract remains it ends with NOT_STAGED, or after a
slip with ANGLE_MISSED (R128, R138). -/
def State.slotMissed (s : State) (q : Nat) (idx : Half) : State :=
  let s1 := s.unplace q idx
  match (s1.qp q).entry idx, s1.boundContract q with
  | some e, some c =>
    if e.strike ≠ .unplaced ∨ e.phase ≠ .queued then s1
    else
      let e1 := s1.aim { e with guard := s1.time.guard } (s1.strikeFrame e)
      match s1.lastEligible e1 c (s1.prevAct q e) with
      | none => s1.endStrike q idx (if e.slipped then .angleMissed else .notStaged)
      | some _ => s1
  | _, _ => s1

/-- Whether a slot is skipped, by R98: its queue pair not enabled, its device not answering, its endpoint direction not
ready. A hub status contract of T0 whose slots go on polling needs no enabled queue pair (R321). -/
def State.slotSkips (s : State) (x : Slot) : Bool :=
  let addr := x.addrEp.toNat % 4096
  let ep := x.addrEp.toNat / 4096
  let v := s.qp x.qp
  !(v.enabled || v.polls) || !(match s.placeOf addr with | some p => p.served | none => false) ||
  !s.epReady (if x.pair then 2 * x.port + 1 else 2 * x.port) addr ep x.dirIn

/-- Launch a transaction in its slot. -/
def State.slotLaunch (s : State) (x : Txn) (tick : Nat) : State :=
  if s.linkFree x.link && !s.epTaken x.link x.addr x.ep x.dirIn && s.bufferFree x then s.launch x tick else s

/-- The link of a slot can take a transaction for it. -/
def State.slotOpen (s : State) (x : Txn) : Bool :=
  s.linkFree x.link && !s.epTaken x.link x.addr x.ep x.dirIn && s.bufferFree x

/-- A queue pair has entries posted that have not been read (R186). -/
def Qp.unread (v : Qp) : Bool := v.sqCons != v.sqProd

/-- The beats, the running one among them, in which a contract's own complete-split slots follow its start split (Table 4-3). -/
def Txn.ownBeats (x : Txn) : Nat := if x.phase = .start then (if x.low then 4 else 3) else 0

/-- The oldest periodic OUT entry that has not finished; longer ones than MAXP complete with BAD_LENGTH (R100). -/
def State.slotOut (s : State) (q maxp : Nat) : Nat → State × Option Entry
  | 0 => (s, none)
  | n + 1 =>
    match (s.qp q).entries.find? fun e =>
      e.kind = .periodic && !e.dirIn && (e.phase = .queued || e.phase = .started) with
    | none => (s, none)
    | some e => if maxp < e.len then (s.endAt q e.idx .badLength false).slotOut q maxp n else (s, some e)

/-- A periodic slot or start split (R100, R101, R125): an OUT whose payload is not wholly there is late; an IN polls for a
posted buffer that has room, a standing area or the Millrace. An entry that is posted and not yet read is late too (R186). -/
def State.slotPeriodic (s : State) (x : Slot) (p : Place) (tick : Nat) : State :=
  let ep := x.addrEp.toNat / 4096
  let v := s.qp x.qp
  if !x.dirIn then
    match s.slotOut x.qp x.maxp 4096 with
    | (s1, none) => if (s1.qp x.qp).unread then s1.modQp x.qp fun v => { v with late := satAdd 8 v.late 1 } else s1
    | (s1, some e) =>
      let y0 := s1.openTxn p p.addr ep false .outTok (.entry x.qp e.idx) e.data
      let y := { y0 with own := y0.ownBeats }
      if e.data.length < e.len then s1.modQp x.qp fun v => { v with late := satAdd 8 v.late 1 }
      else if s1.slotOpen y then ((s1.startEntry y).commitElems e).launch y tick
      else s1
  else
    match s.pollContract x.contract with
    | none => s
    | some c =>
      let room := match v.openBuffer with
        | some e => c.standing || (s.chanGo e && decide ((s.ep p.addr ep true).mps ≤ s.epRoom (s.ep p.addr ep true)))
        | none => false
      let y := s.openTxn p p.addr ep true .inTok (.standing c.id) []
      if room || c.standing || c.mrcSrc || v.polls then s.slotLaunch { y with own := y.ownBeats } tick else s

/-- The retained split that a contract's complete-split slot serves: its transaction, or for the DISARM reserve the
DISARM's (Table 4-3; log entry 22). -/
def State.slotSplit (s : State) (x : Slot) (disarm : Bool) : Option Txn :=
  s.txns.find? fun y =>
    y.addr == x.addrEp.toNat % 4096 && y.ep == x.addrEp.toNat / 4096 && y.dirIn == x.dirIn && decide (y.phase = .wait) &&
    decide ((y.kind = .disarm) ↔ disarm) && s.stepDue y

/-- The last of a contract's own complete-split slots has passed for a transaction (Table 4-3, R103). -/
def State.ownPassed (s : State) (x : Slot) : State :=
  let mine := fun y : Txn => y.addr == x.addrEp.toNat % 4096 && y.ep == x.addrEp.toNat / 4096 && y.dirIn == x.dirIn
  let txns := s.txns.map fun y => if mine y && y.own == 1 then { y with own := 0 } else y
  { s with txns := txns }

/-- A complete-split slot (R49, R103). -/
def State.slotComplete (s : State) (x : Slot) (tick : Nat) : State :=
  match s.slotSplit x false with
  | none => s.ownPassed x
  | some y => (if s.linkFree y.link then s.resumeTxn y tick else s).ownPassed x

/-- At a tick, an endpoint holds a strike that has been staged and has not acted (R118, R128). -/
def State.strikeHeld (s : State) (addr ep : Nat) (but : Nat × Half) (tick : Nat) : Bool :=
  s.qps.any fun v => v.2.entries.any fun e =>
    e.kind = .strike && e.addr == addr && e.ep == ep && e.phase = .started && (v.1, e.idx) != but && decide (tick ≤ e.tAct.toNat)

/-- A strike slot: the STRIKE departs only if it may still be placed there with the latest C, its payload is whole, and the
endpoint holds no other strike; otherwise it returns to unplaced (R118, R127, R128). On a path that has come to a version
below 3.0 meanwhile, it ends with UNSUPPORTED (R52). -/
def State.slotStrike (s : State) (x : FSlot) (p : Place) (tick : Nat) : State :=
  match x.strike with
  | none => s
  | some w =>
    match (s.qp w.1).entry w.2 with
    | none => s
    | some e =>
      let e1 := s.aim e e.actFrame
      let prev := s.prevAct w.1 e
      let seq := ((s.ep e.addr e.ep false).seq + 1) % 256
      let y0 := s.strikeTxn w.1 e p
      let y := { y0 with own := y0.ownBeats }
      let go := !s.halt.stands && s.slotEligible e1 prev 0 x.slot && decide (e.data.length = e.len) &&
        !s.strikeHeld e.addr e.ep w tick && s.slotOpen y
      if !s.pathE p then s.endStrike w.1 w.2 .unsupported
      else if !go then s.slotMissed w.1 w.2
      else
        let s1 := (s.dropPlacement w.1 w.2).modEp e.addr e.ep false fun k => { k with seq := seq }
        let s2 := s1.modEntry w.1 w.2 fun e => { e with
          phase := .started, strike := .staged, seq := seq, tAct := e1.tAct, commitAt := e1.commitAt
          slotFrame := s.time.frame, stage := 0, maybeHeld := false, wSent := false, wAgain := false, slipped := false }
        s2.launch y tick

/-- The withdrawal that a reserve on a root port serves: of the reserve's own contract first, else of another strike of the
same tenant there (R133). -/
def State.reserveFor (s : State) (x : Slot) (retract : Bool) (tick : Nat) : Option (Nat × Entry) :=
  let t := (s.qp x.qp).owner
  let fit := fun (v : Nat × Qp) (e : Entry) =>
    v.2.owner == t && s.withdrawDue v.1 e tick && s.strikePort e == x.port &&
      (match s.strikePlace e with | some p => (s.splitOf p).isSome == retract | none => false)
  let pick := fun vs : List (Nat × Qp) => vs.findSome? fun v => (v.2.entries.find? (fit v)).map fun e => (v.1, e)
  match pick (s.qps.filter fun v => v.1 == x.qp) with
  | some r => some r
  | none => pick s.qps

/-- A DISARM or RETRACT reserve (R133): the complete split of a DISARM, or a withdrawal of the same tenant. -/
def State.slotReserve (s : State) (x : Slot) (tick : Nat) : State :=
  match if x.role = 4 then s.slotSplit x true else none with
  | some y => if s.linkFree y.link then s.resumeTxn y tick else s
  | none => match s.reserveFor x (x.role == 5) tick with
    | some w => s.sendWithdrawal w.1 w.2 tick
    | none => s

/-- Serve a slot at its START (R98 to R101). Back-pressure skips the slots that would start a transfer; those that carry on
with what has started, and withdrawals, go on (R157). -/
def State.serveSlot (s : State) (x : FSlot) (tick : Nat) : State :=
  let k := x.slot
  let back := match x.strike with
    | some w => fun s : State => s.slotMissed w.1 w.2
    | none => fun s => s
  if s.slotSkips k then back s
  else if k.role = 4 ∨ k.role = 5 then s.slotReserve k tick
  else if (s.qp k.qp).bpNow && k.role != 2 then
    back (s.modQp k.qp fun v => { v with missed := satAdd 16 v.missed 1 })
  else match s.placeOf (k.addrEp.toNat % 4096) with
    | none => s
    | some p =>
      if k.role = 3 then s.slotStrike x p tick
      else if k.role = 2 then s.slotComplete k tick
      else s.slotPeriodic k p tick

/-- The link of a slot. -/
def Slot.link (x : Slot) : Nat := 2 * x.port + (if x.pair then 1 else 0)

/-- SLOT_START (R98): slot i of the running frame comes to its START in the running beat. On a pair on which a device
packet is still arriving the token waits for its end (R99). A quad's start 25 main clocks earlier holds the slot up (R17). -/
def State.slotStart (s : State) (i : Nat) (rxBusy : Bool) : State :=
  match ((s.frames.headD ⟨0, []⟩).slots)[i]? with
  | none => s
  | some x =>
    if x.gone || x.slot.beat != s.time.beat || !s.time.running || s.role == 3 then s
    else
      let tick := max (s.slotTick 0 x.slot) (Tab.getD s.alm.starts (quadOf x.slot.port) 0)
      let s1 := (s.upTo (BitVec.ofNat 64 tick)).slotGone i
      let l := x.slot.link
      if x.slot.pair && (rxBusy || (s.link l).arriving) then s1.modLink l fun k => { k with slotHeld := k.slotHeld ++ [i] }
      else if s.linkUp l then s1.serveSlot x tick
      else match x.strike with
        | some w => s1.slotMissed w.1 w.2
        | none => s1

/-- SLOT_START (R98). -/
def execSlotStart (i : Nat) (rxBusy : Bool) (s : State) : Host.Outcome State Fault Refusal := done (s.slotStart i rxBusy)

/-- A slot that a packet held back is served when the packet has ended and the pair is free; it is counted late if its token
leaves (R99). -/
def State.lateSlot (s : State) (i : Nat) : State :=
  match ((s.frames.headD ⟨0, []⟩).slots)[i]? with
  | none => s
  | some x =>
    let l := x.slot.link
    let s0 := s.modLink l fun k => { k with arriving := false }
    if !(s.link l).slotHeld.contains i then s
    else if s.linkUp l && (s.freeTag l).isNone then s0
    else
      let s1 := s0.modLink l fun k => { k with slotHeld := k.slotHeld.filter (· != i) }
      let s2 := s1.serveSlot x (max s.now.toNat (Tab.getD s.alm.starts (quadOf x.slot.port) 0))
      if s1.out.length < s2.out.length then s2.addF Fld.prtSlotLateLate x.slot.port 1 else s2

/-- LATE_SLOT_SEND (R99). -/
def execLateSlotSend (i : Nat) (s : State) : Host.Outcome State Fault Refusal := done (s.lateSlot i)

/-! ### SUBMISSION_ENTRY_ARRIVAL (R150) -/

/-- An entry posted for a device behind a dozing link starts a host resume (R221): of the root pair, or of the hub's port by
the keeper. -/
def State.resumeFor (s : State) (p : Place) : State :=
  let l := routeLink p.route
  let port := l / 2
  let s1 := if l % 2 = 1 ∧ s.pState port = 4 ∧ !(s.link l).resume then
      ((s.setF Fld.prtLaneStatusPState port 5).modLink l fun k => { k with resume := true, resumeEnded := false }).emit
        (.signal l "K")
    else s
  (pathOf p.route).foldl (fun s r => match s.place r with
    | some h => if h.doze then s.alter r fun h => { h with dozeExit := true } else s
    | none => s) s1

/-- The entry that has just landed, if it waits. -/
def State.landed (s : State) (q : Nat) : Option Entry := ((s.qp q).entries.getLast?).bind fun e =>
  if e.phase = .queued then some e else none

/-- SUBMISSION_ENTRY_ARRIVAL (R150): the oldest fetch of the queue pair returns. -/
def State.entryArrives (s : State) (q : Nat) (b : List Byte) : State :=
  match s.dma.reqs.find? fun r => decide (r.what = .subEntry q) with
  | none => s
  | some r =>
    let s1 := { s with dma := { s.dma with reqs := s.dma.reqs.filter fun x => x.id != r.id } }
    let s2 := if (s.qp q).state = .disabled ∨ (s.qp q).state = .faulted then s1 else (s1.landEntry q b).deliver q
    let s3 := match s2.landed q with
      | some e => match s2.entryPlace e with
        | some p => s2.resumeFor p
        | none => s2
      | none => s2
    if (s3.qp q).contract.isSome then s3.attempt q 4096 else s3

/-- SUBMISSION_ENTRY_ARRIVAL (R150). -/
def execSubmissionEntryArrival (q : Fin 4096) (data : List Byte) (s : State) : Host.Outcome State Fault Refusal :=
  done (s.entryArrives q data)

end Sys2Proof.Machine
end

