-- ==== Sys2Proof/Machine/Lanes.lean ====
section
/-!
DEFINITION. Root lanes and pairs: how a link comes up, is lost and regained, drowses, and is measured (09 R230 to R248, 08
R212, R215, 02 R22 to R24, R59). The registers of twin lane k are those of instance 16 + k, and its link is 32 + k.
-/
namespace Sys2Proof.Machine

/-- Root attachments are run: stage 4 has been reached on a chip that has settled as single or primary (R377, R383). -/
def State.treeRuns (s : State) : Bool := decide (4 ≤ s.stage) && !s.inHold && s.role != 1 && s.role != 3

/-- The hub at the H lane of a root port is dual-homed, so a standby trains the lane (R384): as its descriptor says, or, where
none has been read, as an expected hub whose entry is not SINGLE_HOMED. -/
def State.dualAt (s : State) (p : Nat) : Bool :=
  match (s.placeAt (rootRoute p .h)).hub, s.topoAt (rootRoute p .h) with
  | some h, _ => h.dual
  | none, some e => isHubClass e.cls && bitsOf e.flags 2 1 == 0
  | none, none => false

/-- A side of a root port is brought up when a device stands there (R377, R384). -/
def State.trains (s : State) (p : Nat) (sd : Side) : Bool :=
  s.treeRuns || (decide (4 ≤ s.stage) && !s.inHold && s.role == 3 && sd == .h && s.dualAt p)

/-- The lowest version that a side offers (R23). -/
def protoLow (sd : Side) : Nat := if sd = .h then 0x30 else 0x10

/-- The capability word of the Vohus in the present bring-up: both optional features, no hub (R59, Table 2-2; log entry 38). -/
def State.capWord (s : State) (p : Nat) (sd : Side) : List Byte :=
  leBytes 4 ((s.link (linkOf p sd)).cap + 256 * protoLow sd + 0x90000)

/-! ### Bring-up of the H lane (R232, R233) -/

/-- Step 2 of Table 9-2 begins: TS1 is sent. -/
def State.trainStart (s : State) (lane : Nat) : State :=
  (((s.setF Fld.prtLaneStatusHState lane 1).setF Fld.prtLaneStatusHBitLock lane 0).setF Fld.prtLaneStatusHSymLock lane
    0).modLink (laneLink lane) (fun k => { k with lock := 0, ts2 := 0, attempts := 0 }) |>.emit (.ordered lane "TS1" 0 [0])

/-- A side of a root port starts its bring-up, with the cap of the moment: training on the H lane unless the port is capped
below 3.0 (R59), 2.0 ms of SE0 on the pair (R236). -/
def State.bringUpSide (s0 : State) (p : Nat) (sd : Side) : State :=
  let s := s0.modLink (linkOf p sd) fun k => { k with cap := s0.protoCap p }
  match sd with
  | .h => if s0.protoCap p < 0x30 then s else s.trainStart p
  | .p => (s.setF Fld.prtLaneStatusPState p 1).modLink (2 * p + 1) (fun k => { k with attempts := 0 }) |>.emit
      (.signal (2 * p + 1) "SE0")

/-- A connect at a root attachment is valid (R215): a disabled attachment stays disabled (R226), and a side in test mode
ignores it (R249). -/
def State.connect (s : State) (p : Nat) (sd : Side) (speedF : Bool) : State :=
  let r := rootRoute p sd
  let q := s.placeAt r
  let st := match sd with | .h => s.hState p | .p => s.pState p
  if !s.trains p sd || st != 0 || decide (1 < s.getF Fld.pwrStateState 0) || (sd == .p && q.connected && q.cause == 0) then s
  else
    let s1 := s.alter r fun q => { q with connected := true }
    if q.cause != 0 then s1
    else if sd = .h then (s1.alter r fun q => { q with speed := 3 }).bringUpSide p .h
    else ((s1.alter r fun q => { q with speed := if speedF then 2 else 1 }).setF Fld.prtLaneStatusPSpeed p
      (if speedF then 2 else 1)).bringUpSide p .p

/-- CONNECT_VALID (R215) at a root attachment; connects at hub ports are the hubs' own. -/
def execConnectValid (route : DWord) (speedF : Bool) (s : State) : Host.Outcome State Fault Refusal :=
  done (if hopsOf route = [] ∧ routeOk route then
      s.connect (routePort route) (if routePair route then .p else .h) speedF
    else s)

/-- A link has reached the active state for the first time since its connect or reset: the device on it answers at address
0 and waits for its bring-up (R57, R207, Table 8-8). -/
def State.linkActive (s : State) (p : Nat) (sd : Side) : State :=
  let l := linkOf p sd
  let r := rootRoute p sd
  let s1 := match sd with
    | .h => s.setF Fld.prtLaneStatusHState p 3
    | .p => s.setF Fld.prtLaneStatusPState p 3
  let s2 := s1.modLink l fun k => { k with marked := false, attempts := 0, resume := false, resumeEnded := false, skp := s.now }
  if s.role = 3 then s2
  else s2.alter r fun q0 =>
    let q := { q0 with resetAsked := false }
    if q.present && q.keptByReset then { q with connected := true, enabled := true, version := (s.link l).ver }
    else { q with
      connected := true, enabled := true, version := (s.link l).ver, step := .queued, autonomous := !s.ready }

/-- A bring-up of a side fails: TRAIN_FAIL is counted; a device that stood there has gone, as has one that is being reset
(R232, R233). -/
def State.trainFail (s : State) (p : Nat) (sd : Side) : State :=
  let r := rootRoute p sd
  let s1 := s.addF Fld.prtRideTrainFail p 1
  if (s1.placeAt r).stood then s1.learnGone r else s1.linkDown (linkOf p sd)

/-- Record the peer's word and agree the version (R23, R24, R58). A feature takes effect when both ends set its flag and
the agreed version includes it. -/
def State.agree (s : State) (p : Nat) (sd : Side) (w : Word) : State × Bool :=
  let l := linkOf p sd
  let v := agreeVersion (s.link l).cap (protoLow sd) (capHi w) (capLo w)
  let s1 := (s.modLink (linkOf p (if sd = .h then .p else .h)) fun k => { k with capLast := false }).modLink l fun k =>
    { k with
      peer := w, mismatch := v.isNone, capLast := true, ver := v.getD 0
      quick := decide (0x21 ≤ v.getD 0) && w.getLsbD 16, dirDrowse := decide (0x31 ≤ v.getD 0) && w.getLsbD 19 }
  (s1, v.isSome)

/-- A capability word as received: four bytes and their CRC8 (Table 9-1, R236). -/
def capOf (rx : LineRx) : Option Word :=
  if rx.lineOk && rx.bytes.length == 5 && crc8 (rx.bytes.take 4) == rx.bytes.getD 4 0 then
    some (BitVec.ofNat 32 (leNat (rx.bytes.take 4)))
  else none

/-- CAP_SET_RECEIVED (R232): the word of two identical good CAP sets. -/
def execCapSetReceived (p : Fin 16) (rx : LineRx) (s : State) : Host.Outcome State Fault Refusal :=
  done (if s.hState p != 2 then s
    else match capOf rx with
      | none => s
      | some w =>
        let a := s.agree p .h w
        if a.2 then (a.1.linkActive p .h).emit (.ordered p "IDLE" 16 []) else a.1.trainFail p .h)

/-- Step 4 of Table 9-2 is complete: a root lane goes on to its capability step, or straight to active when it relocks
after being parked; a twin lane is active; a lane under far-end loopback stays in test (R232, R241, R250, R386). -/
def State.trained (s : State) (lane : Nat) : State :=
  let l := laneLink lane
  if 16 ≤ lane then
    let first := !(List.range 4).any fun k => s.getF Fld.prtLaneStatusHState (16 + k) == 3
    let s2 := (s.setF Fld.prtLaneStatusHState lane 3).modLink l fun k => { k with skp := s.now }
    if first then s2.sendHello none else s2
  else if (s.link l).resume then
    ((s.setF Fld.prtLaneStatusHState lane 3).modLink l fun k =>
      { k with resumeEnded := true, parked := false, since := s.now, skp := s.now })
  else (s.setF Fld.prtLaneStatusHState lane 2).emit (.ordered lane "CAP" 0 (withCrc8 (s.capWord lane .h)))

/-- Loss of an active link, or TS1 with FAST received on it, starts a retrain (R242): nothing is sent until it ends, and
what was outstanding counts one failure (R244). -/
def State.retrainStart (s : State) (p : Nat) : State :=
  let l := 2 * p
  let s1 := (((((s.setF Fld.prtLaneStatusHState p 4).setF Fld.prtLaneStatusHBitLock p 0).setF Fld.prtLaneStatusHSymLock p
    0).setF Fld.prtLaneStatusHTxDrowse p 0).setF Fld.prtLaneStatusHRxDrowse p 0).modLink l fun k =>
      { k with lock := 0, ts2 := 0, since := s.now, wakeReq := none }
  let s2 := (s1.outstanding l).foldl (fun s x => s.txError x) s1
  (s2.abortScan p).emit (.ordered p "TS1" 0 [1])

/-- The FLAGS of the training sets that a lane sends: FAST in a retrain or a relock, LOOPBACK in far-end loopback (Table 9-1,
R241, R242, R250). -/
def State.trainFlags (s : State) (lane : Nat) : List Byte :=
  let st := s.getF Fld.prtLaneStatusHState lane
  leBytes 1 ((if st = 4 || (s.link (laneLink lane)).resume then 1 else 0) + (if st = 6 then 2 else 0))

/-- Training sets arrive (R232, R242, R243): n good ones in a row. Once 8 good TS1 are there, 16 TS2 are sent. -/
def State.trainingSet (s : State) (lane : Nat) (ts2 fast loopback : Bool) (n : Nat) : State :=
  let l := laneLink lane
  let st := s.getF Fld.prtLaneStatusHState lane
  let sent := decide (8 ≤ (s.link l).lock + (s.link l).ts2)
  let took := s.modLink l fun k =>
    if ts2 then { k with ts2 := min 8 (k.ts2 + n) } else { k with lock := min 8 (k.lock + n) }
  let locks := fun s : State =>
    let b := if n = 0 then s else s.setF Fld.prtLaneStatusHBitLock lane 1
    if 8 ≤ (b.link l).lock + (b.link l).ts2 then
      let c := b.setF Fld.prtLaneStatusHSymLock lane 1
      if sent then c else c.emit (.ordered lane "TS2" 16 (s.trainFlags lane))
    else b
  if st = 1 ∨ st = 5 then
    if (s.link l).resume && !fast then s
    else
      let s1 := locks took
      if 8 ≤ (s1.link l).ts2 then s1.trained lane else s1
  else if st = 4 then (if fast then locks took else s)
  else if st = 3 then
    if fast && !ts2 && decide (lane < 16) && !(s.link l).parked then s.retrainStart lane else s
  else if st = 6 && s.getF Fld.prtTestCtrlMode lane == 3 && loopback then locks took
  else s

/-- TRAINING_SET_RECEIVED (R232). -/
def execTrainingSetReceived (lane : Fin 20) (ts2 fast loopback : Bool) (n : Nat) (s : State) :
    Host.Outcome State Fault Refusal := done (s.trainingSet lane ts2 fast loopback n)

/-- TRAINING_LIMIT_TIMEOUT (R232). -/
def execTrainingLimitTimeout (lane : Fin 20) (s : State) : Host.Outcome State Fault Refusal :=
  let st := s.getF Fld.prtLaneStatusHState lane
  done (if st != 1 && st != 2 && st != 5 then s
    else if 16 ≤ lane.val then
      ((s.setF Fld.prtLaneStatusHState lane 0).modLink (laneLink lane) fun k => { k with lock := 0, ts2 := 0, attempts := 0 })
    else s.trainFail lane .h)

/-- RECEIVER_DETECT_PULSE (R232): a lane in step 1 makes a pulse; a lane with nothing at its end shows no device, and a twin
lane that has shown its partner for 10 ms goes on to step 2 (R215, R386). -/
def execReceiverDetectPulse (lane : Fin 20) (found : Bool) (s : State) : Host.Outcome State Fault Refusal :=
  let st := s.getF Fld.prtLaneStatusHState lane
  let l := laneLink lane
  done (if st != 0 || s.stage < 4 || s.inHold || (decide (16 ≤ lane.val) && !s.domainOn 10) then s
    else
      let s1 := s.emit (.signal l "detect")
      if lane.val < 16 then
        if !found && (s1.place (rootRoute lane .h)).isSome then s1.alter (rootRoute lane .h) fun q => { q with connected := false }
        else s1
      else if !found then s1.modLink l fun k => { k with attempts := 0 }
      else if (s1.link l).attempts < 100 then s1.modLink l fun k => { k with attempts := k.attempts + 1 }
      else s1.trainStart lane)

/-! ### Bring-up of the pair (R236) -/

/-- Send the pair's capability word, one attempt more (R236). -/
def State.pairOffer (s : State) (p : Nat) : State :=
  (s.modLink (2 * p + 1) fun k => { k with attempts := k.attempts + 1 }).emit
    (.packet p .p (s.linkSpeed (2 * p + 1)) (withCrc8 (s.capWord p .p)))

/-- The pull-up of a pair shows after its reset, on line P for F: the speed is that of the line, and the capability step begins
(R235, R236). -/
def State.pullUpShown (s : State) (p : Nat) (speedF : Bool) : State :=
  let v := if speedF then 2 else 1
  let s1 := (s.setF Fld.prtLaneStatusPSpeed p v).alter (rootRoute p .p) fun q => if q.present then q else { q with speed := v }
  s1.pairOffer p

/-- PAIR_RESET_SE0_END (R236): the pair is released, and once the pull-up shows the capability word is sent; `pull` tells
whether it shows yet, and whether on line P. -/
def execPairResetSe0End (x : PairRelease) (s : State) : Host.Outcome State Fault Refusal :=
  let p := x.port
  let released := if s.pState p = 1 then (s.setF Fld.prtLaneStatusPState p 2).emit (.signal (2 * p + 1) "J") else s
  done (if s.pState p = 1 ∨ (s.pState p = 2 ∧ (s.link (2 * p + 1)).attempts = 0) then
      match x.pull with
      | some f => released.pullUpShown p f
      | none => released
    else s)

/-- PAIR_PULLUP_TIMEOUT (R236). -/
def execPairPullupTimeout (p : Fin 16) (s : State) : Host.Outcome State Fault Refusal :=
  done (if s.pState p = 2 ∧ (s.link (2 * p + 1)).attempts = 0 then s.learnGone (rootRoute p .p) else s)

/-- An attempt of the pair's capability step fails; after the third the pair waits for a new connect (R236). -/
def State.pairAttempt (s : State) (p : Nat) : State :=
  if (s.link (2 * p + 1)).attempts < 3 then s.pairOffer p else s.trainFail p .p

/-- PAIR_CAPABILITY_REPLY (R236); a word that fails its check is no answer. -/
def execPairCapabilityReply (p : Fin 16) (rx : LineRx) (s : State) : Host.Outcome State Fault Refusal :=
  done (if s.pState p != 2 || (s.link (2 * p + 1)).attempts == 0 then s
    else match capOf rx with
      | none => s.pairAttempt p
      | some w =>
        let a := s.agree p .p w
        if a.2 then a.1.linkActive p .p else a.1.trainFail p .p)

/-- PAIR_CAPABILITY_TIMEOUT (R236). -/
def execPairCapabilityTimeout (p : Fin 16) (s : State) : Host.Outcome State Fault Refusal :=
  done (if s.pState p = 2 ∧ (s.link (2 * p + 1)).attempts ≠ 0 then s.pairAttempt p else s)

/-! ### Disconnects and ride-through (R212, R242 to R244) -/

/-- ROOT_DISCONNECT (R212): a disabled attachment stays disabled, and a side in test mode senses none. -/
def execRootDisconnect (p : Fin 16) (sd : Side) (s : State) : Host.Outcome State Fault Refusal :=
  let r := rootRoute p sd
  let q := s.placeAt r
  let st := match sd with | .h => s.hState p | .p => s.pState p
  done (if st = 6 ∨ s.role = 3 then s
    else if q.cause != 0 then s.alter r fun q => { q with connected := false }
    else if q.connected || q.stood || st != 0 then s.learnGone r
    else s)

/-- LINK_LOSS (R242): on an active direction that does not drowse. -/
def execLinkLoss (p : Fin 16) (s : State) : Host.Outcome State Fault Refusal :=
  done (if s.linkUp (2 * p) && !s.bit Fld.prtLaneStatusHRxDrowse p then
      (s.addF Fld.prtLaneErrLoss p 1).retrainStart p
    else s)

/-- RETRAIN_SUCCESS (R243): the link keeps all that was agreed; path delays below it are measured again (R244), and a port
reset that waited is applied (Table 9-5). -/
def execRetrainSuccess (p : Fin 16) (s : State) : Host.Outcome State Fault Refusal :=
  let l := 2 * p.val
  let r := rootRoute p .h
  done (if s.hState p != 4 then s
    else
      let s1 := ((((s.setF Fld.prtLaneStatusHState p 3).setF Fld.prtLaneStatusHBitLock p 1).setF Fld.prtLaneStatusHSymLock p
        1).addF Fld.prtRideRideThrough p 1)
      if (s1.link l).resetWaits then
        ((s1.modLink l fun k => { k with resetWaits := false }).beginReset r).resetRoot r
      else ((s1.allPlaces.filter fun q => routeLink q.route == l).map (·.route)).foldl (fun s r => s.remeasure r) s1)

/-- RETRAIN_TIMEOUT (R243): a disconnect under R212, which prevails over a waiting port reset. -/
def execRetrainTimeout (p : Fin 16) (s : State) : Host.Outcome State Fault Refusal :=
  done (if s.hState p = 4 then
      let s1 := s.addF Fld.prtRideRtFail p 1
      if s.role = 3 then s1.linkDown (2 * p) else s1.learnGone (rootRoute p .h)
    else s)

/-! ### Drowse (R238 to R241) -/

/-- The tick of the next mark: the start of the next beat or frame (R62). -/
def State.nextMark (s : State) : DWord := s.beatStartTick (s.time.beat + 1)

/-- A withdrawal that has still to be sent, or a staged strike that may have to be sent again, on an H link (R129, R133). -/
def State.strikeWork (s : State) (p : Nat) : Bool :=
  s.qps.any fun v => v.2.entries.any fun e =>
    e.kind = .strike && e.phase = .started && s.strikePort e == p && (match s.strikePlace e with
      | some q => !routePair q.route
      | none => false) &&
    ((e.strike = .withdrawing && (!e.wSent || e.wAgain)) || s.strikeAgain v.1 e s.now.toNat)

/-- Nothing is queued to send on an H link, the keeper's work among it, and the next mark and slot START lie far enough ahead
(R239). -/
def State.quietFor (s : State) (p : Nat) : Bool :=
  let l := 2 * p
  let gap := 500 * s.getF Fld.prtLaneCtrlDrowseMin p
  let far := fun t : Nat => decide (s.now.toNat + gap ≤ t)
  let slots : List FSlot := (s.frames.headD ⟨0, []⟩).slots.filter fun x : FSlot => !x.gone && x.slot.port == p && !x.slot.pair
  !(s.txns.any fun x => x.link == l && (x.outstanding || x.beats == 0)) && !s.halt.due.contains l && far s.nextMark.toNat &&
    (slots.all fun x => far (s.slotTick 0 x.slot) || decide (s.slotTick 0 x.slot < s.now.toNat)) && !s.strikeWork p &&
    (s.keeperList l).all (fun k => k.stage == 3) &&
    !(s.qpOwners.any fun t => !(s.ready_ l t true).isEmpty || !(s.ready_ l t false).isEmpty)

/-- OUTBOUND_DROWSE_ENTRY (R239). -/
def execOutboundDrowseEntry (p : Fin 16) (s : State) : Host.Outcome State Fault Refusal :=
  let l := 2 * p.val
  done (if s.linkUp l && !s.bit Fld.prtLaneStatusHTxDrowse p && s.bit Fld.prtLaneCtrlHDrowseEn p && (s.link l).dirDrowse &&
      s.getF Fld.pwrStateState 0 == 0 && s.getF Fld.pwrStateEntryStep 0 == 0 && s.role != 3 && s.quietFor p then
      (s.setF Fld.prtLaneStatusHTxDrowse p 1).emit (.ordered p "DROWSE" 1 [])
    else s)

/-- OUTBOUND_DROWSE_EXIT (R239): the wake burst; what is sent next starts 1.0 µs later. -/
def execOutboundDrowseExit (p : Fin 16) (s : State) : Host.Outcome State Fault Refusal :=
  let late := fun (b : Tab Nat) (inbound : Bool) =>
    Tab.set b (busyKey (2 * p.val) inbound) (max (Tab.getD b (busyKey (2 * p.val) inbound) 0) (s.now.toNat + 500))
  done (if s.linkUp (2 * p) && s.bit Fld.prtLaneStatusHTxDrowse p then
      let s1 := (s.setF Fld.prtLaneStatusHTxDrowse p 0).emit (.signal (2 * p) "wake burst")
      { s1 with alm := { s1.alm with busy := late (late s1.alm.busy false) true } }
    else s)

/-- Park an H link whose directions both drowse under R241. -/
def State.parkH (s : State) (p : Nat) : State :=
  if s.bit Fld.prtLaneStatusHTxDrowse p && s.bit Fld.prtLaneStatusHRxDrowse p then
    s.modLink (2 * p) fun k => { k with parked := true, since := s.now }
  else s

/-- DROWSE_SET_RECEIVED (R238, R241): the inbound direction drowses; a response that is owed is not awaited (Table 9-5). On
entry to a lower power state it answers the DROWSE that was sent. -/
def execDrowseSetReceived (p : Fin 16) (s : State) : Host.Outcome State Fault Refusal :=
  let l := 2 * p.val
  let parking := decide (2 ≤ s.getF Fld.pwrStateEntryStep 0)
  done (if !s.linkUp l || !(parking || (s.link l).dirDrowse) then s
    else
      let s1 := s.setF Fld.prtLaneStatusHRxDrowse p 1
      let s2 := (s1.outstanding l).foldl (fun s x => s.txError x) s1
      if parking then s2.parkH p else s2)

/-- The packets of the transactions that waited for an inbound direction leave, in the order in which they began (R240). -/
def State.sendWaiting (s : State) (l : Nat) : State :=
  let waits := (s.outstanding l).filter fun x => x.unsent
  let s1 := { s with txns := s.txns.map fun (x : Txn) => if x.link = l then { x with unsent := false } else x }
  waits.foldl (fun s x => s.sendPackets { x with unsent := false }) s1

/-- INBOUND_DROWSE_EXIT (R238): what waited for the response direction leaves (R240). -/
def execInboundDrowseExit (p : Fin 16) (s : State) : Host.Outcome State Fault Refusal :=
  let s1 := (s.setF Fld.prtLaneStatusHRxDrowse p 0).modLink (2 * p) fun k => { k with wakeReq := none }
  done (if s.linkUp (2 * p) then s1.sendWaiting (2 * p) else s)

/-- WAKE_REQ_SEND (R240): the outbound direction does not drowse and the inbound one does. -/
def execWakeReqSend (p : Fin 16) (s : State) : Host.Outcome State Fault Refusal :=
  done (if s.linkUp (2 * p) && s.bit Fld.prtLaneStatusHRxDrowse p && !s.bit Fld.prtLaneStatusHTxDrowse p then
      (s.modLink (2 * p) fun k => { k with wakeReq := some s.now }).emit (.ordered p "WAKE_REQ" 1 [])
    else s)

/-- WAKE_REQ_TIMEOUT (R240): no exit has followed WAKE_REQ, and the transaction that waits for it counts one error. -/
def execWakeReqTimeout (p : Fin 16) (tag : Fin 8) (s : State) : Host.Outcome State Fault Refusal :=
  done (if s.linkUp (2 * p) && s.bit Fld.prtLaneStatusHRxDrowse p && (s.link (2 * p)).wakeReq.isSome then
      match (s.outstanding (2 * p)).find? fun x => x.tag == tag.val && x.unsent with
      | none => s
      | some x => (s.modLink (2 * p) fun k => { k with wakeReq := none }).txError x
    else s)

/-! ### Lane health and calibration (R230, R246, R248) -/

/-- The tick at which a lane's next SKP set begins: not before it is due, 1,180 symbols after the last one, and not in the tick
of the mark that began the running beat (R230). -/
def State.skpTick (s : State) (l : Nat) : Nat :=
  let due := max s.now.toNat ((s.link l).skp.toNat + 1180)
  if s.time.running && due == (s.beatStartTick s.time.beat).toNat then due + 1 else due

/-- SKP_SET_SEND (R230): the next SKP set of a lane leaves at the first boundary between packets after it falls due. The next
mark goes first where the set would begin in its tick or after it. -/
def execSkpSetSend (lane : Fin 20) (s : State) : Host.Outcome State Fault Refusal :=
  let l := laneLink lane
  let tick := s.skpTick l
  done (if s.getF Fld.prtLaneStatusHState lane = 3 ∧ !(s.link l).parked ∧ s.bit Fld.prtLaneStatusHTxDrowse lane = false ∧
      (!s.time.running || decide (tick < s.nextMark.toNat)) then
      ((s.upTo (BitVec.ofNat 64 tick)).modLink l fun k => { k with skp := BitVec.ofNat 64 tick }).emit (.ordered lane "SKP" 1 [])
    else s)

/-- LANE_HEALTH_SECOND (R246): the second's counts, and HEALTH when its symbol errors exceed SYM_THR. -/
def execLaneHealthSecond (p : Fin 16) (symErrs elastic : Nat) (s : State) : Host.Outcome State Fault Refusal :=
  let s1 := (s.addF Fld.prtLaneErrSymbol p symErrs).addF Fld.prtLaneErrElastic p elastic
  let thr := s.getF Fld.prtLaneCtrlSymThr p
  done (if thr != 0 && decide (thr < symErrs) then (s1.setF Fld.prtLaneStatusHealth p 1).raise 0 13 else s1)

/-- LANE_RECALIBRATION (R248): a resistor out of range is a chip event. -/
def execLaneRecalibration (inRange : Bool) (s : State) : Host.Outcome State Fault Refusal :=
  done (if inRange then s else s.chipEvent)

end Sys2Proof.Machine
end

