-- ==== Sys2Proof/Machine/Power.lean ====
section
/-!
DEFINITION. Power: votes and domains, blockers, wakes, the power commands, Brace (14 R341 to R365).
-/
namespace Sys2Proof.Machine

/-- STATE of PWR_STATE: 0 Run, 1 Idle, 2 Sleep, 3 DeepSleep, 4 Off (R347). -/
def State.chipState (s : State) : Nat := s.getF Fld.pwrStateState 0

/-- Step of R350 reached, 0 when none. -/
def State.entryStep (s : State) : Nat := s.getF Fld.pwrStateEntryStep 0

/-- TARGET of PWR_STATE (R347). -/
def State.target (s : State) : Nat := s.getF Fld.pwrStateTarget 0

/-- The domains that can be voted: bits 2 to 10 (Table 14-2). -/
def votable : Nat := 0x7FC

/-- Tenants may vote these domains (R362). -/
def State.allowedMask (s : State) (t : Nat) : Nat := Tab.getD s.cfg.shadow.allowed t votable

/-- A tenant's votes (R344). -/
def State.votes (s : State) (t : Nat) : Nat := s.getF Fld.tenPwrVoteVotes t

/-- Some tenant votes a domain. -/
def State.tenantVote (s : State) (d : Nat) : Bool := (List.range 256).any fun t => bitsOf (s.votes t) d 1 == 1

/-- The chip is a member of a twin pair (R382). -/
def State.member (s : State) : Bool := s.getF Fld.twnStatusStrap 0 != 0

/-- Root port p is voting: a port of an admitted contract (Table 14-3). -/
def State.votingPort (s : State) (p : Nat) : Bool :=
  s.latestContracts.any fun c => c.slots.any (fun x => x.port == p) ||
    (match s.placeOf c.addr with | some q => routePort q.route == p | none => false)

/-- A sealed program slot is loaded. -/
def State.sealedLoaded (s : State) : Bool := s.dma.chans.any fun c => c.2.slots.any fun e => e.2.sealed_

/-- V1 holds its vote: a tenant key, a twin session key or a sealed slot is loaded, or the Watchman works (Table 14-3). -/
def State.watchmanVote (s : State) : Bool :=
  !s.sec.keys.isEmpty || !s.twn.txKey.isEmpty || s.sealedLoaded || s.sec.unlockWaits || s.sec.challenge.isSome

/-- The domains that an internal voter holds (Table 14-3). -/
def State.voter (s : State) (v : Nat) : Nat :=
  match v with
  | 0 => if s.chipState ≤ 1 then 0x3DC else if s.chipState = 2 then 4 else 0
  | 1 => if s.watchmanVote then 0x20 else 0
  | 2 => if s.member then 0x420 else 0
  | 3 => if s.sec.debugOpen then votable else 0
  | 4 | 5 | 6 | 7 =>
    if (List.range 4).any fun k => s.votingPort (4 * (v - 4) + k) then 2 ^ (v + 2) else 0
  | _ => 0

/-- A domain holds at least one vote (R346). -/
def State.voted (s : State) (d : Nat) : Bool := s.tenantVote d || (List.range 8).any fun v => bitsOf (s.voter v) d 1 == 1

/-- Internal voters that hold a vote, bit v for Vv (Table 14-10). -/
def State.voters (s : State) : Nat := ((List.range 8).map fun v => if s.voter v = 0 then 0 else 2 ^ v).sum

/-! ### Domains (R343, R346, R371) -/

/-- The domain that serves a register (Tables 19-1 to 19-7). -/
def Reg.domain (r : Reg) (i : Nat) : Nat :=
  if r.perLane then (if i < 16 then 6 + i / 4 else 10)
  else match r with
    | .twnStatus | .twnCount | .twnTime => 10
    | .gblGpioCfg | .gblGpioOut | .gblGpioIn | .gblGpioEvt | .pwrState | .pwrVoters | .pwrSupply | .pwrTherm | .pwrRtcLo
    | .pwrRtcHi | .pwrAlarmLo | .pwrAlarmHi => 0
    | .ledHeadLo | .ledHeadHi | .ledStatus | .tenCmdDb | .tenRplDb => 4
    | .secGlitch => 5
    | _ => 3

/-- A word with its RC and W1C fields at their reset values (R371). -/
def Reg.restored (r : Reg) (w : Word) : Word :=
  let m := r.maskOf fun f => f.acc == .rc || f.acc == .w1c
  (w &&& ~~~m) ||| (r.resetWord &&& m)

/-- Change every register word that the domains of a mask serve. -/
def State.domainRegs (s : State) (mask : Nat) (f : Reg → Word → Word) : State :=
  { s with regs := Tab.mapVal s.regs fun k w =>
      let r := allRegs.getD (k / 4096) .gblChipId
      if bitsOf mask (r.domain (k % 4096)) 1 == 1 then f r w else w }

/-- Set the domains that are on. -/
def State.setDomains (s : State) (mask : Nat) : State := s.setF Fld.pwrVotersDomainsOn 0 mask

/-- The domains that are on. -/
def State.domains (s : State) : Nat := s.getF Fld.pwrVotersDomainsOn 0

/-- The bits of one mask that another lacks. -/
def maskLess (a b : Nat) : Nat := ((List.range 11).map fun d => if bitsOf a d 1 == 1 && bitsOf b d 1 == 0 then 2 ^ d else 0).sum

/-- A domain drops: its power switch opens (R343). -/
def State.domainOff (s : State) (d : Nat) : State :=
  if s.domainOn d then (s.setDomains (s.domains - 2 ^ d)).emit (.domain d false) else s

/-- A domain has powered up in Run: every field that it serves holds its reset value (R343). -/
def State.domainUp (s : State) (d : Nat) : State :=
  if s.domainOn d then s
  else ((s.setDomains (s.domains + 2 ^ d)).domainRegs (2 ^ d) fun r w => r.afterReset .warm w).emit (.domain d true)

/-- Votes have changed in Run: a domain whose last vote was withdrawn drops, and one that gained a first vote powers up
(R346). In Idle and Sleep domains neither drop nor power up. -/
def State.votesChanged (s before : State) : State :=
  if s.chipState != 0 then s
  else (List.range 11).foldl (fun s d =>
    if before.voted d && !s.voted d then
      if bitsOf s.pwr.rising d 1 == 1 then s else s.domainOff d
    else if s.voted d && !s.domainOn d && bitsOf s.pwr.rising d 1 == 0 && decide (2 ≤ d) then
      { s with pwr := { s.pwr with rising := s.pwr.rising + 2 ^ d } }
    else s) s

/-- DOMAIN_POWER_GOOD (R343): a domain whose vote has gone meanwhile drops again (R365). -/
def execDomainPowerGood (d : Fin 11) (s : State) : Host.Outcome State Fault Refusal :=
  done (if bitsOf s.pwr.rising d 1 == 0 then s
    else
      let s1 := { s with pwr := { s.pwr with rising := s.pwr.rising - 2 ^ d.val } }.domainUp d
      if s1.voted d then s1 else s1.domainOff d)

/-- Work for a domain that is off: a vote is held for it, so it powers up, and the work waits (R346, Table 14-3). -/
def State.wantDomain (s : State) (d : Nat) : State :=
  if s.domainOn d || bitsOf s.pwr.rising d 1 == 1 || s.chipState != 0 then s
  else { s with pwr := { s.pwr with rising := s.pwr.rising + 2 ^ d } }

/-! ### Blockers (R348, Table 14-4) -/

/-- A strike is placed or staged (R140). -/
def Entry.strikeOut (e : Entry) : Bool := e.kind = .strike && e.phase ≠ .finished && e.strike ≠ .unplaced

/-- A bring-up, reseat, port reset, retrain or resume is in progress. -/
def State.treeBusy (s : State) : Bool :=
  (s.allPlaces.any fun p => p.bringing || p.resetAsked || p.disabling) ||
  (List.range 16).any fun p =>
    s.hState p == 1 || s.hState p == 2 || s.hState p == 4 || s.hState p == 5 || s.pState p == 1 || s.pState p == 2 ||
      s.pState p == 5

/-- Work posted on a queue pair is not yet complete or not yet published. -/
def Qp.busyPosted (v : Qp) : Bool :=
  v.state ≠ .disabled &&
    (v.sqCons != v.sqProd || !v.entries.isEmpty || !v.holding.isEmpty || v.headIdx != v.cqProd)

/-- A command is being carried out or is posted. -/
def State.cmdBusy (s : State) : Bool :=
  s.cmds.any (fun c => s.pathUp c.1 && c.2.prod != c.2.cons) || !s.led.waiting.isEmpty || s.cfg.busy.isSome

/-- A blocker stands (Table 14-4). -/
def State.blocker (s : State) (b : Nat) : Bool :=
  match b with
  | 0 => (List.range 11).any s.tenantVote
  | 1 => s.voter 1 != 0 || s.voter 2 != 0 || s.voter 3 != 0
  | 2 => s.qps.any fun v => v.2.entries.any Entry.strikeOut
  | 3 => s.cfg.probation || s.cfg.trial
  | 4 => s.brace
  | 5 => s.treeBusy
  | 6 => s.qps.any fun v => v.2.busyPosted
  | 7 => s.cmdBusy
  | 8 => s.pwr.refused
  | 9 => (s.latestContracts.any fun c => c.standing || c.mrcSrc) || s.getF Fld.mrcCtrlMode 0 == 1
  | _ => false

/-- BLOCKERS of PWR_STATE. -/
def State.blockers (s : State) : Nat := ((List.range 10).map fun b => if s.blocker b then 2 ^ b else 0).sum

/-- Every blocker of an entry to a target is clear (R348). -/
def State.entryClear (s : State) (target : Nat) (auto : Bool) : Bool :=
  !((List.range 10).any fun b =>
    s.blocker b && (if b ≤ 1 || b == 8 then decide (3 ≤ target) else if b = 9 then auto else true))

/-! ### Time, the RTC and the alarm (R81, R352) -/

/-- The RTC count: 32.768 kHz, 15,258.7890625 ticks for each (R81). -/
def State.rtc (s : State) : DWord :=
  s.pwr.rtcBase + BitVec.ofNat 64 ((s.now.toNat - s.pwr.rtcAt.toNat) * 65536 / 1000000000)

/-- The alarm count that waits, or 0. -/
def State.alarm (s : State) : DWord := s.reg64 .pwrAlarmLo .pwrAlarmHi 0

/-! ### Links across low states (R222, R223, R241, Table 14-6) -/

/-- Relock a parked H link: a wake burst, then steps 3 and 4 of Table 9-2 with FAST (R241). -/
def State.relock (s : State) (p : Nat) : State :=
  let l := 2 * p
  if s.hState p = 3 && (s.link l).parked then
    ((((((s.setF Fld.prtLaneStatusHTxDrowse p 0).setF Fld.prtLaneStatusHRxDrowse p 0).setF Fld.prtLaneStatusHBitLock p
      0).setF Fld.prtLaneStatusHSymLock p 0).setF Fld.prtLaneStatusHState p 1).modLink l
        fun k => { k with lock := 0, ts2 := 0, resume := true, resumeEnded := false, marked := false }).emit
      (.signal l "wake burst") |>.emit (.ordered p "TS1" 0 [1])
  else s

/-- Start host resume on a dozing pair (R222, R223). -/
def State.resumePair (s : State) (p : Nat) : State :=
  let l := 2 * p + 1
  if s.pState p = 4 then
    ((s.setF Fld.prtLaneStatusPState p 5).modLink l fun k => { k with resume := true, resumeEnded := false }).emit (.signal l "K")
  else s

/-- Every parked link is relocked or resumed (step 8 of Table 14-6). -/
def State.resumeLinks (s : State) : State := (List.range 16).foldl (fun s p => (s.relock p).resumePair p) s

/-- A link that drowses outbound only, on its way to being parked, stays active. -/
def State.unpark (s : State) (p : Nat) : State :=
  if s.linkUp (2 * p) && s.bit Fld.prtLaneStatusHTxDrowse p then
    (s.setF Fld.prtLaneStatusHTxDrowse p 0).emit (.signal (2 * p) "wake burst")
  else s

/-- A lane of the twin link drowses outbound. -/
def State.twinQuiet (s : State) : Bool := (List.range 4).any fun k => s.bit Fld.prtLaneStatusHTxDrowse (16 + k)

/-- The twin link drowses while its chips are below `Run`: DROWSE goes out on its active lanes, and a wake burst when the chip
wakes (R397). -/
def State.twinDrowse (s : State) (on : Bool) : State :=
  (List.range 4).foldl (fun s k =>
    if s.getF Fld.prtLaneStatusHState (16 + k) = 3 && s.bit Fld.prtLaneStatusHTxDrowse (16 + k) != on then
      (s.setF Fld.prtLaneStatusHTxDrowse (16 + k) (if on then 1 else 0)).emit
        (if on then .ordered (16 + k) "DROWSE" 1 [] else .signal (32 + k) "wake burst")
    else s) s

/-! ### Wakes (R351, R352) -/

/-- The return of Table 14-6 begins from the state left. -/
def State.returnFrom (s : State) (frm : Nat) : State :=
  let st := if frm = 3 then 1 else if frm = 2 then 3 else 7
  { ((s.setF Fld.pwrStateEntryStep 0 0)) with
    pwr := { s.pwr with returnFrom := frm, returnStep := st, idleAuto := false, refused := false } }

/-- WAKE# is asserted or released (R353). -/
def State.wakePin (s : State) (low : Bool) : State :=
  if s.pins.wakeOut = low then s else { s with pins := { s.pins with wakeOut := low } }.emit (.pin "WAKE#" (!low))

/-- A wake source has arrived: the target becomes Run but for a thermal one, an entry is abandoned at its step, and the
chip returns (R347, R351 to R353, R365). -/
def State.wake (s : State) (code : Nat) : State :=
  if s.pwr.returnStep != 0 then
    if s.pwr.thermal && code != 5 then
      { (s.setF Fld.pwrStateTarget 0 0) with pwr := { s.pwr with thermal := false } } else s
  else if s.chipState = 0 && s.entryStep == 0 then s
  else
    let frm := if s.chipState = 0 then 1 else s.chipState
    let s1 := if code = 5 then s else s.setF Fld.pwrStateTarget 0 0
    let s2 := (s1.setF Fld.pwrStateLastWake 0 code).returnFrom frm
    let s3 := { s2 with pwr := { s2.pwr with thermal := code == 5 } }
    let s4 := (if s.chipState = 0 then (List.range 16).foldl (fun s p => s.unpark p) s3 else s3).twinDrowse false
    if frm = 3 ∧ code ≠ 5 then s4.wakePin true else s4

/-- Entry to `Sleep` or deeper is on its way: a source that wakes from there abandons it (R351; log entry 64). -/
def State.entersLow (s : State) : Bool := s.chipState == 0 && s.entryStep != 0 && decide (2 ≤ s.target)

/-- LINK_ACTIVITY_WAKE (R352): a wake burst or K on a parked link. -/
def execLinkActivityWake (p : Fin 16) (sd : Side) (s : State) : Host.Outcome State Fault Refusal :=
  let parked := match sd with
    | .h => (s.link (2 * p)).parked
    | .p => s.pState p == 4
  done (if parked && s.chipState != 4 && (s.chipState != 0 || s.entryStep != 0) then s.wake 1 else s)

/-- PCIE_WAKE (R352): a request in Idle, the host's exit from L1.2 in Sleep, PERST# deasserted in DeepSleep. PERST#
deasserted releases WAKE# (R353). The host link is in L0 again. -/
def execPcieWake (s : State) : Host.Outcome State Fault Refusal :=
  let s1 := ({ s with pcie := { s.pcie with perst := false, link := .l0 } }).wakePin false
  done (if s.chipState = 4 then s1
    else s1.wake 2 |>.wakePin false)

/-! ### Events of Table 14-9 -/

/-- ALARM is raised and the alarm cleared; it wakes the chip from Sleep and DeepSleep (R352). -/
def State.alarmFires (s : State) : State :=
  let a := s.alarm
  let s1 := (s.setReg64 .pwrAlarmLo .pwrAlarmHi 0 0).event1 0 3 6 a.toNat 0 0
  if (2 ≤ s.chipState ∧ s.chipState ≤ 3) ∨ s.entersLow then s1.wake 3 else s1

/-- RTC_ALARM (R352): with the RTC count. -/
def execRtcAlarm (rtc : DWord) (s : State) : Host.Outcome State Fault Refusal :=
  done (if s.alarm = 0 || decide (rtc.toNat < s.alarm.toNat) || s.chipState == 4 then s
    else State.alarmFires { s with pwr := { s.pwr with rtcBase := rtc, rtcAt := s.now } })

/-- The junction temperature and the load predicted for it (R355, Table 14-16). -/
def State.setTemp (s : State) (temp : BitVec 12) : State :=
  let s1 := (s.setF Fld.pwrThermTemp 0 temp.toNat).setF Fld.pwrThermPred 0 (min 65535 (Config.predictedLoad temp.toInt))
  if 4 * (s.pins.alertTemp : Int) ≤ temp.toInt then s1.alert 0 else s1

/-- The temperature as 16 bits, signed. -/
def State.temp16 (s : State) : Nat :=
  ((BitVec.ofNat 12 (s.getF Fld.pwrThermTemp 0)).signExtend 16).toNat

/-- A thermal event for T0 (Table 14-9). -/
def State.thermEvent (s : State) (code : Nat) : State :=
  s.event1 0 3 code ((BitVec.ofNat 12 (s.getF Fld.pwrThermTemp 0)).signExtend 64).toNat (s.getF Fld.pwrThermPred 0) 0

/-! ### Brace (R358, R359) -/

/-- SUPPLY_WARN (R358): a warning in Brace begins no new one. -/
def execSupplyWarn (s : State) : Host.Outcome State Fault Refusal :=
  done (if 3 ≤ s.chipState then s
    else
      let s1 := s.setF Fld.pwrSupplyWarn 0 1
      if s.brace then s1
      else
        let s2 := (((s1.setF Fld.pwrSupplyBrace 0 1).setF Fld.pwrSupplyWarned 0 1).addF Fld.pwrSupplyBraceCount 0 1).alert 1
        (({ s2 with pwr := { s2.pwr with braceStart := s2.now } }).raisePower).eventAll 3 2 s2.now.toNat 0 0)

/-! ### Commands (R344, R347, R352, R364) -/

/-- PWR_VOTE (R344). -/
def bodyPwrVote (t : Nat) (s : State) (p : List Byte) : CmdRes :=
  let add := fieldAt p 0 2
  let del := fieldAt p 2 2
  let both := (List.range 16).any fun d => bitsOf add d 1 == 1 && bitsOf del d 1 == 1
  let odd := fun m : Nat => (List.range 16).any fun d => bitsOf m d 1 == 1 && bitsOf votable d 1 == 0
  let out := fun m : Nat => (List.range 16).any fun d => bitsOf m d 1 == 1 && bitsOf (s.allowedMask t) d 1 == 0
  if odd add || odd del || both then .err s .badParam
  else if out add || out del then .err s .notPermitted
  else
    let v := ((List.range 11).map fun d =>
      if bitsOf del d 1 == 1 then 0 else if bitsOf add d 1 == 1 || bitsOf (s.votes t) d 1 == 1 then 2 ^ d else 0).sum
    .ok ((s.setF Fld.tenPwrVoteVotes t v).votesChanged s) (BitVec.ofNat 64 v)

/-- The row of PwrVote in Table 10-4. -/
def rowPwrVote : CmdInfo :=
  { op := 0x0901, named := [(0, 4)] }

/-- PWR_VOTE (R344). -/
def execPwrVote (t : Fin 256) (k : CmdPkt) (s : State) : Host.Outcome State Fault Refusal :=
  done (runCmd rowPwrVote t k (bodyPwrVote t) s)

/-- PWR_STATE (R347, R351): a deeper target during entry lets entry go on, a shallower one is treated as a wake. -/
def bodyPwrState (s : State) (p : List Byte) : CmdRes :=
  let n := fieldAt p 0 1
  if 4 < n then .err s .badParam
  else if s.entryStep != 0 && decide (n < s.target) then
    .ok ((s.wake (s.getF Fld.pwrStateLastWake 0)).setF Fld.pwrStateTarget 0 n) 0
  else .ok (s.setF Fld.pwrStateTarget 0 n) 0

/-- The row of PwrState in Table 10-4. -/
def rowPwrState : CmdInfo :=
  { op := 0x0902, t0 := true, named := [(0, 1)] }

/-- PWR_STATE (R347). -/
def execPwrState (t : Fin 256) (k : CmdPkt) (s : State) : Host.Outcome State Fault Refusal :=
  done (runCmd rowPwrState t k bodyPwrState s)

/-- ALARM_SET (R352): a count already passed fires at once. -/
def bodyAlarmSet (s : State) (p : List Byte) : CmdRes :=
  let a : DWord := BitVec.ofNat 64 (fieldAt p 0 8)
  let s1 := s.setReg64 .pwrAlarmLo .pwrAlarmHi 0 a
  .ok (if a != 0 && decide (a.toNat ≤ s.rtc.toNat) then s1.alarmFires else s1) 0

/-- The row of AlarmSet in Table 10-4. -/
def rowAlarmSet : CmdInfo :=
  { op := 0x0903, t0 := true, named := [(0, 8)] }

/-- ALARM_SET (R352). -/
def execAlarmSet (t : Fin 256) (k : CmdPkt) (s : State) : Host.Outcome State Fault Refusal :=
  done (runCmd rowAlarmSet t k bodyAlarmSet s)

/-- The row of AlarmClear in Table 10-4. -/
def rowAlarmClear : CmdInfo :=
  { op := 0x0904, t0 := true }

/-- ALARM_CLEAR (R352). -/
def execAlarmClear (t : Fin 256) (k : CmdPkt) (s : State) : Host.Outcome State Fault Refusal :=
  done (runCmd rowAlarmClear t k (fun s _ => .ok (s.setReg64 .pwrAlarmLo .pwrAlarmHi 0 0) 0) s)

/-- The record of Table 14-10. -/
def State.pwrRecord (s : State) (t : Nat) : List Byte :=
  leBytes 1 s.chipState ++ leBytes 1 s.target ++ leBytes 2 s.domains ++ leBytes 2 (s.votes t) ++
    leBytes 2 (s.allowedMask t) ++ leBytes 2 s.voters ++ leBytes 2 s.blockers ++ leBytes 2 s.temp16 ++
    leBytes 2 (s.getF Fld.pwrThermPred 0) ++ leBytes 8 s.rtc.toNat ++ leBytes 8 s.alarm.toNat

/-- The row of PwrQuery in Table 10-4. -/
def rowPwrQuery : CmdInfo :=
  { op := 0x0905, jrn := false, outLen := some (fun _ => 32), standby := true }

/-- PWR_QUERY (R364). -/
def execPwrQuery (t : Fin 256) (k : CmdPkt) (s : State) : Host.Outcome State Fault Refusal :=
  done (runCmd rowPwrQuery t k
    (fun s _ => .block s (s.pwrRecord t)) s)

end Sys2Proof.Machine
end

