-- ==== Sys2Proof/Machine/PowerSteps.lean ====
section
/-!
DEFINITION. Moving between chip states: entry, return, the retention check, and the doze of F/L links with its exits (14
R341 to R357, 08 R221 to R224, 09 R237, R241, 03 R81 to R83).
-/
namespace Sys2Proof.Machine

/-! ### Doze (R221 to R224) -/

/-- A device is reached through a place: it stands there or below. -/
def reachedBy (r d : DWord) : Bool := d == r || isBelow d r

/-- Nothing keeps the F/L link of a place out of `Doze`: no entry is posted for a device reached through it, and the keeper
has no work for it; while the chip stays in `Run`, also no admitted slot uses it, and DOZE_IDLE frames have passed
without traffic (R221). An entry that has not been read may be for any device of its queue pair's owner. -/
def State.dozeClear (s : State) (r : DWord) : Bool :=
  let parking := s.entryStep == 2
  let quiet := s.getF Fld.gblHpCtrlDozeIdle 0
  let posted := s.qps.any fun v => v.2.entries.any fun e =>
    e.phase ≠ .finished && (match s.entryPlace e with | some p => reachedBy r p.route | none => false)
  let owns := fun t : Nat => t == 0 || s.allPlaces.any fun p => reachedBy r p.route && p.present && p.owner == t
  let unfetched := s.qps.any fun v => v.2.state ≠ .disabled && v.2.fetchIdx != v.2.sqProd && owns (v.2.owner.getD 0)
  let work := (s.keeper.any fun k => reachedBy r k.route && k.stage != 3) || s.allPlaces.any fun p => reachedBy r p.route &&
    (p.bringing || p.step ≠ .none && !p.isWaiting || p.resetAsked || p.disabling || p.dozeExit || p.dozeAsked || !p.reads.isEmpty)
  let idle := if (hopsOf r).isEmpty then (s.link (routeLink r)).idleFrames else (s.placeAt r).idleFrames
  let slots := s.latestContracts.any fun c => match s.placeOf c.addr with | some p => reachedBy r p.route | none => false
  !posted && !unfetched && !work && !(s.txns.any fun x => x.link == routeLink r && x.outstanding) &&
    (parking || (!slots && decide (0 < quiet) && decide (quiet ≤ idle)))

/-- An F/L link below a hub (R221). -/
def Place.hubPair (p : Place) : Bool :=
  p.present && !(hopsOf p.route).isEmpty && (p.speed == 1 || p.speed == 2)

/-- Put the F/L links of an attachment that may doze into `Doze`: a hub's port by the keeper's SET_PORT_FEATURE, the root pair,
once no port below it is still to doze, by 8 bit times of SE0 and the release to J (R221, R237). -/
def State.dozeLinks (s : State) (p : Nat) (sd : Side) : State :=
  let l := linkOf p sd
  let awake := s.allPlaces.filter fun q => q.hubPair && !q.doze && routeLink q.route == l
  let ports := awake.filter fun q => s.dozeClear q.route && !q.dozeAsked
  let s1 := ports.foldl (fun s q => s.alter q.route fun q => { q with dozeAsked := true }) s
  if sd = .p ∧ s.pState p = 3 ∧ awake.isEmpty ∧ s1.dozeClear (rootRoute p .p) then
    (((s1.setF Fld.prtLaneStatusPState p 4).modLink l fun k => { k with since := s.now, resume := false }).emit
      (.signal l "SE0")).emit (.signal l "J")
  else s1

/-- DOZE_ENTRY (R221): in `Run`, or at step 2 of entry. -/
def execDozeEntry (p : Fin 16) (sd : Side) (s : State) : Host.Outcome State Fault Refusal :=
  done (if s.chipState = 0 ∧ (s.entryStep = 0 ∨ s.entryStep = 2) then s.dozeLinks p sd else s)

/-- Eight bit times on a pair, in ticks (R222, R237). -/
def State.dozeTime (s : State) (p : Nat) : Nat := if s.getF Fld.prtLaneStatusPSpeed p = 1 then 320 else 16

/-- The chip is not in `Run`: a wake seen now is reported after return (R224). -/
def State.lowered (s : State) : Bool := s.chipState != 0 || s.pwr.returnStep != 0

/-- A device's wake has been seen on its link: it is reported, now or once the chip has returned (R223, R224). -/
def State.seeWake (s : State) (l : Nat) (r : DWord) : State :=
  if s.lowered then s.modLink l fun k => if k.wakes.contains r then k else { k with wakes := k.wakes ++ [r] }
  else s.remoteWake r

/-- DEVICE_WAKE_SIGNAL (R223): by Table 8-13. -/
def execDeviceWakeSignal (p : Fin 16) (sd : Side) (route : DWord) (s : State) : Host.Outcome State Fault Refusal :=
  let l := linkOf p sd
  let w := fun s : State => if s.lowered || s.entryStep != 0 then s.wake 1 else s
  done (if routeLink route ≠ l ∨ s.chipState = 4 then s
    else if sd = .h then
      (if (s.link l).parked then w (((if s.lowered || s.entryStep != 0 then s else s.relock p)).seeWake l route)
      else if (s.link l).resume then s.seeWake l route
      else s)
    else if s.pState p = 4 then
      if s.chipState = 0 && decide ((s.now - (s.link l).since).toNat < s.dozeTime p) then
        (s.setF Fld.prtLaneStatusPState p 3).seeWake l route
      else if s.lowered || s.entryStep != 0 then w (s.seeWake l route)
      else (s.resumePair p).seeWake l route
    else if s.pState p = 5 then s.seeWake l route
    else s)

/-- RESUME_SIGNALLING_END (R222): the pair is released to J, and the link waits for its first SOF. -/
def execResumeSignallingEnd (p : Fin 16) (sd : Side) (s : State) : Host.Outcome State Fault Refusal :=
  let l := linkOf p sd
  done (if sd = .p && s.pState p == 5 && !(s.link l).resumeEnded then
      ((s.modLink l fun k => { k with resumeEnded := true, since := s.now }).emit (.signal l "SE0")).emit (.signal l "J")
    else s)

/-- A resumed pair may have its first SOF at a frame start: at least 50 µs after the quick signalling, 100 µs after the
standard one (Table 8-12). -/
def State.sofDue (s : State) (p : Nat) (tick : DWord) : Bool :=
  let k := s.link (2 * p + 1)
  s.pState p == 5 && k.resumeEnded && decide (k.since.toNat + (if k.quick then 25000 else 50000) ≤ tick.toNat)

/-! ### Entry (R347 to R351, R356) -/

/-- Entry begins at a frame start without an SOF (R350). -/
def State.entryBegin (s : State) (auto : Bool) : State :=
  { s.setF Fld.pwrStateEntryStep 0 1 with pwr := { s.pwr with idleAuto := auto, dropped := 0 } }

/-- Entry may begin: the chip runs, and every blocker is clear (R348). -/
def State.mayEnter (s : State) (target : Nat) (auto : Bool) : Bool :=
  s.chipState == 0 && s.entryStep == 0 && s.pwr.returnStep == 0 && s.ready && s.entryClear target auto

/-- POWER_ENTRY_BEGIN (R348). -/
def execPowerEntryBegin (s : State) : Host.Outcome State Fault Refusal :=
  done (if s.target != 0 && s.mayEnter s.target false then s.entryBegin false else s)

/-- AUTO_IDLE_TIMER (R347, R349). -/
def execAutoIdleTimer (s : State) : Host.Outcome State Fault Refusal :=
  done (if s.cfg.shadow.autoIdle != 0 && s.target == 0 && s.mayEnter 1 true then s.entryBegin true else s)

/-- Step 2 is complete: every link is parked, and no bring-up, retrain or resume runs (R341, R365). -/
def State.allParked (s : State) : Bool :=
  s.activeLinks.isEmpty && !s.treeBusy && !(s.allPlaces.any fun q => q.hubPair && !q.doze)

/-- DROWSE is sent on every active H link below which no F/L port of a hub has still to doze: the request that puts it into
`Doze` goes first (R221, R241, R350). -/
def State.parkLanes (s : State) : State :=
  (List.range 16).foldl (fun s p =>
    if s.linkUp (2 * p) && !s.bit Fld.prtLaneStatusHTxDrowse p &&
        !(s.allPlaces.any fun q => q.hubPair && !q.doze && routeLink q.route == 2 * p) then
      (s.setF Fld.prtLaneStatusHTxDrowse p 1).emit (.ordered p "DROWSE" 1 [])
    else s) s

/-- Every votable domain that a test names drops. -/
def State.dropDomains (s : State) (pick : Nat → Bool) : State :=
  let gone := (List.range 11).filter fun d => decide (2 ≤ d) && s.domainOn d && pick d
  let s1 := gone.foldl (fun s d => s.domainOff d) s
  { s1 with pwr := { s1.pwr with dropped := s1.pwr.dropped + (gone.map fun d => 2 ^ d).sum } }

/-- The last frame ends and bus time passes to the reference counter or the RTC (R81, R350). -/
def State.leaveTime (s : State) : State :=
  { s with time := { s.time with running := false, lastEnd := s.time.start + BitVec.ofNat 64 s.time.len } }

/-- `Sleep` is reached: V0 holds PD_HOST only, every domain without a vote drops, the Millrace's lock is lost, and the host link
rests in L1.2 where the host has enabled it, else in L1 (R75, R350, R361). -/
def State.enterSleep (s : State) (prev : Nat) : State :=
  let s1 := ((s.twinDrowse true).setF Fld.pwrStateState 0 2).setF Fld.mrcStatusLocked 0 0
  let s2 := if prev = 0 then (s1.lockLost).leaveTime else s1
  let s3 := s2.dropDomains fun d => !s2.voted d
  { s3 with
    pwr := { s3.pwr with lows := s3.pwr.lows ++ [(2 + 256 * prev, s3.now)], lowAt := s3.now }
    pcie := { s3.pcie with link := if s3.pcie.l12 then .l12 else .l1 } }

/-- PCIe configuration space returns to its defaults (Table 15-2, R374). -/
def State.pcieDefaults (s : State) : State := { s with pcie :=
  { s.pcie with vfEnable := false, d3 := [], msixEnable := [], fnMask := [], vecs := [], l12 := false } }

/-- `DeepSleep` or `Off` is entered: every votable domain drops, and PWR_EN falls for `Off` (R350, R374). -/
def State.enterDeep (s : State) (off : Bool) : State :=
  let s1 := ((s.dropDomains fun _ => true).pcieDefaults).setF Fld.pwrStateState 0 (if off then 4 else 3)
  let s2 := { s1.setF Fld.pwrStateEntryStep 0 0 with
    pwr := { s1.pwr with refused := false, lows := s1.pwr.lows ++ [(0x203, s1.now)], lowAt := s1.now }
    pcie := { s1.pcie with link := .off } }
  if off then { s2 with pins := { s2.pins with pwrEn := false } }.emit (.pin "PWR_EN" false) else s2

/-- The retention check of R356 at step 5, at a temperature. -/
def State.retentionCheck (s : State) (temp : BitVec 12) : State :=
  let s1 := s.setTemp temp
  if 4800 < Config.predictedLoad temp.toInt then
    { s1 with pwr := { s1.pwr with refused := true } }.thermEvent 4
  else s1.enterDeep false

/-- A step of entry is complete (R350). Entry to `Idle` ends at step 3. -/
def State.entryDone (s : State) (temp : BitVec 12) : State :=
  match s.entryStep with
  | 1 => (s.setF Fld.pwrStateEntryStep 0 2).parkLanes
  | 2 =>
    if !s.allParked then s.parkLanes
    else if s.pwr.idleAuto || s.target == 1 then ((s.twinDrowse true).setF Fld.pwrStateState 0 1).setF Fld.pwrStateEntryStep 0 0
    else if s.target = 0 then s
    else s.setF Fld.pwrStateEntryStep 0 4
  | 4 => (s.enterSleep 0).setF Fld.pwrStateEntryStep 0 (if s.target = 2 then 0 else 5)
  | 5 =>
    if !s.pcie.perst || s.blocker 0 || s.blocker 1 then s
    else if s.target = 4 then s.enterDeep true
    else if s.pwr.refused then s
    else s.retentionCheck temp
  | _ => s

/-- POWER_ENTRY_STEP_DONE (R350): Brace pauses entry at its step (R365). Whether the host has enabled L1.2 on its link is sensed
with it (R361). -/
def execPowerEntryStepDone (sense : EntrySense) (s : State) : Host.Outcome State Fault Refusal :=
  let s1 := { s with pcie := { s.pcie with l12 := sense.l12 } }
  done (if s.brace then s else s1.entryDone sense.temp)

/-- DEEPSLEEP_RECHECK (R356): the check is repeated after a refusal, and `DeepSleep` is entered at 4.5 mA or less. -/
def execDeepsleepRecheck (temp : BitVec 12) (s : State) : Host.Outcome State Fault Refusal :=
  done (if !s.pwr.refused || s.chipState != 2 || s.entryStep != 5 then s
    else
      let s1 := s.setTemp temp
      if decide (Config.predictedLoad temp.toInt ≤ 4500) && s.pcie.perst && !s.brace then s1.enterDeep false else s1)

/-! ### Return (R353) -/

/-- Ticks that the 25 MHz reference counter carries: 20 for each count (R81). -/
def refTicks (counts : DWord) : DWord := 20 * counts

/-- Ticks that the RTC carries, 15,258.7890625 for each of its own, and the fraction that is kept, in 65,536ths (R81). -/
def rtcTicks (frac : Nat) (counts : DWord) : DWord × Nat :=
  let n := frac + counts.toNat * 1000000000
  (BitVec.ofNat 64 (n / 65536), n % 65536)

/-- Bus time and frames resume after a carried event: every copy of bus time is loaded, the frame number skips what the gap
holds, the first SOF carries DISC, and strikes that fall in the gap are lost (R13, R81 to R83). The first SOF comes `gap` ticks
after the tick `from_`. UNCERT is `base` ns and the RTC's deviation in ppm, rounded up once (log entry 123). -/
def State.resumeTime (s0 : State) (cause : Nat) (from_ gap : DWord) (base ppm : Nat) : State :=
  let first := max s0.now.toNat (from_.toNat + gap.toNat)
  let s := s0.upTo (BitVec.ofNat 64 first)
  let g := first - s.time.lastEnd.toNat
  let skip := g / max s.time.len 1
  let frame := s.time.frame + BitVec.ofNat 32 skip
  let ns := base + (2 * g * ppm + 999999) / 1000000
  let unc := min 16777215 ((ns + 999) / 1000)
  let len := s.firstLen
  let s1 := ((((s.setF Fld.gblTimeStatusLastCause 0 cause).setF Fld.gblTimeStatusDiscPending 0 1).setF Fld.gblTimeStatusUncert
    0 unc).setF Fld.mrcLenNextLen 0 len)
  let s2 := { s1 with time := { s1.time with
    frame := frame, start := BitVec.ofNat 64 (first - len), len := len, beat := 7, running := true
    gapTick := BitVec.ofNat 64 (first + 500 * unc), gapFrom := s.time.frame + 1, gapTo := frame + 1
    prevLen := s.time.len } }
  ({ s2 with frames := [⟨frame, []⟩, s2.openFrame (frame + 1), s2.openFrame (frame + 2)] }).raise 0 11

/-- The step of Table 14-6 that follows one, by the state left. -/
def nextReturn (frm st : Nat) : Nat := if frm = 2 ∧ st = 5 then 7 else st + 1

/-- Step 4: the domains that dropped are powered in bit order (Table 14-6). -/
def State.raiseDomains (s : State) : State :=
  let up := if s.pwr.returnFrom = 3 then (List.range 11).filter fun d => decide (2 ≤ d) && d != 10
    else (List.range 11).filter fun d => bitsOf s.pwr.dropped d 1 == 1
  up.foldl (fun s d => if s.domainOn d then s else (s.setDomains (s.domains + 2 ^ d)).emit (.domain d true)) s

/-- Step 5: what was saved is restored; program structures are to be fetched again, and what the fabric held otherwise
starts afresh (R353, R371). -/
def State.reload (s : State) : State :=
  let d := s.pwr.dropped
  let s1 := s.domainRegs d Reg.restored
  if bitsOf d 3 1 = 1 then
    { s1 with
      areas := []
      cri := { s1.cri with srcs := [], engs := [] }
      dma := { s1.dma with chans := Tab.mapVal s1.dma.chans fun _ c =>
        { c with refetch := c.refetch ++ c.slots, slots := [] }, bad := [] } }
  else s1

/-- The wakes seen below `Run` are reported after resume (R224). -/
def State.reportWakes (s : State) (l : Nat) : State :=
  let w := (s.link l).wakes
  w.foldl (fun s r => s.remoteWake r) (s.modLink l fun k => { k with wakes := [] })

/-- Bus time is carried out of a low state: out of `Sleep` by the reference counter from the end of the last frame, out of
`DeepSleep` by the RTC from its entry (R81). -/
def State.carryTime (s : State) (counts : DWord) : State :=
  if s.pwr.returnFrom = 2 then s.resumeTime 1 s.time.lastEnd (refTicks counts) 40 0
  else
    let c := rtcTicks s.pwr.rtcFrac counts
    { s with pwr := { s.pwr with rtcFrac := c.2 } }.resumeTime 2 s.pwr.lowAt c.1 30500 (s.getF Fld.gblTimeCtrlRtcPpm 0)

/-- The schedule restarts and the chip is in `Run` (steps 9, R342, R363); `counts` is what the counter that carries bus time has
counted to the first SOF. -/
def State.runAgain (s : State) (counts : DWord) : State :=
  let frm := s.pwr.returnFrom
  let s0 := { s.setF Fld.pwrStateState 0 0 with pcie := { s.pcie with link := .l0 } }
  let s1 := if frm ≤ 1 then s0 else s0.mrcStart.carryTime counts
  let s2 := { s1 with pwr := { s1.pwr with returnStep := 0, returnFrom := 0, dropped := 0, thermal := false } }
  let s3 := if frm = 3 then s2.allPlaces.foldl (fun s p => s.remeasure p.route) s2 else s2
  let s4 := s3.allPlaces.foldl (fun s p => if p.doze then s.alter p.route fun q => { q with dozeExit := true } else s) s3
  let s5 := if frm ≤ 1 then s4
    else
      let s5 := s4.pwr.lows.foldl (fun s x => s.eventAll 3 1 (x.1 + 65536 * s4.getF Fld.pwrStateLastWake 0) x.2.toNat 0) s4
      { s5 with pwr := { s5.pwr with lows := [] } }
  let s6 := ((List.range 11).filter fun d => decide (2 ≤ d) && s5.voted d).foldl (fun s d => s.wantDomain d) s5
  if s6.halt.pinLow && !s6.halt.stands then s6.beginHalt 1 else s6

/-- A step of the return ends (Table 14-6). After a thermal trip the return leads to `Sleep` (R357). -/
def State.returnDone (s : State) (counts : DWord) : State :=
  let st := s.pwr.returnStep
  let go := fun s : State => { s with pwr := { s.pwr with returnStep := nextReturn s.pwr.returnFrom st } }
  match st with
  | 0 => s
  | 4 => go s.raiseDomains
  | 5 => go s.reload
  | 6 => go { s with areas := [], dma := { s.dma with bad := [] } }
  | 7 =>
    if s.pwr.thermal then
      let s1 := { s with pwr := { s.pwr with returnStep := 0, returnFrom := 0, thermal := false, dropped := 0 } }
      ((s1.enterSleep 3).setF Fld.pwrStateEntryStep 0 5).thermEvent 5
    else go s.resumeLinks
  | 8 =>
    if (List.range 32).any fun l => (s.link l).resume && !(s.link l).resumeEnded then s else go s
  | 9 => s.runAgain counts
  | _ => go s

/-- RETURN_STEP_DONE (R353), with the counts of the counter that carries bus time (R81). -/
def execReturnStepDone (counts : DWord) (s : State) : Host.Outcome State Fault Refusal := done (s.returnDone counts)

/-- The trip point in whole degrees: the highest at which the prediction does not pass 5.4 mA (R357). -/
def tripPoint : Int :=
  (((List.range 512).map fun k : Nat => (k : Int) - 256).filter fun d => decide (Config.predictedLoad (4 * d) ≤ 5400)).getLastD (-512)

/-- THERMAL_TRIP (R357): the comparator acts in `DeepSleep` at the trip point. -/
def execThermalTrip (temp : BitVec 12) (s : State) : Host.Outcome State Fault Refusal :=
  done (if s.chipState = 3 ∧ 4 * tripPoint ≤ temp.toInt then (s.setTemp temp).wake 5 else s)

end Sys2Proof.Machine
end

