-- ==== Sys2Proof/Machine/Teardown.lean ====
section
/-!
DEFINITION. Grants, function-level resets, and what becomes of objects that are taken in use (12 R303 to R306, R317 to R323).
-/
namespace Sys2Proof.Machine

/-! ### Teardown (R317, R321) -/

/-- An entry whose work goes on to a boundary although its queue pair is torn down: a strike that the device may hold, or a
transaction on the bus (R317). -/
def State.goesOn (s : State) (q : Nat) (e : Entry) : Bool :=
  if e.kind = .strike then e.phase ≠ .finished && e.strike ≠ .unplaced && e.strike ≠ .placed
  else s.txns.any fun x => decide (x.work = .entry q e.idx)

/-- A host request that serves a queue pair. -/
def ReqWhat.ofQp (q : Nat) : ReqWhat → Bool
  | .subEntry k | .payload k _ | .inWrite k _ | .flush k _ => k == q
  | _ => false

/-- A queue pair is torn down: its uncommitted strikes are withdrawn, nothing further is written, and it is `Disabled` with
its indices at 0 and its epoch kept (R317 step 2). -/
def State.tearQp (s : State) (q : Nat) : State :=
  let s1 := s.withdrawQp q Entry.uncommitted .retracted
  let v := s1.qp q
  let s2 := { s1 with dma := { s1.dma with reqs := s1.dma.reqs.filter fun r => !r.what.ofQp q } }
  let s3 := s2.setQp q { Qp.blank with
    owner := v.owner, homeQuad := v.homeQuad, epoch := v.epoch, contract := v.contract, polls := v.polls
    entries := (v.entries.filter (s1.goesOn q)).map fun e => { e with xfer := 0, inFlight := 0 } }
  match v.owner with
  | none => s3
  | some t => if v.state = .disabled then s3 else s3.scrubs t 2048

/-- A contract of T0 on a hub's status endpoint (R321). -/
def State.isHubStatus (s : State) (c : Contract) : Bool :=
  c.tenant == 0 && c.dirIn && (match s.placeOf c.addr with
    | some p => p.isHub && (match p.hub with | some h => h.statusEp == c.ep | none => true)
    | none => false)

/-- The queue pairs of a tenant. -/
def State.qpsOf (s : State) (t : Nat) : List Nat := (s.qps.filter fun v => v.2.owner == some t).map (·.1)

/-- A channel stops and its slots are unloaded (R183, R317). -/
def State.tearChan (s : State) (ch : Nat) : State :=
  let s1 := { s with dma := { s.dma with reqs := s.dma.reqs.filter fun (r : Req) =>
    match r.what with | .program c _ => c != ch | _ => true } }
  s1.modChan ch fun c => { Chan.blank with owner := c.owner }

/-- The channels of a tenant. -/
def State.chansOf (s : State) (t : Nat) : List Nat := (s.dma.chans.filter fun c => c.2.owner == some t).map (·.1)

/-- The command path of a tenant stops, without a reply to what is held (R278, R317 step 1). -/
def State.tearPath (s : State) (t : Nat) : State :=
  let s1 := (s.closeSession t).modCmd t fun c => { CmdPath.blank with epoch := c.epoch }
  { s1.setF Fld.tenCmdCtrlEnable t 0 with
    led := { s1.led with waiting := s1.led.waiting.filter fun h => h.tenant != t }
    dma := { s1.dma with reqs := s1.dma.reqs.filter fun r => r.tenant != t } }

/-- The votes of a tenant are withdrawn (R344). -/
def State.dropVotes (s : State) (t : Nat) : State := (s.setF Fld.tenPwrVoteVotes t 0).votesChanged s

/-- The PCIe state of a function returns to its defaults. -/
def State.functionDefaults (s : State) (t : Nat) : State :=
  { s with pcie := { s.pcie with
    d3 := Tab.del s.pcie.d3 t, msixEnable := Tab.del s.pcie.msixEnable t, fnMask := Tab.del s.pcie.fnMask t
    vecs := Tab.keep s.pcie.vecs fun k _ => k / 64 != t } }

/-- Steps 1 to 5 of R317, as far as they happen at once. -/
def State.tearDown (s : State) (t : Nat) : State :=
  let s1 := (s.tearPath t).functionDefaults t
  let hubs := s1.allContracts.filter s1.isHubStatus
  let s2 := if t = 0 then hubs.foldl (fun s c => s.modQp c.qp fun v => { v with polls := true }) s1 else s1
  let s3 := (s2.qpsOf t).foldl (fun s q => s.tearQp q) s2
  let s4 := s3.closeContracts fun c => c.tenant == t && !s3.isHubStatus c
  let s5 := s4.closeEps fun e => e.isOpen && e.owner == t
  let s6 := { s5 with pools := Tab.keep s5.pools fun k _ => k / 16 != t }
  let s7 := (s6.chansOf t).foldl (fun s c => s.tearChan c) (s6.setF Fld.tenCisSharePoolMode t 0)
  (s7.dropVotes t).scrubs t ((s5.pools.filter fun p => p.1 / 16 == t).map fun p => p.2.size * p.2.count).sum

/-- A function-level reset begins: a second one changes nothing, and one requested before stage 3 is held until then (R317,
R320, R380). -/
def State.flrBegin (s : State) (t : Nat) : State :=
  if s.flrBusy t then s
  else
    let s1 := s.setF Fld.gblTenStateFlrBusy t 1
    if s.stage < 3 then s1 else s1.tearDown t

/-- The function-level resets that were held until stage 3 (R380). -/
def State.heldFlrs (s : State) : State :=
  (List.range 256).foldl (fun s t => if s.flrBusy t then s.tearDown t else s) s

/-- Function-level resets of the tenants in a range of VFs. -/
def State.flrRange (s : State) (lo n : Nat) : State := ((List.range n).map (· + lo)).foldl (fun s t => s.flrBegin t) s

/-- A function-level reset requested by the host; the PF's takes the VFs with it (R317, R321). -/
def State.flr (s : State) (t : Nat) : State :=
  if t = 0 then
    let n := s.pcie.numVfs
    let s1 := s.flrRange 1 n
    { s1 with pcie := { s1.pcie with vfEnable := false, numVfs := 0 } }.flrBegin 0
  else s.flrBegin t

/-- INITIATE_FLR (R317): a function that does not exist has no configuration space to write. -/
def execInitiateFlr (t : Fin 256) (s : State) : Host.Outcome State Fault Refusal :=
  done (if s.exists_ t then s.flr t else s)

/-- A host write of VF Enable and NumVFs (R303, R317, R374). -/
def State.vfWrite (s : State) (en : Bool) (n : Nat) : State :=
  if en then
    let s1 := s.flrRange (n + 1) (s.pcie.numVfs - n)
    { s1 with pcie := { s1.pcie with vfEnable := true, numVfs := n } }
  else if s.pcie.vfEnable then
    let s1 := s.flrRange 1 s.pcie.numVfs
    { s1 with pcie := { s1.pcie with vfEnable := false, numVfs := 0 } }
  else s

/-- VF_ENABLE_WRITE (R303). -/
def execVfEnableWrite (en : Bool) (n : Fin 256) (s : State) : Host.Outcome State Fault Refusal := done (s.vfWrite en n)

/-- D_STATE_WRITE (R360): on a return to D0 the messages that fell due are sent. -/
def execDStateWrite (t : Fin 256) (d3 : Bool) (s : State) : Host.Outcome State Fault Refusal :=
  let s1 := { s with pcie := { s.pcie with d3 := Tab.set s.pcie.d3 t d3 } }
  done (if !s.exists_ t then s
    else if d3 then s1 else (List.range 64).foldl (fun s v => s.vecRelease t v) s1)

/-- The bus work of a tenant's queue pairs has ended (R317 step 2). -/
def State.busQuiet (s : State) (t : Nat) : Bool :=
  (s.qpsOf t).all fun q => (s.qp q).entries.all fun e =>
    if e.kind = .strike then decide (e.phase = .finished) else !s.txns.any fun x => decide (x.work = .entry q e.idx)

/-- Every grant of a tenant that has left the tenant map returns to T0, and its windows are disabled (R322). -/
def State.stripTenant (s : State) (t : Nat) : State :=
  let s1 := (s.qpsOf t).foldl (fun s q => s.modQp q fun v => { v with owner := none, contract := none }) s
  let s2 := (s1.chansOf t).foldl (fun s c => s.modChan c fun c => { c with owner := none }) s1
  let s3 := { s2 with places := Tab.mapVal s2.places fun _ p => if p.owner = t then { p with owner := 0 } else p }
  let s4 := (List.range 16).foldl (fun s w => s.setF Fld.gblWinAttrEn (t * 16 + w) 0) (s3.setF Fld.tenCisShareUnits t 0)
  { s4 with cfg := { s4.cfg with
    removing := s4.cfg.removing.filter (· != t), shares := Tab.del s4.cfg.shares t } }

/-- The last steps of R317: what went on is gone, the key is erased and the function's fields return to their reset
values. -/
def State.flrEnd (s : State) (t : Nat) : State :=
  let s1 := (s.qpsOf t).foldl (fun s q => s.modQp q fun v => { v with entries := [] }) s
  let s2 := { s1.clearFnRegs t with sec := { s1.sec with keys := Tab.del s1.sec.keys t } }
  let s3 := (s2.setF Fld.gblTenStateFlrBusy t 0).votesChanged s
  if s3.cfg.removing.contains t then s3.stripTenant t else s3

/-! ### Objects taken in use (R322, Table 12-4) -/

/-- A queue pair is taken: torn down, then unassigned. -/
def State.takeQp (s : State) (q : Nat) : State :=
  (if (s.qp q).state = .disabled then s else s.tearQp q).modQp q fun v => { v with owner := none }

/-- A device is taken: its endpoints close once they have no transfer in progress. -/
def State.takeDevice (s : State) (addr : Nat) : State :=
  (s.modDevEps addr fun e => if e.isOpen then { e with closing := true } else e).sweepEps

/-- A channel is taken: its requests stop, its slots unload, and assigned entries that still need the host complete with
DMA_ERROR. -/
def State.takeChan (s : State) (ch : Nat) : State :=
  let fix := fun (e : Entry) =>
    if e.prog && e.chan == ch && e.needsHost then e.haltedOut s.now s.time.frame
    else e
  let mine := fun (r : Req) =>
    match r.what with
    | .payload q idx | .inWrite q idx | .flush q idx =>
      (s.qp q).entries.any fun e => e.idx == idx && e.prog && e.chan == ch
    | .program c _ => c == ch
    | _ => false
  let s1 := { s with
    qps := Tab.mapVal s.qps fun _ v => { v with entries := v.entries.map fix }
    dma := { s.dma with reqs := s.dma.reqs.filter fun r => !mine r } }
  s1.modChan ch fun _ => Chan.blank

/-- Units of 4 KiB that a tenant uses. -/
def State.unitsUsed (s : State) (t : Nat) : Nat := (s.shareUsed t + 4095) / 4096

/-- Units of all shares. -/
def State.unitsOut (s : State) : Nat := ((List.range 256).map fun t => s.getF Fld.tenCisShareUnits t).sum

/-- Units that a tenant has given up leave its share; until they have been cleared they are in no other (R192). -/
def State.scrubsOut (s : State) (t units : Nat) : State :=
  let s1 := s.scrubs t 0
  { s1 with dma := { s1.dma with released := Tab.set s1.dma.released (256 + t) (Tab.getD s1.dma.released (256 + t) 0 + units * 4096) } }

/-- Units outside every share that await clearing (R192). -/
def State.unitsDirty (s : State) : Nat := ((s.dma.released.filter fun e => decide (256 ≤ e.1)).map (·.2)).sum / 4096

/-- One share moves towards its restored size: it shrinks as its units are freed, and grows as units of the tenant region
are free (R322). -/
def State.settleShare (s : State) (t : Nat) : State :=
  match Tab.find s.cfg.shares t with
  | none => s
  | some n =>
    let u := s.getF Fld.tenCisShareUnits t
    let v := if n < u then max n (s.unitsUsed t) else min n (u + (2240 - s.unitsOut - s.unitsDirty))
    let s0 := s.setF Fld.tenCisShareUnits t v
    let s1 := if v < u then s0.scrubsOut t (u - v) else s0
    if v = n then { s1 with cfg := { s1.cfg with shares := Tab.del s1.cfg.shares t } } else s1

/-- Shares that shrink, then shares that grow. -/
def State.settleShares (s : State) : State :=
  let go := fun s : State => (s.cfg.shares.map (·.1)).foldl (fun s t => s.settleShare t) s
  go (go s)

/-- RELEASE_SCRUB_DONE (R192): released units pass on where a share awaits them (R322). -/
def execReleaseScrubDone (t : Fin 256) (s : State) : Host.Outcome State Fault Refusal :=
  let clean := Tab.keep s.dma.released fun k _ => k % 256 != t.val
  done { s.setF Fld.tenCisShareScrubbing t 0 with dma := { s.dma with released := clean } }.settleShares

/-- FLR_TEARDOWN_DONE (R317): once the bus work has ended and the share has been scrubbed; units that a tenant gave
up pass on where a share awaits them (R322). -/
def execFlrTeardownDone (t : Fin 256) (s : State) : Host.Outcome State Fault Refusal :=
  done (if s.flrBusy t && decide (3 ≤ s.stage) && s.busQuiet t && !s.bit Fld.tenCisShareScrubbing t then (s.flrEnd t).settleShares
    else s)

/-- A tenant leaves the tenant map: the steps of R317 run, and then its grants return to T0. -/
def State.removeTenant (s : State) (t : Nat) : State :=
  let s1 := { s with cfg := { s.cfg with removing := if s.cfg.removing.contains t then s.cfg.removing else s.cfg.removing ++ [t] } }
  (s1.setF Fld.gblTenStateEnabled t 0).flrBegin t

/-! ### Grants (R305, Table 12-1) -/

/-- QP_ASSIGN. -/
def bodyQpAssign (s : State) (p : List Byte) : CmdRes :=
  let q := fieldAt p 0 2
  let n := fieldAt p 2 2
  let quad := fieldAt p 5 1
  let qs := (List.range n).map (· + q)
  if n = 0 ∨ 4096 < q + n ∨ 3 < quad then .err s .badParam
  else if qs.any fun q => (s.qp q).owner.isSome then .err s .wrongState
  else .ok (qs.foldl (fun s q => s.setQp q { Qp.blank with
    owner := some (fieldAt p 4 1), homeQuad := quad, epoch := (s.qp q).epoch }) s) 0

/-- The row of QpAssign in Table 10-4. -/
def rowQpAssign : CmdInfo :=
  { op := 0x0301, t0 := true, named := [(0, 6)] }

/-- QP_ASSIGN (R305). -/
def execQpAssign (t : Fin 256) (k : CmdPkt) (s : State) : Host.Outcome State Fault Refusal :=
  done (runCmd rowQpAssign t k bodyQpAssign s)

/-- QP_UNASSIGN. -/
def bodyQpUnassign (s : State) (p : List Byte) : CmdRes :=
  let q := fieldAt p 0 2
  let n := fieldAt p 2 2
  let qs := (List.range n).map (· + q)
  let o := (s.qp q).owner
  if n = 0 ∨ 4096 < q + n then .err s .badParam
  else if o.isNone ∨ qs.any fun q =>
      (s.qp q).owner != o || (s.qp q).state ≠ .disabled || (s.qp q).contract.isSome then .err s .wrongState
  else .ok (qs.foldl (fun s q => s.setQp q { Qp.blank with epoch := (s.qp q).epoch }) s) 0

/-- The row of QpUnassign in Table 10-4. -/
def rowQpUnassign : CmdInfo :=
  { op := 0x0302, t0 := true, named := [(0, 4)] }

/-- QP_UNASSIGN (R305). -/
def execQpUnassign (t : Fin 256) (k : CmdPkt) (s : State) : Host.Outcome State Fault Refusal :=
  done (runCmd rowQpUnassign t k bodyQpUnassign s)

/-- SHARE_SET (R305, R311): units that await clearing are not given out (R192). -/
def bodyShareSet (s : State) (p : List Byte) : CmdRes :=
  let ten := fieldAt p 0 1
  let n := fieldAt p 2 2
  let u := s.getF Fld.tenCisShareUnits ten
  if u < n ∧ 2240 < s.unitsOut + s.unitsDirty + (n - u) then .err s .noResource
  else if n < u ∧ n < s.unitsUsed ten then .err s .wrongState
  else
    let s1 := s.setF Fld.tenCisShareUnits ten n
    .ok (if n < u then s1.scrubsOut ten (u - n) else s1) 0

/-- The row of ShareSet in Table 10-4. -/
def rowShareSet : CmdInfo :=
  { op := 0x0B01, t0 := true, named := [(0, 1), (2, 2)] }

/-- SHARE_SET (R305). -/
def execShareSet (t : Fin 256) (k : CmdPkt) (s : State) : Host.Outcome State Fault Refusal :=
  done (runCmd rowShareSet t k bodyShareSet s)

/-- CHANNEL_ASSIGN (R305). -/
def bodyChannelAssign (s : State) (p : List Byte) : CmdRes :=
  let ch := fieldAt p 0 1
  let fl := fieldAt p 2 1
  let c := s.chan ch
  if 64 ≤ ch ∨ 2 ≤ fl then .err s .badParam
  else if fl = 1 then
    if c.owner ≠ some (fieldAt p 1 1) ∨ c.slots ≠ [] then .err s .wrongState else .ok (s.modChan ch fun _ => Chan.blank) 0
  else if c.owner.isSome then .err s .wrongState
  else .ok (s.modChan ch fun _ => { Chan.blank with owner := some (fieldAt p 1 1) }) 0

/-- The row of ChannelAssign in Table 10-4. -/
def rowChannelAssign : CmdInfo :=
  { op := 0x0B02, t0 := true, named := [(0, 3)] }

/-- CHANNEL_ASSIGN (R305). -/
def execChannelAssign (t : Fin 256) (k : CmdPkt) (s : State) : Host.Outcome State Fault Refusal :=
  done (runCmd rowChannelAssign t k bodyChannelAssign s)

end Sys2Proof.Machine
end

