-- ==== Sys2Proof/Machine/Config.lean ====
section
/-!
DEFINITION. Applying a configuration, and the configuration commands: stage, validate, commit, confirm, roll back (11 R288 to
R297, R301, R302; 16 R395).
-/
namespace Sys2Proof.Machine

/-! ### What is active (R288, R302) -/

/-- The active image. -/
def State.activeImage (s : State) : List Byte := flashSlot s.cfg.flash s.cfg.active

/-- The generation of a slot, 0 for none. -/
def State.slotGen (s : State) (k : Nat) : Word := if k < 3 then imgGen (flashSlot s.cfg.flash k) else 0

/-- STAGED_STATE (Table 11-7). -/
def State.stagedState (s : State) : Nat :=
  if 3 ≤ s.cfg.staged then 0 else if s.cfg.rejected then 4 else if s.cfg.valid then 2 else if s.cfg.invalid then 3 else 1

/-- The firmware trial runs: TRIAL is set and no restart awaits (R300). -/
def State.trialRuns (s : State) : Bool := s.cfg.trial && s.cfg.restart == .none

/-- The configuration registers follow the configuration (Tables 11-11 and 11-12). -/
def State.cfgRegs (s : State) : State :=
  (((s.setReg .gblCfgGen 0 (s.slotGen s.cfg.active)).setF Fld.gblCfgStateProbation 0 (if s.cfg.probation then 1 else 0)).setF
    Fld.gblCfgStateFwTrial 0 (if s.trialRuns then 1 else 0)).setF Fld.gblCfgStateStagedState 0 s.stagedState

/-- Ticks of a number of seconds. -/
def secondTicks (n : Nat) : Nat := 500000000 * n

/-- Seconds of probation or trial left. -/
def State.secondsLeft (s : State) : Nat :=
  if s.cfg.probation || s.trialRuns then min 3600 ((s.cfg.deadline.toNat - s.now.toNat + 499999999) / 500000000) else 0

/-! ### What a configuration grants (R286) -/

/-- The configuration of a chip that has none (R293). -/
def RunCfg.noConfig : RunCfg := { RunCfg.empty with tenants := [(0, true, 2240, 0)] }

/-- The tenant and home quad of a queue pair. -/
def RunCfg.qpOwner (c : RunCfg) (q : Nat) : Option (Nat × Nat) :=
  (c.queues.find? fun x => decide (x.1 ≤ q ∧ q < x.1 + x.2.1)).map fun x => (x.2.2.1, x.2.2.2)

/-- The tenant of a channel. -/
def RunCfg.chanOwner (c : RunCfg) (ch : Nat) : Option Nat :=
  (c.tenants.find? fun x => bitsOf x.2.2.2 ch 1 == 1).map (·.1)

/-- The units of a tenant. -/
def RunCfg.units (c : RunCfg) (t : Nat) : Nat := ((c.tenants.find? fun x => x.1 == t).map fun x => x.2.2.1).getD 0

/-- The tenant is listed as enabled. -/
def RunCfg.on (c : RunCfg) (t : Nat) : Bool := c.tenants.any fun x => x.1 == t && x.2.1

/-- The entry of a route. -/
def RunCfg.entry (c : RunCfg) (r : DWord) : Option TopoEntry := c.topo.find? fun e => e.route == r

/-! ### Applying (Table 11-6) -/

/-- A queue pair takes the owner and home quad that a configuration gives it; one in use is torn down first (R290, R322). -/
def State.applyQp (s : State) (c : RunCfg) (q : Nat) : State :=
  let want := c.qpOwner q
  let v := s.qp q
  let home := (want.map (·.2)).getD 0
  if v.owner = want.map (·.1) then
    (if v.state = .disabled then s.modQp q fun v => { v with homeQuad := home } else s)
  else if v.state = .disabled then
    s.setQp q { Qp.blank with owner := want.map (·.1), homeQuad := home, epoch := v.epoch, entries := v.entries }
  else (s.takeQp q).modQp q fun v => { v with owner := want.map (·.1), homeQuad := home, contract := none }

/-- Every queue pair that is assigned or is to be. -/
def State.applyQps (s : State) (c : RunCfg) : State :=
  let have_ := (s.qps.filter fun v => v.2.owner.isSome).map (·.1)
  let want := c.queues.flatMap fun x => (List.range x.2.1).map (· + x.1)
  (have_ ++ want.filter fun q => !have_.contains q).foldl (fun s q => s.applyQp c q) s

/-- A place takes what a configuration says of it: a device that stands there keeps its place, and its owner follows the
entry that names its address (R227, R322; Table 11-6). -/
def State.applyPlace (s : State) (c : RunCfg) (p : Place) : State :=
  match c.entry p.route with
  | some e =>
    if p.stood then
      if p.present && p.addr == e.addr && p.owner != e.owner then
        (s.takeDevice p.addr).alter p.route fun p => { p with owner := e.owner }
      else s
    else s.alter p.route fun p => { p with
      addr := e.addr, owner := e.owner, speed := e.speed, version := e.verMin, cls := e.cls, hub := none, desc := [] }
  | none => if p.stood then s else s.alter p.route fun p => { p with addr := 0, owner := 0, cls := 0, speed := 0, version := 0 }

/-- Every place, and those that the configuration adds. -/
def State.applyPlaces (s : State) (c : RunCfg) : State :=
  let s1 := s.allPlaces.foldl (fun s p => s.applyPlace c p) s
  c.topo.foldl (fun s e => if (s.place e.route).isNone then s.setPlace (Place.ofTopo e) else s) s1

/-- Channels. -/
def State.applyChans (s : State) (c : RunCfg) : State :=
  (List.range 64).foldl (fun s ch =>
    let want := c.chanOwner ch
    if (s.chan ch).owner = want then s
    else (if (s.chan ch).owner.isSome then s.takeChan ch else s).modChan ch fun _ => { Chan.blank with owner := want }) s

/-- Shares: each takes its size at once where nothing stands against it, and otherwise moves towards it (R322). -/
def State.applyShares (s : State) (c : RunCfg) : State :=
  let goal := ((List.range 256).filter fun t => s.getF Fld.tenCisShareUnits t != c.units t).map fun t => (t, c.units t)
  { s with cfg := { s.cfg with shares := goal } }.settleShares

/-- The tenant map: tenants that are no longer enabled are taken out, and others are enabled. -/
def State.applyTenants (s : State) (c : RunCfg) : State :=
  ((List.range 255).map (· + 1)).foldl (fun s t =>
    if s.enabled t && !c.on t then s.removeTenant t
    else if c.on t then s.setF Fld.gblTenStateEnabled t 1 else s) s

/-- Quanta and the mode of the Weir, from a frame (R107, R110). -/
def State.applyWeir (s : State) (c : RunCfg) (frame : Word) : State :=
  let new := ((List.range 256).filter fun t => s.quantum t != Tab.getD c.quanta t 0).map fun t => (frame, t, Tab.getD c.quanta t 0)
  let mode := if s.strictNext = (c.weirMode == 1) then s.alm.mode else s.alm.mode ++ [(frame, c.weirMode)]
  { s with alm := { s.alm with quanta := s.alm.quanta ++ new, mode := mode } }

/-- The compiled Almanac and the grants of a configuration come into use (Table 11-6); what is taken in use goes in the order
of Table 12-4. -/
def State.applyCfg (s : State) (c : RunCfg) (placed : List Contract) (floor : Nat) : State :=
  let s1 := s.acceptChange placed floor
  let frame := match s1.alm.pend.getLast? with | some ch => ch.frame | none => s1.time.frame
  let s2 := { s1 with cfg := { s1.cfg with shadow := c } }
  let s3 := ((((s2.applyPlaces c).applyChans c).applyQps c).applyShares c).applyTenants c
  let s4 := (s3.bind (placed.filter fun x => (s3.qp x.qp).contract.isNone)).applyWeir c frame
  let s5 := if c.mrc = s4.mrcWords then s4 else (s4.mrcWrite c.mrc).1
  let s6 := s5.setF Fld.secGlitchLimit 0 c.glitchLimit
  ({ s6 with cfg := { s6.cfg with shadow := s6.amended, base := s6.amended, shadowValid := true } }.setF Fld.gblCfgStateAmended 0 0)

/-- The switch frame of the latest change. -/
def State.lastSwitch (s : State) : Word := match s.alm.pend.getLast? with | some ch => ch.frame | none => 0

/-! ### Commands that wait (R267, R283, R395) -/

/-- The row of a command of the configuration group. -/
def chipInfo (op : Nat) : CmdInfo := { op := op, t0 := true }

/-- A command takes the chip lock and waits: for its flash operation, or for the partner's answer. -/
def State.awaits (s : State) (t op : Nat) (k : CmdPkt) (flash : Bool) : CmdRes :=
  { CmdRes.ok { s with cfg := { s.cfg with busy := some ⟨t, op, k, flash, none⟩ } } 0 with wait := true }

/-- A reply whose entry was journalled before waits for the partner while the entry is not mirrored (R277). -/
def State.lateReply (s : State) (c : ChipCmd) (lseq : DWord) (r : CmdRes) : State :=
  let rep := replyRecord c.op r.status.code r.detail c.pkt lseq r.result
  let irq := !c.pkt.flags.getLsbD 1
  let open_ := s.led.entries.any fun e => e.lseq == lseq && !e.flags.getLsbD 1
  if s.flrBusy c.tenant then s
  else if open_ && s.mirrors && s.sync == 2 then
    { s with led := { s.led with waiting := s.led.waiting ++ [⟨lseq, c.tenant, rep, irq⟩] } }
  else s.sendReply c.tenant rep irq

/-- A command that waited ends with a result. -/
def State.endBusy (_s : State) (c : ChipCmd) (r : CmdRes) : State :=
  if r.wait then r.st
  else
    let s1 := { r.st with cfg := { r.st.cfg with busy := none } }
    match c.lseq with
    | none => State.conclude (chipInfo c.op) c.tenant c.pkt { r with st := s1 } true
    | some l => s1.lateReply c l r

/-- A configuration event for T0. -/
def State.cfgEvent (s : State) (code d0 d1 : Nat) : State := s.event1 0 2 code d0 d1 0

/-- The payloads of CONFIG frames: a kind, a first byte and a word (DESIGN CHOICE, log entry 41). -/
def cfgPayload (kind b : Nat) (w : Word) (data : List Byte) : List Byte :=
  leBytes 1 kind ++ leBytes 1 b ++ leBytes 2 0 ++ leBytes 4 w.toNat ++ data

/-- Send an image in chunks of 2,032 bytes, the kind told by `kind` and `b` (log entry 41). -/
def State.sendImage (s : State) (type kind b : Nat) (img : List Byte) : State :=
  (List.range ((img.length + 2031) / 2032)).foldl (fun s k =>
    s.twinSend type (cfgPayload kind b (BitVec.ofNat 32 (2032 * k)) ((img.drop (2032 * k)).take 2032))) s

/-! ### CFG_STAGE (R287, R288) -/

/-- The slot that takes a staged image: the lowest that is neither active nor previous. -/
def State.freeSlot (s : State) : Nat :=
  ((List.range 3).find? fun k => k != s.cfg.active && k != s.cfg.previous).getD 2

/-- CFG_STAGE up to the programming. -/
def bodyCfgStage (t : Nat) (k : CmdPkt) (s : State) (p : List Byte) : CmdRes :=
  let a : DWord := BitVec.ofNat 64 (fieldAt p 0 8)
  let n := fieldAt p 8 4
  if n < 132 ∨ 262144 < n then .err s .badParam
  else if !s.windowOk t a n false then .err (s.isoRefuse t a) .windowFault
  else
    let s1 := s.emit (.hostRead t a n)
    match k.image with
    | none => .err s1 .dmaError
    | some b =>
      match s1.headCheck (padTo n b) with
      | some f => if f.code ≤ 3 then .err s1 .badParam else (s1.emit (.flashOp (0x410000 + 0x40000 * s1.freeSlot) false)).awaits t 0x0201 k true
      | none => (s1.emit (.flashOp (0x410000 + 0x40000 * s1.freeSlot) false)).awaits t 0x0201 k true

/-- Roles that a change of directory leaves without one are erased later (R283). -/
def State.leaveRoles (s : State) (before : Dir) : State :=
  let d := s.dir
  let gone := [before.active, before.previous, before.staged].filter fun k =>
    decide (k < 3) && k != d.active && k != d.previous && k != d.staged && !s.cfg.eraseDue.contains k
  { s with cfg := { s.cfg with eraseDue := (s.cfg.eraseDue ++ gone).filter fun k =>
      k != d.active && k != d.previous && k != d.staged } }

/-- The programmed image takes the staged role. -/
def State.finStage (s : State) (img : List Byte) : State :=
  let j := s.freeSlot
  let s1 := ((s.putSlot j img).writeDir { s.dir with staged := j, rejected := false }).leaveRoles s.dir
  { s1 with cfg := { s1.cfg with valid := false, invalid := false } }.cfgRegs

/-- The row of CfgStage in Table 10-4. -/
def rowCfgStage : CmdInfo :=
  { op := 0x0201, t0 := true, named := [(0, 12)], needReady := true, flash := true }

/-- CFG_STAGE (R288). -/
def execCfgStage (t : Fin 256) (k : CmdPkt) (s : State) : Host.Outcome State Fault Refusal :=
  done (runCmd rowCfgStage t k (bodyCfgStage t k) s)

/-! ### CFG_VALIDATE (R289) -/

/-- The staged image is checked, and the result kept. -/
def State.validate (s : State) : State × Option ImgFail :=
  let b := flashSlot s.cfg.flash s.cfg.staged
  match s.imgCheck b with
  | .error f =>
    ({ s with cfg := { s.cfg with valid := false, invalid := true, check := f.code, checkDetail := f.reason
                                  checkSection := f.sect, checkOffset := f.off } }.cfgRegs, some f)
  | .ok floor =>
    ({ s with cfg := { s.cfg with valid := true, invalid := false, check := 0, checkDetail := 0, checkSection := 0
                                  checkOffset := 0, floor := floor } }.cfgRegs, none)

/-- The staged generation is named. -/
def State.namesStaged (s : State) (g : Nat) : Bool := decide (s.cfg.staged < 3) && (s.slotGen s.cfg.staged).toNat == g

/-- The reply of a validation. -/
def State.validated (s : State) (r : Option ImgFail) : CmdRes :=
  match r with
  | none => .ok s (BitVec.ofNat 64 (256 * s.cfg.floor))
  | some f => { CmdRes.err s f.status with detail := f.reason, result := BitVec.ofNat 64 f.reason }

/-- CFG_VALIDATE; in a pair the partner validates too, and its answer is awaited (R395). -/
def bodyCfgValidate (t : Nat) (k : CmdPkt) (s : State) (p : List Byte) : CmdRes :=
  if !s.namesStaged (fieldAt p 0 4) then .err s .wrongState
  else
    match s.validate with
    | (s1, some f) => s1.validated (some f)
    | (s1, none) =>
      if s1.mirrors then (s1.twinSend 6 (cfgPayload 2 0 (BitVec.ofNat 32 (fieldAt p 0 4)) [])).awaits t 0x0202 k false
      else s1.validated none

/-- The row of CfgValidate in Table 10-4. -/
def rowCfgValidate : CmdInfo :=
  { op := 0x0202, t0 := true, named := [(0, 4)], needReady := true }

/-- CFG_VALIDATE (R289). -/
def execCfgValidate (t : Fin 256) (k : CmdPkt) (s : State) : Host.Outcome State Fault Refusal :=
  done (runCmd rowCfgValidate t k (bodyCfgValidate t k) s)

/-! ### CFG_COMMIT (R290) -/

/-- The first object that a commit would take in use (R290): kind and number, as BLOCKING holds them. -/
def State.blocking (s : State) (c : RunCfg) : Option Word :=
  let mk := fun kind n : Nat => BitVec.ofNat 32 (n + 65536 * kind)
  let qp := (s.qps.find? fun v => v.2.owner.isSome && v.2.state ≠ .disabled && (c.qpOwner v.1).map (·.1) != v.2.owner).map (·.1)
  let dev := (s.allPlaces.find? fun p => p.present && (match c.entry p.route with
    | some e => e.addr == p.addr && e.owner != p.owner && s.eps.any fun x => x.2.isOpen && x.2.addr == p.addr
    | none => false)).map (·.addr)
  let ch := (s.dma.chans.find? fun x => !x.2.slots.isEmpty && c.chanOwner x.1 != x.2.owner).map (·.1)
  let share := (List.range 256).find? fun t => decide (c.units t < s.unitsUsed t)
  let sess := (List.range 256).find? fun t => s.enabled t && s.sessionOpen t && t != 0 && !c.on t
  match qp, dev, ch, share, sess with
  | some q, _, _, _, _ => some (mk 1 q)
  | _, some a, _, _, _ => some (mk 2 a)
  | _, _, some x, _, _ => some (mk 3 x)
  | _, _, _, some t, _ => some (mk 4 t)
  | _, _, _, _, some t => some (mk 5 t)
  | _, _, _, _, _ => none

/-- Check 10 repeated, and the Millrace record held against the floor that then counts (R74, R77, R290). -/
def State.commitAdmit (s : State) (c : RunCfg) : Except Nat (List Contract × Nat) :=
  match s.imgAdmit c with
  | .error r => .error r
  | .ok r =>
    if c.mrc = s.mrcWords ∨ State.mrcOk { s with alm := { s.alm with floor := max s.floorNow r.2 } } c.mrc then .ok r else .error 6

/-- The checks of a commit: none where it may go on. -/
def State.commitCheck (s : State) (p : List Byte) : Option CmdRes :=
  let secs := fieldAt p 4 2
  let b := flashSlot s.cfg.flash s.cfg.staged
  let c := RunCfg.ofImage b
  let s0 := { s with cfg := { s.cfg with blocking := 0 } }
  if s.cfg.trial then some (.err s .busy)
  else if secs < 10 ∨ 3600 < secs then some (.err s .badParam)
  else if !s.namesStaged (fieldAt p 0 4) || !s.cfg.valid then some (.err s .wrongState)
  else match s.blocking c with
    | some w => some (.err { s with cfg := { s.cfg with blocking := w } } .wrongState)
    | none => match s0.commitAdmit c with
      | .error r => some (.refuse s0 r)
      | .ok _ => none

/-- CFG_COMMIT: in a pair PREPARE goes out first (R395). -/
def bodyCfgCommit (t : Nat) (k : CmdPkt) (s : State) (p : List Byte) : CmdRes :=
  match s.commitCheck p with
  | some r => r
  | none =>
    let s0 := { s with cfg := { s.cfg with blocking := 0 } }
    if s.mirrors then (s0.twinSend 6 (cfgPayload 3 0 (BitVec.ofNat 32 (fieldAt p 0 4)) [])).awaits t 0x0203 k false
    else s0.awaits t 0x0203 k true

/-- The row of CfgCommit in Table 10-4. -/
def rowCfgCommit : CmdInfo :=
  { op := 0x0203, t0 := true, named := [(0, 6)], needReady := true, flash := true }

/-- CFG_COMMIT (R290): it waits for a contract change that is pending (R112). -/
def execCfgCommit (t : Fin 256) (k : CmdPkt) (s : State) : Host.Outcome State Fault Refusal :=
  done (if s.alm.pend.isEmpty then
      runCmd rowCfgCommit t k (bodyCfgCommit t k) s
    else s)

/-- The commit: directory, probation, and the sections. -/
def State.finCommit (s : State) (p : List Byte) : CmdRes :=
  match s.commitCheck p with
  | some r => r
  | none =>
    let b := flashSlot s.cfg.flash s.cfg.staged
    let c := RunCfg.ofImage b
    match s.commitAdmit c with
    | .error r => .refuse s r
    | .ok x =>
      let d := s.dir
      let s1 := (s.writeDir { d with
        active := d.staged, previous := d.active, staged := 0xFF, probation := true, genHigh := imgGen b }).leaveRoles d
      let s2 := { s1 with cfg := { s1.cfg with
        valid := false, invalid := false, dueRaised := false
        deadline := s1.now + BitVec.ofNat 64 (secondTicks (fieldAt p 4 2)) } }
      let s3 := (s2.applyCfg c x.1 x.2).cfgRegs
      .ok s3 (s3.lastSwitch.setWidth 64)

/-! ### CFG_CONFIRM (R295, R409) -/

/-- A fuse burn takes effect: 1 DEBUG_LOCK, 2 a mask of configuration keys, 3 the minimum SVN, 4 the decommission fuse (R407,
R409, R416, R417). -/
def State.burnNow (s : State) (kind v : Nat) : State :=
  match kind with
  | 1 => s.setF Fld.secStatusDebugLock 0 1
  | 2 => s.setF Fld.secStatusCfgKeyValid 0
      (((List.range 8).map fun k => if bitsOf (s.getF Fld.secStatusCfgKeyValid 0) k 1 == 1 && bitsOf v k 1 == 0 then 2 ^ k else 0).sum)
  | 3 => s.setF Fld.secStatusFwSvnMin 0 (max v (s.getF Fld.secStatusFwSvnMin 0))
  | 4 => { s with sec := { s.sec with decommissioned := true } }.setF Fld.secStatusLifecycle 0 3
  | _ => s

/-- Burn a fuse; while Brace stands the burn is held (R418). -/
def State.burn (s : State) (kind v : Nat) : State :=
  if s.brace then { s with sec := { s.sec with burnWaits := s.sec.burnWaits ++ [(kind, v)] } } else s.burnNow kind v

/-- CFG_CONFIRM up to its commit point: the entry is made even while Brace holds the flash, and the command then waits for the
directory write (R295, R301). -/
def bodyCfgConfirm (t : Nat) (k : CmdPkt) (s : State) (p : List Byte) : CmdRes :=
  if !s.cfg.probation || (s.slotGen s.cfg.active).toNat != fieldAt p 0 4 || decide (s.cfg.deadline.toNat ≤ s.now.toNat) then
    .err s .wrongState
  else { CmdRes.ok { s with cfg := { s.cfg with busy := some ⟨t, 0x0204, k, true, some s.nextLseq⟩ } } 0 with silent := true }

/-- The row of CfgConfirm in Table 10-4. -/
def rowCfgConfirm : CmdInfo :=
  { op := 0x0204, t0 := true, named := [(0, 4)], needReady := true }

/-- CFG_CONFIRM (R295). -/
def execCfgConfirm (t : Fin 256) (k : CmdPkt) (s : State) : Host.Outcome State Fault Refusal :=
  done (runCmd rowCfgConfirm t k (bodyCfgConfirm t k) s)

/-- The confirmation: PROBATION is cleared, and the image's fuse actions follow. -/
def State.finConfirm (s : State) : CmdRes :=
  let c := RunCfg.ofImage s.activeImage
  let s1 := (s.writeDir { s.dir with probation := false }).cfgRegs
  let s2 := if bitsOf c.secFlags 0 1 = 1 then s1.burn 1 0 else s1
  let s3 := if bitsOf c.secFlags 8 8 = 0 then s2 else s2.burn 2 (bitsOf c.secFlags 8 8)
  .ok s3 0

/-! ### Rollback (R296, R322) -/

/-- The previous image becomes active: roles, then the running configuration (R296). With no previous image there is no
configuration, and a set of contracts that no longer compiles leaves none. -/
def State.rollBack (s : State) : State :=
  let d := s.dir
  let b := flashSlot s.cfg.flash d.previous
  let c := if d.previous < 3 then RunCfg.ofImage b else RunCfg.noConfig
  let x := match s.imgAdmit c with | .ok x => x | .error _ => ([], 250000)
  let s1 := (s.writeDir { d with
    active := d.previous, previous := 0xFF, staged := d.active, rejected := true, probation := false }).leaveRoles d
  let s2 := { s1 with cfg := { s1.cfg with valid := false, invalid := false } }
  (s2.applyCfg c x.1 x.2).cfgRegs

/-- ROLLED_BACK, to every tenant with an open session (Table 11-8). -/
def State.rolledBack (s : State) (left : Word) (cause : Nat) : State :=
  s.eventAll 2 3 (s.slotGen s.cfg.active).toNat (left.toNat + cause * 2 ^ 32) 0

/-- A function-level reset runs. -/
def State.anyFlr (s : State) : Bool := (List.range 256).any s.flrBusy

/-- CFG_ROLLBACK (R296, R301). -/
def bodyCfgRollback (t : Nat) (k : CmdPkt) (s : State) (_ : List Byte) : CmdRes :=
  if 3 ≤ s.cfg.previous then .err s .wrongState
  else if !s.imgVerified (flashSlot s.cfg.flash s.cfg.previous) then .err s .authFailed
  else s.awaits t 0x0205 k true

/-- The row of CfgRollback in Table 10-4. -/
def rowCfgRollback : CmdInfo :=
  { op := 0x0205, t0 := true, needReady := true, flash := true }

/-- CFG_ROLLBACK (R296): it waits for function-level resets that run (R323). -/
def execCfgRollback (t : Fin 256) (k : CmdPkt) (s : State) : Host.Outcome State Fault Refusal :=
  done (if s.anyFlr then s
    else runCmd rowCfgRollback t k (bodyCfgRollback t k) s)

/-- PROBATION_DEADLINE (R296): an automatic rollback, which waits for Brace, for a command that holds the chip lock and for
function-level resets (R301, R323). -/
def execProbationDeadline (s : State) : Host.Outcome State Fault Refusal :=
  done (if !s.cfg.probation || s.brace || s.cfg.busy.isSome || s.anyFlr || s.role == 3 || !s.ready then s
    else
      let s0 := s.upTo s.cfg.deadline
      let left := s0.slotGen s0.cfg.active
      let s1 := s0.rollBack
      (s1.journalInternal 2 ((s1.slotGen s1.cfg.active).setWidth 64)).rolledBack left 1)

/-- PROBATION_DUE (R297): ten seconds of probation or trial remain. -/
def execProbationDue (s : State) : Host.Outcome State Fault Refusal :=
  done (if s.cfg.dueRaised || !(s.cfg.probation || s.trialRuns) || s.role == 3 then s
    else
      let s1 := s.upTo (s.cfg.deadline - BitVec.ofNat 64 (secondTicks 10))
      let s2 := { s1 with cfg := { s1.cfg with dueRaised := true } }
      s2.cfgEvent 4 (if s.cfg.probation then (s.slotGen s.cfg.active).toNat else (fwVersion s.cfg.fwRunning).toNat) 10)

/-! ### CFG_STATUS (R302) -/

/-- The configuration status block (Table 11-7). -/
def State.cfgBlock (s : State) : List Byte :=
  let c := s.cfg
  let other := flashFw c.flash (1 - c.fwBoot)
  leBytes 4 (s.slotGen c.active).toNat ++ leBytes 4 (s.slotGen c.previous).toNat ++ leBytes 4 (s.slotGen c.staged).toNat ++
    leBytes 4 c.genHigh.toNat ++ leBytes 1 s.stagedState ++
    leBytes 1 ((if c.probation then 1 else 0) + 2 * s.getF Fld.gblCfgStateAmended 0 + (if s.trialRuns then 4 else 0)) ++
    leBytes 2 s.secondsLeft ++ leBytes 4 (fwVersion c.fwRunning).toNat ++ leBytes 4 (fwVersion other).toNat ++
    leBytes 1 c.check ++ leBytes 1 c.checkDetail ++ leBytes 2 c.checkSection ++ leBytes 4 c.checkOffset ++
    leBytes 4 c.blocking.toNat ++ leBytes 8 (if c.active < 3 then fieldAt s.activeImage 32 8 else 0) ++
    leBytes 4 (c.shadow.image 0).length ++ leBytes 4 c.floor ++ leBytes 8 0

/-- The row of CfgStatus in Table 10-4. -/
def rowCfgStatus : CmdInfo :=
  { op := 0x0206, t0 := true, jrn := false, outLen := some (fun _ => 64), standby := true }

/-- CFG_STATUS (R302). -/
def execCfgStatus (t : Fin 256) (k : CmdPkt) (s : State) : Host.Outcome State Fault Refusal :=
  done (runCmd rowCfgStatus t k
    (fun s _ => .block s s.cfgBlock) s)

/-- SLOT_BACKGROUND_ERASE (R283). -/
def execSlotBackgroundErase (slot : Fin 3) (s : State) : Host.Outcome State Fault Refusal :=
  done (if s.brace || !s.cfg.eraseDue.contains slot.val || s.cfg.busy.isSome then s
    else
      let s1 := (s.putSlot slot []).emit (.flashOp (0x410000 + 0x40000 * slot.val) true)
      { s1 with cfg := { s1.cfg with eraseDue := s1.cfg.eraseDue.filter (· != slot.val) } })

end Sys2Proof.Machine
end

