-- ==== Sys2Proof/Machine/Firmware.lean ====
section
/-!
DEFINITION. Firmware slots and their commands, and the end of a flash operation (11 R283, R298 to R300; 16 R396; 17 R406, R407).
-/
namespace Sys2Proof.Machine

/-- The slot other than the one booted. -/
def State.otherFw (s : State) : List Byte := flashFw s.cfg.flash (1 - s.cfg.fwBoot)

/-- MIN_FW of the active image, 0 with no configuration. -/
def State.minFw (s : State) : Nat := if s.cfg.active < 3 then fieldAt s.activeImage 20 4 else 0

/-- The other slot holds verified firmware that the active image allows (R299, R406). -/
def State.otherReady (s : State) : Bool :=
  s.fwAccepted s.otherFw && decide (s.minFw ≤ (fwVersion s.otherFw).toNat)

/-- The primary of a pair whose partner is alive keeps its firmware (R396). -/
def State.fwHeld (s : State) : Bool := s.role == 2 && s.bit Fld.twnStatusAliveIn 0

/-- The flash address of a firmware slot (Table 11-1). -/
def fwSlotAddr (k : Nat) : Nat := if k = 0 then 0x10000 else 0x210000

/-- FW_STAGE up to the programming. -/
def bodyFwStage (t : Nat) (k : CmdPkt) (s : State) (p : List Byte) : CmdRes :=
  let a : DWord := BitVec.ofNat 64 (fieldAt p 0 8)
  let n := fieldAt p 8 4
  if n < 1 ∨ 2097152 < n then .err s .badParam
  else if !s.windowOk t a n false then .err (s.isoRefuse t a) .windowFault
  else
    let s1 := s.emit (.hostRead t a n)
    match k.image with
    | none => .err s1 .dmaError
    | some _ => (s1.emit (.flashOp (fwSlotAddr (1 - s1.cfg.fwBoot)) false)).awaits t 0x0207 k true

/-- The row of FwStage in Table 10-4. -/
def rowFwStage : CmdInfo :=
  { op := 0x0207, t0 := true, named := [(0, 12)], needReady := true, flash := true, standby := true }

/-- FW_STAGE (R299). -/
def execFwStage (t : Fin 256) (k : CmdPkt) (s : State) : Host.Outcome State Fault Refusal :=
  done (runCmd rowFwStage t k
    (bodyFwStage t k) s)

/-- The programmed firmware is verified; an image that fails leaves its slot erased (R299). -/
def State.finFwStage (s : State) (b : List Byte) : CmdRes :=
  let j := 1 - s.cfg.fwBoot
  if s.fwAccepted b then .ok (s.putFw j b) ((fwVersion b).setWidth 64)
  else .err ((s.putFw j []).emit (.flashOp (fwSlotAddr j) true)) .authFailed

/-- FW_ACTIVATE and FW_ROLLBACK up to the directory write (R299, R396). -/
def bodyFwSwitch (op t : Nat) (k : CmdPkt) (s : State) (_ : List Byte) : CmdRes :=
  if s.fwHeld || !s.otherReady || s.cfg.restart != .none then .err s .wrongState else s.awaits t op k true

/-- The row of FwActivate in Table 10-4. -/
def rowFwActivate : CmdInfo :=
  { op := 0x0208, t0 := true, needReady := true, flash := true, standby := true }

/-- FW_ACTIVATE (R299). -/
def execFwActivate (t : Fin 256) (k : CmdPkt) (s : State) : Host.Outcome State Fault Refusal :=
  done (runCmd rowFwActivate t k
    (bodyFwSwitch 0x0208 t k) s)

/-- The row of FwRollback in Table 10-4. -/
def rowFwRollback : CmdInfo :=
  { op := 0x020A, t0 := true, needReady := true, flash := true, standby := true }

/-- FW_ROLLBACK (R299). -/
def execFwRollback (t : Fin 256) (k : CmdPkt) (s : State) : Host.Outcome State Fault Refusal :=
  done (runCmd rowFwRollback t k
    (bodyFwSwitch 0x020A t k) s)

/-- The other slot is to be booted, on trial or not, and a soft reset is to follow the reply. -/
def State.finFwSwitch (s : State) (trial : Bool) : CmdRes :=
  let v := fwVersion s.otherFw
  let s1 := s.writeDir { s.dir with fwBoot := 1 - s.cfg.fwBoot, trial := trial }
  .ok ({ s1 with cfg := { s1.cfg with restart := if trial then .activate else .rollback } }.cfgRegs)
    (if trial then 0 else v.setWidth 64)

/-- FW_CONFIRM up to the directory write (R299). -/
def bodyFwConfirm (t : Nat) (k : CmdPkt) (s : State) (_ : List Byte) : CmdRes :=
  if !s.trialRuns then .err s .wrongState else s.awaits t 0x0209 k true

/-- The row of FwConfirm in Table 10-4. -/
def rowFwConfirm : CmdInfo :=
  { op := 0x0209, t0 := true, needReady := true, flash := true, standby := true }

/-- FW_CONFIRM (R299). -/
def execFwConfirm (t : Fin 256) (k : CmdPkt) (s : State) : Host.Outcome State Fault Refusal :=
  done (runCmd rowFwConfirm t k (bodyFwConfirm t k) s)

/-- The trial ends, and the minimum SVN rises where the image asks for it (R407). -/
def State.finFwConfirm (s : State) : CmdRes :=
  let b := s.cfg.fwRunning
  let s1 := (s.writeDir { s.dir with trial := false }).cfgRegs
  .ok (if bitsOf (fieldAt b 9 1) 0 1 = 1 then s1.burn 3 (fieldAt b 8 1) else s1) 0

/-! ### The end of a flash operation (R283, R288) -/

/-- The staged image as read from the host. -/
def ChipCmd.image (c : ChipCmd) : List Byte := padTo (fieldAt c.pkt.params 8 4) (c.pkt.image.getD [])

/-- A command whose flash operation succeeded: its result, and the events that follow it. In a pair a stage then goes to the
partner (R395). -/
def State.flashEnd (s : State) (c : ChipCmd) : State :=
  let free := { s with cfg := { s.cfg with busy := none } }
  match c.op with
  | 0x0201 =>
    let s1 := free.finStage c.image
    if s1.mirrors then
      let s2 := s1.sendImage 6 1 s1.cfg.staged c.image
      { s2 with cfg := { s2.cfg with busy := some { c with flash := false } } }
    else s1.endBusy c (.ok s1 ((imgGen c.image).setWidth 64))
  | 0x0203 =>
    let r := free.finCommit c.pkt.params
    let s1 := free.endBusy c r
    if r.status = .ok then s1.eventAll 2 1 (s1.slotGen s1.cfg.active).toNat r.result.toNat 0 else s1
  | 0x0204 =>
    let r := free.finConfirm
    (free.endBusy c r).cfgEvent 2 (r.st.slotGen r.st.cfg.active).toNat 0
  | 0x0205 =>
    let left := free.slotGen free.cfg.active
    let s1 := free.rollBack
    (s1.endBusy c (.ok s1 ((s1.slotGen s1.cfg.active).setWidth 64))).rolledBack left 0
  | 0x0207 => free.endBusy c (free.finFwStage c.image)
  | 0x0208 => free.endBusy c (free.finFwSwitch true)
  | 0x0209 => free.endBusy c free.finFwConfirm
  | 0x020A => free.endBusy c (free.finFwSwitch false)
  | _ => free

/-- A flash operation that fails: the command that caused it completes with FLASH_ERROR, and the copy in use stays in force;
what a slot holds whose programming failed is no image (R283). -/
def State.flashFail (s : State) (c : ChipCmd) : State :=
  let free := { s with cfg := { s.cfg with busy := none } }
  let s1 :=
    if c.op = 0x0201 then
      let s1 := free.putSlot free.freeSlot []
      { s1 with cfg := { s1.cfg with valid := false } }.cfgRegs
    else if c.op = 0x0207 then free.putFw (1 - free.cfg.fwBoot) []
    else free
  s1.endBusy c (.err s1 .flashError)

/-- FLASH_OPERATION_DONE (R283): nothing ends while Brace holds the flash (R359). -/
def execFlashOperationDone (ok : Bool) (s : State) : Host.Outcome State Fault Refusal :=
  done (match s.cfg.busy with
    | some c => if !c.flash || s.brace then s else if ok then s.flashEnd c else s.flashFail c
    | none => s)

end Sys2Proof.Machine
end

