-- ==== Sys2Proof/Machine/Twin.lean ====
section
/-!
DEFINITION. The twin pair: the bus coming up, roles, the copy to a standby, takeover and switchover (16 R382 to R398, 15
R377). The payloads of the frames are the model's own (log entry 41).
-/
namespace Sys2Proof.Machine

/-! ### The bus comes up (R377, R81, R82, R111) -/

/-- The Almanac is compiled in full from the running configuration and is in force at once (R377, R391). A set that no
longer compiles leaves no contract. -/
def State.compileNow (s : State) : State :=
  let x := match s.imgAdmit s.cfg.shadow with | .ok x => x | .error _ => ([], 250000)
  let s1 := { s with alm := { s.alm with
    gen := s.alm.gen + 1, contracts := x.1, floor := x.2, since := s.time.frame, pend := [] } }
  (s1.bind x.1).almRegs.periodicRes

/-- Frames start to run: carried on after a warm reset, or from bus time 0 and frame 0 (Table 3-6). Before the first frame
start a frame of length 0 stands for the one that has not begun. -/
def State.timeStart (s : State) : State :=
  if s.time.carried then s.resumeTime 3 s.time.lastEnd s.rst.gap 40 0
  else
    let s1 := (s.setF Fld.mrcLenNextLen 0 s.firstLen).setF Fld.gblTimeStatusDiscPending 0 1
    { s1 with
      time := { s1.time with frame := 0, start := s1.now, len := 0, beat := 7, running := true }
      frames := [⟨0, []⟩, ⟨0, []⟩, s1.openFrame 0] }

/-- The bus comes up on a single chip or a primary: HALT_IN# is sampled, the Almanac is compiled, and frames start (R377). -/
def State.busUp (s : State) : State :=
  let s1 := (if s.halt.pinLow then s.beginHalt 1 else s).compileNow
  let base := if s1.bit Fld.gblCfgStateAmended 0 then s1.cfg.base else s1.amended
  let s2 := { s1 with cfg := { s1.cfg with shadow := s1.amended, base := base } }
  s2.mrcStart.timeStart

/-! ### Roles and sync states (R383, R389) -/

/-- The standby's sync state changes: entries to Syncing are counted, and SYNC_STATE is raised (R389, Table 16-4). -/
def State.setSync (s : State) (v : Nat) : State :=
  if s.sync = v then s
  else
    let s1 := s.setF Fld.twnStatusSync 0 v
    let s2 := if v = 1 then s1.addF Fld.twnCountResyncs 0 1 else s1
    let s3 := s2.setF Fld.ledStatusMirroring 0 (if s2.mirrors then 1 else 0)
    if v = 0 then s3 else s3.twinEvent 5 v s3.now.toNat

/-- The role changes, with ROLE_CHANGED. A standby keeps HALT_OUT# asserted (R384). -/
def State.setRole (s : State) (r : Nat) : State :=
  let old := s.role
  let s1 := (s.setF Fld.twnStatusRole 0 r).twinEvent 1 (r + 256 * old) (s.getF Fld.twnStatusPairEpoch 0)
  if r = 3 then s1.haltOut else s1

/-- The lanes of the twin link that are active, one bit each. -/
def State.twinLanes (s : State) : Nat :=
  ((List.range 4).map fun k => if s.getF Fld.prtLaneStatusHState (16 + k) = 3 then 2 ^ k else 0).sum

/-! ### The copy to a standby (R389) -/

/-- A place in a CURSOR or RESYNC frame, 35 bytes (log entry 41). -/
def Place.mirror (p : Place) : List Byte :=
  let h := p.hub.getD ⟨0, false, false, 0, 0, 0, 0⟩
  let bit := fun (b : Bool) (n : Nat) => if b then n else 0
  leBytes 8 p.route.toNat ++ leBytes 2 p.addr ++
    leBytes 1 (bit p.present 1 + bit p.connected 2 + bit p.enabled 4 + bit p.hub.isSome 8 + bit h.tt 16 + bit h.dual 32) ++
    leBytes 1 p.cause ++ leBytes 1 p.owner ++ leBytes 1 p.speed ++ leBytes 1 p.version ++ leBytes 2 p.cls.toNat ++
    leBytes 8 p.serial.toNat ++ leBytes 2 p.delay ++ leBytes 1 p.resetCount ++ leBytes 1 h.nports ++ leBytes 1 h.ttBuffers ++
    leBytes 1 h.statusEp ++ leBytes 2 h.repeatDelay ++ leBytes 2 (BitVec.ofInt 16 h.asym).toNat

/-- The standby keeps the primary's record of a place. -/
def State.mirrorPlace (s : State) (b : List Byte) : State :=
  if b.length < 35 then s
  else
    let f := fieldAt b 10 1
    let on := fun k : Nat => bitsOf f k 1 == 1
    let hub : Option HubInfo := if on 3 then
        some ⟨fieldAt b 28 1, on 4, on 5, fieldAt b 29 1, fieldAt b 30 1, fieldAt b 31 2, (BitVec.ofNat 16 (fieldAt b 33 2)).toInt⟩
      else none
    s.alter (BitVec.ofNat 64 (fieldAt b 0 8)) fun p => { p with
      addr := fieldAt b 8 2, present := on 0, connected := on 1, enabled := on 2, hub := hub, cause := fieldAt b 11 1
      owner := fieldAt b 12 1, speed := fieldAt b 13 1, version := fieldAt b 14 1, cls := BitVec.ofNat 16 (fieldAt b 15 2)
      serial := BitVec.ofNat 64 (fieldAt b 17 8), delay := fieldAt b 25 2, resetCount := fieldAt b 27 1 }

/-- The primary copies what the standby is to hold: the configuration slots and the directory, the shadow, the Ledger, and
the tree record, closed by the epoch and the probation deadline (R389, R395). -/
def State.sendCopy (s : State) : State :=
  let s0 := s.twinSend 7 (cfgPayload 0 0 0 [])
  let s1 := (List.range 3).foldl (fun s k => s.sendImage 7 1 k (flashSlot s.cfg.flash k)) s0
  let s2 := s1.twinSend 7 (cfgPayload 2 0 0 s1.dir.bytes)
  let s3 := s2.sendImage 7 3 0 (s2.cfg.shadow.image (s2.reg .gblCfgGen 0))
  let s4 := s3.led.entries.foldl (fun s e => s.twinSend 7 (cfgPayload 4 0 0 (e.bytes false))) s3
  let s5 := s4.allPlaces.foldl (fun s p => s.twinSend 7 (cfgPayload 6 0 0 p.mirror)) s4
  s5.twinSend 7 (cfgPayload 5 0 (s5.reg .gblTimeEpoch 0) (leBytes 8 s5.cfg.deadline.toNat))

/-- A chunk of something copied, at its offset. -/
def State.addChunk (s : State) (k off : Nat) (data : List Byte) : State :=
  let old := if off = 0 then [] else ((s.twn.chunks.find? fun c => c.1 == k).map (·.2)).getD []
  { s with twn := { s.twn with chunks := s.twn.chunks.filter (fun c => c.1 != k) ++ [(k, old ++ data)] } }

/-- What has been gathered under a key. -/
def State.gathered (s : State) (k : Nat) : List Byte := ((s.twn.chunks.find? fun c => c.1 == k).map (·.2)).getD []

/-- The copy is complete: slots whose image differs, the directory's roles, the shadow with its Almanac, the epoch (R389). -/
def State.takeCopy (s : State) (epoch : Word) (deadline : DWord) : State :=
  let s1 := (List.range 3).foldl (fun s k =>
    if s.gathered k = flashSlot s.cfg.flash k then s else s.putSlot k (s.gathered k)) s
  let s2 := match Dir.parse (s1.gathered 9) with
    | some d => s1.writeDir { d with seq := s1.cfg.dirSeq, fwBoot := s1.cfg.fwBoot, trial := s1.cfg.trial }
    | none => s1
  let c := RunCfg.ofImage (s2.gathered 8)
  let x := match s2.imgAdmit c with | .ok x => x | .error _ => ([], 250000)
  let s3 := (s2.applyCfg c x.1 x.2).compileNow.cfgRegs.setReg .gblTimeEpoch 0 epoch
  { s3 with
    cfg := { s3.cfg with deadline := deadline }
    twn := { s3.twn with chunks := [], copied := true } }

/-- A RESYNC frame at a standby: its kind, its first byte and its word (R389). -/
def State.copyFrame (s : State) (p : List Byte) : State :=
  let w := fieldAt p 4 4
  let data := p.drop 8
  match fieldAt p 0 1 with
  | 0 =>
    let s1 := { s with
      twn := { s.twn with chunks := [], copied := false, offsetRun := 0 }, led := { s.led with entries := [], removed := [] } }
    if s.role = 3 then s1.setSync 1 else s1
  | 1 => s.addChunk (fieldAt p 1 1) w data
  | 2 => s.addChunk 9 0 data
  | 3 => s.addChunk 8 w data
  | 4 =>
    let e := LedEntry.ofBytes data
    State.ledStore { s with led := { s.led with lstart := e.lseq.extractLsb' 32 32 } } e
  | 5 => s.takeCopy (BitVec.ofNat 32 w) (BitVec.ofNat 64 (fieldAt data 0 8))
  | 6 => s.mirrorPlace data
  | _ => s

/-! ### Mirrored entries (R388, R391, R395) -/

/-- The effect of a mirrored entry on the standby's own running configuration: the command's effect with the parameters
that the frame carries, at the frame of the entry's commit point (Table 16-3, R372). -/
def State.replay (s : State) (e : LedEntry) (p : List Byte) : State :=
  match e.opcode.toNat with
  | 0x0301 => (bodyQpAssign s p).st
  | 0x0302 => (bodyQpUnassign s p).st
  | 0x0501 => (bodyDevAssign s p).st
  | 0x0502 => (bodyDevRelease s p).st
  | 0x0601 => (s.conChange e.tenant p none).st
  | 0x0602 => (bodyConClose e.tenant s p).st
  | 0x0603 => (bodyConReplace e.tenant s p).st
  | 0x0605 => (bodyWeirQuota s p).st
  | 0x0606 => (bodyWeirMode s p).st
  | 0x0801 => (bodyMrcSet s p).st
  | 0x0802 => (bodyMrcMode s p).st
  | 0x0B01 => (bodyShareSet s p).st
  | 0x0B02 => (bodyChannelAssign s p).st
  | 0x0203 =>
    let s1 := (s.finCommit p).st
    { s1 with cfg := { s1.cfg with deadline := e.time + BitVec.ofNat 64 (secondTicks (fieldAt p 4 2)) } }
  | 0x0204 => s.finConfirm.st
  | 0x0205 => s.rollBack
  | 0x0002 => if s.cfg.probation then s.rollBack else s
  | _ => s

/-- The switch frame in the RESULT of an entry, for the commands that have one (Table 10-4). -/
def LedEntry.switchFrame (e : LedEntry) : Option Word :=
  if [0x0601, 0x0602, 0x0603].contains e.opcode.toNat then some (e.result.extractLsb' 16 32)
  else if e.opcode.toNat = 0x0203 then some (e.result.extractLsb' 0 32)
  else none

/-- A LEDGER frame at a standby: the entry is stored with its LSEQ, a started Ledger is started empty with the epoch record
written, and a carried-out command amends the standby's own shadow (R273, R277, R388). -/
def State.mirrorEntry (s : State) (b : List Byte) : State :=
  let e := LedEntry.ofBytes (b.take 64)
  let l := e.lseq.extractLsb' 32 32
  let s1 := { s with led := { s.led with lstart := l } }
  let s2 := if e.opcode = 1 then
      State.writeEpoch { s1 with led := { s1.led with entries := [], removed := [] } } (s1.reg .gblTimeEpoch 0) l
    else s1
  let s3 := s2.ledStore e
  if e.status != 0 then s3
  else
    let f := if e.time.toNat < s3.time.start.toNat then s3.time.frame - 1 else s3.time.frame
    let own := s3.time.frame
    let n := s3.alm.pend.length
    let s4 := State.replay { s3 with time := { s3.time with frame := f } } e (b.drop 64)
    let pend := match e.switchFrame with
      | some sf => s4.alm.pend.take n ++ (s4.alm.pend.drop n).map fun (ch : AlmChange) => { ch with frame := sf }
      | none => s4.alm.pend
    let s5 := { s4 with time := { s4.time with frame := own }, alm := { s4.alm with pend := pend } }.almRegs
    if amends e.opcode.toNat then s5.amend else s5

/-! ### The cursor (R388, R397) -/

/-- The payload of CURSOR: the frame grid, the Millrace, the Almanac, the halt, PAIR_EPOCH, the power target, and one place
of the tree record (log entry 41). -/
def State.cursorBytes (s : State) : List Byte :=
  let ps := s.allPlaces
  leBytes 4 s.time.frame.toNat ++ leBytes 4 s.time.len ++ leBytes 8 s.time.start.toNat ++ leBytes 4 (s.getF Fld.mrcLenNextLen 0) ++
    leBytes 4 (s.reg .mrcStatus 0).toNat ++ leBytes 4 (s.reg .mrcPhase 0).toNat ++ leBytes 4 s.alm.gen.toNat ++
    leBytes 4 (s.reg .gblAlmSwitch 0).toNat ++ leBytes 1 (if s.halt.stands then 1 else 0) ++ leBytes 1 s.halt.cause.toNat ++
    leBytes 1 (s.getF Fld.twnStatusPairEpoch 0) ++ leBytes 1 (s.getF Fld.pwrStateTarget 0) ++
    (match ps[s.time.frame.toNat % max ps.length 1]? with | some p => p.mirror | none => [])

/-- A CURSOR frame at a standby: it applies the grid, switches its Almanac at the same frame, and holds the same halt and
PAIR_EPOCH (Table 16-3). -/
def State.takeCursor (s : State) (p : List Byte) : State :=
  let f : Word := BitVec.ofNat 32 (fieldAt p 0 4)
  let start : DWord := BitVec.ofNat 64 (fieldAt p 8 8)
  let s1 := (s.setF Fld.mrcLenNextLen 0 (fieldAt p 16 4)).setF Fld.twnStatusPairEpoch 0 (fieldAt p 42 1)
  let st : Word := BitVec.ofNat 32 (fieldAt p 20 4)
  let keep := [Fld.mrcStatusLocked, Fld.mrcStatusDir, Fld.mrcStatusSlip]
  let s2 := keep.foldl (fun (s : State) (x : Fld) => s.setF x 0 (bitsOf st.toNat x.lo x.len)) s1
  let s3 := s2.setReg .mrcPhase 0 (BitVec.ofNat 32 (fieldAt p 24 4))
  let s4 := if s3.time.running && s3.time.frame == f then
      { s3 with time := { s3.time with start := start, len := fieldAt p 4 4 } }
    else
      let s4 := { s3 with time := { s3.time with frame := f, start := start, len := fieldAt p 4 4, beat := 0, running := true } }
      { s4 with frames := [s4.openFrame f, s4.openFrame (f + 1), s4.openFrame (f + 2)] }
  let s5 := s4.switchDue (s4.alm.pend.length + 1)
  let s6 := { s5 with
    alm := { s5.alm with gen := BitVec.ofNat 32 (fieldAt p 28 4) }
    halt := { s5.halt with stands := fieldAt p 40 1 == 1, cause := BitVec.ofNat 8 (fieldAt p 41 1) } }
  let s7 := s6.almRegs.setF Fld.pwrStateTarget 0 (fieldAt p 43 1)
  s7.mirrorPlace (p.drop 44)

/-! ### Takeover and switchover (R390 to R392, R398) -/

/-- What the keeper of a new primary does next: places at no attachment of this chip go, path delays are measured again,
toggles return to DATA0, and the strike state of each strike endpoint is to be read (steps 5 to 8 of R391). -/
def State.inherit (s : State) : State :=
  let lost := s.allPlaces.filter fun p => (parentOf p.route).isNone && p.stood && !s.linkUp (routeLink p.route)
  let s1 := lost.foldl (fun s p => s.gone p.route) s
  let s2 := s1.allPlaces.foldl (fun s p => s.remeasure p.route) s1
  let fresh := (s2.alm.contracts.filter fun c => c.strike).map fun c => epKey c.addr c.ep false
  { s2 with
    eps := Tab.mapVal s2.eps fun _ e => { e with toggle := false }
    twn := { s2.twn with freshEndpoints := fresh, clears := s2.twn.clears + 1 } }

/-- The standby becomes primary: PAIR_EPOCH + 1, the TAKEOVER entry and event, HALT_IN# (step 1 of R391, R392). A standby
that is not Synced moves its LSEQ to the next multiple of 2^24. -/
def State.becomePrimary (s : State) : State :=
  let epoch := (s.getF Fld.twnStatusPairEpoch 0 + 1) % 256
  let synced := s.sync == 2
  let s1 := s.setF Fld.twnStatusPairEpoch 0 epoch
  let s2 := if synced then s1
    else { s1 with led := { s1.led with next := BitVec.ofNat 32 (((s1.led.next.toNat + 2 ^ 24 - 1) / 2 ^ 24) * 2 ^ 24) } }
  let s3 := (s2.setSync 0).setRole 2
  let lseq := s3.nextLseq
  let s4 := (s3.journalInternal 3 (BitVec.ofNat 64 epoch)).addF Fld.twnCountTakeovers 0 1
  let s5 := { s4 with twn := { s4.twn with
    takeovers := min 65535 (s4.twn.takeovers + 1), lastTakeover := s4.now, switchFrame := none } }
  let s6 := (List.range 256).foldl (fun s t => if t = 0 ∨ s.enabled t then s.event1 t 4 2 epoch lseq.toNat 0 else s) s5
  let s7 := (s6.raise 0 15)
  let s8 := if s7.halt.pinLow && !s7.halt.stands then s7.beginHalt 1 else s7
  { s8 with halt := { s8.halt with release := !s8.halt.stands } }

/-- A takeover (R391): SOF leaves from the first frame start at least 200 µs on; after one that was not Synced it carries
DISC, LOCKED is 0 and the Almanac is compiled in full. -/
def State.takeOver (s : State) : State :=
  let synced := s.sync == 2
  let s1 := s.becomePrimary
  let s2 := { s1 with twn := { s1.twn with sofFrom := some (s1.now + 100000) } }
  let s3 :=
    if synced then s2
    else if !s2.time.running then s2.busUp
    else
      let s3 := (((s2.setF Fld.gblTimeStatusLastCause 0 3).setF Fld.gblTimeStatusDiscPending 0 1).setF Fld.gblTimeStatusUncert
        0 1).setF Fld.mrcStatusLocked 0 0
      (s3.compileNow).raise 0 11
  s3.inherit

/-- The old primary gives the bus up at a switch frame without a reset (R398). -/
def State.stepDown (s : State) : State :=
  let s1 := { s with twn := { s.twn with switchFrame := none, switchAcked := false, copied := false, offsetRun := 0 } }
  let s2 := (s1.setSync 0).setRole 3
  let s3 := { s2 with txns := [], halt := { s2.halt with due := [] } }
  s3.setSync 1

/-- The switch frame is reached: the roles change if SWITCH was acknowledged by frame S − 1 and the link is up; otherwise
SWITCH_FAILED (R398, R400). -/
def State.switchReached (s : State) (frame : Word) : State :=
  match s.twn.switchFrame with
  | none => s
  | some f =>
    if !atOrAfter frame f then s
    else
      let failed := { s with twn := { s.twn with switchFrame := none, switchAcked := false } }.twinEvent 10 f.toNat 0
      if !s.twinUp then failed
      else if s.role = 2 then (if s.twn.switchAcked then s.stepDown else failed)
      else if s.role = 3 then
        let s1 := s.becomePrimary.inherit
        (s1.setSync 1).sendCopy
      else failed

end Sys2Proof.Machine
end

