-- ==== Sys2Proof/Machine/TwinFrames.lean ====
section
/-!
DEFINITION. The twin pair's frames, pins and commands (16 R383 to R399, 10 R277, 17 R413).
-/
namespace Sys2Proof.Machine

/-! ### Frames received (R386) -/

/-- The partner has received everything up to a frame number: entries become MIRRORED and their replies are released (R277,
R386). -/
def State.acked (s : State) (ack : Word) : State :=
  let got := s.twn.unacked.filter fun u => decide (u.1.toNat ≤ ack.toNat)
  let lseqs := (got.filter fun u => u.2.1 == 5).map fun u => (BitVec.ofNat 64 (fieldAt u.2.2 0 8) : DWord)
  let mark := fun e : LedEntry => if lseqs.contains e.lseq then { e with flags := e.flags ||| 2 } else e
  let s1 := { s with
    twn := { s.twn with
      unacked := s.twn.unacked.filter fun u => !decide (u.1.toNat ≤ ack.toNat)
      switchAcked := s.twn.switchAcked || got.any fun u => u.2.1 == 8 }
    led := { s.led with entries := s.led.entries.map mark } }
  let free := s1.led.waiting.filter fun h => lseqs.contains h.lseq
  let s2 := { s1 with led := { s1.led with waiting := s1.led.waiting.filter fun h => !lseqs.contains h.lseq } }
  (free.foldl (fun s h => s.sendReply h.tenant h.record h.irq) s2).setLag

/-- A frame's payload, if its tag is good (R386). -/
def State.twinOpen (s : State) (type : Nat) (f : TwinRx) : Option (List Byte) :=
  Config.gcmOpen (keyFor s.twn.pendingKey f.seq false s.twn.rxKey) (twinNonce f.seq s.twn.partnerStrap)
    (twinHeader type f.flags.toNat f.payload.length f.seq f.ack) f.payload f.tag

/-- A frame arrives on the twin link: one that fails its tag is discarded and counted, and a repeated one is not acted on
again (R386). A frame that reaches a chip below `Run` tells of its partner's wake (R397). -/
def State.twinFrame (s : State) (type : Nat) (f : TwinRx) (act : State → List Byte → State) : State :=
  if !s.twinUp then s
  else match s.twinOpen type f with
    | none => s.addF Fld.twnCountTagFail 0 1
    | some p =>
      let s1 := s.acked f.ack
      if f.seq.toNat ≤ s1.twn.rxSeq.toNat then s1
      else
        let s2 := { s1 with twn := { s1.twn with rxSeq := f.seq, rxKey := keyFor s1.twn.pendingKey f.seq false s1.twn.rxKey } }
        let s3 := if s2.role == 3 && (s2.chipState != 0 || s2.entryStep != 0) && type == 4 && fieldAt p 43 1 == 0 then
            s2.wake 0 else s2
        act s3 p

/-- TWIN_FRAME_ACK (R277, R386). -/
def execTwinFrameAck (ack : Word) (s : State) : Host.Outcome State Fault Refusal :=
  done (if s.twinUp then s.acked ack else s)

/-- TWIN_FRAME_RETRANSMIT (R386): frames that are not acknowledged are sent again, in order. A link that drowses sends nothing
(R397). -/
def execTwinFrameRetransmit (s : State) : Host.Outcome State Fault Refusal :=
  done (if s.twinUp && !s.twinQuiet then s.twn.unacked.foldl (fun s u => s.twinPut u.2.1 1 u.1 u.2.2) s else s)

/-- KEEPALIVE (R386): none while the link drowses (R397). -/
def execKeepalive (s : State) : Host.Outcome State Fault Refusal := done (if s.twinQuiet then s else s.twinSend 2 [])

/-! ### HELLO (R386, R413) -/

/-- The contents of a partner's HELLO. -/
def helloBytes (h : TwinHello) : List Byte :=
  helloContent h.strap h.role h.protocol h.firmware h.generation h.ephemeral

/-- The partner is authenticated: its certificate, its signature over both HELLOs, and PARTNER_ID (R413; CA key number
0x2000, log entry 10). -/
def State.partnerOk (s : State) (h : TwinHello) : Bool :=
  let pub := (h.cert.drop 32).take 64
  let id := s.cfg.shadow.partnerId
  h.cert.length == 256 && s.lifecycle == 1 && !s.lockdown &&
    Config.ecdsaVerify 0x2000 (Config.sha256 (h.cert.take 192)) (h.cert.drop 192) &&
    Config.ecdsaVerifyPub pub (Config.sha256 (helloBytes h ++ s.twn.hello)) h.signature &&
    ((id.all fun b => b == 0) || id == Config.sha256 pub)

/-- The link is up with the partner that a HELLO names (R386, R389, R413). -/
def State.linkUpWith (s : State) (h : TwinHello) : State :=
  let tx := Config.twinKey (helloBytes h) s.twn.hello (s.getF Fld.twnStatusStrap 0)
  let rx := Config.twinKey s.twn.hello (helloBytes h) h.strap
  let s1 : State := { s.setF Fld.twnStatusLinkUp 0 1 with twn := { s.twn with
    txKey := tx, rxKey := rx, pendingKey := none, txSeq := 1, rxSeq := 1, unacked := [], silent := false, hello := [] } }
  let s2 : State := if s.twn.silent then s1.twinEvent 4 s1.twinLanes s1.now.toNat else s1
  let s3 := if s2.role = 3 ∧ s2.sync = 3 then s2.setSync 1 else s2
  if s3.role = 2 ∧ h.role ≠ 2 then (s3.setSync 1).sendCopy else s3

/-- HELLO (R386, R413): a member answers with its own contents and the signature over both. Equal straps and different
protocol versions do not pair; a failed check is recorded and leaves the link as it is. -/
def State.helloIn (s : State) (h : TwinHello) : State :=
  if !s.member || !s.domainOn 10 || s.twinLanes == 0 then s
  else
    let s0 := if s.twn.hello = [] then s.sendHello h.rekeySeq else s
    let own := s0.getF Fld.twnStatusStrap 0
    let s1 := s0.emit (.twinFrame 1 0 s0.twn.txSeq (Config.ecdsaSign (Config.sha256 (s0.twn.hello ++ helloBytes h))))
    if h.strap.val = own then (s1.setF Fld.twnStatusConflict 0 1).twinEvent 8 own h.strap
    else if h.protocol ≠ Config.twinProtocol then
      (s1.setF Fld.twnStatusConflict 0 1).twinEvent 9 Config.twinProtocol.toNat h.protocol.toNat
    else if !s1.partnerOk h then s1.chipEvent
    else
      let s2 := { s1.setF Fld.twnStatusConflict 0 0 with twn := { s1.twn with
        partnerStrap := h.strap, partnerRole := h.role, partnerFw := h.firmware, partnerGen := h.generation } }
      match h.rekeySeq with
      | some n =>
        if !s2.twinUp then s2
        else
          let tx := Config.twinKey (helloBytes h) s2.twn.hello own
          let rx := Config.twinKey s2.twn.hello (helloBytes h) h.strap
          { s2 with twn := { s2.twn with pendingKey := some (n, tx, rx), hello := [] } }
      | none => s2.linkUpWith h

/-- HELLO (R413). -/
def execHello (h : TwinHello) (s : State) : Host.Outcome State Fault Refusal := done (s.helloIn h)

/-- TWIN_SEQ_REKEY (R413): the new keys count from a SEQ chosen ahead (log entry 41). -/
def execTwinSeqRekey (s : State) : Host.Outcome State Fault Refusal :=
  done (if s.twinUp && decide (2 ^ 31 ≤ s.twn.txSeq.toNat) && s.twn.pendingKey.isNone && s.twn.hello == [] then
      s.sendHello (some (s.twn.txSeq + 0x1000))
    else s)

/-! ### Mirroring (R388, R389, R395, R398) -/

/-- The standby's clock as a TIME exchange finds it; the copy and eight frames within ±10 ns make it Synced (R389). -/
def State.timeIn (s : State) (offset trim : Half) (p : List Byte) : State :=
  if s.role = 3 then
    let s1 := (s.setF Fld.twnTimeOffset 0 offset.toNat).setF Fld.twnTimeTrim 0 trim.toNat
    let near := decide (offset.toInt.natAbs ≤ 40)
    let s2 := { s1 with twn := { s1.twn with offsetRun := if near then min 8 (s1.twn.offsetRun + 1) else 0 } }
    let s3 := if s2.sync = 1 ∧ s2.twn.copied ∧ 8 ≤ s2.twn.offsetRun then
        (s2.setSync 2).writeEpoch (s2.reg .gblTimeEpoch 0) s2.led.lstart
      else s2
    s3.twinSend 3 (leBytes 8 s3.now.toNat ++ leBytes 1 s3.sync)
  else if s.role = 2 then
    (if fieldAt p 8 1 = 1 ∨ fieldAt p 8 1 = 2 then s.setSync (fieldAt p 8 1) else s)
  else s

/-- TIME (R388). -/
def execTime (f : TwinRx) (offset trim : Half) (s : State) : Host.Outcome State Fault Refusal :=
  done (s.twinFrame 3 f (fun s p => s.timeIn offset trim p))

/-- CURSOR (R388). -/
def execCursor (f : TwinRx) (s : State) : Host.Outcome State Fault Refusal :=
  done (s.twinFrame 4 f (fun s p => if s.role = 3 ∧ 44 ≤ p.length then s.takeCursor p else s))

/-- LEDGER (R388). -/
def execLedger (f : TwinRx) (s : State) : Host.Outcome State Fault Refusal :=
  done (s.twinFrame 5 f (fun s p => if s.role = 3 ∧ 64 ≤ p.length then s.mirrorEntry p else s))

/-- A CONFIG frame at a standby: an image chunk, of which the last stages the image; a validation; PREPARE. Each is answered
with a status and a detail (R395). -/
def State.configIn (s : State) (p : List Byte) : State :=
  let w := fieldAt p 4 4
  match fieldAt p 0 1 with
  | 1 =>
    let s1 := s.addChunk 10 w (p.drop 8)
    let img := s1.gathered 10
    if fieldAt img 12 4 ≤ img.length then
      let s2 := s1.finStage img
      s2.twinSend 6 (cfgPayload 4 0 0 [])
    else s1
  | 2 =>
    if !s.namesStaged w then s.twinSend 6 (cfgPayload 4 CmdStatus.wrongState.code 0 [])
    else match s.validate with
      | (s1, none) => s1.twinSend 6 (cfgPayload 4 0 0 [])
      | (s1, some f) => s1.twinSend 6 (cfgPayload 4 f.status.code (BitVec.ofNat 32 f.reason) [])
  | 3 => if s.namesStaged w && s.cfg.valid then s.twinSend 6 (cfgPayload 4 0 0 []) else s
  | _ => s

/-- The status of a code of Table 10-5. -/
def CmdStatus.ofCode (n : Nat) : CmdStatus :=
  let all : List CmdStatus := [.ok, .badPacket, .badOpcode, .badParam, .noSession, .staleSession, .badVersion, .notPermitted,
    .notOwner, .wrongState, .refused, .noResource, .windowFault, .dmaError, .authFailed, .flashError, .notPrimary, .busy]
  (all.find? fun c => c.code == n).getD .internalError

/-- The standby's answer at the primary: a stage or a validation ends with it, and READY lets the commit go on (R395). -/
def State.configAnswer (s : State) (p : List Byte) : State :=
  let code := fieldAt p 1 1
  let detail := fieldAt p 4 4
  match s.cfg.busy with
  | none => s
  | some c =>
    let r := fun x : CmdRes =>
      if code = 0 then x
      else { x with status := CmdStatus.ofCode code, detail := detail, result := BitVec.ofNat 64 detail }
    if c.flash || fieldAt p 0 1 != 4 then s
    else if c.op = 0x0201 then s.endBusy c (r (.ok s ((imgGen c.image).setWidth 64)))
    else if c.op = 0x0202 then s.endBusy c (r (s.validated none))
    else if c.op = 0x0203 && code == 0 then { s with cfg := { s.cfg with busy := some { c with flash := true } } }
    else s

/-- CONFIG (R395). -/
def execConfig (f : TwinRx) (s : State) : Host.Outcome State Fault Refusal :=
  done (s.twinFrame 6 f (fun s p => if s.role = 3 then s.configIn p else if s.role = 2 then s.configAnswer p else s))

/-- RESYNC (R389). -/
def execResync (f : TwinRx) (s : State) : Host.Outcome State Fault Refusal :=
  done (s.twinFrame 7 f (fun s p => if s.role = 3 ∨ s.role = 1 then s.copyFrame p else s))

/-- SWITCH (R398): the standby notes the switch frame. -/
def execSwitch (f : TwinRx) (s : State) : Host.Outcome State Fault Refusal :=
  done (s.twinFrame 8 f (fun s p =>
    if s.role = 3 then { s with twn := { s.twn with switchFrame := some (BitVec.ofNat 32 (fieldAt p 0 4)) } } else s))

/-- TWIN_PREPARE_TIMEOUT (R395): no READY has come, and the commit is refused with BUSY. -/
def execTwinPrepareTimeout (s : State) : Host.Outcome State Fault Refusal :=
  done (match s.cfg.busy with
    | some c => if c.op = 0x0203 ∧ ¬c.flash then s.endBusy c (.err s .busy) else s
    | none => s)

/-! ### Roles, silence and the alive pins (R383, R386, R387, R390) -/

/-- TWIN_ROLE_SETTLE (R383): the first outcome that applies. -/
def State.roleSettle (s : State) : State :=
  let primary := fun s : State =>
    let s1 := (s.setRole 2).busUp
    if s1.twinUp then (s1.setSync 1).sendCopy else s1
  let standby := fun s : State => (s.setRole 3).setSync 1
  if s.role ≠ 1 ∨ s.stage < 4 ∨ s.inHold then s
  else if s.twinUp then
    (if s.twn.partnerRole = 2 then standby s
     else if s.twn.partnerRole = 1 then (if s.getF Fld.twnStatusStrap 0 = 1 then primary s else standby s)
     else s)
  else if s.bit Fld.twnStatusAliveIn 0 then s
  else primary s

/-- TWIN_ROLE_SETTLE (R383). -/
def execTwinRoleSettle (s : State) : Host.Outcome State Fault Refusal := done s.roleSettle

/-- The twin link goes down: its keys are gone, and replies that waited are written (R277, R386, R402). -/
def State.twinDown (s : State) : State :=
  let s1 := { s.setF Fld.twnStatusLinkUp 0 0 with twn := { s.twn with
    silent := true, unacked := [], txKey := [], rxKey := [], pendingKey := none, hello := [] } }
  let s2 := (List.range 4).foldl (fun s k =>
    ((s.setF Fld.prtLaneStatusHState (16 + k) 0).setF Fld.prtLaneStatusHTxDrowse (16 + k) 0).modLink (32 + k) fun l => { l with lock := 0, ts2 := 0, attempts := 0 }) s1
  let held := s2.led.waiting
  let s3 := { s2 with led := { s2.led with waiting := [] } }
  let s4 := (held.foldl (fun s h => s.sendReply h.tenant h.record h.irq) s3).setLag
  match s4.cfg.busy with
  | some c =>
    if c.flash then s4
    else if c.op = 0x0201 then s4.endBusy c (.ok s4 ((imgGen c.image).setWidth 64))
    else if c.op = 0x0202 then s4.endBusy c (s4.validated none)
    else s4
  | none => s4

/-- TWIN_LINK_SILENT (R386, R389, R390, R397). -/
def State.linkSilent (s : State) : State :=
  if !s.member || !s.twinUp || s.chipState != 0 || s.pwr.returnStep != 0 then s
  else
    let alive := s.bit Fld.twnStatusAliveIn 0
    let lanes := s.twinLanes
    let s1 := s.twinDown
    let s2 := (if alive then s1.addF Fld.twnCountLinkLosses 0 1 else s1).twinEvent 3 lanes s1.now.toNat
    let s3 := if s2.role = 3 then (if alive then s2.setSync 3 else s2)
      else if s2.role = 2 then s2.setSync (if alive then 3 else 0) else s2
    if s3.role = 3 ∧ ¬alive then s3.takeOver
    else if alive || s3.role == 1 then s3.twinEvent 6 1 s3.now.toNat
    else s3

/-- TWIN_LINK_SILENT (R386). -/
def execTwinLinkSilent (s : State) : Host.Outcome State Fault Refusal := done s.linkSilent

/-- TWIN_ALIVE_IN_DEASSERTED (R387, R390, R397): the level that the input has held for 20 µs. -/
def State.aliveIn (s : State) (level : Bool) : State :=
  if !s.member || s.bit Fld.twnStatusAliveIn 0 == level then s
  else
    let s1 := s.setF Fld.twnStatusAliveIn 0 (if level then 1 else 0)
    if level then s1
    else if s1.role == 3 && (s1.chipState != 0 || s1.entryStep != 0) then (s1.twinEvent 6 2 s1.now.toNat).wake 0
    else if s1.role == 3 && !s1.twinUp then s1.takeOver
    else if s1.twinUp || s1.role == 1 then s1.twinEvent 6 2 s1.now.toNat
    else s1

/-- TWIN_ALIVE_IN_DEASSERTED (R387). -/
def execTwinAliveInDeasserted (level : Bool) (s : State) : Host.Outcome State Fault Refusal := done (s.aliveIn level)

/-- TWIN_ALIVE_OUT takes a level (R387). -/
def State.aliveOut (s : State) (high : Bool) : State :=
  if s.bit Fld.twnStatusAliveOut 0 = high then s
  else (s.setF Fld.twnStatusAliveOut 0 (if high then 1 else 0)).emit (.pin "TWIN_ALIVE_OUT" high)

/-- TWIN_ALIVE_TIMER_EXPIRY (R387). -/
def execTwinAliveTimerExpiry (s : State) : Host.Outcome State Fault Refusal := done (s.aliveOut false)

/-! ### Commands (R389, R398, R399) -/

/-- The TWIN_QUERY record (Table 16-5). -/
def State.twinRecord (s : State) : List Byte :=
  let bit := fun (f : Fld) (n : Nat) => if s.bit f 0 then n else 0
  leBytes 1 s.role ++ leBytes 1 (s.getF Fld.twnStatusStrap 0) ++ leBytes 1 s.sync ++ leBytes 1 s.twinLanes ++
    leBytes 1 (s.getF Fld.twnStatusPairEpoch 0) ++
    leBytes 1 (bit Fld.twnStatusAliveIn 1 + bit Fld.twnStatusAliveOut 2 + bit Fld.twnStatusLinkUp 4) ++
    leBytes 2 (s.getF Fld.ledStatusMirrorLag 0) ++ leBytes 4 s.twn.partnerFw.toNat ++ leBytes 4 s.twn.partnerGen.toNat ++
    leBytes 8 s.twn.lastTakeover.toNat ++ leBytes 2 (s.getF Fld.twnTimeOffset 0) ++ leBytes 2 s.twn.takeovers ++ leBytes 4 0

/-- The row of TwinQuery in Table 10-4. -/
def rowTwinQuery : CmdInfo :=
  { op := 0x0D01, t0 := true, jrn := false, outLen := some (fun _ => 32), standby := true }

/-- TWIN_QUERY (R399). -/
def execTwinQuery (t : Fin 256) (k : CmdPkt) (s : State) : Host.Outcome State Fault Refusal :=
  done (runCmd rowTwinQuery t k
    (fun s _ => .block s s.twinRecord) s)

/-- TWIN_SWITCHOVER: what must hold, and the switch frame (R398). -/
def bodyTwinSwitchover (s : State) (_ : List Byte) : CmdRes :=
  let idle := s.qps.all fun v => v.2.owner.isNone || v.2.state = .disabled
  let strikes := s.qps.any fun v => v.2.entries.any fun e => e.strikeOut
  if s.role ≠ 2 ∨ s.sync ≠ 2 ∨ s.getF Fld.ledStatusMirrorLag 0 ≠ 0 then .err s .wrongState
  else if !idle || strikes then .err s .wrongState
  else if s.cfg.probation || s.cfg.trial then .err s .busy
  else
    let f := s.time.frame + 3
    let s1 := { s with twn := { s.twn with switchFrame := some f, switchAcked := false } }
    .ok (s1.twinSend 8 (leBytes 4 f.toNat)) (f.setWidth 64)

/-- The row of TwinSwitchover in Table 10-4. -/
def rowTwinSwitchover : CmdInfo :=
  { op := 0x0D02, t0 := true }

/-- TWIN_SWITCHOVER (R398). -/
def execTwinSwitchover (t : Fin 256) (k : CmdPkt) (s : State) : Host.Outcome State Fault Refusal :=
  done (runCmd rowTwinSwitchover t k bodyTwinSwitchover s)

/-- TWIN_RESYNC: the bulk copy starts; without a live link to a standby there is nothing to copy to (R389). -/
def bodyTwinResync (s : State) (_ : List Byte) : CmdRes :=
  if s.role = 2 ∧ s.twinUp then .ok (s.setSync 1).sendCopy 0 else .err s .wrongState

/-- The row of TwinResync in Table 10-4. -/
def rowTwinResync : CmdInfo :=
  { op := 0x0D03, t0 := true }

/-- TWIN_RESYNC (R389). -/
def execTwinResync (t : Fin 256) (k : CmdPkt) (s : State) : Host.Outcome State Fault Refusal :=
  done (runCmd rowTwinResync t k bodyTwinResync s)

end Sys2Proof.Machine
end

