-- ==== Sys2Proof/Machine/Resets.lean ====
section
/-!
DEFINITION. The resets of the cold and warm class, and the stages of start-up (15 R367 to R378, R380; 11 R292, R293, R296, R300;
03 R81, R84).
-/
namespace Sys2Proof.Machine

/-! ### A reset is asserted (R367, R369, R370) -/

/-- What leaves the chip when a reset is asserted: HALT_OUT# low, TWIN_ALIVE_OUT low, every lane idle and every pair
released, PWR_EN high (R369, R387). -/
def State.resetPins (s : State) : State :=
  let s1 := s.haltOut.aliveOut false
  let s2 := (List.range 16).foldl (fun s p =>
    let s1 := if s.hState p = 0 then s else s.emit (.signal (2 * p) "electrical idle")
    if s1.pState p = 0 then s1 else s1.emit (.signal (2 * p + 1) "release")) s1
  let s3 := (List.range 4).foldl (fun s k =>
    if s.getF Fld.prtLaneStatusHState (16 + k) = 0 then s else s.emit (.signal (32 + k) "electrical idle")) s2
  if s3.pins.pwrEn then s3 else { s3 with pins := { s3.pins with pwrEn := true } }.emit (.pin "PWR_EN" true)

/-- A queue pair after a warm reset, which keeps its epoch only (Table 15-2). -/
def Qp.keptEpoch (v : Qp) : Qp := { Qp.blank with epoch := v.epoch }

/-- A command path after a warm reset, which keeps its reply epoch only (Table 15-2). -/
def CmdPath.keptEpoch (c : CmdPath) : CmdPath := { CmdPath.blank with epoch := c.epoch }

/-- What a reset of either class leaves of the state outside the registers, the flash, the fuses and what retention keeps. -/
def State.blankChip (s : State) : State :=
  let r := State.reset
  { s with
    mrc := r.mrc, alm := r.alm, frames := r.frames, areas := [], links := [], places := [], eps := [], txns := []
    qps := [], dma := r.dma, pools := [], cmds := [], cri := r.cri
    cfg := { r.cfg with flash := s.cfg.flash, shadow := s.cfg.shadow, base := s.cfg.base,
                        shadowValid := s.cfg.shadowValid, trial := s.cfg.trial,
                        fwBoot := s.cfg.fwBoot, restart := s.cfg.restart, fwRunning := [] }
    twn := { r.twn with takeovers := s.twn.takeovers, lastTakeover := s.twn.lastTakeover }
    pwr := { r.pwr with rtcBase := s.pwr.rtcBase, rtcAt := s.pwr.rtcAt, rtcFrac := s.pwr.rtcFrac }
    sec := { s.sec with keys := [], identity := false, challenge := none, glitches := [], unlockWaits := false, burnWaits := [] }
    led := { s.led with waiting := [] }
    pins := { s.pins with alert := 0, wakeOut := false, syncEdge := none, syncOut := none } }

/-- KIND and ENGINE of GBL_RESET_CAUSE. -/
def State.resetKind (s : State) (kind engine : Nat) : State :=
  (s.setF Fld.gblResetCauseKind 0 kind).setF Fld.gblResetCauseEngine 0 engine

/-- A reset of the warm class (Table 15-2). Bus time is carried from the end of the last frame (R82); a trial stands at the
reset unless the reset is the restart that begins it (R300). -/
def State.warmReset (s : State) (kind engine : Nat) : State :=
  if s.inHold then s
  else
    let keep := kind == 8 || kind == 9
    let amended := s.getF Fld.gblCfgStateAmended 0
    let epoch := s.getF Fld.twnStatusPairEpoch 0
    let alerts := s.pins.alert
    let s1 := s.resetPins
    let begun := s1.time.running && s1.time.len != 0
    let time := { s1.time with
      running := false, carried := s1.time.carried || begun
      lastEnd := if begun then s1.time.start + BitVec.ofNat 64 s1.time.len else s1.time.lastEnd }
    let s2 := { s1.blankChip with
      time := time
      qps := Tab.mapVal s1.qps fun _ v => v.keptEpoch
      cmds := Tab.mapVal s1.cmds fun _ c => c.keptEpoch
      pcie := if keep then s1.pcie else s1.pcieDefaults.pcie
      halt := { s1.halt with outAsserted := true, release := false, due := [], sentAt := [] }
      rst := { s1.rst with
        asserted := true, keepLink := keep, gap := 0, fwLeft := none
        trialAtReset := s1.cfg.trial && !(kind == 9 && s1.cfg.restart == Restart.activate) } }
    let s3 := { s2.clearRegs .warm with pins := { s2.pins with alert := alerts } }
    let s4 := ((s3.resetKind kind engine).addF Fld.gblResetCauseWarmCount 0 1).setF Fld.gblCfgStateAmended 0 amended
    (s4.setF Fld.twnStatusPairEpoch 0 epoch).setF Fld.pwrVotersDomainsOn 0 3

/-- A reset of the cold class, with the strap that is sampled then (R367, R382, Table 15-2). Fuses, OTP and the flash stay. The
RTC and the alarm are lost with the power of the always-on domain, which a debug opening leaves on (R9). -/
def State.coldReset (s : State) (kind strap : Nat) : State :=
  let r := State.reset
  let s1 := s.resetPins
  let s2 := { s1.blankChip with
    time := { r.time with recSeq := s1.time.recSeq, recEpoch := s1.time.recEpoch, lstart := s1.time.lstart }
    pcie := { r.pcie with perst := s1.pcie.perst }
    halt := { r.halt with pinLow := s1.halt.pinLow }
    led := r.led
    rst := { r.rst with asserted := true, trialAtReset := s1.cfg.trial } }
  let s3 := { s2 with
    cfg := { s2.cfg with shadow := RunCfg.empty, shadowValid := false, restart := Restart.none }
    twn := r.twn
    pwr := if kind = 3 then { r.pwr with rtcBase := s1.rtc } else r.pwr
    sec := { s2.sec with debugOpen := kind == 3 }
    pins := { s2.pins with alertTemp := 100, smbAddr := s2.pins.smbAddr } }
  let s4 := (if kind = 3 then s3.clearRegs .cold
    else (s3.clearRegs .cold).setReg64 .pwrAlarmLo .pwrAlarmHi 0 0).resetKind kind 15
  (s4.setF Fld.twnStatusStrap 0 strap).setF Fld.pwrVotersDomainsOn 0 1

/-- POWER_ON (R367): with the strap and, where the flash is given anew, its contents (log entry 7). -/
def execPowerOn (strap : Fin 3) (flash : Option Flash) (s : State) : Host.Outcome State Fault Refusal :=
  let s1 := match flash with
    | some f => { s with cfg := { s.cfg with flash := f } }
    | none => s
  done (s1.coldReset 1 strap)

/-- ALWAYS_ON_BROWNOUT (R354, R367). -/
def execAlwaysOnBrownout (strap : Fin 3) (s : State) : Host.Outcome State Fault Refusal := done (s.coldReset 2 strap)

/-- CORE_BROWNOUT (R358): in `DeepSleep` and `Off` VDD_CORE is not watched. -/
def execCoreBrownout (s : State) : Host.Outcome State Fault Refusal :=
  done (if 3 ≤ s.chipState then s else s.warmReset 4 15)

/-- RESET_N_ASSERTED (R367): in `Off` the chip has nothing left to reset. -/
def execResetNAsserted (s : State) : Host.Outcome State Fault Refusal :=
  done (if s.chipState = 4 then s else s.warmReset 5 15)

/-- PERST_ASSERTED (R367, R374, Table 15-5). -/
def execPerstAsserted (s : State) : Host.Outcome State Fault Refusal :=
  done (if 3 ≤ s.chipState then s
    else
      let s1 := { s with pcie := { s.pcie with perst := true, link := .off } }
      if s.entryStep = 5 then s1 else s1.warmReset 6 15)

/-- PCIE_HOT_RESET (R367). -/
def execPcieHotReset (s : State) : Host.Outcome State Fault Refusal :=
  done (if 3 ≤ s.chipState then s else s.warmReset 7 15)

/-- HEARTBEAT (R368, R387): the alive timer is restarted while every heartbeat is current, which they are until a watchdog
reset says otherwise. -/
def execHeartbeat (e : Fin 12) (s : State) : Host.Outcome State Fault Refusal :=
  done (if e.val < 12 && s.member && !s.rst.asserted && !s.inHold then s.aliveOut true else s)

/-- WATCHDOG_RESET (R368, R378). -/
def execWatchdogReset (e : Fin 12) (s : State) : Host.Outcome State Fault Refusal :=
  done (if 3 ≤ s.chipState then s
    else
      let times := (s.rst.wdogTimes.filter fun t => decide (s.now.toNat < t.toNat + secondTicks 60)) ++ [s.now]
      State.warmReset { s with rst := { s.rst with wdogTimes := if s.cfg.trial then [] else times } } 8 e)

/-- A scheduled soft reset begins (R367). -/
def State.softReset (s : State) : State := if s.cfg.restart = .none then s else s.warmReset 9 15

/-- SOFT_RESET_BEGIN (R367). -/
def execSoftResetBegin (s : State) : Host.Outcome State Fault Refusal := done s.softReset

/-- FW_ACTIVATE_RESTART (R299). -/
def execFwActivateRestart (s : State) : Host.Outcome State Fault Refusal :=
  done (if s.cfg.restart = .activate ∨ s.cfg.restart = .rollback then s.softReset else s)

/-- FW_TRIAL_DEADLINE (R300): the Steward schedules the soft reset by which it returns. -/
def execFwTrialDeadline (s : State) : Host.Outcome State Fault Refusal :=
  done (if s.trialRuns && s.ready then
      let s1 := s.upTo s.cfg.deadline
      { s1 with cfg := { s1.cfg with restart := .trial } }.cfgRegs
    else s)

/-- WAKE_IN_ASSERTED (R352): a wake from `Off` is a power-on with KIND 0xA. -/
def execWakeInAsserted (strap : Fin 3) (s : State) : Host.Outcome State Fault Refusal :=
  done (if s.chipState = 4 then s.coldReset 10 strap
    else if 2 ≤ s.chipState ∨ s.entersLow then s.wake 4 else s)

/-- RESET_RELEASE (R369): the trigger goes away, with the counts of the 25 MHz reference counter from the end of the last frame to
the first SOF to come (R81, R82). -/
def execResetRelease (counts : DWord) (s : State) : Host.Outcome State Fault Refusal :=
  done (if s.rst.asserted then
      { s with
        rst := { s.rst with asserted := false, gap := refTicks counts }
        pcie := { s.pcie with perst := false, link := .l0 } }
    else s)

/-! ### Stage 0: fuses, domains, directory (Table 15-3) -/

/-- The lifecycle that a start shows: fuses, and debug-opened (R404). A deployment counts from the next power-on. -/
def State.lifecycleNow (s : State) : Nat :=
  if s.sec.decommissioned then 3 else if s.sec.debugOpen then 2
  else if s.rst.coldPending then (if s.sec.deployed then 1 else 0) else s.lifecycle

/-- Stage 0 ends: lifecycle, domains, the directory, the epoch record. -/
def State.stage0 (s : State) : State :=
  let want := if s.member then 0x7FF else 0x3FF
  let s1 := s.setF Fld.secStatusLifecycle 0 s.lifecycleNow
  let s2 := ((List.range 11).filter fun d => bitsOf want d 1 == 1 && !s1.domainOn d).foldl (fun s d =>
    (s.setDomains (s.domains + 2 ^ d)).emit (.domain d true)) s1
  let s3 := s2.putDir ((flashDir s2.cfg.flash).getD ⟨0, 0, 0xFF, 0xFF, 0xFF, false, false, 0, false⟩)
  let e := flashEpoch s3.cfg.flash
  let roleless := (List.range 3).filter fun k =>
    flashSlot s3.cfg.flash k != [] && k != s3.cfg.active && k != s3.cfg.previous && k != s3.cfg.staged
  let s4 := { s3 with
    time := { s3.time with recSeq := e.1, recEpoch := e.2.1, lstart := e.2.2 }
    cfg := { s3.cfg with eraseDue := roleless }
    led := if s3.rst.coldPending then { s3.led with lstart := e.2.2 } else s3.led }
  s4.setF Fld.gblBootStatusStage 0 1

/-! ### Stage 1: firmware (R298, R300, R378, R406) -/

/-- Hold (R378). -/
def State.hold (s : State) : State := ((s.setF Fld.gblBootStatusStage 0 6).alert 2).aliveOut false

/-- A firmware slot runs. -/
def State.bootFw (s : State) (k : Nat) (fallback : Bool) : State :=
  let s1 := { s with cfg := { s.cfg with fwRunning := flashFw s.cfg.flash k } }
  ((s1.setF Fld.gblBootStatusFwSlot 0 k).setF Fld.gblBootStatusFwFallback 0 (if fallback then 1 else 0)).setF
    Fld.gblBootStatusStage 0 2

/-- A firmware trial ends at this start: FW_BOOT goes to the other slot with TRIAL clear (R300). -/
def State.fwReturn (s : State) (cause : Nat) : State :=
  let k := s.cfg.fwBoot
  let s1 := { s with rst := { s.rst with fwLeft := some (fwVersion (flashFw s.cfg.flash k), cause) } }
  (s1.writeDir { s1.dir with fwBoot := 1 - k, trial := false }).setF Fld.gblBootStatusRolledBack 0 1

/-- Stage 1 ends: the slot named by FW_BOOT, or the other (R300, R378). A decommissioned chip goes into hold (R417).
The identity key is derived now unless the root key cannot be read (Table 17-1, R415, R417). -/
def State.stage1 (s0 : State) : State :=
  let s := { s0 with sec := { s0.sec with identity := decide (s0.lifecycle < 2) } }
  let named := s.cfg.fwBoot
  let good := fun (s : State) (k : Nat) => s.fwAccepted (flashFw s.cfg.flash k)
  if s.sec.decommissioned then s.hold
  else
    let s1 := if s.cfg.trial && s.rst.trialAtReset then s.fwReturn (if s.cfg.restart = .trial then 1 else 2)
      else if s.cfg.trial && !good s named then s.fwReturn 3 else s
    let k := s1.cfg.fwBoot
    let loops := decide (3 ≤ s1.rst.wdogTimes.length)
    let s2 := if loops then { s1 with rst := { s1.rst with wdogTimes := [] } } else s1
    if loops then (if good s2 (1 - k) then s2.bootFw (1 - k) true else s2.hold)
    else if good s2 k then s2.bootFw k (k != named)
    else if good s2 (1 - k) then s2.bootFw (1 - k) (1 - k != named)
    else s2.hold

/-! ### Stages 2 and 3: retention, shadow, Ledger (R292, R293, R296, R371) -/

/-- A part of retention that a warm reset should have kept fails its check (R371). -/
def State.retFault (s : State) : State := s.chipEvent.setF Fld.gblBootStatusRetFault 0 1

/-- The state area: its epochs are 0 and its chip events gone when it is lost (R371). The first primary after that may
increase PAIR_EPOCH twice (R393). -/
def State.stateArea (s : State) (warm ok : Bool) : State :=
  if warm && ok then s.setF Fld.gblResetCauseStateKept 0 1
  else
    let s1 := { s with
      qps := [], cmds := [], rst := { s.rst with chipEvents := [] }, twn := { s.twn with bump := 4 } }
    let s2 := (s1.setF Fld.twnStatusPairEpoch 0 0).setF Fld.gblResetCauseStateKept 0 0
    if warm then s2.retFault else s2

/-- The configuration of a start that loads the shadow: the active slot, else the previous slot with the active role
emptied, else none (R292, R293). -/
def State.loadImage (s : State) : State :=
  let act := s.cfg.active
  let prev := s.cfg.previous
  let take := fun (s : State) (k : Nat) => { s with cfg := { s.cfg with shadow := RunCfg.ofImage (flashSlot s.cfg.flash k), shadowValid := true } }
  if act < 3 && s.imgVerified (flashSlot s.cfg.flash act) then take s act
  else
    let s1 := if act < 3 then (s.writeDir { s.dir with active := 0xFF }).chipEvent else s
    if prev < 3 && s1.imgVerified (flashSlot s1.cfg.flash prev) then (take s1 prev).setF Fld.gblBootStatusCfgFallback 0 1
    else
      { s1 with cfg := { s1.cfg with shadow := RunCfg.noConfig, shadowValid := true } }.setF Fld.gblBootStatusNoConfig 0 1

/-- A rollback at start: roles only; the image is loaded with the shadow (R296). -/
def State.startRollback (s : State) : State :=
  let d := s.dir
  (s.writeDir { d with
    active := d.previous, previous := 0xFF, staged := d.active, rejected := true, probation := false }).setF
      Fld.gblBootStatusRolledBack 0 1

/-- The grants and parameters of the running configuration come into use (Table 15-2). -/
def State.loadGrants (s : State) : State :=
  let c := s.cfg.shadow
  let s1 := (List.range 256).foldl (fun s t =>
    ((s.setF Fld.gblTenStateEnabled t (if t = 0 ∨ c.on t then 1 else 0)).setF Fld.tenWeirQuotaQuantum t
      (Tab.getD c.quanta t 0)).setF Fld.tenCisShareUnits t (c.units t)) s
  let s2 := ((s1.applyPlaces c).applyChans c).applyQps c
  let s3 := (mrcRegs.zip c.mrc).foldl (fun s x => s.setReg x.1 0 x.2) (s2.setF Fld.gblWeirCtrlMode 0 c.weirMode)
  s3.setF Fld.secGlitchLimit 0 c.glitchLimit

/-- The epoch record is written with a new start count. Where the flash does not take it, the new values are used all the same,
EPOCH_UNSAVED is set and the time cause is raised (R84). -/
def State.saveEpoch (s : State) (epoch start : Word) (saved : Bool) : State :=
  if saved then s.writeEpoch epoch start
  else ({ s with time := { s.time with lstart := start } }.setF Fld.gblTimeStatusEpochUnsaved 0 1).raise 0 11

/-- The first Ledger entry after a reset: LEDGER_START under an increased LSTART, which the epoch record holds first, or
WARM_RESTART (R84, R273 to R275). A restart without the old epoch adds 1 to it. -/
def State.firstEntry (s : State) (warm ledger saved : Bool) : State :=
  let kind := s.getF Fld.gblResetCauseKind 0
  let epoch := if warm then s.time.recEpoch else s.time.recEpoch + 1
  let s1 := s.setReg .gblTimeEpoch 0 epoch
  if warm && ledger then (s1.setF Fld.gblResetCauseLedgerKept 0 1).journalInternal 4 (BitVec.ofNat 64 kind)
  else
    let s2 := (s1.saveEpoch epoch (s1.time.lstart + 1) saved).setF Fld.gblResetCauseLedgerKept 0 0
    let s3 := if warm then s2.retFault else s2
    State.ledgerStart { s3 with led := { s3.led with lstart := s2.time.lstart - 1 } } kind

/-- Stages 2 and 3 end (Table 15-3): engines and Crier run, retention is checked, a probation or trial that stood is
returned from, and BAR0 is decoded. -/
def State.stage3 (s : State) (ok : RetCheck) : State :=
  let warm := !s.rst.coldPending
  let s0 := s.crierSet
  let s1 := s0.stateArea warm ok.stateArea
  let left := s1.slotGen s1.cfg.active
  let rolled := s1.cfg.probation
  let s2 := if rolled then s1.startRollback else s1
  let keep := warm && ok.shadow && !rolled && s2.cfg.shadowValid
  let s3 := if warm && !ok.shadow then s2.retFault else s2
  let s4 := if keep then s3 else (s3.loadImage).setF Fld.gblCfgStateAmended 0 0
  let s5 := s4.loadGrants
  let s6 := ((s5.firstEntry warm ok.ledger ok.epochSaved).setF Fld.gblResetCauseShadowKept 0 (if keep then 1 else 0)).setF
    Fld.gblResetCauseTimeKept 0 (if warm then 1 else 0)
  let s7 := if rolled then (s6.journalInternal 2 ((s6.slotGen s6.cfg.active).setWidth 64)).rolledBack left 2 else s6
  let s8 := match s7.rst.fwLeft with
    | some x =>
      let now := fwVersion s7.cfg.fwRunning
      (s7.journalInternal 2 (now.setWidth 64)).cfgEvent 6 now.toNat (x.1.toNat + x.2 * 2 ^ 32)
    | none => s7
  let s9 := { s8 with
    cfg := { s8.cfg with restart := if s8.cfg.restart = Restart.activate then Restart.activate else Restart.none }
    rst := { s8.rst with coldPending := false, keepLink := false, fwLeft := none, trialAtReset := false } }
  (s9.cfgRegs.setF Fld.gblBootStatusStage 0 3).heldFlrs

/-! ### Stages 4 and 5 (R377) -/

/-- Stage 4 begins: a single chip brings the bus up; a member joins (R377, R383). -/
def State.stage4 (s : State) : State :=
  let s1 := s.setF Fld.gblBootStatusStage 0 4
  if s1.member then s1.setF Fld.twnStatusRole 0 1 else s1.busUp

/-- Stage 5: READY; HALT_OUT# follows R53 on a chip that runs the tree, and the trial of new firmware begins (R300, R369). -/
def State.stage5 (s : State) (ms : Half) : State :=
  let s1 := ((s.setF Fld.gblBootStatusStage 0 5).setF Fld.gblBootStatusReady 0 1).setF Fld.gblBootStatusBringupMs 0 ms.toNat
  let s2 := if (s1.role = 0 ∨ s1.role = 2) ∧ ¬s1.halt.stands then s1.haltRelease else s1
  let s3 := { s2 with cfg := { s2.cfg with restart := Restart.none } }
  if s3.cfg.trial then
    let n := if s3.cfg.active < 3 then fieldAt s3.activeImage 40 2 else 0
    let s4 := { s3 with cfg := { s3.cfg with
      deadline := s3.now + BitVec.ofNat 64 (secondTicks (if n = 0 then 600 else n)), dueRaised := false } }
    s4.cfgRegs.cfgEvent 5 (fwVersion s4.cfg.fwRunning).toNat (fwVersion s4.otherFw).toNat
  else s3.cfgRegs

/-- STARTUP_STAGE_DONE (R375): with what the memories answer and the duration of stage 4 in ms. -/
def execStartupStageDone (retOk : RetCheck) (ms : Half) (s : State) : Host.Outcome State Fault Refusal :=
  done (if s.rst.asserted then s
    else match s.stage with
      | 0 => s.stage0
      | 1 => s.stage1
      | 2 => s.stage3 retOk
      | 3 => s.stage4
      | 4 => s.stage5 ms
      | _ => s)

end Sys2Proof.Machine
end

