-- ==== Sys2Proof/Machine/Security.lean ====
section
/-!
DEFINITION. The Watchman: key and attestation commands, decommissioning, debug access, deployment, glitches and lockdown, and
the end of Brace, when held burns are made (17 R402 to R420, 14 R359).
-/
namespace Sys2Proof.Machine

/-- The chip's serial number, from the identity certificate (Table 17-3). -/
def State.serial (s : State) : DWord := BitVec.ofNat 64 (fieldAt s.sec.cert 8 8)

/-- A tenant's key leaves the key store (R411). -/
def State.eraseKey (s : State) (t : Nat) : State :=
  ({ s with sec := { s.sec with keys := Tab.del s.sec.keys t } }.setF Fld.secKeyStatusLoaded t 0).setReg .secKeyLabel t 0

/-- Every tenant key goes. -/
def State.eraseKeys (s : State) : State := (s.sec.keys.map (·.1)).foldl (fun s t => s.eraseKey t) s

/-- The twin session keys go, and the link falls silent with them (R419). -/
def State.eraseTwinKeys (s : State) : State :=
  let s1 := if s.twinUp then s.linkSilent else s
  { s1 with twn := { s1.twn with txKey := [], rxKey := [], pendingKey := none } }

/-- The key store is zeroised: tenant keys, twin keys, and the keys derived from the root key (R402, R414, R417). -/
def State.zeroise (s : State) : State :=
  let s1 := s.eraseKeys.eraseTwinKeys
  { s1 with sec := { s1.sec with identity := false } }

/-! ### Commands (R404, R411, R412, R417) -/

/-- A tenant has a SEALED program slot loaded (Table 17-7). -/
def State.sealedSlot (s : State) (t : Nat) : Bool :=
  s.dma.chans.any fun c => c.2.owner == some t && c.2.slots.any fun x => x.2.sealed_

/-- SEC_KEY_LOAD in the order of Table 17-7. A FORMAT other than 1 counts as a reserved field. -/
def bodySecKeyLoad (t : Nat) (s : State) (p : List Byte) : CmdRes :=
  if p.length ≠ 144 ∨ fieldAt p 0 2 ≠ 1 then .err s .badParam
  else if s.lifecycle ≠ 1 ∨ s.lockdown then .err s .wrongState
  else if !s.cfg.shadow.seals t then .err s .notPermitted
  else if s.sealedSlot t then .err s .wrongState
  else if fieldAt p 2 1 ≠ t ∨ fieldAt p 8 8 ≠ s.serial.toNat then .err s .authFailed
  else
    let k := Config.wrapKey ((p.drop 16).take 64) s.serial
    match Config.gcmOpen k ((p.drop 80).take 12) (p.take 16) ((p.drop 92).take 32) ((p.drop 124).take 16) with
    | none => .err s .authFailed
    | some key =>
      let label : Word := BitVec.ofNat 32 (fieldAt p 4 4)
      let s1 := { s with sec := { s.sec with keys := Tab.set s.sec.keys t ⟨key, label⟩ } }
      .ok ((s1.setF Fld.secKeyStatusLoaded t 1).setReg .secKeyLabel t label) 0

/-- The Watchman's commands wait for PD_SEC (R346). -/
def State.withSec (s : State) (f : State → State) : State := if s.domainOn 5 then f s else s.wantDomain 5

/-- The row of SecKeyLoad in Table 10-4. -/
def rowSecKeyLoad : CmdInfo :=
  { op := 0x0C02, named := [(0, 3), (4, 136)], standby := true }

/-- SEC_KEY_LOAD (R410, R411). -/
def execSecKeyLoad (t : Fin 256) (k : CmdPkt) (s : State) : Host.Outcome State Fault Refusal :=
  done (s.withSec (runCmd rowSecKeyLoad t k (bodySecKeyLoad t)))

/-- SEC_KEY_ERASE (R411). -/
def bodySecKeyErase (t : Nat) (s : State) (_ : List Byte) : CmdRes :=
  if s.lifecycle ≠ 1 ∨ s.lockdown ∨ s.sealedSlot t then .err s .wrongState
  else .ok ((s.eraseKey t).votesChanged s) 0

/-- The row of SecKeyErase in Table 10-4. -/
def rowSecKeyErase : CmdInfo :=
  { op := 0x0C03, standby := true }

/-- SEC_KEY_ERASE (R411). -/
def execSecKeyErase (t : Fin 256) (k : CmdPkt) (s : State) : Host.Outcome State Fault Refusal :=
  done (s.withSec (runCmd rowSecKeyErase t k (bodySecKeyErase t)))

/-- SEC_LIFECYCLE (R404). -/
def bodySecLifecycle (s : State) (_ : List Byte) : CmdRes :=
  .ok s (BitVec.ofNat 64 (s.lifecycle + 256 * s.getF Fld.secStatusDebugCount 0 +
    2 ^ 16 * s.getF Fld.secStatusDebugLock 0 + 2 ^ 17 * s.getF Fld.secStatusLockdown 0))

/-- The row of SecLifecycle in Table 10-4. -/
def rowSecLifecycle : CmdInfo :=
  { op := 0x0C04, t0 := true, jrn := false, standby := true }

/-- SEC_LIFECYCLE (R404). -/
def execSecLifecycle (t : Fin 256) (k : CmdPkt) (s : State) : Host.Outcome State Fault Refusal :=
  done (runCmd rowSecLifecycle t k bodySecLifecycle s)

/-- The attestation report up to its signature (Table 17-8). -/
def State.attestBody (s : State) (t : Nat) (nonce : List Byte) : List Byte :=
  let bit := fun (b : Bool) (n : Nat) => if b then n else 0
  let fw := s.cfg.fwRunning
  let img := s.activeImage
  let label := match Tab.find s.sec.keys t with | some k => k.label.toNat | none => 0
  leBytes 4 0x54415456 ++ leBytes 1 1 ++ leBytes 1 s.lifecycle ++ leBytes 1 (s.getF Fld.secStatusDebugCount 0) ++
    leBytes 1 (bit (s.bit Fld.secStatusDebugLock 0) 1 + bit s.trialRuns 2 + bit s.cfg.probation 4 +
      bit (Tab.find s.sec.keys t).isSome 8) ++
    leBytes 8 s.serial.toNat ++ leBytes 4 (s.reg .gblChipId 0).toNat ++ leBytes 4 (fwVersion fw).toNat ++
    leBytes 4 (fieldAt fw 8 1 + 256 * s.getF Fld.secStatusFwSvnMin 0) ++ leBytes 4 (s.reg .gblCfgGen 0).toNat ++
    padTo 32 (Config.sha256 (fw.take (fw.length - 68))) ++
    (if s.cfg.active < 3 then padTo 32 (Config.sha256 (img.take (img.length - 68))) else leBytes 32 0) ++
    padTo 32 nonce ++ leBytes 8 s.now.toNat ++ leBytes 4 (s.reg .gblTimeEpoch 0).toNat ++ leBytes 1 t ++ leBytes 1 s.role ++
    leBytes 2 0 ++ leBytes 4 label ++ leBytes 44 0

/-- SEC_ATTEST (R412): without an identity key there is nothing to sign with. -/
def bodySecAttest (t : Nat) (s : State) (p : List Byte) : CmdRes :=
  if s.lifecycle = 2 ∨ s.lockdown ∨ ¬s.sec.identity then .err s .wrongState
  else
    let b := s.attestBody t (p.take 32)
    .block s (b ++ padTo 64 (Config.ecdsaSign (Config.sha256 b)))

/-- The row of SecAttest in Table 10-4. -/
def rowSecAttest : CmdInfo :=
  { op := 0x0C01, jrn := false, named := [(0, 32)], outLen := some (fun _ => 256), standby := true }

/-- SEC_ATTEST (R412). -/
def execSecAttest (t : Fin 256) (k : CmdPkt) (s : State) : Host.Outcome State Fault Refusal :=
  done (s.withSec (runCmd rowSecAttest t k
    (bodySecAttest t)))

/-- SEC_DECOMMISSION (R417). -/
def bodySecDecommission (s : State) (p : List Byte) : CmdRes :=
  if fieldAt p 0 4 ≠ 0x4445434D then .err s .badParam
  else if s.cfg.probation || s.cfg.trial then .err s .busy
  else .ok (((s.burn 4 0).zeroise.setF Fld.secStatusLifecycle 0 3).votesChanged s) 0

/-- The row of SecDecommission in Table 10-4. -/
def rowSecDecommission : CmdInfo :=
  { op := 0x0C05, t0 := true, named := [(0, 4)], standby := true }

/-- SEC_DECOMMISSION (R417). -/
def execSecDecommission (t : Fin 256) (k : CmdPkt) (s : State) : Host.Outcome State Fault Refusal :=
  done (s.withSec (runCmd rowSecDecommission t k bodySecDecommission))

/-! ### Glitches and lockdown (R419) -/

/-- Lockdown: every tenant key and both twin keys go. -/
def State.lockDown (s : State) : State := (((s.setF Fld.secStatusLockdown 0 1).eraseKeys).eraseTwinKeys).votesChanged s

/-- GLITCH_DETECTION (R419): the detection is counted and recorded, and GLITCH_LIMIT of them within a second of bus time are
lockdown. A cryptographic operation that is repeated gives its result again. -/
def execGlitchDetection (clock : Bool) (s : State) : Host.Outcome State Fault Refusal :=
  done (if !s.domainOn 5 || s.rst.asserted then s
    else
      let s1 := (s.addF (if clock then Fld.secGlitchClock else Fld.secGlitchVoltage) 0 1).chipEvent
      let ts := (s1.sec.glitches.filter fun t => decide (s1.now.toNat < t.toNat + secondTicks 1)) ++ [s1.now]
      let s2 := { s1 with sec := { s1.sec with glitches := ts } }
      if s2.getF Fld.secGlitchLimit 0 ≤ ts.length && !s2.lockdown then s2.lockDown else s2)

/-! ### Debug access and deployment (R404, R413 to R416) -/

/-- The TAP takes UNLOCK_CHALLENGE and UNLOCK_RESPONSE (Table 17-2). -/
def State.tapUnlock (s : State) : Bool :=
  !s.rst.asserted && decide (1 ≤ s.stage) && s.lifecycle != 3 && !(s.lifecycle == 1 && s.bit Fld.secStatusDebugLock 0)

/-- UNLOCK_CHALLENGE (R414). -/
def execUnlockChallenge (s : State) : Host.Outcome State Fault Refusal :=
  done (if !s.tapUnlock then s
    else s.withSec fun s =>
      let c := s.freeBytes 4
      let s1 := s.skipFree 4
      { s1 with sec := { s1.sec with challenge := some (c, s1.now) } }.emit (.jtag c))

/-- The fuse is burnt and the debug-open zeroisation reset follows (steps 5 and 6 of R414). -/
def State.openDebug (s : State) : State :=
  (s.setF Fld.secStatusDebugCount 0 (s.getF Fld.secStatusDebugCount 0 + 1)).coldReset 3 (s.getF Fld.twnStatusStrap 0)

/-- A response opens debug access (R414; Lendigar's debug-authorisation key has number 0x2001, log entry 10). -/
def State.unlocks (s : State) (pub sig : List Byte) : Bool :=
  match s.sec.challenge with
  | none => false
  | some (c, at_) =>
    let d := Config.sha256 (c ++ leBytes 8 s.serial.toNat)
    let own := s.cfg.shadow.debugKey
    s.lifecycle == 1 && !s.bit Fld.secStatusDebugLock 0 && decide (s.getF Fld.secStatusDebugCount 0 < 8) && !s.lockdown &&
      decide (s.now.toNat < at_.toNat + secondTicks 60) &&
      (Config.ecdsaVerify 0x2001 d sig ||
        (own.any (fun b => b != 0) && Config.sha256 pub == own && Config.ecdsaVerifyPub pub d sig))

/-- UNLOCK_RESPONSE (R414): a challenge is good for one response; in Brace the zeroisation runs at once, and the burn and the
reset wait (R420). -/
def execUnlockResponse (pub sig : List Byte) (s : State) : Host.Outcome State Fault Refusal :=
  done (if !s.tapUnlock then s
    else s.withSec fun s =>
      let s1 := { s with sec := { s.sec with challenge := none } }
      if !s.unlocks pub sig then (s1.emit (.jtag [0])).votesChanged s
      else
        let s2 := s1.zeroise.emit (.jtag [1])
        if s2.brace then { s2 with sec := { s2.sec with unlockWaits := true } } else s2.openDebug)

/-- DEPLOY (R413): in manufacturing, once a configuration key slot is programmed and unrevoked; the fuse counts from the next
power-on. -/
def execDeploy (s : State) : Host.Outcome State Fault Refusal :=
  done (if s.rst.asserted || s.lifecycle != 0 then s
    else if s.getF Fld.secStatusCfgKeyValid 0 = 0 then s.emit (.jtag [0])
    else if s.brace then { s with sec := { s.sec with burnWaits := s.sec.burnWaits ++ [(5, 0)] } }.emit (.jtag [1])
    else { s with sec := { s.sec with deployed := true } }.emit (.jtag [1]))

/-- A held burn is made: 5 is the deployed fuse. -/
def State.burnHeld (s : State) (kind v : Nat) : State :=
  if kind = 5 then { s with sec := { s.sec with deployed := true } } else s.burnNow kind v

/-! ### The end of Brace (R359, R418, R420) -/

/-- BRACE_END (R359): no sooner than 100 µs after it began. Held burns are made, and a debug opening that waited goes on. -/
def execBraceEnd (minMv : Half) (s : State) : Host.Outcome State Fault Refusal :=
  done (if !s.brace then s
    else
      let s1 := s.upTo (s.pwr.braceStart + 50000)
      let s2 := ((s1.setF Fld.pwrSupplyBrace 0 0).setF Fld.pwrSupplyWarn 0 0).setF Fld.pwrSupplyMinMv 0 minMv.toNat
      let s3 := (s2.raisePower).eventAll 3 3 (2 * (s2.now.toNat - s2.pwr.braceStart.toNat)) minMv.toNat 0
      let s4 := s3.sec.burnWaits.foldl (fun s b => s.burnHeld b.1 b.2) s3
      let s5 := { s4 with sec := { s4.sec with burnWaits := [] } }
      if s5.sec.unlockWaits then s5.openDebug else s5)

end Sys2Proof.Machine
end

