-- ==== Sys2Proof/Machine/Pins.lean ====
section
/-!
DEFINITION. The SMBus target and its alert (18 R438, R439, Table 18-12).
-/
namespace Sys2Proof.Machine

/-- The target answers in `Run`, `Idle` and `Sleep`, from stage 0 onwards and in hold (R438). -/
def State.smbUp (s : State) : Bool := !s.rst.asserted && decide (s.chipState < 3)

/-- An SMBus read of a value of one or two bytes, least significant first. -/
def State.smbRead (s : State) (n v : Nat) : State :=
  s.emit (.smbus (if s.smbUp then some (leBytes n v) else none))

/-- SMB_READ_CHIP_ID (R439). -/
def execSmbReadChipId (s : State) : Host.Outcome State Fault Refusal :=
  done (s.smbRead 2 ((s.reg .gblChipId 0).toNat % 2 ^ 16))

/-- The junction temperature in whole °C, rounded down, as a signed byte. -/
def State.tempByte (s : State) : Nat :=
  ((BitVec.ofInt 8 ((BitVec.ofNat 12 (s.getF Fld.pwrThermTemp 0)).toInt / 4))).toNat

/-- SMB_READ_TEMPERATURE (R439). -/
def execSmbReadTemperature (s : State) : Host.Outcome State Fault Refusal := done (s.smbRead 1 s.tempByte)

/-- SMB_READ_VDD_CORE (R439): the measured level comes from outside the block, a free value (log entry 6). -/
def execSmbReadVddCore (s : State) : Host.Outcome State Fault Refusal := done (if s.smbUp then (s.smbRead 2 (s.freeValue.toNat % 65536)).nextFree else s.smbRead 2 0)

/-- SMB_READ_STATE (R439). -/
def execSmbReadState (s : State) : Host.Outcome State Fault Refusal :=
  done (s.smbRead 1 (s.chipState + 8 * s.stage + (if s.ready then 64 else 0) + (if s.brace then 128 else 0)))

/-- The alert conditions that still stand: temperature, Brace, hold (Table 18-12). -/
def State.standingAlerts (s : State) : State :=
  let hot := decide (4 * (s.pins.alertTemp : Int) ≤ (BitVec.ofNat 12 (s.getF Fld.pwrThermTemp 0)).toInt)
  let s1 := if hot then s.alert 0 else s
  let s2 := if s1.brace then s1.alert 1 else s1
  if s2.inHold then s2.alert 2 else s2

/-- SMB_READ_ALERT_STATUS (R439): the status is returned and cleared, and what still stands sets its bit again. -/
def execSmbReadAlertStatus (s : State) : Host.Outcome State Fault Refusal :=
  done (let s1 := s.smbRead 1 s.pins.alert
    if !s.smbUp then s1
    else
      let s2 := { s1 with pins := { s1.pins with alert := 0 } }
      (if s.pins.alert = 0 then s2 else s2.emit (.pin "SMB_ALERT#" true)).standingAlerts)

/-- SMB_READ_ALERT_TEMP (R439). -/
def execSmbReadAlertTemp (s : State) : Host.Outcome State Fault Refusal := done (s.smbRead 1 s.pins.alertTemp)

/-- SMB_WRITE_ALERT_TEMP (R439): 60 to 125 °C; other values are not acknowledged. -/
def execSmbWriteAlertTemp (v : Byte) (s : State) : Host.Outcome State Fault Refusal :=
  done (if !s.smbUp || decide (v.toNat < 60) || decide (125 < v.toNat) then s.emit (.smbus none)
    else State.standingAlerts ({ s with pins := { s.pins with alertTemp := v.toNat } }.emit (.smbus (some []))))

/-- SMB_READ_RESET_CAUSE (R439). -/
def execSmbReadResetCause (s : State) : Host.Outcome State Fault Refusal :=
  done (s.smbRead 2 ((s.reg .gblResetCause 0).toNat % 2 ^ 16))

/-- SMB_READ_LIFECYCLE (R439). -/
def execSmbReadLifecycle (s : State) : Host.Outcome State Fault Refusal := done (s.smbRead 1 s.lifecycle)

/-- SMB_ALERT_RESPONSE (R439): the chip's own address, in bits 7 to 1 of the byte. -/
def execSmbAlertResponse (s : State) : Host.Outcome State Fault Refusal :=
  done (s.smbRead 1 (2 * (0x58 + s.pins.smbAddr)))

/-- SMB_CLOCK_LOW_TIMEOUT (R438): the transaction in progress is abandoned; between the rows there is none. -/
def execSmbClockLowTimeout (s : State) : Host.Outcome State Fault Refusal := done s

/-- SMB_UNKNOWN_COMMAND (R439): a code outside Table 18-12 is not acknowledged; one inside it is not this command. -/
def execSmbUnknownCommand (code : Byte) (s : State) : Host.Outcome State Fault Refusal :=
  done (if code.toNat < 8 then s else s.emit (.smbus none))

end Sys2Proof.Machine
end

