-- ==== Sys2Proof/Machine/Frames.lean ====
section
/-!
DEFINITION. Frame starts, beat starts, and the SOFs that an arriving packet holds back (01 R16, 03 R60 to R65, R82, 04 R107,
R111, 05 R128, R130, 09 R244, 14 R342, 16 R388, R391, R393, R398).
-/
namespace Sys2Proof.Machine

/-! ### Marks -/

/-- The tick at which the start delimiter of a mark leaves a link: now, or on an H lane after what is left of an SKP set begun
before (R63, R230). -/
def State.markTick (s : State) (l : Nat) : DWord :=
  let t := (s.link l).skp.toNat
  if l % 2 = 0 ∧ t < s.now.toNat ∧ s.now.toNat < t + 4 then BitVec.ofNat 64 (t + 4) else s.now

/-- An SOF leaves on a link; it ends the link's resume window, and wakes that were seen are reported (R32, R63, R65, R222,
R224). -/
def State.sendSof (s : State) (l : Nat) (disc : Bool) : State :=
  let pkt := sofPkt (s.fmtE l) s.time.frame disc s.halt.stands (s.getF Fld.twnStatusPairEpoch 0) (s.markTick l)
  let s1 := (s.wakeLane l).emit (.packet (portOf l) (sideOf l) (s.linkSpeed l) pkt)
  (s1.modLink l fun k => { k with
    marked := true, resume := false, resumeEnded := false, idleFrames := k.idleFrames + 1
    sofHeld := false, arriving := false, disc := false }).reportWakes l

/-- Marks are sent: the chip is in `Run` with no entry begun, it is no standby, and after a takeover the time of its first
SOF has come (R342, R350, R384, R391). -/
def State.marksOn (s : State) : Bool :=
  !s.lowered && s.entryStep == 0 && s.role != 1 && s.role != 3 &&
  (match s.twn.sofFrom with | none => true | some t => decide (t.toNat ≤ s.now.toNat))

/-- The SOF of one link at S(n) (R63, R64, R222, R244): a mark that falls due in a retrain is skipped and counted, a dozing
pair whose resume has ended becomes active, a pair on which a packet arrives holds its SOF back, and one that awaits a
response stops waiting. -/
def State.sofLink (s : State) (rx : BitVec 16) (disc : Bool) (l : Nat) : State :=
  let p := l / 2
  if l % 2 = 0 then
    if s.hState p = 4 then s.addF Fld.prtLinkErrMarksSkipped p 1
    else if s.linkUp l then s.sendSof l disc else s
  else
    let s1 := if s.sofDue p s.now then s.setF Fld.prtLaneStatusPState p 3 else s
    if !s1.linkUp l then s1
    else if rx.getLsbD p then s1.modLink l fun k => { k with arriving := true, sofHeld := true, disc := disc }
    else ((s1.outstanding l).foldl (fun s x => s.txError x) s1).sendSof l disc

/-- A link whose SOF left at this frame start. -/
def State.sofGone (s : State) (l : Nat) : Bool := s.linkUp l && !(s.link l).sofHeld

/-- HALT_OUT# is released after the first SOF with HALT clear, or with no active link at the frame start (R53). -/
def State.releaseAfterSof (s : State) : State :=
  if s.halt.release && !s.halt.stands then s.haltRelease else s

/-- The SOFs of a frame start; DISC_PENDING ends with the first SOF that carried DISC (R63, R82). -/
def State.sofs (s : State) (rx : BitVec 16) : State :=
  if !s.marksOn then s
  else
    let disc := s.bit Fld.gblTimeStatusDiscPending 0
    let s1 := (List.range 32).foldl (fun s l => s.sofLink rx disc l) { s with twn := { s.twn with sofFrom := none } }
    let sent := (List.range 32).any s1.sofGone
    let s2 := if disc && sent then s1.setF Fld.gblTimeStatusDiscPending 0 0 else s1
    if sent || s2.activeLinks.isEmpty then s2.releaseAfterSof else s2

/-- LATE_SOF_SEND (R64): the packet has ended; the SOF that it held back leaves and is counted. -/
def execLateSofSend (p : Fin 16) (s : State) : Host.Outcome State Fault Refusal :=
  let l := 2 * p.val + 1
  let k := s.link l
  done (if !k.sofHeld then s
    else
      let s1 := (s.addF Fld.prtSofLateLate p 1).sendSof l k.disc
      (if k.disc then s1.setF Fld.gblTimeStatusDiscPending 0 0 else s1).releaseAfterSof)

/-! ### What every beat does -/

/-- At a beat start: waits counted in beats go on (R45, R49), control time starts afresh (R106), the bus encoder's silence
is counted on a chip that reads it (R79), and committed strikes whose tick has passed complete (R130). -/
def State.beatWork (s : State) : State :=
  let txns := s.txns.map fun (x : Txn) => { x with beats := x.beats - 1, own := x.own - 1 }
  let eps := Tab.mapVal s.eps fun _ (e : Ep) => { e with waitBeat := false }
  let s1 : State := { s with txns := txns, eps := eps, alm := { s.alm with ctlUsed := [] } }
  (if s1.role = 3 then s1 else s1.encoderBeat).actsDue

/-- The BEAT of one H link (R63, R65, R244). -/
def State.beatLink (s : State) (k p : Nat) : State :=
  let l := 2 * p
  if s.hState p = 4 then s.addF Fld.prtLinkErrMarksSkipped p 1
  else if s.linkUp l && (s.link l).marked then
    (s.wakeLane l).emit (.packet p .h 3 (beatPkt k s.time.frame (s.markTick l)))
  else s

/-- BEAT_START (R63): beat k follows the running beat, and its beat lists are read (R97). -/
def execBeatStart (k : Nat) (s : State) : Host.Outcome State Fault Refusal :=
  done (if !s.time.running || s.time.beat + 1 != k || decide (7 < k) then s
    else
      let s1 := s.upTo (s.beatStartTick k)
      let s2 := (State.beatWork { s1 with time := { s1.time with beat := k } }).readBeatLists
      if s2.marksOn && s2.twn.sofFrom.isNone then (List.range 16).foldl (fun s p => s.beatLink k p) s2 else s2)

/-! ### The frame boundary -/

/-- The next frame becomes the running one: its length is the one fixed, and frame n+2 opens with the GUARD_BEATS of the
moment (R16, R60, R62, R141). The numbers that a gap of bus time skipped count as skipped until they stand for frames to come
(R61, R83). The Almanac words of a frame that opens are read (R190), and the F/L ports of hubs have been idle a frame longer
(R221). -/
def State.nextFrame (s : State) : State :=
  let begun := s.time.len != 0
  let n := if begun then s.time.frame + 1 else s.time.frame
  let start := s.time.start + BitVec.ofNat 64 s.time.len
  let s1 := s.upTo start
  let s2 := { s1 with time := { s1.time with
    frame := n, start := start, len := s.getF Fld.mrcLenNextLen 0, beat := 0
    guard := s.getF Fld.gblStrikeCtrlGuardBeats 0, prevLen := s.time.len
    gapFrom := if n = s.time.gapTo + 0x80000000 then s.time.gapTo else s.time.gapFrom } }
  let s3 := { s2 with
    links := Tab.mapVal s2.links fun _ (k : Link) => { k with slotHeld := [] }
    places := Tab.mapVal s2.places fun _ (q : Place) => if q.hubPair then { q with idleFrames := q.idleFrames + 1 } else q
    frames := if begun then s2.frames.drop 1 ++ [s2.openFrame (n + 2)]
      else [s2.openFrame n, s2.openFrame (n + 1), s2.openFrame (n + 2)] }
  if begun then s3.readAlmanac (n + 2)
  else ((s3.readAlmanac n).readAlmanac (n + 1)).readAlmanac (n + 2)

/-- The strikes that stand in slots of a frame and have not departed. -/
def FrameRec.left (f : FrameRec) : List (Nat × Half) := f.slots.filterMap (·.strike)

/-- Below `Run` the slots of the running frame are neither served nor counted (R342); a strike in one is unplaced. -/
def State.emptyFrame (s : State) : State :=
  let f := s.frames.headD ⟨0, []⟩
  let s1 := f.left.foldl (fun s w => s.unplace w.1 w.2) s
  { s1 with frames := ⟨f.number, []⟩ :: s1.frames.drop 1 }

/-- PAIR_EPOCH is increased by 85 after a dual-homed hub has not answered, at most twice (R393). -/
def State.epochBump (s : State) : State :=
  if s.twn.bump % 2 = 1 then
    { s.setF Fld.twnStatusPairEpoch 0 ((s.getF Fld.twnStatusPairEpoch 0 + 85) % 256) with
      twn := { s.twn with bump := s.twn.bump - 3 } }
  else s

/-- A standby's Millrace samples and follows: it computes nothing and reports nothing (Table 16-3). -/
def State.mrcFollow (s : State) : State :=
  let s1 := s.parsDue (s.time.frame + 1)
  if s1.samples then
    { s1 with mrc := { s1.mrc with prevAngle := s1.mrc.angle, angle := some (s1.par.units (s1.positionAt s1.time.start)) } }
  else s1

/-- The Millrace at S(n), with what a lost lock or a slip does to strikes (R73, R75, Table 5-6). -/
def State.mrcAtFrame (s : State) (ticks : Nat) : State :=
  if s.role = 3 then s.mrcFollow else (s.mrcFrame ticks).mrcStrikes s

/-- Strikes that nothing can stage any more end, and the others are aimed again and placed (R127 to R129). -/
def State.strikesAtFrame (s : State) : State :=
  let s1 := s.reaim
  let all := s1.qps.flatMap fun v => (v.2.entries.filter fun e => e.kind = .strike && e.phase = .started).map fun e => (v.1, e.idx)
  (all.foldl (fun s w => s.strikeLost w.1 w.2) s1).attemptAll

/-- What a primary sends to its partner at a frame start: TIME in every frame, CURSOR while the chip is in `Run`
(Table 16-1). -/
def State.twinAtFrame (s : State) : State :=
  if s.role != 2 then s
  else
    let s1 := s.twinSend 3 (leBytes 8 s.now.toNat)
    if s1.chipState = 0 then s1.twinSend 4 s1.cursorBytes else s1

/-- The work of S(n) (R16, R63, R73, R107, R110, R111, R128, R393, R398). -/
def State.frameStart (s : State) (rx : BitVec 16) : State :=
  let ended := (s.frames.headD ⟨0, []⟩).left
  let ticks := s.time.len
  let s1 := s.nextFrame
  let s2 := ended.foldl (fun s w => s.slotMissed w.1 w.2) s1
  let s3 := if s2.lowered || s2.entryStep != 0 then s2.emptyFrame else s2
  let s4 := (s3.switchReached s3.time.frame).epochBump
  let s5 := (s4.switchDue (s4.alm.pend.length + 1)).weirDue
  let s6 := ((s5.mrcAtFrame ticks).strikesAtFrame).readBeatLists
  (s6.beatWork.sofs rx).twinAtFrame

/-- FRAME_START (R63). -/
def execFrameStart (rx : BitVec 16) (s : State) : Host.Outcome State Fault Refusal :=
  done (if s.time.running && decide (4 ≤ s.stage) && !s.inHold then s.frameStart rx else s)

end Sys2Proof.Machine
end

