-- ==== Sys2Proof/Machine/LaneTests.lean ====
section
/-!
DEFINITION. Margin scans and the test facilities of lanes and pairs (09 R247, R249 to R251, 16 R401).
-/
namespace Sys2Proof.Machine

/-- The offset in BAR0 of a lane's register, from its offsets in Tables 19-6 and 19-7 (R453, R454). -/
def laneOff (lane port twin : Nat) : Nat :=
  if lane < 16 then 0x20000 + 0x1000 * lane + port else 0x30100 + 0x100 * (lane - 16) + twin

/-! ### Margin scans (R247) -/

/-- A scan ends with DONE. -/
def State.scanDone (s : State) (lane : Nat) : State :=
  ((s.setF Fld.prtMarginStatBusy lane 0).setF Fld.prtMarginStatDone lane 1).modLink (laneLink lane) fun k =>
    { k with scanFar := false }

/-- START: the results of the last scan clear; a near-end scan begins left of the centre, a far-end one sends MARGIN_REQ
on a link at 3.1 or later. A lane that is not up is in a loss or retrain (R247; log entry 39). -/
def State.scanStart (s : State) (lane : Nat) : State :=
  let l := laneLink lane
  let up := s.getF Fld.prtLaneStatusHState lane == 3
  let s1 := ((s.setReg .prtMarginStat lane 0).setF Fld.prtMarginStatBusy lane 1).modLink l fun k =>
    { k with scanDir := 0, scanStep := 0, scanFar := false }
  if s.bit Fld.prtMarginCtrlFar lane then
    if !up || decide ((s.link l).ver < 0x31) then (s1.setF Fld.prtMarginStatFarNa lane 1).scanDone lane
    else
      let req := leBytes 1 (s.getF Fld.prtMarginCtrlDwellExp lane)
      (s1.modLink l fun k => { k with scanFar := true }).emit (.ordered lane "MARGIN_REQ" 1 (withCrc8 req))
  else if s.getF Fld.prtLaneStatusHState lane == 4 || s.getF Fld.prtLaneStatusHState lane == 5 then s1.abortScan lane
  else s1

/-- A write of PRT_MARGIN_CTRL: the fields, and a scan when START is 1 and none runs (Table 9-12). -/
def State.marginWrite (s : State) (lane : Nat) (v hw : Word) : State :=
  let m := s.mergeReg 0 (laneOff lane 0x80 0x10) .prtMarginCtrl lane v hw
  let s1 := m.2.setReg .prtMarginCtrl lane m.1
  if v.getLsbD 0 && !s.bit Fld.prtMarginStatBusy lane then s1.scanStart lane else s1

/-- MARGIN_SCAN_START (R247): a write with START set. -/
def execMarginScanStart (lane : Fin 20) (v : Word) (s : State) : Host.Outcome State Fault Refusal :=
  done (s.gated 0 (laneOff lane 0x80 0x10) fun s => s.marginWrite lane (v ||| 1) 0)

/-- The result field of a direction of the scan: left, right, up, down. -/
def scanFld (dir : Nat) : Fld :=
  match dir with
  | 0 => Fld.prtMarginStatLeft
  | 1 => Fld.prtMarginStatRight
  | 2 => Fld.prtMarginStatUp
  | _ => Fld.prtMarginStatDown

/-- A direction of the scan ends with its last clean step. -/
def State.scanTurn (s : State) (lane clean : Nat) : State :=
  let l := laneLink lane
  let d := (s.link l).scanDir
  let s1 := s.setF (scanFld d) lane clean
  if d < 3 then s1.modLink l fun k => { k with scanDir := d + 1, scanStep := 0 } else s1.scanDone lane

/-- MARGIN_SCAN_DWELL_END (R247): `clean` tells that no bit disagreed in the dwell. Thirty-one steps is the most a field
holds, and makes the 124 dwells of a full scan. -/
def execMarginScanDwellEnd (lane : Fin 20) (clean : Bool) (s : State) : Host.Outcome State Fault Refusal :=
  let k := s.link (laneLink lane)
  done (if !s.bit Fld.prtMarginStatBusy lane || k.scanFar then s
    else if !clean then s.scanTurn lane k.scanStep
    else if k.scanStep + 1 < 31 then s.modLink (laneLink lane) fun k => { k with scanStep := k.scanStep + 1 }
    else s.scanTurn lane 31)

/-- MARGIN_RPT (R247): the bytes after COM and K28.3, whose CRC8 covers what precedes it (Table 9-1). -/
def execMarginRpt (lane : Fin 20) (rx : LineRx) (s : State) : Host.Outcome State Fault Refusal :=
  let b := rx.bytes
  let good := rx.lineOk && b.length == 6 && b.getD 0 0 == 0x80 && crc8 (b.take 5) == b.getD 5 0
  let f := fun (s : State) (k : Nat) => s.setF (scanFld k) lane (b.getD (k + 1) 0).toNat
  done (if good && s.bit Fld.prtMarginStatBusy lane && (s.link (laneLink lane)).scanFar then
      (f (f (f (f s 0) 1) 2) 3).scanDone lane
    else s)

/-- MARGIN_FAR_TIMEOUT (R247). -/
def execMarginFarTimeout (lane : Fin 20) (s : State) : Host.Outcome State Fault Refusal :=
  done (if s.bit Fld.prtMarginStatBusy lane && (s.link (laneLink lane)).scanFar then
      (s.setF Fld.prtMarginStatFarNa lane 1).scanDone lane
    else s)

/-! ### Test modes (R249 to R251) -/

/-- A side is enabled: a link is up, in bring-up or in doze on it; a lane of the twin link counts while that link is up
(R249, Table 8-17, R401). -/
def State.sideEnabled (s : State) (lane : Nat) (pair : Bool) : Bool :=
  if 16 ≤ lane then s.twinUp
  else if pair then decide (1 ≤ s.pState lane ∧ s.pState lane ≤ 5)
  else decide (1 ≤ s.hState lane ∧ s.hState lane ≤ 5)

/-- The link of the side that SIDE names. -/
def testLink (lane : Nat) (pair : Bool) : Nat := if pair then 2 * lane + 1 else laneLink lane

/-- Bits compared per tick of lock, in fortieths: 5 Gbit/s on a lane, 250 or 12.5 Mbit/s on a pair (R251). -/
def State.testRate (s : State) (lane : Nat) : Nat :=
  if !s.bit Fld.prtTestCtrlSide lane then 400 else if s.bit Fld.prtTestCtrlPTestF lane then 20 else 1

/-- PRT_TEST_BITS: what was counted at earlier locks, and since the present lock (R251; log entry 40). -/
def State.testBits (s : State) (lane : Nat) : DWord :=
  let k := s.link (testLink lane (s.bit Fld.prtTestCtrlSide lane))
  s.reg64 .prtTestBitsLo .prtTestBitsHi lane +
    (if s.bit Fld.prtTestStatChkLock lane then
      BitVec.ofNat 64 ((s.now.toNat - k.since.toNat) * s.testRate lane / 40) else 0)

/-- PRT_TEST_ERRS: what was counted at earlier locks, and since the present lock what the line brings (R251; log entry 40). -/
def State.testErrs (s : State) (lane : Nat) : Word :=
  let k := s.link (testLink lane (s.bit Fld.prtTestCtrlSide lane))
  let n := if s.bit Fld.prtTestStatChkLock lane then Config.lineErrors lane k.since.toNat s.now.toNat else 0
  BitVec.ofNat 32 (min (2 ^ 32 - 1) (s.getF Fld.prtTestErrsErrs lane + n))

/-- The checker stops: its counts stand, its lock ends. -/
def State.checkerStop (s : State) (lane : Nat) : State :=
  ((s.setReg64 .prtTestBitsLo .prtTestBitsHi lane (s.testBits lane)).setReg .prtTestErrs lane (s.testErrs lane)).setF
    Fld.prtTestStatChkLock lane 0

/-- A side leaves test mode: electrical idle for 10 µs (R249). -/
def State.testLeave (s : State) (lane : Nat) (pair : Bool) : State :=
  let in6 := if pair then s.pState lane == 6 else s.getF Fld.prtLaneStatusHState lane == 6
  let l := testLink lane pair
  if in6 then (s.modLink l fun k => { k with testIdle := true }).emit (.signal l "idle") else s

/-- A side enters test mode, or goes on in another one. -/
def State.testEnter (s : State) (lane : Nat) (pair : Bool) (mode : Nat) : State :=
  let l := testLink lane pair
  let s1 := if pair then s.setF Fld.prtLaneStatusPState lane 6 else s.setF Fld.prtLaneStatusHState lane 6
  let s2 := s1.modLink l fun k => { k with testIdle := false, lock := 0, ts2 := 0 }
  if mode = 3 then s2.emit (.ordered lane "TS1" 0 [2]) else s2

/-- An injection due takes effect on the next word that a running generator makes (R251). -/
def State.injectNow (s : State) (lane : Nat) : State :=
  let l := testLink lane (s.bit Fld.prtTestCtrlSide lane)
  if (s.link l).injectDue && s.bit Fld.prtTestCtrlGenEn lane && s.getF Fld.prtTestCtrlMode lane != 0 then
    (s.modLink l fun k => { k with injectDue := false }).emit (.signal l "inject")
  else s

/-- A write of PRT_TEST_CTRL (Table 9-14). A mode is refused while the side is enabled, on the pair for far-end loopback,
and for far-end loopback when no peer at 3.0 or later trains; a refusal changes no field of the register but REFUSED (R249, R250),
and a reserved encoding sets ENCODING all the same (R7). -/
def State.testWrite (s : State) (lane : Nat) (v : Word) (peerTrains : Bool) (hw : Word) : State :=
  let m := s.mergeReg 0 (laneOff lane 0xC0 0x20) .prtTestCtrl lane v hw
  let mode := getBits m.1 0 3
  let pair := getBits m.1 3 1 == 1
  if mode != 0 && getBits v 0 3 == mode && (s.sideEnabled lane pair || (mode == 3 && (pair || !peerTrains))) then
    m.2.setF Fld.prtTestCtrlRefused lane 1
  else
    let was := s.getF Fld.prtTestCtrlMode lane
    let wasPair := s.bit Fld.prtTestCtrlSide lane
    let s0 := if s.bit Fld.prtTestStatChkLock lane && (getBits m.1 8 1 == 0 || mode == 0) then m.2.checkerStop lane else m.2
    let s1 := s0.setReg .prtTestCtrl lane m.1
    let s2 := if was != 0 && (mode == 0 || pair != wasPair) then s1.testLeave lane wasPair else s1
    let s3 := if mode != 0 && (mode != was || pair != wasPair) then s2.testEnter lane pair mode else s2
    let s4 := if getBits m.1 8 1 == 1 && !s.bit Fld.prtTestCtrlChkEn lane then
        (((s3.setReg64 .prtTestBitsLo .prtTestBitsHi lane 0).setReg .prtTestErrs lane 0).setF Fld.prtTestStatChkLock lane 0)
      else s3
    let s5 := if v.getLsbD 9 then s4.modLink (testLink lane pair) fun k => { k with injectDue := true } else s4
    s5.injectNow lane

/-- TEST_MODE_WRITE (R249). -/
def execTestModeWrite (lane : Fin 20) (v : Word) (peerTrains : Bool) (s : State) : Host.Outcome State Fault Refusal :=
  done (s.gated 0 (laneOff lane 0xC0 0x20) fun s => s.testWrite lane v peerTrains 0)

/-- The peer that last ran a capability step on a lane's link offered 3.0 or later. -/
def State.peerKnown (s : State) (lane : Nat) : Bool := decide (0x30 ≤ capHi (s.link (laneLink lane)).peer)

/-- INJECT (R251): a write that sets INJECT and changes nothing else. -/
def execInject (lane : Fin 20) (s : State) : Host.Outcome State Fault Refusal :=
  done (s.gated 0 (laneOff lane 0xC0 0x20) fun s =>
    s.testWrite lane (((s.reg .prtTestCtrl lane) &&& 0xFFFF7DFF) ||| bitsMask 9 1) (s.peerKnown lane) 0)

/-- CHECKER_ENABLE (R251): a write that sets CHK_EN and changes nothing else. -/
def execCheckerEnable (lane : Fin 20) (s : State) : Host.Outcome State Fault Refusal :=
  done (s.gated 0 (laneOff lane 0xC0 0x20) fun s =>
    s.testWrite lane (((s.reg .prtTestCtrl lane) &&& 0xFFFF7DFF) ||| bitsMask 8 1) (s.peerKnown lane) 0)

/-- The sides of a lane register that hold their 10 µs of idle. -/
def State.idleSide (s : State) (lane : Nat) (pair : Bool) : State :=
  let l := testLink lane pair
  if !(s.link l).testIdle then s
  else
    let s1 := s.modLink l fun k => { k with testIdle := false }
    if pair then s1.setF Fld.prtLaneStatusPState lane 0 else s1.setF Fld.prtLaneStatusHState lane 0

/-- TEST_MODE_EXIT_IDLE_END (R249): the side returns to step 1 of Table 9-2 or to pair detection. -/
def execTestModeExitIdleEnd (lane : Fin 20) (s : State) : Host.Outcome State Fault Refusal :=
  let s1 := s.idleSide lane false
  done (if lane.val < 16 then s1.idleSide lane true else s1)

/-- The checker runs on a side in test mode. -/
def State.checks (s : State) (lane : Nat) : Bool :=
  s.bit Fld.prtTestCtrlChkEn lane && s.getF Fld.prtTestCtrlMode lane != 0

/-- CHECKER_LOCK (R251). -/
def execCheckerLock (lane : Fin 20) (s : State) : Host.Outcome State Fault Refusal :=
  let l := testLink lane (s.bit Fld.prtTestCtrlSide lane)
  done (if s.checks lane && !s.bit Fld.prtTestStatChkLock lane then
      (s.setF Fld.prtTestStatChkLock lane 1).modLink l fun k => { k with since := s.now }
    else s)

/-- CHECKER_LOST_LOCK (R251): with the bits compared and in error since the lock. -/
def execCheckerLostLock (lane : Fin 20) (bits errs : Word) (s : State) : Host.Outcome State Fault Refusal :=
  done (if s.checks lane && s.bit Fld.prtTestStatChkLock lane then
      (((s.setF Fld.prtTestStatChkLock lane 0).setF Fld.prtTestStatLostLock lane 1).setReg64 .prtTestBitsLo .prtTestBitsHi lane
        (s.reg64 .prtTestBitsLo .prtTestBitsHi lane + bits.setWidth 64)).addF Fld.prtTestErrsErrs lane errs.toNat
    else s)

end Sys2Proof.Machine
end

