-- ==== Sys2Proof/Machine/Views.lean ====
section
/-!
DEFINITION. What registers read as: the registers that show other state, and where each offset of BAR0 leads (19 R449 to R456,
06 R164, 07 R193, 12 R324, 13 R335, R340, 02 R58, 08 R229, 14 R366).
-/
namespace Sys2Proof.Machine

/-- A word made of fields. -/
def wordOf (fs : List (Fld × Nat)) : Word := fs.foldl (fun w x => putBits w x.1.lo x.1.len x.2) 0

/-- A word with some fields replaced. -/
def withFields (w : Word) (fs : List (Fld × Nat)) : Word := fs.foldl (fun w x => putBits w x.1.lo x.1.len x.2) w

/-- One half of a 64-bit value. -/
def halfOf (v : DWord) (hi : Bool) : Word := if hi then (v >>> 32).setWidth 32 else v.setWidth 32

/-! ### Queue pairs (R164, R335, R340) -/

/-- The queue pair that TEN_QP_SEL names, if the function owns it (R164). -/
def State.shownQp (s : State) (fn : Nat) : Option (Nat × Qp) :=
  let q := s.getF Fld.tenQpSelQp fn
  if s.ownsQp fn q then some (q, s.qp q) else none

/-- TEN_QP_STATUS of a queue pair that the function owns (Table 6-15). -/
def Qp.statusWord (v : Qp) : Word :=
  wordOf [(Fld.tenQpStatusState, v.state.ctorIdx), (Fld.tenQpStatusIdle, (decide (v.state = .disabled)).toNat),
    (Fld.tenQpStatusBackpressure, v.bpNow.toNat), (Fld.tenQpStatusHeld, v.held.toNat),
    (Fld.tenQpStatusHaltCause, v.haltCause), (Fld.tenQpStatusDbFault, v.dbFault.toNat), (Fld.tenQpStatusOwned, 1),
    (Fld.tenQpStatusFaultKind, v.faultKind), (Fld.tenQpStatusHeldCompl, v.holding.length),
    (Fld.tenQpStatusBound, v.contract.isSome.toNat), (Fld.tenQpStatusHomeQuad, v.homeQuad)]

/-- TEN_QP_COUNT of a queue pair (Table 6-16). -/
def Qp.countWord (v : Qp) : Word :=
  wordOf [(Fld.tenQpCountMissedBackpressure, v.missed), (Fld.tenQpCountLateData, v.late),
    (Fld.tenQpCountStandingDrops, v.drops)]

/-- CRI_QP_PEND: the lowest owned queue pair at or above the selected one with a cause set (Table 13-9). -/
def State.qpPend (s : State) (fn : Nat) : Word :=
  let from_ := s.getF Fld.tenQpSelQp fn
  match s.qps.find? fun e => decide (from_ ≤ e.1) && e.2.owner == some fn && e.2.causes != 0 with
  | some e => wordOf [(Fld.criQpPendQp, e.1), (Fld.criQpPendValid, 1)]
  | none => 0

/-- CRI_CAUSE with its queue-pair summary (Table 13-5). -/
def State.causeWord (s : State) (t : Nat) : Word :=
  let any := s.qps.any fun e => e.2.owner == some t && e.2.causes != 0
  putBits (s.reg .criCause t) 9 1 any.toNat

/-! ### DMA channels (R193) -/

/-- The channel and slot that DMA_SEL names, if the function owns the channel (R193). -/
def State.shownChan (s : State) (fn : Nat) : Option Chan :=
  let c := s.chan (s.getF Fld.dmaSelChannel fn)
  if c.owner = some fn then some c else none

/-- The loaded program slot that DMA_SEL names. -/
def State.shownProg (s : State) (fn : Nat) : Option Prog :=
  (s.shownChan fn).bind fun c => Tab.find c.slots (s.getF Fld.dmaSelSlot fn)

/-- DMA_CH_STATUS (Table 7-12). -/
def Chan.statusWord (c : Chan) : Word :=
  wordOf [(Fld.dmaChStatusState, c.state.ctorIdx), (Fld.dmaChStatusOwned, 1),
    (Fld.dmaChStatusErrAfterCount, c.afterCount.toNat), (Fld.dmaChStatusErrWrite, c.errWrite.toNat),
    (Fld.dmaChStatusErrKind, c.errKind), (Fld.dmaChStatusRetries, c.retries),
    (Fld.dmaChStatusLoadRefused, c.loadRefused.toNat), (Fld.dmaChStatusLoaded, (c.slots.map fun e => 2 ^ e.1).sum)]

/-- Bytes of a slot's current entry not yet requested: its oldest unfinished entry (R181). -/
def State.shownXfer (s : State) (fn : Nat) (p : Prog) : Nat :=
  let ch := s.getF Fld.dmaSelChannel fn
  let slot := s.getF Fld.dmaSelSlot fn
  match (s.qp p.qp).entries.find? fun e => e.prog && e.chan == ch && e.slot == slot && decide (e.phase ≠ .finished) with
  | some e => e.xfer
  | none => 0

/-- The program registers of a loaded slot (Table 7-13). -/
def State.progWord (s : State) (fn : Nat) (r : Reg) (p : Prog) : Word :=
  match r with
  | .dmaPrgPos => wordOf [(Fld.dmaPrgPosI0, p.i0 p.pos), (Fld.dmaPrgPosI1, p.i1 p.pos)]
  | .dmaPrgPos2 => wordOf [(Fld.dmaPrgPos2I2, p.i2 p.pos), (Fld.dmaPrgPos2Ended, p.ended.toNat), (Fld.dmaPrgPos2Qp, p.qp)]
  | .dmaPrgAddrLo => halfOf (p.elemAddr p.pos) false
  | .dmaPrgAddrHi => halfOf (p.elemAddr p.pos) true
  | .dmaPrgXfer => BitVec.ofNat 32 (s.shownXfer fn p % 2 ^ 24)
  | _ => 0

/-! ### Tenants (R303, R324, Table 12-10) -/

/-- The window that GBL_TEN_SEL names. -/
def State.winSel (s : State) : Nat := s.getF Fld.gblTenSelTenant 0 * 16 + s.getF Fld.gblTenSelWindow 0

/-- GBL_TEN_STATE of the selected tenant. -/
def State.tenState (s : State) : Word :=
  let t := s.getF Fld.gblTenSelTenant 0
  wordOf [(Fld.gblTenStateExists, (s.exists_ t).toNat), (Fld.gblTenStateEnabled, (s.enabled t).toNat),
    (Fld.gblTenStateFlrBusy, (s.flrBusy t).toNat), (Fld.gblTenStateSessionOpen, (s.sessionOpen t).toNat),
    (Fld.gblTenStateChannels, (s.dma.chans.filter fun c => c.2.owner == some t).length),
    (Fld.gblTenStateQps, (s.qps.filter fun q => q.2.owner == some t).length)]

/-! ### Ports, the tree, the Crier -/

/-- The link that PRT_PROTO reports, and whether it is active: the pair when it is active, else the H lane when it is, else
the side that last ran a capability step (R58). -/
def State.protoLink (s : State) (p : Nat) : Option (Nat × Bool) :=
  let pairOn := decide (3 ≤ s.pState p ∧ s.pState p ≤ 5)
  let laneOn := s.hState p == 3 || s.hState p == 4
  if pairOn then some (2 * p + 1, true)
  else if laneOn then some (2 * p, true)
  else if (s.link (2 * p)).capLast then some (2 * p, false)
  else if (s.link (2 * p + 1)).capLast then some (2 * p + 1, false)
  else none

/-- PRT_PROTO (R58, Table 2-14). -/
def State.protoWord (s : State) (p : Nat) : Word :=
  match s.protoLink p with
  | none => 0
  | some (l, on) =>
    let k := s.link l
    let ver := if on then k.ver else 0
    BitVec.ofNat 32 (ver % 256 + 256 * capHi k.peer + 65536 * capLo k.peer + 2 ^ 24 * (on && s.fmtE l).toNat +
      2 ^ 25 * k.mismatch.toNat)

/-- PRT_ATTACH (Table 8-17). -/
def State.attachWord (s : State) (p : Nat) : Word :=
  let root := fun sd => s.placeAt (rootRoute p sd)
  let zero := fun l : Nat => (s.allPlaces.any fun q => routeLink q.route == l && q.atZero).toNat
  wordOf [(Fld.prtAttachHConn, (root .h).connected.toNat), (Fld.prtAttachHEn, (s.sideEnabled p false).toNat),
    (Fld.prtAttachHDisCause, (root .h).cause), (Fld.prtAttachPConn, (root .p).connected.toNat),
    (Fld.prtAttachPEn, (s.sideEnabled p true).toNat), (Fld.prtAttachPDisCause, (root .p).cause),
    (Fld.prtAttachPDoze, (s.pState p == 4).toNat), (Fld.prtAttachPQuick, (s.link (2 * p + 1)).quick.toNat),
    (Fld.prtAttachHAddr0, zero (2 * p)), (Fld.prtAttachPAddr0, zero (2 * p + 1))]

/-- GBL_TREE_STATUS (Table 8-19): DEVICES counts the devices that hold an assigned address. -/
def State.treeWord (s : State) : Word :=
  let busy := ((List.range 4).map fun q =>
    if s.allPlaces.any fun p => p.bringing && quadOf (routePort p.route) == q then 2 ^ q else 0).sum
  wordOf [(Fld.gblTreeStatusDevices, (s.allPlaces.filter Place.addressed).length), (Fld.gblTreeStatusEnumBusy, busy),
    (Fld.gblTreeStatusWaiting, (s.allPlaces.filter Place.isWaiting).length)]

/-- CRI_DIAG of the selected source and engine (Table 13-13). -/
def State.diagWord (s : State) : Word :=
  let i := s.getF Fld.criDiagSelSource 0
  let x := s.src i
  let e := s.eng (s.getF Fld.criDiagSelEngine 0)
  wordOf [(Fld.criDiagEngThreshold, e.threshold), (Fld.criDiagEngRunning, e.running), (Fld.criDiagEngDepth, e.stack.length),
    (Fld.criDiagSrcPriority, x.prio), (Fld.criDiagSrcTarget, x.target), (Fld.criDiagSrcEnabled, x.enabled.toNat),
    (Fld.criDiagSrcPending, x.pending.toNat), (Fld.criDiagSrcActive, x.active.toNat),
    (Fld.criDiagSrcLevel, (isLevel i).toNat), (Fld.criDiagEngSpurious, e.spurious)]

/-! ### The value of a register -/

/-- What a register reads as: its word, or what it shows of other state. Instances are tenants, lanes, or queue pairs for
doorbells. -/
def State.view (s : State) (r : Reg) (i : Nat) : Word :=
  match r with
  | .gblBusTimeLo => halfOf s.now false
  | .gblBusTimeHi => halfOf s.now true
  | .gblFrameNum => s.time.frame
  | .tenCmdStatus => withFields (s.reg r i) [(Fld.tenCmdStatusRingIdle, (s.ringIdle i).toNat)]
  | .tenCmdDb => (s.cmd i).cons ++ (s.cmd i).prod
  | .tenRplDb => (s.cmd i).headEpoch ++ (s.cmd i).headIdx
  | .tenQpStatus => match s.shownQp i with | some v => v.2.statusWord | none => 0
  | .tenQpCount => match s.shownQp i with | some v => v.2.countWord | none => 0
  | .criCause => s.causeWord i
  | .criQpPend => s.qpPend i
  | .criQpCause => match s.shownQp i with | some v => BitVec.ofNat 32 (v.2.causes % 16) | none => 0
  | .criQpMod => match s.shownQp i with
    | some v => wordOf [(Fld.criQpModCount, v.2.modCount), (Fld.criQpModUsec, v.2.modUsec)]
    | none => 0
  | .tenPwrVote => withFields (s.reg r i) [(Fld.tenPwrVoteAllowed, s.allowedMask i)]
  | .tenWinAttr => s.reg .gblWinAttr (i * 16 + s.getF Fld.tenWinSelWindow i)
  | .tenWinBaseLo => s.reg .gblWinBaseLo (i * 16 + s.getF Fld.tenWinSelWindow i)
  | .tenWinBaseHi => s.reg .gblWinBaseHi (i * 16 + s.getF Fld.tenWinSelWindow i)
  | .tenWinLimitLo => s.reg .gblWinLimitLo (i * 16 + s.getF Fld.tenWinSelWindow i)
  | .tenWinLimitHi => s.reg .gblWinLimitHi (i * 16 + s.getF Fld.tenWinSelWindow i)
  | .dmaChCtrl => match s.shownChan i with | some c => BitVec.ofNat 32 c.pause.toNat | none => 0
  | .dmaChStatus => match s.shownChan i with | some c => c.statusWord | none => 0
  | .dmaChErrLo => match s.shownChan i with | some c => halfOf c.errAddr false | none => 0
  | .dmaChErrHi => match s.shownChan i with | some c => halfOf c.errAddr true | none => 0
  | .dmaPrgLoadLo | .dmaPrgLoadHi => if (s.shownChan i).isSome then s.reg r i else 0
  | .dmaPrgPos | .dmaPrgPos2 | .dmaPrgAddrLo | .dmaPrgAddrHi | .dmaPrgXfer =>
    match s.shownProg i with | some p => s.progWord i r p | none => 0
  | .secCertData => BitVec.ofNat 32 (fieldAt s.sec.cert (4 * s.getF Fld.secCertSelWord i) 4)
  | .secKeyStatus => withFields (s.reg r i) [(Fld.secKeyStatusAllowed, (s.cfg.shadow.seals i).toNat)]
  | .gblCfgState => withFields (s.reg r i) [(Fld.gblCfgStateLeft, s.secondsLeft)]
  | .gblTreeStatus => s.treeWord
  | .dmaCfg => withFields (s.reg r i) [(Fld.dmaCfgPairPolicy, s.pairPolicy.toNat)]
  | .gblTenState => s.tenState
  | .gblWinBaseLo | .gblWinBaseHi | .gblWinLimitLo | .gblWinLimitHi | .gblWinAttr => s.reg r s.winSel
  | .gblGpioIn => s.gpioLevel.setWidth 32
  | .pwrState => withFields (s.reg r i) [(Fld.pwrStateBlockers, s.blockers)]
  | .pwrVoters => withFields (s.reg r i)
      [(Fld.pwrVotersPorts, ((List.range 16).map fun p => if s.votingPort p then 2 ^ p else 0).sum)]
  | .pwrRtcLo => halfOf s.rtc false
  | .pwrRtcHi => halfOf s.rtc true
  | .criDiag => s.diagWord
  | .prtProto => s.protoWord i
  | .prtAttach => s.attachWord i
  | .prtTestBitsLo => halfOf (s.testBits i) false
  | .prtTestBitsHi => halfOf (s.testBits i) true
  | .prtTestErrs => s.testErrs i
  | .twnStatus => withFields (s.reg r i) [(Fld.twnStatusLanes, s.twinLanes)]
  | .qpSqDb => (s.qp i).sqCons ++ (s.qp i).sqProd
  | .qpCqDb => (s.qp i).headEpoch ++ (s.qp i).headIdx
  | _ => s.reg r i

/-! ### The layout (R449 to R456) -/

/-- What an aligned offset of a function's BAR0 names. -/
inductive Spot where
  | none
  | reg (r : Reg) (i : Nat)
  /-- A register of a row of the tenant summary (R455). -/
  | sum (r : Reg) (t : Nat)
  /-- A doubleword of a vector's entry in the MSI-X table (R337). -/
  | vec (v k : Nat)
  | pba (hi : Bool)
  deriving DecidableEq, Repr

/-- A spot that is a register, if there is one. -/
def Spot.ofReg (r : Option Reg) (i : Nat) : Spot := match r with | some r => .reg r i | Option.none => .none

/-- The layout of the blocks that only the PF has (Tables 19-1, 19-4 to 19-8). -/
def pfSpot (off : Nat) : Spot :=
  if off < 0x11000 then .ofReg (globalReg (off - 0x10000)) 0
  else if off < 0x17000 then .ofReg (blockReg off) 0
  else if 0x18000 ≤ off ∧ off < 0x1C000 then
    match summaryReg ((off - 0x18000) % 64) with
    | some r => .sum r ((off - 0x18000) / 64)
    | Option.none => .none
  else if 0x20000 ≤ off ∧ off < 0x30000 then .ofReg (portReg (off % 0x1000)) ((off - 0x20000) / 0x1000)
  else if 0x30000 ≤ off ∧ off < 0x30100 then .ofReg (twinReg (off - 0x30000)) 0
  else if 0x30100 ≤ off ∧ off < 0x30500 then .ofReg (twinLaneReg (off % 0x100)) (15 + (off - 0x30000) / 0x100)
  else .none

/-- What an aligned 32-bit offset of a function's BAR0 names (Tables 19-1 to 19-3). -/
def spotAt (fn off : Nat) : Spot :=
  if off < 0x1000 then
    match pageReg off with
    | some r => .reg r (if r.perFn then fn else 0)
    | Option.none => .none
  else if off < (if fn = 0 then 0x1400 else 0x1080) then .vec ((off - 0x1000) / 16) ((off - 0x1000) / 4 % 4)
  else if off = 0x1800 ∨ off = 0x1804 then .pba (off = 0x1804)
  else if 0x8000 ≤ off ∧ off < 0x10000 then .reg (if off % 8 = 0 then .qpSqDb else .qpCqDb) ((off - 0x8000) / 8)
  else if fn = 0 ∧ 0x10000 ≤ off then pfSpot off
  else .none

/-- A vector of a function. -/
def State.vec (s : State) (fn v : Nat) : Vec := Tab.getD s.pcie.vecs (64 * fn + v) ⟨0, 0, true, false⟩

/-- Pending bits of a function's vectors, 32 from one of them on. -/
def State.pbaWord (s : State) (fn : Nat) (hi : Bool) : Word :=
  let base := if hi then 32 else 0
  BitVec.ofNat 32 (((List.range 32).map fun k =>
    if (fn = 0 ∨ base + k < 8) ∧ (s.vec fn (base + k)).pend then 2 ^ k else 0).sum)

/-- The bits of a register that an instance has: a VF's and a twin lane's lack some (R335, R401). -/
def Reg.seen (r : Reg) (fn i : Nat) (w : Word) : Word :=
  let w1 := if fn = 0 then w else w &&& ~~~r.vfReserved
  if r.perLane ∧ 16 ≤ i then w1 &&& ~~~r.twinReserved else w1

/-- The word that a spot shows to a function, without any effect. -/
def State.peek (s : State) (fn : Nat) (x : Spot) : Word :=
  match x with
  | .none => 0
  | .reg r i => if (r = .qpSqDb ∨ r = .qpCqDb) ∧ !s.ownsQp fn i then 0 else r.seen fn i (s.view r i)
  | .sum r t => if s.exists_ t then r.seen t t (s.view r t) else 0
  | .vec v k =>
    let e := s.vec fn v
    match k with
    | 0 => halfOf e.addr false
    | 1 => halfOf e.addr true
    | 2 => e.data
    | _ => BitVec.ofNat 32 e.mask.toNat
  | .pba hi => s.pbaWord fn hi

end Sys2Proof.Machine
end

