-- ==== Sys2Proof/Machine/Access.lean ====
section
/-!
DEFINITION. Register accesses: reads and writes of any width, what a write of each register does, the doorbells, the command
ring's control register and the MSI-X table (00 R5 to R8, 06 R146, R147, 10 R254, R255, R265, 12 R310, 13 R337, 19 R451, R455 to
R458).
-/
namespace Sys2Proof.Machine

/-! ### Reads (R5, R6, R8, R456) -/

/-- What a 32-bit read of a half of a pair returns, and what becomes of the holding copy: `hi` is the high half as it stands
(R8). -/
def State.holdRead (s : State) (fn : Nat) (r : Reg) (i : Nat) (w hi : Word) : Word × State :=
  match r.hiOf, r.loOf with
  | some _, _ => (w, { s with holds := Tab.set s.holds (holdKey fn r i) hi })
  | none, some lo =>
    match Tab.find s.holds (holdKey fn lo i) with
    | some c => (c, { s with holds := Tab.del s.holds (holdKey fn lo i) })
    | none => (w, s)
  | none, none => (w, s)

/-- A read clears the RC fields of a register; what is added in the clock of the read is there for the next one (R6). -/
def State.clearOnRead (s : State) (fn : Nat) (r : Reg) (i : Nat) (add : Word) : State :=
  let rc := r.maskOf fun f => f.acc == .rc
  if r = .tenQpCount then
    match s.shownQp fn with
    | some v => s.modQp v.1 fun q => { q with
        missed := getBits add 0 16, late := getBits add 16 8, drops := getBits add 24 8 }
    | none => s
  else if rc = 0 then s
  else s.setReg r i ((s.reg r i &&& ~~~rc) ||| (add &&& rc))

/-- What events of the clock of a read add to the RC fields of a register that the read does not clear (R5, R6). -/
def State.countRc (s : State) (fn : Nat) (r : Reg) (i : Nat) (add : Word) : State :=
  if r = .tenQpCount then
    match s.shownQp fn with
    | some v => s.modQp v.1 fun q => { q with
        missed := satAdd 16 q.missed (getBits add 0 16), late := satAdd 8 q.late (getBits add 16 8),
        drops := satAdd 8 q.drops (getBits add 24 8) }
    | none => s
  else r.fields.foldl (fun (s : State) (f : Field) => if f.acc = .rc ∧ getBits add f.lo f.len ≠ 0 then
    s.addF ⟨r, f.lo, f.len⟩ i (getBits add f.lo f.len) else s) s

/-- The same for the register at an offset, where an access reaches it. -/
def State.countAt (s : State) (fn off : Nat) (add : Word) : State :=
  if s.gate fn off false = .serve then
    match spotAt fn off with
    | .reg r i => s.countRc fn r i add
    | .sum r t => s.countRc t r t add
    | _ => s
  else s

/-- An aligned 32-bit read that reaches the layout. A row of the tenant summary clears nothing (R455). -/
def State.readWord (s : State) (fn off : Nat) (add : Word) : Word × State :=
  let x := spotAt fn off
  let w := s.peek fn x
  match x with
  | .reg r i =>
    let h := s.holdRead fn r i w (s.peek fn (.reg (r.hiOf.getD r) i))
    (h.1, h.2.clearOnRead fn r i add)
  | .sum r t =>
    let h := s.holdRead (256 + t) r t w (s.peek fn (.sum (r.hiOf.getD r) t))
    (h.1, h.2.countRc t r t add)
  | _ => (w, s)

/-- An aligned 32-bit read, by Table 19-9; none is Unsupported Request. -/
def State.read32 (s : State) (fn off : Nat) (add : Word) : Option Word × State :=
  match s.gate fn off false with
  | .serve => let x := s.readWord fn off add; (some x.1, x.2)
  | .unsupported => (none, s)
  | .nothing => (some 0, s)
  | .dark => (some 0, s.busFault fn off 2)

/-- A read's answer. -/
def State.answerRead (s : State) (fn off : Nat) (w : Option DWord) : State :=
  match w with
  | some v => s.emit (.readData fn off v)
  | none => s.emit (.unsupported fn off)

/-- The conditions of Table 19-9 that do not depend on the offset. -/
def State.fnGate (s : State) (fn : Nat) : Gate :=
  if !s.exists_ fn || Tab.getD s.pcie.d3 fn false then .unsupported
  else if s.inHold then .dark
  else if s.stage < 3 then (if s.rst.keepLink then .nothing else .unsupported)
  else if s.flrBusy fn then .nothing
  else .serve

/-- A byte as a narrow or misaligned read returns it, without side effects (R5). -/
def State.peekByte (s : State) (fn a : Nat) : Nat :=
  if s.gate fn (a / 4 * 4) false = .serve then (s.peek fn (spotAt fn (a / 4 * 4))).toNat / 2 ^ (8 * (a % 4)) % 256 else 0

/-- The low half of a pair lies at an offset (R456). -/
def pairAt (fn off : Nat) : Option (Spot × Spot) :=
  match spotAt fn off with
  | .reg r i => r.hiOf.map fun h => (.reg r i, .reg h i)
  | .sum r t => r.hiOf.map fun h => (.sum r t, .sum h t)
  | _ => none

/-- What a narrow or misaligned read returns (R5). -/
def State.narrowRead (s : State) (fn off size : Nat) : State :=
  if s.fnGate fn = .unsupported then s.emit (.unsupported fn off)
  else s.emit (.readData fn off (BitVec.ofNat 64 ((List.range size).map fun k => s.peekByte fn (off + k) * 256 ^ k).sum))

/-- A read of a function's BAR0 (R5, R456). What is added in the clock of the read (R6) is of the register that holds the byte
at the offset, and in the high half of `add` of the register after it. -/
def State.readAcc (s : State) (fn off size : Nat) (add : DWord) : State :=
  if size = 4 ∧ off % 4 = 0 then
    let x := s.read32 fn off (halfOf add false)
    x.2.answerRead fn off (x.1.map fun w => w.setWidth 64)
  else if size = 8 ∧ off % 8 = 0 then
    match pairAt fn off with
    | some p =>
      match s.gate fn off false with
      | .serve => s.emit (.readData fn off (s.peek fn p.2 ++ s.peek fn p.1))
      | g => s.turnedAway g fn off false
    | none =>
      let x := s.read32 fn off (halfOf add false)
      let y := x.2.read32 fn (off + 4) (halfOf add true)
      y.2.answerRead fn off (match x.1, y.1 with | some a, some b => some (b ++ a) | _, _ => none)
  else
    ((s.narrowRead fn off size).countAt fn (off / 4 * 4) (halfOf add false)).countAt fn (off / 4 * 4 + 4) (halfOf add true)

/-! ### The command path's registers (R254, R255, R265) -/

/-- A write of a ring register or of a command-path doorbell has been discarded (R254, R255). -/
def State.ringFault (s : State) (t : Nat) : State := (s.setF Fld.tenCmdStatusDbFault t 1).raise t 1

/-- TEN_CMD_DB: R146 with the command ring in place of the submission ring; with ENABLE 0 there is no ring (R255). -/
def State.cmdDoorbell (s : State) (t : Nat) (v : Half) : State :=
  let c := s.cmd t
  if s.bit Fld.tenCmdCtrlEnable t && sqDbOk v c.prod c.cons (2 ^ s.getF Fld.tenCmdCtrlCmdSize t) then
    s.modCmd t fun c => { c with prod := v }
  else s.ringFault t

/-- TEN_RPL_DB: R147 with the reply ring in place of the completion ring (R255). -/
def State.rplDoorbell (s : State) (t : Nat) (v : Half) : State :=
  let c := s.cmd t
  if s.bit Fld.tenCmdCtrlEnable t && cqDbOk v c.headIdx c.rplCons then s.modCmd t fun c => { c with rplCons := v }
  else s.ringFault t

/-- RING_RESET: what is posted and not yet taken is discarded; the indices become 0 once nothing is being carried out
(R265). -/
def State.resetRing (s : State) (t : Nat) : State :=
  ((s.modCmd t fun c => { c with prod := c.cons }).setF Fld.tenCmdCtrlRingReset t 1).endRingReset t

/-- Setting ENABLE: indices 0, the reply epoch up by one, the head record written (R254). -/
def State.pathEnable (s : State) (t : Nat) : State :=
  (s.modCmd t fun c => { c with prod := 0, cons := 0, rplProd := 0, rplCons := 0, epoch := c.epoch + 1 }).publishReply t

/-- A write of TEN_CMD_CTRL (R254, R255, R265): sizes change only while ENABLE stood at 0 before. -/
def State.cmdCtrl (s : State) (t : Nat) (v hw : Word) : State :=
  let old := s.reg .tenCmdCtrl t
  let m := s.mergeReg t 0x118 .tenCmdCtrl t v hw
  let was := old.getLsbD 0
  let resize := was && getBits m.1 8 8 != getBits old 8 8
  let w := if resize then putBits m.1 8 8 (getBits old 8 8) else m.1
  let s1 := m.2.setReg .tenCmdCtrl t w
  let s2 := if resize then s1.ringFault t else s1
  let s3 := if v.getLsbD 1 then s2.resetRing t else s2
  if w.getLsbD 0 && !was then s3.pathEnable t
  else if was && !w.getLsbD 0 then s3.setF Fld.tenCmdStatusFaulted t 0
  else s3

/-! ### Writes (R5 to R8, R451, R456) -/

/-- A register that keeps what is written by its access codes. -/
def State.store (s : State) (fn off : Nat) (r : Reg) (i : Nat) (v hw : Word) : State :=
  let m := s.mergeReg fn off r i v hw
  if m.1 = s.reg r i then m.2 else m.2.setReg r i m.1

/-- A W1C bit of state outside the registers is cleared, unless hardware sets it in the same clock (R6). -/
def clears (v hw : Word) (b : Nat) : Bool := v.getLsbD b && !hw.getLsbD b

/-- A write of CRI_QP_MOD for the selected queue pair (R338, R340). -/
def State.modWrite (s : State) (fn off : Nat) (v : Word) : State :=
  match s.shownQp fn with
  | none => s
  | some q =>
    let bad := Reg.reservedMask .criQpMod false false v
    if bad != 0 then s.busFault fn off 1
    else s.modQp q.1 fun q => { q with modCount := getBits v 0 8, modUsec := getBits v 8 10 }

/-- What a 32-bit write of a register does. -/
def State.writeReg (s : State) (fn off : Nat) (r : Reg) (i : Nat) (v hw : Word) : State :=
  match r with
  | .qpSqDb => if s.ownsQp fn i then s.sqDoorbell i (v.setWidth 16) else s.foreign fn
  | .qpCqDb => if s.ownsQp fn i then (s.cqDoorbell i (v.setWidth 16)).deliver i else s.foreign fn
  | .tenCmdBaseLo | .tenCmdBaseHi | .tenRplBaseLo | .tenRplBaseHi | .tenRplHeadLo | .tenRplHeadHi =>
    if s.bit Fld.tenCmdCtrlEnable fn then s.ringFault fn else s.store fn off r i v hw
  | .tenCmdCtrl => s.cmdCtrl fn v hw
  | .tenCmdDb => s.cmdDoorbell fn (v.setWidth 16)
  | .tenRplDb => s.rplDoorbell fn (v.setWidth 16)
  | .tenQpStatus => match s.shownQp fn with
    | some q => if clears v hw 8 then s.modQp q.1 fun q => { q with dbFault := false } else s
    | none => s
  | .criCauseEn => s.causeEnWrite fn v hw
  | .criQpCause => match s.shownQp fn with
    | some q => s.modQp q.1 fun q => { q with causes := (BitVec.ofNat 32 q.causes &&& ~~~(v &&& ~~~hw)).toNat }
    | none => s
  | .criQpMod => s.modWrite fn off v
  | .dmaChCtrl => s.dmaCtrl fn v
  | .dmaChStatus =>
    if (s.shownChan fn).isSome && clears v hw 12 then
      s.modChan (s.getF Fld.dmaSelChannel fn) fun c => { c with loadRefused := false }
    else s
  | .dmaPrgLoadLo | .dmaPrgLoadHi => if (s.shownChan fn).isSome then s.store fn off r i v hw else s
  | .gblWinBaseLo | .gblWinBaseHi | .gblWinLimitLo | .gblWinLimitHi | .gblWinAttr => s.store fn off r s.winSel v hw
  | .gblGpioCfg | .gblGpioOut => (s.store fn off r i v hw).gpioEvents s
  | .mrcCtrl | .mrcLenMin | .mrcLenMax | .mrcLenFixed | .mrcAngleOfs | .mrcEncCfg | .mrcBusSrc => s.mrcRegWrite off r v
  | .prtMarginCtrl => s.marginWrite i v hw
  | .prtTestCtrl => s.testWrite i v (s.peerKnown i) hw
  | _ => s.store fn off r i v hw

/-- A write of a doubleword of a vector's entry; a vector that is unmasked sends what waited (R337). -/
def State.vecWrite (s : State) (fn v k : Nat) (w : Word) : State :=
  let e := s.vec fn v
  let e1 : Vec := match k with
    | 0 => { e with addr := halfOf e.addr true ++ w }
    | 1 => { e with addr := w ++ halfOf e.addr false }
    | 2 => { e with data := w }
    | _ => { e with mask := w.getLsbD 0 }
  ({ s with pcie := { s.pcie with vecs := Tab.set s.pcie.vecs (64 * fn + v) e1 } } : State).vecRelease fn v

/-- A write to either half of a pair empties the copy that the writing function holds of it (R8; log entry 118: not the copies of
other functions, and not at a write that is discarded before it reaches the register). -/
def State.dropHold (s : State) (fn : Nat) (r : Reg) (i : Nat) : State :=
  match r.hiOf, r.loOf with
  | some _, _ => { s with holds := Tab.del s.holds (holdKey fn r i) }
  | none, some lo => { s with holds := Tab.del s.holds (holdKey fn lo i) }
  | none, none => s

/-- A 32-bit write that reaches the layout. -/
def State.writeSpot (s : State) (fn off : Nat) (v hw : Word) : State :=
  match spotAt fn off with
  | .reg r i => (s.dropHold fn r i).writeReg fn off r i v hw
  | .sum r t => s.dropHold (256 + t) r t
  | .vec n k => s.vecWrite fn n k v
  | _ => s

/-- An aligned 32-bit write, by Table 19-9. -/
def State.write32 (s : State) (fn off : Nat) (v hw : Word) : State := s.gated fn off fun s => s.writeSpot fn off v hw

/-- A narrow or misaligned write is discarded with ACCESS (R5), unless a condition of Table 19-9 discards it first. A write that
is discarded leaves the holding copies of R8 as they are (log entry 118). -/
def State.narrowWrite (s : State) (fn off : Nat) : State :=
  match s.fnGate fn with
  | .serve => if s.gate fn (off / 4 * 4) true = .dark then (s.busFault fn off 0).busFault fn off 2 else s.busFault fn off 0
  | g => s.turnedAway g fn off true

/-- A write of a function's BAR0 (R5, R456). What hardware sets in the same clock is of the register at the offset. -/
def State.writeAcc (s : State) (fn off size : Nat) (v : DWord) (hw : Word) : State :=
  if size = 4 ∧ off % 4 = 0 then s.write32 fn off (halfOf v false) hw
  else if size = 8 ∧ off % 8 = 0 then
    if (pairAt fn off).isSome then
      s.gated fn off fun s => (s.writeSpot fn off (halfOf v false) hw).writeSpot fn (off + 4) (halfOf v true) 0
    else if s.gate fn off true = .unsupported then s.emit (.unsupported fn off)
    else (s.write32 fn off (halfOf v false) hw).write32 fn (off + 4) (halfOf v true) 0
  else s.narrowWrite fn off

/-! ### The commands -/

/-- An access of 1 to 8 bytes lies inside the function's BAR0 (R5, R449). Anything else is no access of a function, and does
nothing (log entry 1). -/
def barOk (fn off size : Nat) : Bool :=
  decide (1 ≤ size ∧ size ≤ 8) && decide (off + size ≤ (if fn = 0 then 0x1000000 else 0x10000))

/-- REGISTER_WRITE (R5 to R7). A write of a register with a row of its own does what that row does. -/
def execRegisterWrite (fn : Fin 256) (off size : Nat) (v : DWord) (hw : Word) (s : State) : Host.Outcome State Fault Refusal :=
  done (if barOk fn off size then s.writeAcc fn off size v hw else s)

/-- RC_FIELD_READ (R6): a read of any register, with what is added to its RC fields in the same clock. -/
def execRcFieldRead (fn : Fin 256) (off size : Nat) (add : DWord) (s : State) : Host.Outcome State Fault Refusal :=
  done (if barOk fn off size then s.readAcc fn off size add else s)

/-- PAIR_LOW_HALF_READ (R8). -/
def execPairLowHalfRead (fn : Fin 256) (off : Nat) (s : State) : Host.Outcome State Fault Refusal :=
  done (if barOk fn off 4 then s.readAcc fn off 4 0 else s)

/-- PAIR_HIGH_HALF_READ (R8). -/
def execPairHighHalfRead (fn : Fin 256) (off : Nat) (s : State) : Host.Outcome State Fault Refusal :=
  done (if barOk fn off 4 then s.readAcc fn off 4 0 else s)

/-- PAIR_64BIT_ACCESS (R456): a read, or a write of a value. -/
def execPair64bitAccess (fn : Fin 256) (off : Nat) (wr : Option DWord) (s : State) : Host.Outcome State Fault Refusal :=
  done (if barOk fn off 8 then
      match wr with
      | some v => s.writeAcc fn off 8 v 0
      | none => s.readAcc fn off 8 0
    else s)

/-- QP_SQ_DB_WRITE (R146, R324, R451). -/
def execQpSqDbWrite (fn : Fin 256) (q : Fin 4096) (v : Word) (s : State) : Host.Outcome State Fault Refusal :=
  done (s.write32 fn (0x8000 + 8 * q) v 0)

/-- QP_CQ_DB_WRITE (R147, R324, R451). -/
def execQpCqDbWrite (fn : Fin 256) (q : Fin 4096) (v : Word) (s : State) : Host.Outcome State Fault Refusal :=
  done (s.write32 fn (0x8004 + 8 * q) v 0)

/-- TEN_CMD_DB_WRITE (R255). -/
def execTenCmdDbWrite (t : Fin 256) (v : Word) (s : State) : Host.Outcome State Fault Refusal := done (s.write32 t 0x120 v 0)

/-- TEN_RPL_DB_WRITE (R255). -/
def execTenRplDbWrite (t : Fin 256) (v : Word) (s : State) : Host.Outcome State Fault Refusal := done (s.write32 t 0x124 v 0)

/-- COMMAND_RING_ENABLE (R254): a write of TEN_CMD_CTRL with ENABLE 1. -/
def execCommandRingEnable (t : Fin 256) (v : Word) (s : State) : Host.Outcome State Fault Refusal :=
  done (s.write32 t 0x118 (v ||| 1) 0)

/-- COMMAND_RING_DISABLE (R255): a write of TEN_CMD_CTRL with ENABLE 0. -/
def execCommandRingDisable (t : Fin 256) (v : Word) (s : State) : Host.Outcome State Fault Refusal :=
  done (s.write32 t 0x118 (v &&& ~~~1) 0)

/-- RING_RESET (R265): a write of TEN_CMD_CTRL with RING_RESET 1. -/
def execRingReset (t : Fin 256) (v : Word) (s : State) : Host.Outcome State Fault Refusal :=
  done (s.write32 t 0x118 (v ||| 2) 0)

/-- PAUSE (R184): a write of DMA_CH_CTRL with PAUSE 1. -/
def execPause (t : Fin 256) (v : Word) (s : State) : Host.Outcome State Fault Refusal := done (s.write32 t 0x404 (v ||| 1) 0)

/-- PAUSE_CLEAR (R182, R184): a write of DMA_CH_CTRL with PAUSE 0. -/
def execPauseClear (t : Fin 256) (v : Word) (s : State) : Host.Outcome State Fault Refusal :=
  done (s.write32 t 0x404 (v &&& ~~~1) 0)

/-- CLEAR (R180): a write of DMA_CH_CTRL with CLEAR 1. -/
def execClear (t : Fin 256) (v : Word) (s : State) : Host.Outcome State Fault Refusal := done (s.write32 t 0x404 (v ||| 2) 0)

/-- LOAD (R169): a write of DMA_CH_CTRL with LOAD 1. -/
def execLoad (t : Fin 256) (v : Word) (s : State) : Host.Outcome State Fault Refusal := done (s.write32 t 0x404 (v ||| 4) 0)

/-- UNLOAD (R169): a write of DMA_CH_CTRL with UNLOAD 1. -/
def execUnload (t : Fin 256) (v : Word) (s : State) : Host.Outcome State Fault Refusal := done (s.write32 t 0x404 (v ||| 8) 0)

/-- WINDOW_WRITE (R309, R310): a write by T0 of a GBL_WIN_ register. -/
def execWindowWrite (off : Nat) (v : Word) (s : State) : Host.Outcome State Fault Refusal :=
  done (if barOk 0 off 4 then s.writeAcc 0 off 4 (v.setWidth 64) 0 else s)

end Sys2Proof.Machine
end

