-- ==== Sys2Proof/Machine/Dispatch.lean ====
section
/-!
DEFINITION. The dispatcher: one arm for each command, which calls its meaning.
-/
namespace Sys2Proof.Machine

/-- The effect of a command on everything but the queue. -/
def exec (i : Instr) (s : State) : Host.Outcome State Fault Refusal :=
  match i with
  | .registerWrite fn off size v hw => Sys2Proof.Machine.execRegisterWrite fn off size v hw s
  | .rcFieldRead fn off size add => Sys2Proof.Machine.execRcFieldRead fn off size add s
  | .pairLowHalfRead fn off => Sys2Proof.Machine.execPairLowHalfRead fn off s
  | .pairHighHalfRead fn off => Sys2Proof.Machine.execPairHighHalfRead fn off s
  | .pair64bitAccess fn off wr => Sys2Proof.Machine.execPair64bitAccess fn off wr s
  | .qpSqDbWrite fn q v => Sys2Proof.Machine.execQpSqDbWrite fn q v s
  | .qpCqDbWrite fn q v => Sys2Proof.Machine.execQpCqDbWrite fn q v s
  | .tenCmdDbWrite t v => Sys2Proof.Machine.execTenCmdDbWrite t v s
  | .tenRplDbWrite t v => Sys2Proof.Machine.execTenRplDbWrite t v s
  | .commandRingEnable t v => Sys2Proof.Machine.execCommandRingEnable t v s
  | .commandRingDisable t v => Sys2Proof.Machine.execCommandRingDisable t v s
  | .ringReset t v => Sys2Proof.Machine.execRingReset t v s
  | .pause t v => Sys2Proof.Machine.execPause t v s
  | .pauseClear t v => Sys2Proof.Machine.execPauseClear t v s
  | .dmaPauseDrained ch => Sys2Proof.Machine.execDmaPauseDrained ch s
  | .clear t v => Sys2Proof.Machine.execClear t v s
  | .load t v => Sys2Proof.Machine.execLoad t v s
  | .unload t v => Sys2Proof.Machine.execUnload t v s
  | .programStructureFetched ch slot data => Sys2Proof.Machine.execProgramStructureFetched ch slot data s
  | .marginScanStart lane v => Sys2Proof.Machine.execMarginScanStart lane v s
  | .marginScanDwellEnd lane clean => Sys2Proof.Machine.execMarginScanDwellEnd lane clean s
  | .marginRpt lane rx => Sys2Proof.Machine.execMarginRpt lane rx s
  | .marginFarTimeout lane => Sys2Proof.Machine.execMarginFarTimeout lane s
  | .testModeWrite lane v peerTrains => Sys2Proof.Machine.execTestModeWrite lane v peerTrains s
  | .testModeExitIdleEnd lane => Sys2Proof.Machine.execTestModeExitIdleEnd lane s
  | .inject lane => Sys2Proof.Machine.execInject lane s
  | .checkerEnable lane => Sys2Proof.Machine.execCheckerEnable lane s
  | .windowWrite off v => Sys2Proof.Machine.execWindowWrite off v s
  | .millraceParameterWrite off v => Sys2Proof.Machine.execMillraceParameterWrite off v s
  | .causeEnableWrite t v => Sys2Proof.Machine.execCauseEnableWrite t v s
  | .msixVectorUnmask t vec => Sys2Proof.Machine.execMsixVectorUnmask t vec s
  | .vfEnableWrite en n => Sys2Proof.Machine.execVfEnableWrite en n s
  | .initiateFlr t => Sys2Proof.Machine.execInitiateFlr t s
  | .flrTeardownDone t => Sys2Proof.Machine.execFlrTeardownDone t s
  | .dStateWrite t d3 => Sys2Proof.Machine.execDStateWrite t d3 s
  | .sessionOpen t k => Sys2Proof.Machine.execSessionOpen t k s
  | .sessionClose t k => Sys2Proof.Machine.execSessionClose t k s
  | .getInterface t k => Sys2Proof.Machine.execGetInterface t k s
  | .cfgStage t k => Sys2Proof.Machine.execCfgStage t k s
  | .cfgValidate t k => Sys2Proof.Machine.execCfgValidate t k s
  | .cfgCommit t k => Sys2Proof.Machine.execCfgCommit t k s
  | .cfgConfirm t k => Sys2Proof.Machine.execCfgConfirm t k s
  | .cfgRollback t k => Sys2Proof.Machine.execCfgRollback t k s
  | .cfgStatus t k => Sys2Proof.Machine.execCfgStatus t k s
  | .fwStage t k => Sys2Proof.Machine.execFwStage t k s
  | .fwActivate t k => Sys2Proof.Machine.execFwActivate t k s
  | .fwConfirm t k => Sys2Proof.Machine.execFwConfirm t k s
  | .fwRollback t k => Sys2Proof.Machine.execFwRollback t k s
  | .qpAssign t k => Sys2Proof.Machine.execQpAssign t k s
  | .qpUnassign t k => Sys2Proof.Machine.execQpUnassign t k s
  | .qpConfigure t k => Sys2Proof.Machine.execQpConfigure t k s
  | .qpEnable t k => Sys2Proof.Machine.execQpEnable t k s
  | .qpDisable t k => Sys2Proof.Machine.execQpDisable t k s
  | .qpQuery t k => Sys2Proof.Machine.execQpQuery t k s
  | .epOpen t k => Sys2Proof.Machine.execEpOpen t k s
  | .epClose t k => Sys2Proof.Machine.execEpClose t k s
  | .epClearHalt t k => Sys2Proof.Machine.execEpClearHalt t k s
  | .epQuery t k => Sys2Proof.Machine.execEpQuery t k s
  | .devAssign t k => Sys2Proof.Machine.execDevAssign t k s
  | .devRelease t k => Sys2Proof.Machine.execDevRelease t k s
  | .treeAdopt t k => Sys2Proof.Machine.execTreeAdopt t k s
  | .portEnable t k => Sys2Proof.Machine.execPortEnable t k s
  | .portDisable t k => Sys2Proof.Machine.execPortDisable t k s
  | .portReset t k => Sys2Proof.Machine.execPortReset t k s
  | .portResetAck t k => Sys2Proof.Machine.execPortResetAck t k s
  | .haltBegin t k => Sys2Proof.Machine.execHaltBegin t k s
  | .haltEnd t k => Sys2Proof.Machine.execHaltEnd t k s
  | .treeQuery t k => Sys2Proof.Machine.execTreeQuery t k s
  | .treeList t k => Sys2Proof.Machine.execTreeList t k s
  | .conOpen t k => Sys2Proof.Machine.execConOpen t k s
  | .conClose t k => Sys2Proof.Machine.execConClose t k s
  | .conReplace t k => Sys2Proof.Machine.execConReplace t k s
  | .conQuery t k => Sys2Proof.Machine.execConQuery t k s
  | .weirQuota t k => Sys2Proof.Machine.execWeirQuota t k s
  | .weirMode t k => Sys2Proof.Machine.execWeirMode t k s
  | .strikeWithdraw t k => Sys2Proof.Machine.execStrikeWithdraw t k s
  | .strikeResume t k => Sys2Proof.Machine.execStrikeResume t k s
  | .mrcSet t k => Sys2Proof.Machine.execMrcSet t k s
  | .mrcMode t k => Sys2Proof.Machine.execMrcMode t k s
  | .mrcQuery t k => Sys2Proof.Machine.execMrcQuery t k s
  | .pwrVote t k => Sys2Proof.Machine.execPwrVote t k s
  | .pwrState t k => Sys2Proof.Machine.execPwrState t k s
  | .alarmSet t k => Sys2Proof.Machine.execAlarmSet t k s
  | .alarmClear t k => Sys2Proof.Machine.execAlarmClear t k s
  | .pwrQuery t k => Sys2Proof.Machine.execPwrQuery t k s
  | .ledRead t k => Sys2Proof.Machine.execLedRead t k s
  | .ledMark t k => Sys2Proof.Machine.execLedMark t k s
  | .shareSet t k => Sys2Proof.Machine.execShareSet t k s
  | .channelAssign t k => Sys2Proof.Machine.execChannelAssign t k s
  | .poolMode t k => Sys2Proof.Machine.execPoolMode t k s
  | .poolCreate t k => Sys2Proof.Machine.execPoolCreate t k s
  | .poolDestroy t k => Sys2Proof.Machine.execPoolDestroy t k s
  | .secAttest t k => Sys2Proof.Machine.execSecAttest t k s
  | .secKeyLoad t k => Sys2Proof.Machine.execSecKeyLoad t k s
  | .secKeyErase t k => Sys2Proof.Machine.execSecKeyErase t k s
  | .secLifecycle t k => Sys2Proof.Machine.execSecLifecycle t k s
  | .secDecommission t k => Sys2Proof.Machine.execSecDecommission t k s
  | .twinQuery t k => Sys2Proof.Machine.execTwinQuery t k s
  | .twinSwitchover t k => Sys2Proof.Machine.execTwinSwitchover t k s
  | .twinResync t k => Sys2Proof.Machine.execTwinResync t k s
  | .echo t k => Sys2Proof.Machine.execEcho t k s
  | .almanacDump t k => Sys2Proof.Machine.execAlmanacDump t k s
  | .chipEventsRead t k => Sys2Proof.Machine.execChipEventsRead t k s
  | .softReset t k => Sys2Proof.Machine.execSoftReset t k s
  | .unlistedOpcode t op k => Sys2Proof.Machine.execUnlistedOpcode t op k s
  | .eventRecordWrite t => Sys2Proof.Machine.execEventRecordWrite t s
  | .frameStart rx => Sys2Proof.Machine.execFrameStart rx s
  | .beatStart k => Sys2Proof.Machine.execBeatStart k s
  | .skpSetSend lane => Sys2Proof.Machine.execSkpSetSend lane s
  | .lateSofSend p => Sys2Proof.Machine.execLateSofSend p s
  | .slotStart k rxBusy => Sys2Proof.Machine.execSlotStart k rxBusy s
  | .retryWorkStart addr ep dirIn => Sys2Proof.Machine.execRetryWorkStart addr ep dirIn s
  | .withdrawalSend q idx => Sys2Proof.Machine.execWithdrawalSend q idx s
  | .keeperControlStart p sd => Sys2Proof.Machine.execKeeperControlStart p sd s
  | .controlTransactionStart p sd => Sys2Proof.Machine.execControlTransactionStart p sd s
  | .weirBulkStart p sd => Sys2Proof.Machine.execWeirBulkStart p sd s
  | .inTransactionResponse p sd rx => Sys2Proof.Machine.execInTransactionResponse p sd rx s
  | .outTransactionResponse p sd rx => Sys2Proof.Machine.execOutTransactionResponse p sd rx s
  | .splitResponse p sd rx => Sys2Proof.Machine.execSplitResponse p sd rx s
  | .turnaroundTimeout p sd tag => Sys2Proof.Machine.execTurnaroundTimeout p sd tag s
  | .nakBackoffExpiry addr ep dirIn => Sys2Proof.Machine.execNakBackoffExpiry addr ep dirIn s
  | .disarmResponse p sd rx => Sys2Proof.Machine.execDisarmResponse p sd rx s
  | .retractResponse p sd rx => Sys2Proof.Machine.execRetractResponse p sd rx s
  | .strikeStatusReply q idx reply => Sys2Proof.Machine.execStrikeStatusReply q idx reply s
  | .strikeCommitPoint q idx => Sys2Proof.Machine.execStrikeCommitPoint q idx s
  | .strikeActTickPassed q idx => Sys2Proof.Machine.execStrikeActTickPassed q idx s
  | .haltInAsserted level => Sys2Proof.Machine.execHaltInAsserted level s
  | .haltTokenSend p sd => Sys2Proof.Machine.execHaltTokenSend p sd s
  | .millraceReversal => Sys2Proof.Machine.execMillraceReversal s
  | .sourceLost => Sys2Proof.Machine.execSourceLost s
  | .sourceRecovered => Sys2Proof.Machine.execSourceRecovered s
  | .syncInEdge rising => Sys2Proof.Machine.execSyncInEdge rising s
  | .syncOutPulse => Sys2Proof.Machine.execSyncOutPulse s
  | .pathDelayRemeasure => Sys2Proof.Machine.execPathDelayRemeasure s
  | .hubPoll root hops => Sys2Proof.Machine.execHubPoll root hops s
  | .portStatusReply hub port reply => Sys2Proof.Machine.execPortStatusReply hub port reply s
  | .rootDisconnect p sd => Sys2Proof.Machine.execRootDisconnect p sd s
  | .connectValid route speedF => Sys2Proof.Machine.execConnectValid route speedF s
  | .deviceBringupStart p sd => Sys2Proof.Machine.execDeviceBringupStart p sd s
  | .keeperRequestComplete route reply => Sys2Proof.Machine.execKeeperRequestComplete route reply s
  | .adoptWaitExpiry route => Sys2Proof.Machine.execAdoptWaitExpiry route s
  | .pairOverlongTransmit p => Sys2Proof.Machine.execPairOverlongTransmit p s
  | .disableEscalation route => Sys2Proof.Machine.execDisableEscalation route s
  | .dozeEntry p sd => Sys2Proof.Machine.execDozeEntry p sd s
  | .deviceWakeSignal p sd route => Sys2Proof.Machine.execDeviceWakeSignal p sd route s
  | .resumeSignallingEnd p sd => Sys2Proof.Machine.execResumeSignallingEnd p sd s
  | .receiverDetectPulse lane found => Sys2Proof.Machine.execReceiverDetectPulse lane found s
  | .trainingSetReceived lane ts2 fast loopback n => Sys2Proof.Machine.execTrainingSetReceived lane ts2 fast loopback n s
  | .capSetReceived p rx => Sys2Proof.Machine.execCapSetReceived p rx s
  | .trainingLimitTimeout lane => Sys2Proof.Machine.execTrainingLimitTimeout lane s
  | .pairResetSe0End x => Sys2Proof.Machine.execPairResetSe0End x s
  | .pairPullupTimeout p => Sys2Proof.Machine.execPairPullupTimeout p s
  | .pairCapabilityReply p rx => Sys2Proof.Machine.execPairCapabilityReply p rx s
  | .pairCapabilityTimeout p => Sys2Proof.Machine.execPairCapabilityTimeout p s
  | .drowseSetReceived p => Sys2Proof.Machine.execDrowseSetReceived p s
  | .outboundDrowseEntry p => Sys2Proof.Machine.execOutboundDrowseEntry p s
  | .outboundDrowseExit p => Sys2Proof.Machine.execOutboundDrowseExit p s
  | .wakeReqSend p => Sys2Proof.Machine.execWakeReqSend p s
  | .wakeReqTimeout p tag => Sys2Proof.Machine.execWakeReqTimeout p tag s
  | .linkLoss p => Sys2Proof.Machine.execLinkLoss p s
  | .retrainSuccess p => Sys2Proof.Machine.execRetrainSuccess p s
  | .retrainTimeout p => Sys2Proof.Machine.execRetrainTimeout p s
  | .laneHealthSecond p symErrs elastic => Sys2Proof.Machine.execLaneHealthSecond p symErrs elastic s
  | .laneRecalibration inRange => Sys2Proof.Machine.execLaneRecalibration inRange s
  | .submissionEntryArrival q data => Sys2Proof.Machine.execSubmissionEntryArrival q data s
  | .hostRequestIssue wr ecc => Sys2Proof.Machine.execHostRequestIssue wr ecc s
  | .hostReadCompletion id data => Sys2Proof.Machine.execHostReadCompletion id data s
  | .flushReadCompletion id => Sys2Proof.Machine.execFlushReadCompletion id s
  | .hostAccessFailure id kind => Sys2Proof.Machine.execHostAccessFailure id kind s
  | .transferCompletion q => Sys2Proof.Machine.execTransferCompletion q s
  | .moderationTimerExpiry q => Sys2Proof.Machine.execModerationTimerExpiry q s
  | .patrolScrubStep addr err who => Sys2Proof.Machine.execPatrolScrubStep addr err who s
  | .releaseScrubDone t => Sys2Proof.Machine.execReleaseScrubDone t s
  | .crierDoorbell src => Sys2Proof.Machine.execCrierDoorbell src s
  | .shimWithdrawal src => Sys2Proof.Machine.execShimWithdrawal src s
  | .engineClaimRead e => Sys2Proof.Machine.execEngineClaimRead e s
  | .endOfInterrupt e src => Sys2Proof.Machine.execEndOfInterrupt e src s
  | .engineSleepWake e => Sys2Proof.Machine.execEngineSleepWake e s
  | .levelSignalChange src level => Sys2Proof.Machine.execLevelSignalChange src level s
  | .powerEntryBegin => Sys2Proof.Machine.execPowerEntryBegin s
  | .powerEntryStepDone sense => Sys2Proof.Machine.execPowerEntryStepDone sense s
  | .autoIdleTimer => Sys2Proof.Machine.execAutoIdleTimer s
  | .wakeInAsserted strap => Sys2Proof.Machine.execWakeInAsserted strap s
  | .linkActivityWake p sd => Sys2Proof.Machine.execLinkActivityWake p sd s
  | .pcieWake => Sys2Proof.Machine.execPcieWake s
  | .rtcAlarm rtc => Sys2Proof.Machine.execRtcAlarm rtc s
  | .thermalTrip temp => Sys2Proof.Machine.execThermalTrip temp s
  | .returnStepDone counts => Sys2Proof.Machine.execReturnStepDone counts s
  | .deepsleepRecheck temp => Sys2Proof.Machine.execDeepsleepRecheck temp s
  | .domainPowerGood d => Sys2Proof.Machine.execDomainPowerGood d s
  | .supplyWarn => Sys2Proof.Machine.execSupplyWarn s
  | .braceEnd minMv => Sys2Proof.Machine.execBraceEnd minMv s
  | .coreBrownout => Sys2Proof.Machine.execCoreBrownout s
  | .powerOn strap flash => Sys2Proof.Machine.execPowerOn strap flash s
  | .alwaysOnBrownout strap => Sys2Proof.Machine.execAlwaysOnBrownout strap s
  | .resetNAsserted => Sys2Proof.Machine.execResetNAsserted s
  | .perstAsserted => Sys2Proof.Machine.execPerstAsserted s
  | .pcieHotReset => Sys2Proof.Machine.execPcieHotReset s
  | .heartbeat e => Sys2Proof.Machine.execHeartbeat e s
  | .watchdogReset e => Sys2Proof.Machine.execWatchdogReset e s
  | .softResetBegin => Sys2Proof.Machine.execSoftResetBegin s
  | .resetRelease counts => Sys2Proof.Machine.execResetRelease counts s
  | .startupStageDone retOk ms => Sys2Proof.Machine.execStartupStageDone retOk ms s
  | .probationDue => Sys2Proof.Machine.execProbationDue s
  | .probationDeadline => Sys2Proof.Machine.execProbationDeadline s
  | .fwTrialDeadline => Sys2Proof.Machine.execFwTrialDeadline s
  | .fwActivateRestart => Sys2Proof.Machine.execFwActivateRestart s
  | .slotBackgroundErase slot => Sys2Proof.Machine.execSlotBackgroundErase slot s
  | .flashOperationDone ok => Sys2Proof.Machine.execFlashOperationDone ok s
  | .twinRoleSettle => Sys2Proof.Machine.execTwinRoleSettle s
  | .hello h => Sys2Proof.Machine.execHello h s
  | .keepalive => Sys2Proof.Machine.execKeepalive s
  | .time f offset trim => Sys2Proof.Machine.execTime f offset trim s
  | .cursor f => Sys2Proof.Machine.execCursor f s
  | .ledger f => Sys2Proof.Machine.execLedger f s
  | .twinFrameAck ack => Sys2Proof.Machine.execTwinFrameAck ack s
  | .config f => Sys2Proof.Machine.execConfig f s
  | .resync f => Sys2Proof.Machine.execResync f s
  | .switch f => Sys2Proof.Machine.execSwitch f s
  | .twinPrepareTimeout => Sys2Proof.Machine.execTwinPrepareTimeout s
  | .twinFrameRetransmit => Sys2Proof.Machine.execTwinFrameRetransmit s
  | .twinLinkSilent => Sys2Proof.Machine.execTwinLinkSilent s
  | .twinAliveInDeasserted level => Sys2Proof.Machine.execTwinAliveInDeasserted level s
  | .twinAliveTimerExpiry => Sys2Proof.Machine.execTwinAliveTimerExpiry s
  | .twinSeqRekey => Sys2Proof.Machine.execTwinSeqRekey s
  | .glitchDetection clock => Sys2Proof.Machine.execGlitchDetection clock s
  | .unlockChallenge => Sys2Proof.Machine.execUnlockChallenge s
  | .unlockResponse pub sig => Sys2Proof.Machine.execUnlockResponse pub sig s
  | .deploy => Sys2Proof.Machine.execDeploy s
  | .smbReadChipId => Sys2Proof.Machine.execSmbReadChipId s
  | .smbReadTemperature => Sys2Proof.Machine.execSmbReadTemperature s
  | .smbReadVddCore => Sys2Proof.Machine.execSmbReadVddCore s
  | .smbReadState => Sys2Proof.Machine.execSmbReadState s
  | .smbReadAlertStatus => Sys2Proof.Machine.execSmbReadAlertStatus s
  | .smbReadAlertTemp => Sys2Proof.Machine.execSmbReadAlertTemp s
  | .smbWriteAlertTemp v => Sys2Proof.Machine.execSmbWriteAlertTemp v s
  | .smbReadResetCause => Sys2Proof.Machine.execSmbReadResetCause s
  | .smbReadLifecycle => Sys2Proof.Machine.execSmbReadLifecycle s
  | .smbAlertResponse => Sys2Proof.Machine.execSmbAlertResponse s
  | .smbClockLowTimeout => Sys2Proof.Machine.execSmbClockLowTimeout s
  | .inboundDrowseExit p => Sys2Proof.Machine.execInboundDrowseExit p s
  | .checkerLock lane => Sys2Proof.Machine.execCheckerLock lane s
  | .checkerLostLock lane bits errs => Sys2Proof.Machine.execCheckerLostLock lane bits errs s
  | .encoderTransition enc a b z => Sys2Proof.Machine.execEncoderTransition enc a b z s
  | .lateSlotSend k => Sys2Proof.Machine.execLateSlotSend k s
  | .smbUnknownCommand code => Sys2Proof.Machine.execSmbUnknownCommand code s

end Sys2Proof.Machine
end

