-- ==== Sys2Proof/Machine/Idle.lean ====
section
/-!
DEFINITION. What a step does while no command waits.
-/
namespace Sys2Proof.Machine

/-- With no command waiting, bus time makes one tick of 2 ns (R60, log entry 2). -/
def idle (s : State) : Host.Outcome State Fault Refusal :=
  done { s with time := { s.time with bus := s.time.bus + 1 } }

end Sys2Proof.Machine
end

