-- ==== Sys2Proof/Safety.lean ====
section
/-!
DEFINITION. The terms in which claims about runs are stated: which accesses reach the layout, which command packets are carried
out, and what holds between steps.
-/
namespace Sys2Proof.Machine

/-- The back-pressure flag of every queue pair says what R157 says of its room and its started transfers. -/
def BpAgrees (s : State) : Prop := ∀ e ∈ s.qps, e.2.bp = e.2.bpNow

/-- A run of n steps leads from one state to another. -/
def Reaches : Nat → State → State → Prop
  | 0, s, t => s = t
  | n + 1, s, t => ∃ u, step s = .next u ∧ Reaches n u t

/-- A write of the register does no more than store by the access codes of its fields (R5 to R7). -/
def Reg.plainWrite (r : Reg) : Bool :=
  !([.qpSqDb, .qpCqDb, .tenCmdBaseLo, .tenCmdBaseHi, .tenRplBaseLo, .tenRplBaseHi, .tenRplHeadLo, .tenRplHeadHi, .tenCmdCtrl,
    .tenCmdDb, .tenRplDb, .tenQpStatus, .criCauseEn, .criQpCause, .criQpMod, .dmaChCtrl, .dmaChStatus, .dmaPrgLoadLo,
    .dmaPrgLoadHi, .gblWinBaseLo, .gblWinBaseHi, .gblWinLimitLo, .gblWinLimitHi, .gblWinAttr, .gblGpioCfg, .gblGpioOut, .mrcCtrl,
    .mrcLenMin, .mrcLenMax, .mrcLenFixed, .mrcAngleOfs, .mrcEncCfg, .mrcBusSrc, .prtMarginCtrl, .prtTestCtrl] : List Reg).contains r

/-- The mask of the bits of an instance of a register that have an access code: a VF's and a twin lane's instance lack some
(R335, R401). -/
def Reg.accMask (r : Reg) (fn i : Nat) (a : Acc) : Word :=
  r.maskOf (fun f => f.acc == a) &&& ~~~(if fn = 0 then 0 else r.vfReserved) &&&
    ~~~(if r.perLane ∧ 16 ≤ i then r.twinReserved else 0)

/-- An aligned 32-bit access of a function reaches instance i of a register (R449 to R458). -/
def State.reaches (s : State) (fn off : Nat) (r : Reg) (i : Nat) (write : Bool) : Bool :=
  off % 4 == 0 && spotAt fn off == .reg r i && s.gate fn off write == .serve

/-- The state in which a command has left its ring (R258). -/
def State.taken (s : State) (t : Nat) : State := s.modCmd t fun c => { c with cons := c.cons + 1 }

/-- The state on which the command's own effect works: taken, with its parameter block read (R256). -/
def State.begun (s : State) (i : CmdInfo) (t : Nat) (k : CmdPkt) : State := ((s.taken t).blockCheck i t k).1

/-- A command is taken from its ring and passes every check of Table 10-7 that does not belong to its own effect. -/
def State.accepts (s : State) (i : CmdInfo) (t : Nat) (k : CmdPkt) : Bool :=
  s.takes i t && s.windowOk t (s.cmdSlot t) 64 false && ((s.taken t).earlyCheck i t k).isNone &&
  ((s.taken t).blockCheck i t k).2.isNone && i.paramsOk k.params && (i.outLen.isSome || k.outAddr == 0) &&
  (s.role != 3 || i.standby) && (!i.needReady || s.ready) && !(s.cfg.probation && heldInProbation i.op)

/-- The amendment of the shadow that follows a command's effect, where the running configuration has changed (R291). -/
def State.noted (s before : State) : State := if s.amended = before.cfg.shadow then s else s.amend

/-- The next state of a command that was carried out with a result: its output block, its Ledger entry and its reply
(R257, R260, R267). -/
def State.ended (i : CmdInfo) (t : Nat) (k : CmdPkt) (r : CmdRes) : State := settle (State.conclude i t k r i.jrn)

end Sys2Proof.Machine

namespace Sys2Proof
open Machine

/-- The row of Table 10-4 that a command packet belongs to, with its tenant and packet; none for other commands. -/
def Instr.row : Instr → Option (CmdInfo × Fin 256 × CmdPkt)
  | .sessionOpen t k => some (rowSessionOpen, t, k)
  | .sessionClose t k => some (rowSessionClose, t, k)
  | .getInterface t k => some (rowGetInterface, t, k)
  | .cfgStage t k => some (rowCfgStage, t, k)
  | .cfgValidate t k => some (rowCfgValidate, t, k)
  | .cfgCommit t k => some (rowCfgCommit, t, k)
  | .cfgConfirm t k => some (rowCfgConfirm, t, k)
  | .cfgRollback t k => some (rowCfgRollback, t, k)
  | .cfgStatus t k => some (rowCfgStatus, t, k)
  | .fwStage t k => some (rowFwStage, t, k)
  | .fwActivate t k => some (rowFwActivate, t, k)
  | .fwConfirm t k => some (rowFwConfirm, t, k)
  | .fwRollback t k => some (rowFwRollback, t, k)
  | .qpAssign t k => some (rowQpAssign, t, k)
  | .qpUnassign t k => some (rowQpUnassign, t, k)
  | .qpConfigure t k => some (rowQpConfigure, t, k)
  | .qpEnable t k => some (rowQpEnable, t, k)
  | .qpDisable t k => some (rowQpDisable, t, k)
  | .qpQuery t k => some (rowQpQuery, t, k)
  | .epOpen t k => some (rowEpOpen, t, k)
  | .epClose t k => some (rowEpClose, t, k)
  | .epClearHalt t k => some (rowEpClearHalt, t, k)
  | .epQuery t k => some (rowEpQuery, t, k)
  | .devAssign t k => some (rowDevAssign, t, k)
  | .devRelease t k => some (rowDevRelease, t, k)
  | .treeAdopt t k => some (rowTreeAdopt, t, k)
  | .portEnable t k => some (rowPortEnable, t, k)
  | .portDisable t k => some (rowPortDisable, t, k)
  | .portReset t k => some (rowPortReset, t, k)
  | .portResetAck t k => some (rowPortResetAck, t, k)
  | .haltBegin t k => some (rowHaltBegin, t, k)
  | .haltEnd t k => some (rowHaltEnd, t, k)
  | .treeQuery t k => some (rowTreeQuery, t, k)
  | .treeList t k => some (rowTreeList, t, k)
  | .conOpen t k => some (rowConOpen, t, k)
  | .conClose t k => some (rowConClose, t, k)
  | .conReplace t k => some (rowConReplace, t, k)
  | .conQuery t k => some (rowConQuery, t, k)
  | .weirQuota t k => some (rowWeirQuota, t, k)
  | .weirMode t k => some (rowWeirMode, t, k)
  | .strikeWithdraw t k => some (rowStrikeWithdraw, t, k)
  | .strikeResume t k => some (rowStrikeResume, t, k)
  | .mrcSet t k => some (rowMrcSet, t, k)
  | .mrcMode t k => some (rowMrcMode, t, k)
  | .mrcQuery t k => some (rowMrcQuery, t, k)
  | .pwrVote t k => some (rowPwrVote, t, k)
  | .pwrState t k => some (rowPwrState, t, k)
  | .alarmSet t k => some (rowAlarmSet, t, k)
  | .alarmClear t k => some (rowAlarmClear, t, k)
  | .pwrQuery t k => some (rowPwrQuery, t, k)
  | .ledRead t k => some (rowLedRead, t, k)
  | .ledMark t k => some (rowLedMark, t, k)
  | .shareSet t k => some (rowShareSet, t, k)
  | .channelAssign t k => some (rowChannelAssign, t, k)
  | .poolMode t k => some (rowPoolMode, t, k)
  | .poolCreate t k => some (rowPoolCreate, t, k)
  | .poolDestroy t k => some (rowPoolDestroy, t, k)
  | .secAttest t k => some (rowSecAttest, t, k)
  | .secKeyLoad t k => some (rowSecKeyLoad, t, k)
  | .secKeyErase t k => some (rowSecKeyErase, t, k)
  | .secLifecycle t k => some (rowSecLifecycle, t, k)
  | .secDecommission t k => some (rowSecDecommission, t, k)
  | .twinQuery t k => some (rowTwinQuery, t, k)
  | .twinSwitchover t k => some (rowTwinSwitchover, t, k)
  | .twinResync t k => some (rowTwinResync, t, k)
  | .echo t k => some (rowEcho, t, k)
  | .almanacDump t k => some (rowAlmanacDump, t, k)
  | .chipEventsRead t k => some (rowChipEventsRead, t, k)
  | .softReset t k => some (rowSoftReset, t, k)
  | _ => none

/-- The packet is not looked at yet: a commit waits for a contract change that is pending, a rollback for function-level
resets, and the commands that need the security island for its power (R112, R323, R346). -/
def Instr.heldBack (s : State) : Instr → Bool
  | .cfgCommit _ _ => !s.alm.pend.isEmpty
  | .cfgRollback _ _ => s.anyFlr
  | .secKeyLoad _ _ | .secKeyErase _ _ | .secAttest _ _ | .secDecommission _ _ => !s.domainOn 5
  | _ => false

end Sys2Proof
end

