-- ==== Sys2Proof/Certificates/Slice0/Obligations.lean ====
section
/-!
DEFINITION. The statements for the provers, by family: the queue, the register accesses, the frame and its transactions, the
command packets, the events of the queue pairs, the tree, the lanes, the tenants, power, resets, flash, the pair of chips and the
security island. `State.accepts` says that a command packet passes the checks that come before its own effect, `State.begun` is the
state in which that effect begins and `State.ended` the one after its entry and reply (Sys2Proof/Safety.lean); `settle` ends every
command and restates the back-pressure flags.
-/
open Sys2Proof Sys2Proof.Machine

/-- A step takes the command at the front of the queue and is that command on the state with the rest of the queue. -/
def Obligations.StepRunsFront : Prop :=
  ∀ (c : Instr) (rest : List Instr) (s : State), s.pending = c :: rest → step s = exec c { s with pending := rest }

/-! ### The queue of commands, and the end of a step -/

/-- With no command waiting, a step lets bus time make one tick of 2 ns and changes nothing else of a state whose back-pressure
flags agree (the model's choice, log entry 2). -/
def Obligations.EmptyQueueTicks : Prop :=
  ∀ s : State, s.pending = [] →
    (∃ u, step s = .next u ∧ u.time = { s.time with bus := s.time.bus + 1 } ∧
      u = { s with time := u.time, out := u.out, qps := u.qps, pcie := u.pcie }) ∧
    (BpAgrees s → step s = .next { s with time := { s.time with bus := s.time.bus + 1 } })

/-- Every command completes: exec answers a next state, which keeps the commands that wait as they are, whatever the operands and
the state (no rule lets the block stop; log entry 1). What the next state holds is stated by the statements of each family. -/
def Obligations.WellFormedCommandsRun : Prop :=
  ∀ s : State,
    let runs := fun c : Instr => ∃ u, exec c s = .next u ∧ u.pending = s.pending
    (∀ (fn : Fin 256) (off : Nat) (size : Nat) (v : DWord) (hw : Word), runs (.registerWrite fn off size v hw)) ∧
    (∀ (fn : Fin 256) (off : Nat) (size : Nat) (add : DWord), runs (.rcFieldRead fn off size add)) ∧
    (∀ (fn : Fin 256) (off : Nat), runs (.pairLowHalfRead fn off) ∧ runs (.pairHighHalfRead fn off)) ∧
    (∀ (fn : Fin 256) (off : Nat) (wr : Option DWord), runs (.pair64bitAccess fn off wr)) ∧
    (∀ (fn : Fin 256) (q : Fin 4096) (v : Word), runs (.qpSqDbWrite fn q v) ∧ runs (.qpCqDbWrite fn q v)) ∧
    (∀ (t : Fin 256) (v : Word), runs (.tenCmdDbWrite t v) ∧ runs (.tenRplDbWrite t v) ∧ runs (.commandRingEnable t v) ∧
      runs (.commandRingDisable t v) ∧ runs (.ringReset t v) ∧ runs (.pause t v) ∧ runs (.pauseClear t v) ∧ runs (.clear t v) ∧
      runs (.load t v) ∧ runs (.unload t v) ∧ runs (.causeEnableWrite t v)) ∧
    (∀ (ch : Fin 64), runs (.dmaPauseDrained ch)) ∧
    (∀ (ch : Fin 64) (slot : Fin 16) (data : List Byte), runs (.programStructureFetched ch slot data)) ∧
    (∀ (lane : Fin 20) (v : Word), runs (.marginScanStart lane v)) ∧
    (∀ (lane : Fin 20) (clean : Bool), runs (.marginScanDwellEnd lane clean)) ∧
    (∀ (lane : Fin 20) (rx : LineRx), runs (.marginRpt lane rx)) ∧
    (∀ (lane : Fin 20), runs (.marginFarTimeout lane) ∧ runs (.testModeExitIdleEnd lane) ∧ runs (.inject lane) ∧
      runs (.checkerEnable lane) ∧ runs (.skpSetSend lane) ∧ runs (.trainingLimitTimeout lane) ∧ runs (.checkerLock lane)) ∧
    (∀ (lane : Fin 20) (v : Word) (peerTrains : Bool), runs (.testModeWrite lane v peerTrains)) ∧
    (∀ (off : Nat) (v : Word), runs (.windowWrite off v) ∧ runs (.millraceParameterWrite off v)) ∧
    (∀ (t : Fin 256) (vec : Fin 64), runs (.msixVectorUnmask t vec)) ∧
    (∀ (en : Bool) (n : Fin 256), runs (.vfEnableWrite en n)) ∧
    (∀ (t : Fin 256), runs (.initiateFlr t) ∧ runs (.flrTeardownDone t) ∧ runs (.eventRecordWrite t) ∧ runs (.releaseScrubDone
      t)) ∧
    (∀ (t : Fin 256) (d3 : Bool), runs (.dStateWrite t d3)) ∧
    (∀ (t : Fin 256) (k : CmdPkt), runs (.sessionOpen t k) ∧ runs (.sessionClose t k) ∧ runs (.getInterface t k) ∧
      runs (.cfgStage t k) ∧ runs (.cfgValidate t k) ∧ runs (.cfgCommit t k) ∧ runs (.cfgConfirm t k) ∧ runs (.cfgRollback t k)
      ∧ runs (.cfgStatus t k) ∧ runs (.fwStage t k) ∧ runs (.fwActivate t k) ∧ runs (.fwConfirm t k) ∧ runs (.fwRollback t k) ∧
      runs (.qpAssign t k) ∧ runs (.qpUnassign t k) ∧ runs (.qpConfigure t k) ∧ runs (.qpEnable t k) ∧ runs (.qpDisable t k) ∧
      runs (.qpQuery t k) ∧ runs (.epOpen t k) ∧ runs (.epClose t k) ∧ runs (.epClearHalt t k) ∧ runs (.epQuery t k) ∧
      runs (.devAssign t k) ∧ runs (.devRelease t k) ∧ runs (.treeAdopt t k) ∧ runs (.portEnable t k) ∧ runs (.portDisable t k)
      ∧ runs (.portReset t k) ∧ runs (.portResetAck t k) ∧ runs (.haltBegin t k) ∧ runs (.haltEnd t k) ∧ runs (.treeQuery t k) ∧
      runs (.treeList t k) ∧ runs (.conOpen t k) ∧ runs (.conClose t k) ∧ runs (.conReplace t k) ∧ runs (.conQuery t k) ∧
      runs (.weirQuota t k) ∧ runs (.weirMode t k) ∧ runs (.strikeWithdraw t k) ∧ runs (.strikeResume t k) ∧ runs (.mrcSet t k)
      ∧ runs (.mrcMode t k) ∧ runs (.mrcQuery t k) ∧ runs (.pwrVote t k) ∧ runs (.pwrState t k) ∧ runs (.alarmSet t k) ∧
      runs (.alarmClear t k) ∧ runs (.pwrQuery t k) ∧ runs (.ledRead t k) ∧ runs (.ledMark t k) ∧ runs (.shareSet t k) ∧
      runs (.channelAssign t k) ∧ runs (.poolMode t k) ∧ runs (.poolCreate t k) ∧ runs (.poolDestroy t k) ∧ runs (.secAttest t
      k) ∧ runs (.secKeyLoad t k) ∧ runs (.secKeyErase t k) ∧ runs (.secLifecycle t k) ∧ runs (.secDecommission t k) ∧
      runs (.twinQuery t k) ∧ runs (.twinSwitchover t k) ∧ runs (.twinResync t k) ∧ runs (.echo t k) ∧ runs (.almanacDump t k) ∧
      runs (.chipEventsRead t k) ∧ runs (.softReset t k)) ∧
    (∀ (t : Fin 256) (op : Half) (k : CmdPkt), runs (.unlistedOpcode t op k)) ∧
    (∀ (rx : BitVec 16), runs (.frameStart rx)) ∧
    (∀ (k : Nat), runs (.beatStart k) ∧ runs (.lateSlotSend k)) ∧
    (∀ (p : Fin 16), runs (.lateSofSend p) ∧ runs (.pairOverlongTransmit p) ∧ runs (.pairPullupTimeout p) ∧
      runs (.pairCapabilityTimeout p) ∧ runs (.drowseSetReceived p) ∧ runs (.outboundDrowseEntry p) ∧ runs (.outboundDrowseExit
      p) ∧ runs (.wakeReqSend p) ∧ runs (.linkLoss p) ∧ runs (.retrainSuccess p) ∧ runs (.retrainTimeout p) ∧
      runs (.inboundDrowseExit p)) ∧
    (∀ (k : Nat) (rxBusy : Bool), runs (.slotStart k rxBusy)) ∧
    (∀ (addr : Fin 4096) (ep : Fin 16) (dirIn : Bool), runs (.retryWorkStart addr ep dirIn) ∧ runs (.nakBackoffExpiry addr ep
      dirIn)) ∧
    (∀ (q : Fin 4096) (idx : Half), runs (.withdrawalSend q idx) ∧ runs (.strikeCommitPoint q idx) ∧
      runs (.strikeActTickPassed q idx)) ∧
    (∀ (p : Fin 16) (sd : Side), runs (.keeperControlStart p sd) ∧ runs (.controlTransactionStart p sd) ∧ runs (.weirBulkStart
      p sd) ∧ runs (.haltTokenSend p sd) ∧ runs (.rootDisconnect p sd) ∧ runs (.deviceBringupStart p sd) ∧ runs (.dozeEntry p
      sd) ∧ runs (.resumeSignallingEnd p sd) ∧ runs (.linkActivityWake p sd)) ∧
    (∀ (p : Fin 16) (sd : Side) (rx : LineRx), runs (.inTransactionResponse p sd rx) ∧ runs (.outTransactionResponse p sd rx)
      ∧ runs (.splitResponse p sd rx) ∧ runs (.disarmResponse p sd rx) ∧ runs (.retractResponse p sd rx)) ∧
    (∀ (p : Fin 16) (sd : Side) (tag : Fin 8), runs (.turnaroundTimeout p sd tag)) ∧
    (∀ (q : Fin 4096) (idx : Half) (reply : Option (List Byte)), runs (.strikeStatusReply q idx reply)) ∧
    (∀ (level : Bool), runs (.haltInAsserted level) ∧ runs (.twinAliveInDeasserted level)) ∧
    (runs .millraceReversal ∧ runs .sourceLost ∧ runs .sourceRecovered ∧ runs .syncOutPulse ∧ runs .pathDelayRemeasure ∧
      runs .powerEntryBegin ∧ runs .autoIdleTimer ∧ runs .pcieWake ∧ runs .supplyWarn ∧ runs .coreBrownout ∧
      runs .resetNAsserted ∧ runs .perstAsserted ∧ runs .pcieHotReset ∧ runs .softResetBegin ∧ runs .probationDue ∧
      runs .probationDeadline ∧ runs .fwTrialDeadline ∧ runs .fwActivateRestart ∧ runs .twinRoleSettle ∧ runs .keepalive ∧
      runs .twinPrepareTimeout ∧ runs .twinFrameRetransmit ∧ runs .twinLinkSilent ∧ runs .twinAliveTimerExpiry ∧
      runs .twinSeqRekey ∧ runs .unlockChallenge ∧ runs .deploy ∧ runs .smbReadChipId ∧ runs .smbReadTemperature ∧
      runs .smbReadVddCore ∧ runs .smbReadState ∧ runs .smbReadAlertStatus ∧ runs .smbReadAlertTemp ∧ runs .smbReadResetCause ∧
      runs .smbReadLifecycle ∧ runs .smbAlertResponse ∧ runs .smbClockLowTimeout) ∧
    (∀ (rising : Bool), runs (.syncInEdge rising)) ∧
    (∀ (root : Fin 32) (hops : List (Fin 32)), runs (.hubPoll root hops)) ∧
    (∀ (hub : DWord) (port : Fin 32) (reply : Option (List Byte)), runs (.portStatusReply hub port reply)) ∧
    (∀ (route : DWord) (speedF : Bool), runs (.connectValid route speedF)) ∧
    (∀ (route : DWord) (reply : KeeperReply), runs (.keeperRequestComplete route reply)) ∧
    (∀ (route : DWord), runs (.adoptWaitExpiry route) ∧ runs (.disableEscalation route)) ∧
    (∀ (p : Fin 16) (sd : Side) (route : DWord), runs (.deviceWakeSignal p sd route)) ∧
    (∀ (lane : Fin 20) (found : Bool), runs (.receiverDetectPulse lane found)) ∧
    (∀ (lane : Fin 20) (ts2 fast loopback : Bool) (n : Nat), runs (.trainingSetReceived lane ts2 fast loopback n)) ∧
    (∀ (p : Fin 16) (rx : LineRx), runs (.capSetReceived p rx) ∧ runs (.pairCapabilityReply p rx)) ∧
    (∀ (x : PairRelease), runs (.pairResetSe0End x)) ∧
    (∀ (p : Fin 16) (tag : Fin 8), runs (.wakeReqTimeout p tag)) ∧
    (∀ (p : Fin 16) (symErrs elastic : Nat), runs (.laneHealthSecond p symErrs elastic)) ∧
    (∀ (inRange : Bool), runs (.laneRecalibration inRange)) ∧
    (∀ (q : Fin 4096) (data : List Byte), runs (.submissionEntryArrival q data)) ∧
    (∀ (wr : Bool) (ecc : Bool), runs (.hostRequestIssue wr ecc)) ∧
    (∀ (id : Nat) (data : List Byte), runs (.hostReadCompletion id data)) ∧
    (∀ (id : Nat), runs (.flushReadCompletion id)) ∧
    (∀ (id : Nat) (kind : HostErr), runs (.hostAccessFailure id kind)) ∧
    (∀ (q : Fin 4096), runs (.transferCompletion q) ∧ runs (.moderationTimerExpiry q)) ∧
    (∀ (addr : BitVec 24) (err : EccErr) (who : Nat), runs (.patrolScrubStep addr err who)) ∧
    (∀ (src : Fin 1024), runs (.crierDoorbell src) ∧ runs (.shimWithdrawal src)) ∧
    (∀ (e : Fin 12), runs (.engineClaimRead e) ∧ runs (.engineSleepWake e) ∧ runs (.heartbeat e) ∧ runs (.watchdogReset e)) ∧
    (∀ (e : Fin 12) (src : Fin 1024), runs (.endOfInterrupt e src)) ∧
    (∀ (src : Fin 1024) (level : Bool), runs (.levelSignalChange src level)) ∧
    (∀ (sense : EntrySense), runs (.powerEntryStepDone sense)) ∧
    (∀ (strap : Fin 3), runs (.wakeInAsserted strap) ∧ runs (.alwaysOnBrownout strap)) ∧
    (∀ (rtc : DWord), runs (.rtcAlarm rtc)) ∧
    (∀ (temp : BitVec 12), runs (.thermalTrip temp) ∧ runs (.deepsleepRecheck temp)) ∧
    (∀ (counts : DWord), runs (.returnStepDone counts) ∧ runs (.resetRelease counts)) ∧
    (∀ (d : Fin 11), runs (.domainPowerGood d)) ∧
    (∀ (minMv : Half), runs (.braceEnd minMv)) ∧
    (∀ (strap : Fin 3) (flash : Option Flash), runs (.powerOn strap flash)) ∧
    (∀ (retOk : RetCheck) (ms : Half), runs (.startupStageDone retOk ms)) ∧
    (∀ (slot : Fin 3), runs (.slotBackgroundErase slot)) ∧
    (∀ (ok : Bool), runs (.flashOperationDone ok)) ∧
    (∀ (h : TwinHello), runs (.hello h)) ∧
    (∀ (f : TwinRx) (offset trim : Half), runs (.time f offset trim)) ∧
    (∀ (f : TwinRx), runs (.cursor f) ∧ runs (.ledger f) ∧ runs (.config f) ∧ runs (.resync f) ∧ runs (.switch f)) ∧
    (∀ (ack : Word), runs (.twinFrameAck ack)) ∧
    (∀ (clock : Bool), runs (.glitchDetection clock)) ∧
    (∀ (pub sig : List Byte), runs (.unlockResponse pub sig)) ∧
    (∀ (v : Byte), runs (.smbWriteAlertTemp v)) ∧
    (∀ (lane : Fin 20) (bits errs : Word), runs (.checkerLostLock lane bits errs)) ∧
    (∀ (enc : Fin 2) (a b z : Bool), runs (.encoderTransition enc a b z)) ∧
    (∀ (code : Byte), runs (.smbUnknownCommand code))

/-- After every step each queue pair's back-pressure flag says what its room and its started transfers give: R free ring slots, O
free holding entries, A started transfers, and the flag is up exactly while A ≥ R + O on an enabled queue pair (R157). -/
def Obligations.BackpressureAgreesAfterEveryStep : Prop :=
  (∀ s u : State, step s = .next u → BpAgrees u) ∧
  ∀ q : Qp, q.bpNow = true ↔ (q.state = .running ∨ q.state = .draining) ∧
    (q.cqSize - (q.cqProd - q.cqCons).toNat) + (64 - q.holding.length) ≤ (q.entries.filter fun e => e.begun).length

/-- No command touches the queue of the commands that wait: a step takes the front one and leaves the rest in order. -/
def Obligations.QueueIsLeftAlone : Prop :=
  ∀ s u : State, step s = .next u → u.pending = s.pending.tail

/-- After power-on and before anything happens: no command waits, every field of every register holds its reset value, nothing is
stored, no function but the PF exists, and the back-pressure flags agree. The reset values that no chapter gives are the
model's (log entries 4, 5, 7 and 9 say which). -/
def Obligations.ResetState : Prop :=
  State.reset.pending = [] ∧ State.reset.out = [] ∧ (∀ r i, State.reset.reg r i = r.resetWord) ∧
  (∀ t, State.reset.exists_ t = (t == 0)) ∧ State.reset.qps = [] ∧ State.reset.eps = [] ∧ State.reset.places = [] ∧
  State.reset.led.entries = [] ∧ State.reset.sec.keys = [] ∧ State.reset.time.running = false ∧ BpAgrees State.reset

/-! ### Accesses to registers -/

/-- A served aligned 32-bit write of a register whose fields only store: RW bits take the value written, W1C bits written 1 clear
unless hardware sets them in the same clock, W1S bits written 1 set, all others stay; a field that this puts at a reserved
encoding keeps its old value, and ENCODING is set (R6, R7). A write to a half of a pair empties the holding copy (R8). -/
def Obligations.RegisterWriteByAccessCode : Prop :=
  ∀ (s : State) (fn : Fin 256) (off i : Nat) (r : Reg) (v : DWord) (hw raw : Word),
    r.plainWrite = true → accessWf fn off 4 = true → s.reaches fn off r i true = true →
    (∀ b, raw.getLsbD b =
      if (r.accMask fn i .rw).getLsbD b then (v.setWidth 32).getLsbD b
      else if (r.accMask fn i .w1c).getLsbD b then (s.reg r i).getLsbD b && (!v.getLsbD b || hw.getLsbD b)
      else if (r.accMask fn i .w1s).getLsbD b then (s.reg r i).getLsbD b || v.getLsbD b
      else (s.reg r i).getLsbD b) →
    let bad := r.reservedMask (fn != 0) (r.perLane && decide (16 ≤ i)) raw
    ∃ u, exec (.registerWrite fn off 4 v hw) s = .next u ∧
      (∀ b, (u.reg r i).getLsbD b = if bad.getLsbD b then (s.reg r i).getLsbD b else raw.getLsbD b) ∧
      (bad ≠ 0 → (u.reg .gblBusFault fn).getLsbD 1 = true) ∧
      (r.hiOf ≠ none → Tab.find u.holds (holdKey fn r i) = none) ∧
      (∀ lo, r.loOf = some lo → Tab.find u.holds (holdKey fn lo i) = none) ∧
      (∀ r' j, j < 4096 → (r', j) ≠ (r, i) → (r', j) ≠ (.gblBusFault, fn.val) → (r', j) ≠ (.criCause, fn.val) →
        u.reg r' j = s.reg r' j) ∧
      (bad = 0 → ∀ r' j, j < 4096 → (r', j) ≠ (r, i) → u.reg r' j = s.reg r' j) ∧
      u = { s with regs := u.regs, holds := u.holds, out := u.out, qps := u.qps, pcie := u.pcie }

/-- A narrower or misaligned write that Table 19-9 does not turn away is discarded and sets ACCESS of the function; a narrower or
misaligned read returns the bytes it addresses, clears nothing, and the RC fields count on the events of its clock (R5). -/
def Obligations.NarrowAccesses : Prop :=
  ∀ (s : State) (fn : Fin 256) (off size : Nat) (v : DWord) (hw : Word) (add : DWord),
    accessWf fn off size = true → ¬(size = 4 ∧ off % 4 = 0) → ¬(size = 8 ∧ off % 8 = 0) → s.fnGate fn = .serve →
    (s.gate fn (off / 4 * 4) true ≠ .dark → exec (.registerWrite fn off size v hw) s = .next (settle (s.busFault fn off 0))) ∧
    (∃ x : DWord, exec (.rcFieldRead fn off size add) s = .next (settle (((s.emit (.readData fn off x)).countAt fn
        (off / 4 * 4) (add.setWidth 32)).countAt fn (off / 4 * 4 + 4) ((add >>> 32).setWidth 32))) ∧
      ∀ k, k < size → x.toNat / 256 ^ k % 256 = s.peekByte fn (off + k))

/-- An aligned 32-bit read of a register outside the pairs returns what the register shows; its RC fields become 0 but for the
events of the same clock, which stay whole for the next read (R6). The counters of a queue pair are read likewise. -/
def Obligations.ReadClears : Prop :=
  ∀ (s : State) (fn : Fin 256) (off i : Nat) (r : Reg) (events : DWord),
    accessWf fn off 4 = true → s.reaches fn off r i false = true → r.hiOf = none → r.loOf = none →
    let add : Word := events.setWidth 32
    let rc := r.maskOf fun f => f.acc == .rc
    (r ≠ .tenQpCount → ∃ u : State,
      exec (.rcFieldRead fn off 4 events) s = .next (settle (u.emit (.readData fn off ((s.peek fn (.reg r i)).setWidth 64)))) ∧
      u.reg r i = (s.reg r i &&& ~~~rc) ||| (add &&& rc) ∧
      (∀ r' j, j < 4096 → (r', j) ≠ (r, i) → u.reg r' j = s.reg r' j) ∧ u = { s with regs := u.regs }) ∧
    (∀ q, r = .tenQpCount → s.shownQp fn = some q →
      exec (.rcFieldRead fn off 4 events) s = .next (settle ((s.modQp q.1 fun v => { v with
        missed := getBits add 0 16, late := getBits add 16 8, drops := getBits add 24 8 }).emit
          (.readData fn off ((s.peek fn (.reg r i)).setWidth 64)))))

/-- A read of the low half of a pair keeps the high half in the function's copy; a read of the high half returns the copy and
empties it, and returns the current half while the copy is empty (R8). An aligned 64-bit read of a pair returns both halves of
one instant and leaves the holding copy; any other aligned 64-bit access acts as two 32-bit ones, the lower address first. A
write of a pair is one access (R456). -/
def Obligations.RegisterPairs : Prop :=
  (  ∀ (s : State) (fn : Fin 256) (off i : Nat) (lo hi : Reg),
    accessWf fn off 4 = true → lo.hiOf = some hi →
    (s.reaches fn off lo i false = true →
      exec (.pairLowHalfRead fn off) s = .next (settle
        ({ s with holds := Tab.set s.holds (holdKey fn lo i) (s.peek fn (.reg hi i)) }.emit
          (.readData fn off ((s.peek fn (.reg lo i)).setWidth 64))))) ∧
    (s.reaches fn off hi i false = true →
      (∀ c, Tab.find s.holds (holdKey fn lo i) = some c →
        exec (.pairHighHalfRead fn off) s = .next (settle
          ({ s with holds := Tab.del s.holds (holdKey fn lo i) }.emit (.readData fn off (c.setWidth 64))))) ∧
      (Tab.find s.holds (holdKey fn lo i) = none →
        exec (.pairHighHalfRead fn off) s = .next (settle
          (s.emit (.readData fn off ((s.peek fn (.reg hi i)).setWidth 64))))))) ∧
  (∀ (s : State) (fn : Fin 256) (off i : Nat) (lo hi : Reg),
    accessWf fn off 8 = true → off % 8 = 0 →
    (lo.hiOf = some hi → s.reaches fn off lo i false = true →
      exec (.pair64bitAccess fn off none) s =
        .next (settle (s.emit (.readData fn off (s.peek fn (.reg hi i) ++ s.peek fn (.reg lo i)))))) ∧
    (∀ v : DWord, lo.hiOf = some hi → s.reaches fn off lo i true = true →
      exec (.pair64bitAccess fn off (some v)) s =
        .next (settle ((s.writeSpot fn off (v.setWidth 32) 0).writeSpot fn (off + 4) ((v >>> 32).setWidth 32) 0))) ∧
    (pairAt fn off = none → s.gate fn off false = .serve → s.gate fn (off + 4) false = .serve →
      let a := s.readWord fn off 0
      let b := a.2.readWord fn (off + 4) 0
      a.2.gate fn (off + 4) false = .serve →
      exec (.pair64bitAccess fn off none) s = .next (settle (b.2.emit (.readData fn off (b.1 ++ a.1))))) ∧
    (∀ v : DWord, pairAt fn off = none → s.gate fn off true ≠ .unsupported →
      exec (.pair64bitAccess fn off (some v)) s =
        .next (settle ((s.write32 fn off (v.setWidth 32) 0).write32 fn (off + 4) ((v >>> 32).setWidth 32) 0))))

/-- Table 19-9: what overrides the layout, for aligned 32-bit accesses, the first row that applies deciding. A function that does
not exist or is in D3hot answers Unsupported Request; in hold, and where the serving domain is off, a read returns 0, a write
is discarded and DOMAIN_OFF is set; a function under reset reads 0 and discards writes. -/
def Obligations.AccessesTurnedAway : Prop :=
  ∀ (s : State) (fn : Fin 256) (off : Nat) (v : DWord) (w : Word) (add : DWord), accessWf fn off 4 = true → off % 4 = 0 →
    let gone := s.exists_ fn = false ∨ Tab.getD s.pcie.d3 fn.val false = true
    let W := exec (.registerWrite fn off 4 v w) s
    let R := exec (.rcFieldRead fn off 4 add) s
    let dark := fun rd : Bool => settle (if rd then (s.busFault fn off 2).emit (.readData fn off 0) else s.busFault fn off 2)
    (gone → W = .next (settle (s.emit (.unsupported fn off))) ∧ R = .next (settle (s.emit (.unsupported fn off)))) ∧
    (¬gone → s.inHold = true → W = .next (dark false) ∧ (off ≠ 0 → off ≠ 8 → off ≠ 12 → R = .next (dark true))) ∧
    (¬gone → s.inHold = false → s.stage < 3 →
      (s.rst.keepLink = true → W = .next (settle s) ∧ R = .next (settle (s.emit (.readData fn off 0)))) ∧
      (s.rst.keepLink = false →
        W = .next (settle (s.emit (.unsupported fn off))) ∧ R = .next (settle (s.emit (.unsupported fn off))))) ∧
    (¬gone → s.inHold = false → 3 ≤ s.stage → s.flrBusy fn = true →
      W = .next (settle s) ∧ R = .next (settle (s.emit (.readData fn off 0)))) ∧
    (¬gone → s.inHold = false → 3 ≤ s.stage → s.flrBusy fn = false → ∀ d, s.serving fn off = some d → s.domainOn d = false →
      W = .next (dark false) ∧ R = .next (dark true)) ∧
    (¬gone → s.inHold = false → 3 ≤ s.stage → s.flrBusy fn = false → s.serving fn off = none →
      W = .next (settle s) ∧ R = .next (settle (s.emit (.readData fn off 0))))

/-- QP_SQ_DB: written by the owner of a queue pair that runs or is halted, v is accepted exactly when (v − SQ_CONS) & 0xFFFF lies
between the entries posted and SQ_SIZE; any other write sets DB_FAULT with the queue-error cause, and a write by another
function sets FOREIGN (R144, R146, R324). -/
def Obligations.SubmissionDoorbell : Prop :=
  ∀ (s : State) (fn : Fin 256) (q : Fin 4096) (v : Word),
    s.gate fn (0x8000 + 8 * q) true = .serve →
    let p := s.qp q
    let n := (v.toNat + 65536 - p.sqCons.toNat) % 65536
    let posted := (p.sqProd.toNat + 65536 - p.sqCons.toNat) % 65536
    let takes := p.state = .running ∨ p.state = .halted
    (p.owner ≠ some fn.val → exec (.qpSqDbWrite fn q v) s = .next (settle (s.foreign fn))) ∧
    (p.owner = some fn.val → takes → n ≤ p.sqSize → posted ≤ n → v.setWidth 16 ≠ p.sqProd →
      exec (.qpSqDbWrite fn q v) s = .next (settle { s with
        qps := Tab.set s.qps q { p with sqProd := v.setWidth 16, doorbells := p.doorbells ++ [(v.setWidth 16, s.dma.dbNext)] }
        dma := { s.dma with dbNext := s.dma.dbNext + 1 } })) ∧
    (p.owner = some fn.val → takes → v.setWidth 16 = p.sqProd → n ≤ p.sqSize →
      exec (.qpSqDbWrite fn q v) s = .next (settle s)) ∧
    (p.owner = some fn.val → ¬(takes ∧ n ≤ p.sqSize ∧ posted ≤ n) →
      exec (.qpSqDbWrite fn q v) s = .next (settle ((s.modQp q fun p => { p with dbFault := true }).qpCause q 1)))

/-- QP_CQ_DB: accepted exactly when (v − CQ_CONS) & 0xFFFF is at most (HEAD − CQ_CONS) & 0xFFFF; then v is the consumer index and
held completions take the freed slots in order, and a posted buffer takes what its contract holds (R102); no write that left
before can fail any more (log entry 133). Any other write is discarded, sets DB_FAULT and raises the queue-error cause (R147,
R158). -/
def Obligations.CompletionDoorbell : Prop :=
  ∀ (s : State) (fn : Fin 256) (q : Fin 4096) (v : Word),
    s.gate fn (0x8004 + 8 * q) true = .serve →
    let p := s.qp q
    let n := (v.toNat + 65536 - p.cqCons.toNat) % 65536
    let head := (p.headIdx.toNat + 65536 - p.cqCons.toNat) % 65536
    let on := ¬(p.state = .disabled ∨ p.state = .faulted)
    (p.owner ≠ some fn.val → exec (.qpCqDbWrite fn q v) s = .next (settle (s.foreign fn))) ∧
    (p.owner = some fn.val → on → n ≤ head →
      exec (.qpCqDbWrite fn q v) s =
        .next (settle ((((s.writesLeave.setQp q { p with cqCons := v.setWidth 16 }).drainHolding q).drainCheck q).deliver q)) ∧
      (p.holding = [] → p.state = .running → p.aborting = false → p.contract = none →
        exec (.qpCqDbWrite fn q v) s = .next (settle (s.writesLeave.setQp q { p with cqCons := v.setWidth 16 })))) ∧
    (p.owner = some fn.val → ¬(on ∧ n ≤ head) →
      exec (.qpCqDbWrite fn q v) s = .next (settle (((s.modQp q fun p => { p with dbFault := true }).qpCause q 1).deliver q)))

/-- The doorbells and the control register of a tenant's command path: the producer and consumer indices move as on a queue pair
while ENABLE is 1, else DB_FAULT is set; enabling starts both rings at 0 under the next epoch and writes the head record,
disabling ends a fault, and RING_RESET discards what was posted and not taken (R254, R255, R265). -/
def Obligations.CommandPath : Prop :=
  ∀ (s : State) (t : Fin 256) (v : Word),
    let c := s.cmd t
    let size := 2 ^ s.getF Fld.tenCmdCtrlCmdSize t
    let sv := v.setWidth 16
    let n := (sv.toNat + 65536 - c.cons.toNat) % 65536
    let posted := (c.prod.toNat + 65536 - c.cons.toNat) % 65536
    let r := (sv.toNat + 65536 - c.rplCons.toNat) % 65536
    let head := (c.headIdx.toNat + 65536 - c.rplCons.toNat) % 65536
    (s.gate t 0x120 true = .serve →
      (s.bit Fld.tenCmdCtrlEnable t = true → n ≤ size → posted ≤ n →
        exec (.tenCmdDbWrite t v) s = .next (settle (s.modCmd t fun c => { c with prod := sv }))) ∧
      (¬(s.bit Fld.tenCmdCtrlEnable t = true ∧ n ≤ size ∧ posted ≤ n) →
        exec (.tenCmdDbWrite t v) s = .next (settle ((s.setF Fld.tenCmdStatusDbFault t 1).raise t 1)))) ∧
    (s.gate t 0x124 true = .serve →
      (s.bit Fld.tenCmdCtrlEnable t = true → r ≤ head →
        exec (.tenRplDbWrite t v) s = .next (settle (s.modCmd t fun c => { c with rplCons := sv }))) ∧
      (¬(s.bit Fld.tenCmdCtrlEnable t = true ∧ r ≤ head) →
        exec (.tenRplDbWrite t v) s = .next (settle ((s.setF Fld.tenCmdStatusDbFault t 1).raise t 1)))) ∧
    (s.gate t 0x118 true = .serve →
      let old := s.reg .tenCmdCtrl t
      let after := fun w : Word =>
        let m := s.mergeReg t 0x118 .tenCmdCtrl t w 0
        let resized := old.getLsbD 0 = true ∧ getBits m.1 8 8 ≠ getBits old 8 8
        let word := if resized then putBits m.1 8 8 (getBits old 8 8) else m.1
        let u := m.2.setReg .tenCmdCtrl t word
        let u := if resized then (u.setF Fld.tenCmdStatusDbFault t 1).raise t 1 else u
        let u := if w.getLsbD 1 then
          ((u.modCmd t fun c => { c with prod := c.cons }).setF Fld.tenCmdCtrlRingReset t 1).endRingReset t else u
        if word.getLsbD 0 = true ∧ old.getLsbD 0 = false then
          (u.modCmd t fun c => { c with prod := 0, cons := 0, rplProd := 0, rplCons := 0, epoch := c.epoch + 1 }).publishReply t
        else if old.getLsbD 0 = true ∧ word.getLsbD 0 = false then u.setF Fld.tenCmdStatusFaulted t 0
        else u
      exec (.commandRingEnable t v) s = .next (settle (after (v ||| 1))) ∧
      exec (.commandRingDisable t v) s = .next (settle (after (v &&& ~~~1))) ∧
      exec (.ringReset t v) s = .next (settle (after (v ||| 2))))

/-- A write of DMA_CH_CTRL acts on the channel that DMA_SEL names where the function owns it: PAUSE moves Running to Pausing,
clearing it moves Paused and Pausing to Running, CLEAR leaves Halted and clears the latched error, LOAD requests the structure
at a 64-byte aligned address for a slot that no entry uses, UNLOAD empties such a slot; another function's write does nothing
(R169, R180, R184, R193). -/
def Obligations.DmaChannelControl : Prop :=
  ∀ (s : State) (t : Fin 256) (v : Word), s.gate t 0x404 true = .serve → v.toNat % 16 = 0 →
    let ch := s.getF Fld.dmaSelChannel t
    let slot := s.getF Fld.dmaSelSlot t
    let a := s.reg64 .dmaPrgLoadLo .dmaPrgLoadHi t
    let on := s.modChan ch fun c => { c with
      pause := false, state := if c.state = .paused ∨ c.state = .pausing then .running else c.state }
    let x := on.chan ch
    ((s.chan ch).owner ≠ some t.val →
      exec (.pause t v) s = .next (settle s) ∧ exec (.pauseClear t v) s = .next (settle s) ∧
      exec (.clear t v) s = .next (settle s) ∧ exec (.load t v) s = .next (settle s) ∧
      exec (.unload t v) s = .next (settle s)) ∧
    ((s.chan ch).owner = some t.val →
      exec (.pause t v) s = .next (settle (s.modChan ch fun c => { c with
        pause := true, state := if c.state = .running then .pausing else c.state })) ∧
      exec (.pauseClear t v) s = .next (settle on) ∧
      (x.state = .halted → exec (.clear t v) s = .next (settle (on.modChan ch fun c => { c with
        state := .running, errKind := 0, errWrite := false, errAddr := 0, afterCount := false, retries := 0 }))) ∧
      (x.state ≠ .halted → exec (.clear t v) s = .next (settle on)) ∧
      (on.slotBusy ch slot = false → a.toNat % 64 ≠ 0 →
        exec (.load t v) s = .next (settle ((on.modChan ch fun c => { c with loadRefused := true }).raise t 6))) ∧
      (on.slotBusy ch slot = false → a.toNat % 64 = 0 →
        exec (.load t v) s = .next (settle { on with dma := { on.dma with
          chans := Tab.set on.dma.chans ch { x with
            loading := (x.loading.filter fun y => y.1 != slot) ++ [(slot, a, on.dma.dbNext)] }
          dbNext := on.dma.dbNext + 1 } })) ∧
      (on.slotBusy ch slot = true →
        exec (.load t v) s = .next (settle ((on.modChan ch fun c => { c with loadRefused := true }).raise t 6)) ∧
        exec (.unload t v) s = .next (settle ((on.modChan ch fun c => { c with loadRefused := true }).raise t 6))) ∧
      (on.slotBusy ch slot = false →
        exec (.unload t v) s = .next (settle (on.modChan ch fun c => { c with
          slots := Tab.del c.slots slot
          state := if (Tab.del c.slots slot).isEmpty then .stopped else c.state }))))

/-! ### Frames, beats and slots -/

/-- FRAME_START while frames run: the frame fixed before becomes the running one: S(n+1) = S(n) + L(n), its length is the one that
stood in NEXT_LEN, beat 0 runs, the three frame slots rotate and frame n+2 opens with no slot of a frame gone by (where no
Cistern word is in error); then the rest of the boundary's work is done in the order of the chapters. -/
def Obligations.FrameStart : Prop :=
  ∀ (s : State) (rx : BitVec 16), s.time.running = true → 4 ≤ s.stage → s.inHold = false → s.time.len ≠ 0 →
    let n := s.nextFrame
    let ended := (s.frames.headD ⟨0, []⟩).left
    let a := ended.foldl (fun s w => s.slotMissed w.1 w.2) n
    let b := if a.lowered || a.entryStep != 0 then a.emptyFrame else a
    let c := (b.switchReached b.time.frame).epochBump
    let d := (c.switchDue (c.alm.pend.length + 1)).weirDue
    exec (.frameStart rx) s =
      .next (settle ((((((d.mrcAtFrame s.time.len).strikesAtFrame).readBeatLists).beatWork).sofs rx).twinAtFrame)) ∧
    n.time.frame = s.time.frame + 1 ∧ n.time.start = s.time.start + BitVec.ofNat 64 s.time.len ∧
    n.time.len = s.getF Fld.mrcLenNextLen 0 ∧ n.time.prevLen = s.time.len ∧ n.time.beat = 0 ∧
    (s.dma.bad = [] → ∃ f, n.frames = s.frames.drop 1 ++ [f] ∧ f.number = s.time.frame + 3) ∧
    a.time = n.time ∧ (s.dma.bad = [] → n.regs = s.regs) ∧ n.qps = s.qps

/-- BEAT_START of the beat that follows the running one: bus time has reached S(n) + floor(k × L(n) ÷ 8), waits counted in beats
go on, and each H link that had its SOF gets its BEAT while marks are sent (R62, R63). A beat that is not the next does
nothing. LATE_SOF_SEND: an SOF held back by an arriving packet leaves when the packet has ended, and PRT_SOF_LATE counts it
(R64). SKP_SET_SEND: an active H lane that does not drowse sends its SKP set at the tick at which it is due, 1,180 symbols
after the one before and a tick later where a mark falls on it, if that tick comes before the next mark; the marks that follow
leave after it (R63, R230). -/
def Obligations.BeatsAndMarks : Prop :=
  (  ∀ (s : State) (k : Nat), 1 ≤ k → k ≤ 7 →
    let u := s.upTo (s.time.start + BitVec.ofNat 64 (k * s.time.len / 8))
    let w := ({ u with time := { u.time with beat := k } } : State).beatWork
    let b := w.readBeatLists
    (s.time.running = true → s.time.beat + 1 = k →
      exec (.beatStart k) s = .next (settle (if b.marksOn && b.twn.sofFrom.isNone then
        (List.range 16).foldl (fun s p => s.beatLink k p) b else b)) ∧
      (∀ e ∈ w.eps, e.2.waitBeat = false) ∧ w.alm.ctlUsed = [] ∧
      w.txns = s.txns.map fun x => { x with beats := x.beats - 1, own := x.own - 1 }) ∧
    (¬(s.time.running = true ∧ s.time.beat + 1 = k) → exec (.beatStart k) s = .next (settle s))) ∧
  (∀ (s : State),
    (∀ p : Fin 16, let l := 2 * p.val + 1
      (s.link l).sofHeld = true →
      let u := (s.addF Fld.prtSofLateLate p 1).sendSof l (s.link l).disc
      exec (.lateSofSend p) s = .next (settle (if (s.link l).disc then
        (u.setF Fld.gblTimeStatusDiscPending 0 0).releaseAfterSof else u.releaseAfterSof))) ∧
    (∀ lane : Fin 20, s.getF Fld.prtLaneStatusHState lane = 3 → (s.link (laneLink lane)).parked = false →
      s.bit Fld.prtLaneStatusHTxDrowse lane = false →
      let tick := s.skpTick (laneLink lane)
      (s.time.running = false ∨ tick < s.nextMark.toNat →
        exec (.skpSetSend lane) s = .next (settle (((s.upTo (BitVec.ofNat 64 tick)).modLink (laneLink lane) fun k =>
          { k with skp := BitVec.ofNat 64 tick }).emit (.ordered lane "SKP" 1 [])))) ∧
      (s.time.running = true → s.nextMark.toNat ≤ tick → exec (.skpSetSend lane) s = .next (settle s))))

/-- SLOT_START: a slot that has not departed, in the running beat, departs at its START: it is served, or on a pair where a device
packet arrives its token waits for the end of the packet, which LATE_SLOT_SEND then serves, and counts if anything leaves; on
a link that is not active a strike returns to unplaced. A quad starts two packets 25 clocks apart (R17, R98, R99, R128). -/
def Obligations.SlotStart : Prop :=
  ∀ (s : State) (i : Nat) (x : FSlot) (rx : Bool), (s.frames.headD ⟨0, []⟩).slots[i]? = some x →
    let l := 2 * x.slot.port + (if x.slot.pair then 1 else 0)
    let tick := max (s.slotTick 0 x.slot) (Tab.getD s.alm.starts (quadOf x.slot.port) 0)
    let gone := (s.upTo (BitVec.ofNat 64 tick)).slotGone i
    (x.gone = false → x.slot.beat = s.time.beat → s.time.running = true → s.role ≠ 3 →
      (x.slot.pair = true → (rx = true ∨ (s.link l).arriving = true) →
        exec (.slotStart i rx) s = .next (settle (gone.modLink l fun k => { k with slotHeld := k.slotHeld ++ [i] }))) ∧
      (¬(x.slot.pair = true ∧ (rx = true ∨ (s.link l).arriving = true)) → s.linkUp l = true →
        exec (.slotStart i rx) s = .next (settle (gone.serveSlot x tick))) ∧
      (∀ w, ¬(x.slot.pair = true ∧ (rx = true ∨ (s.link l).arriving = true)) → s.linkUp l = false → x.strike = some w →
        exec (.slotStart i rx) s = .next (settle (gone.slotMissed w.1 w.2)))) ∧
    ((s.link l).slotHeld.contains i = true →
      let free := s.modLink l fun k => { k with arriving := false }
      let due := free.modLink l fun k => { k with slotHeld := k.slotHeld.filter (· != i) }
      let sent := due.serveSlot x (max s.now.toNat (Tab.getD s.alm.starts (quadOf x.slot.port) 0))
      (s.linkUp l = true → s.freeTag l = none → exec (.lateSlotSend i) s = .next (settle free)) ∧
      (s.linkUp l = false ∨ s.freeTag l ≠ none → due.out.length < sent.out.length →
        exec (.lateSlotSend i) s = .next (settle (sent.addF Fld.prtSlotLateLate x.slot.port 1))) ∧
      (s.linkUp l = false ∨ s.freeTag l ≠ none → sent.out.length ≤ due.out.length →
        exec (.lateSlotSend i) s = .next (settle sent))) ∧
    ((s.link l).slotHeld.contains i = false → exec (.lateSlotSend i) s = .next (settle s)) ∧
    (x.gone = true → exec (.slotStart i rx) s = .next (settle s))

/-! ### Transactions -/

/-- An answer on an active link goes to the transaction with its TAG in format E on an H link and to the one outstanding
elsewhere: an ACK, NAK or STALL to an IN, OUT, split, DISARM or RETRACT has the effect of its table, a good data packet within
the limit is acknowledged and its toggle decides whether it counts, an unusable one is a transaction error, and a packet that
answers none of the row's transactions does nothing (R36, R39, R42, R43, R49, R134). -/
def Obligations.TransactionAnswers : Prop :=
  ∀ (s : State) (p : Fin 16) (sd : Side) (rx : LineRx) (x : Txn),
    let l := linkOf p sd
    s.linkUp l = true →
    (∀ pid tag, receive (s.fmtE l) rx = .shake pid tag → s.answered l tag = some x →
      (x.kind = .inTok → x.phase = .direct → exec (.inTransactionResponse p sd rx) s = .next (settle (s.inShake x pid))) ∧
      (x.phase = .direct → x.kind = .outTok ∨ x.kind = .setup ∨ x.kind = .strikeTok →
        exec (.outTransactionResponse p sd rx) s = .next (settle (s.outShake x pid))) ∧
      (x.phase ≠ .direct → x.kind ≠ .retract →
        exec (.splitResponse p sd rx) s = .next (settle (s.splitShake x pid))) ∧
      (x.kind = .disarm → x.phase ≠ .start →
        (pid = .ack → exec (.disarmResponse p sd rx) s = .next (settle ((s.endTxn x).withdrawnTx x))) ∧
        (pid = .nyet → exec (.disarmResponse p sd rx) s = .next (settle (s.disarmShake x .nyet))) ∧
        (pid ≠ .ack → pid ≠ .nyet → exec (.disarmResponse p sd rx) s = .next (settle (s.txError x)))) ∧
      (x.kind = .retract →
        (pid = .ack → exec (.retractResponse p sd rx) s = .next (settle ((s.endTxn x).withdrawnTx x))) ∧
        (pid = .nyet → exec (.retractResponse p sd rx) s = .next (settle (s.endTxn x))) ∧
        (pid ≠ .ack → pid ≠ .nyet → exec (.retractResponse p sd rx) s = .next (settle (s.txError x))))) ∧
    (∀ t tag b, receive (s.fmtE l) rx = .data t tag b → s.answered l tag = some x → x.kind = .inTok → x.phase = .direct →
      let ack := (s.endTxn x).emit (.packet (portOf l) (sideOf l) (s.txSpeed x) (handshakePkt (s.fmtE l) .ack x.tag))
      (s.inLimit x < b.length → exec (.inTransactionResponse p sd rx) s = .next (settle (s.babbled x))) ∧
      (b.length ≤ s.inLimit x → t ≠ (s.tep l x.addr x.ep x.dirIn).toggle → x.link = l →
        exec (.inTransactionResponse p sd rx) s = .next (settle ack)) ∧
      (∀ q idx e, b.length ≤ s.inLimit x → t = (s.tep l x.addr x.ep x.dirIn).toggle → x.link = l → x.work = .entry q idx →
        (s.qp q).entry idx = some e → e.phase = .started →
        exec (.inTransactionResponse p sd rx) s =
          .next (settle ((ack.modTep l x.addr x.ep x.dirIn fun k => { k with toggle := !k.toggle }).received x q e b)))) ∧
    (∀ tag, receive (s.fmtE l) rx = .dataBad tag → s.answered l tag = some x → x.kind = .inTok → x.phase = .direct →
      exec (.inTransactionResponse p sd rx) s = .next (settle ((s.discarded l).txError x))) ∧
    (∀ pid tag, receive (s.fmtE l) rx = .other pid tag → s.answered l tag = some x → x.phase = .direct →
      (x.kind = .inTok → exec (.inTransactionResponse p sd rx) s = .next (settle (s.txError x))) ∧
      (x.kind = .outTok ∨ x.kind = .setup ∨ x.kind = .strikeTok →
        exec (.outTransactionResponse p sd rx) s = .next (settle (s.txError x))))

/-- A transaction that is not answered in time is in error, and NAK_BACKOFF_EXPIRY lets an endpoint direction take a transaction
again (R40, R45); below the fourth error in a row an error adds one to the error count of the endpoint direction (R41). -/
def Obligations.TimeoutsAndErrors : Prop :=
  ∀ (s : State),
    (∀ (p : Fin 16) (sd : Side) (tag : Fin 8) (x : Txn),
      ((s.outstanding (linkOf p sd)).find? fun x => x.tag == tag.val && !x.unsent) = some x →
      exec (.turnaroundTimeout p sd tag) s = .next (settle (s.txError x))) ∧
    (∀ (addr : Fin 4096) (ep : Fin 16) (d : Bool), (s.ep addr ep d).waiting = true →
      exec (.nakBackoffExpiry addr ep d) s = .next (settle (s.modEp addr ep d fun e => { e with waiting := false }))) ∧
    (∀ (x : Txn), (∀ r, x.work ≠ .keeper r) → (s.ep (txAddr x.link x.addr) x.ep x.dirIn).errs < 3 →
      ((s.txError x).ep (txAddr x.link x.addr) x.ep x.dirIn).errs = (s.ep (txAddr x.link x.addr) x.ep x.dirIn).errs + 1)

/-- What starts in unreserved time: a retained split whose next step is due and may still go, a withdrawal that can leave by its
commit point, the keeper's next request where no work of order 3 waits, and the control transfer of the next tenant in turn
whose head can start now; else nothing starts (R103 to R106, R109, R133). -/
def Obligations.UnreservedStarts : Prop :=
  ∀ (s : State), s.time.running = true →
    (∀ (addr : Fin 4096) (ep : Fin 16) (d : Bool) (x : Txn),
      (s.txns.find? fun x => x.addr == addr.val && x.ep == ep.val && x.dirIn == d && s.stepDue x && !x.slotted) = some x →
      let y := { x with phase := if x.phase = .wait then .complete else x.phase }
      let t := s.startTick x.link y.inward
      let go := s.linkFree x.link && s.stepAllowed x t && !s.withdrawWaits x.link (s.txTenant x) &&
        s.fits x.link (s.txTenant x) t (s.txCharge y (s.txMps x.link addr ep d))
      (go = true → exec (.retryWorkStart addr ep d) s = .next (settle ((s.swapTxn x none).launch y t))) ∧
      (go = false → exec (.retryWorkStart addr ep d) s = .next (settle s))) ∧
    (∀ (q : Fin 4096) (idx : Half) (e : Entry) (p : Place), (s.qp q).entry idx = some e → s.strikePlace e = some p →
      let t := s.startTick (routeLink p.route) false
      let go := s.withdrawDue q e t &&
        s.fits (routeLink p.route) ((s.qp q).owner.getD 0) t (s.withdrawCharge p)
      exec (.withdrawalSend q idx) s = .next (settle (if go then s.sendWithdrawal q e t else s))) ∧
    (∀ (p : Fin 16) (sd : Side), let l := linkOf p sd
      let kept := { s with keeper := s.keeper.filter (fun k => k.link != l) ++ s.keeperOld l }
      (s.keeperNext l = none ∨ s.order3 l 0 = true → exec (.keeperControlStart p sd) s = .next (settle kept)) ∧
      (∀ (k : KReq) (x : Txn) (t : Nat), s.keeperNext l = some (k, x, t) → s.order3 l 0 = false →
        exec (.keeperControlStart p sd) s = .next (settle
          (({ kept with keeper := if kept.keeper.contains k then kept.keeper else kept.keeper ++ [k] } : State).launch x t)))) ∧
    (∀ (p : Fin 16) (sd : Side),
      let turn := nextFrom (Tab.getD s.alm.ctlTurn p.val 0) (s.qpOwners.filter fun t => (s.controlHead p t).isSome)
      (turn = none → exec (.controlTransactionStart p sd) s = .next (settle s)) ∧
      (∀ (t : Nat) (e : Entry) (x : Txn) (rest : List (Entry × Txn)) (u : State), turn = some t →
        s.portReady p t true = (e, x) :: rest → s.tryStart t x = some u →
        let chg := s.txCharge x (s.txMps x.link x.addr x.ep x.dirIn)
        let used := Tab.getD s.alm.ctlUsed p.val 0
        exec (.controlTransactionStart p sd) s = .next (settle { u with alm := { u.alm with
          ctlTurn := Tab.set u.alm.ctlTurn p.val (t + 1), ctlUsed := Tab.set u.alm.ctlUsed p.val (used + chg) } }) ∧
        s.order3 x.link t = false ∧ s.keeperNext x.link = none ∧
        (s.strict = true ∨ s.bulkPending p = false ∨ used + chg ≤ s.controlHalf p)))

/-- WEIR_BULK_START starts nothing while no tenant's head fits (in shared mode, while control work can start, none does); else in
strict mode the first head that fits starts, and in shared mode the Weir goes on with its round: a tenant's deficit gains its
quantum at its first visit of a round, pays the charge of what starts, and is lost when its visit ends with nothing ready
(R104, R108, R109). -/
def Obligations.WeirBulk : Prop :=
  ∀ (s : State) (p : Fin 16) (sd : Side),
    let ts := s.qpOwners.filter fun t => !(s.portReady p t false).isEmpty
    let heads := ts.filter fun t => (s.weirHead p t).isSome
    (heads = [] → exec (.weirBulkStart p sd) s = .next (settle s)) ∧
    (s.strict = false → (∃ t ∈ s.qpOwners, (s.controlHead p t).isSome) → heads = []) ∧
    (∀ t x u, heads.head? = some t → s.strict = true → s.weirHead p t = some x → s.tryStart t x = some u →
      exec (.weirBulkStart p sd) s = .next (settle u)) ∧
    (heads ≠ [] → s.strict = false →
      exec (.weirBulkStart p sd) s = .next (settle ((s.weirTurn p ts).weirRound p ts (200 * (ts.length + 1))))) ∧
    (∀ t, Tab.getD s.alm.visited (defKey p.val t) false = false →
      Tab.getD (s.weirVisit p.val t).alm.deficit (defKey p.val t) 0 =
        Tab.getD s.alm.deficit (defKey p.val t) 0 + s.getF Fld.tenWeirQuotaQuantum t) ∧
    (∀ t, Tab.getD s.alm.visited (defKey p.val t) false = true → (s.weirVisit p.val t).alm.deficit = s.alm.deficit) ∧
    (∀ t, s.portReady p t false = [] → Tab.getD (s.weirNext p.val t ts).alm.deficit (defKey p.val t) 0 = 0)

/-! ### Commands of Table 10-4: sessions, Ledger, diagnostics -/

/-- SESSION_OPEN closes the session that stands, takes the next handle and the highest version of both ranges; SESSION_CLOSE
closes; GET_INTERFACE gives the range of versions and the firmware version; SOFT_RESET schedules the reset and sends no reply.
-/
def Obligations.SessionCommands : Prop :=
  ∀ (t : Fin 256) (k : CmdPkt) (s : State),
    (s.accepts rowSessionOpen t k = true →
      let b := s.begun rowSessionOpen t k
      let hi := min (fieldAt k.params 2 2) 0x0101
      let h := nextHandle (b.getF Fld.tenCmdStatusSession t)
      max (fieldAt k.params 0 2) 0x0100 ≤ hi →
      exec (.sessionOpen t k) s = .next (State.ended rowSessionOpen t k (.ok
        ((((b.setF Fld.tenCmdStatusSessionOpen t 0).setF Fld.tenCmdStatusSession t h).setF Fld.tenCmdStatusSessionOpen t 1).modCmd
          t fun c => { c with ifVer := hi })
        (BitVec.ofNat 64 (hi + h * 65536 + (b.reg .gblCfgGen 0).toNat * 2 ^ 32))))) ∧
    (s.accepts rowSessionClose t k = true →
      exec (.sessionClose t k) s = .next (State.ended rowSessionClose t k (.ok
        ((s.begun rowSessionClose t k).setF Fld.tenCmdStatusSessionOpen t 0) 0))) ∧
    (s.accepts rowGetInterface t k = true →
      exec (.getInterface t k) s = .next (State.ended rowGetInterface t k (.ok (s.begun rowGetInterface t k)
        (BitVec.ofNat 64 (0x0100 + 0x0101 * 65536 + (fwVersion s.cfg.fwRunning).toNat * 2 ^ 32))))) ∧
    (s.accepts rowSoftReset t k = true → fieldAt k.params 0 4 = 0x52534554 →
      let b := s.begun rowSoftReset t k
      exec (.softReset t k) s = .next (State.ended rowSoftReset t k
        { CmdRes.ok { b with cfg := { b.cfg with restart := .soft } } 0 with silent := true }))

/-- LED_READ writes the visible entries from FROM on in the order of LSEQ, LED_MARK journals VALUE, ECHO returns it,
CHIP_EVENTS_READ and ALMANAC_DUMP write their blocks. -/
def Obligations.LedgerAndDiagnostics : Prop :=
  ∀ (t : Fin 256) (k : CmdPkt) (s : State),
    (s.accepts rowLedRead t k = true →
      let b := s.begun rowLedRead t k
      let frm : DWord := BitVec.ofNat 64 (fieldAt k.params 0 8)
      let n := fieldAt k.params 8 2
      let es := b.led.entries.filter fun e => ledVisible t e && decide (frm.toNat ≤ e.lseq.toNat)
      1 ≤ n → n ≤ 512 →
      exec (.ledRead t k) s = .next (State.ended rowLedRead t k { CmdRes.ok b (BitVec.ofNat 64
        ((es.take n).length + (if n < es.length then 2 ^ 16 else 0) + (if b.ledGap t frm then 2 ^ 17 else 0))) with
          out := (es.take n).flatMap fun e => e.bytes (t.val == 0 && e.tenant != 0) })) ∧
    (s.accepts rowLedMark t k = true →
      exec (.ledMark t k) s = .next (State.ended rowLedMark t k { CmdRes.ok (s.begun rowLedMark t k) 0 with
        ledResult := some (BitVec.ofNat 64 (fieldAt k.params 0 8)) })) ∧
    (s.accepts rowEcho t k = true →
      exec (.echo t k) s = .next (State.ended rowEcho t k (.ok (s.begun rowEcho t k) (BitVec.ofNat 64 (fieldAt k.params 0 8))))) ∧
    (s.accepts rowChipEventsRead t k = true →
      exec (.chipEventsRead t k) s = .next (State.ended rowChipEventsRead t k (.block (s.begun rowChipEventsRead t k)
        ((s.rst.chipEvents.take (fieldAt k.params 0 2)).flatMap (padTo 64))))) ∧
    (s.accepts rowAlmanacDump t k = true → fieldAt k.params 0 1 ≤ 3 →
      let b := s.begun rowAlmanacDump t k
      (fieldAt k.params 1 1 = 0 → exec (.almanacDump t k) s = .next (State.ended rowAlmanacDump t k (.block b
        (copyBytes b.alm.contracts b.alm.gen b.alm.since b.alm.floor (fieldAt k.params 0 1))))) ∧
      (∀ ch rest, fieldAt k.params 1 1 = 1 → b.alm.pend = ch :: rest →
        exec (.almanacDump t k) s = .next (State.ended rowAlmanacDump t k (.block b
          (copyBytes ch.contracts (b.alm.gen + 1) ch.frame ch.floor (fieldAt k.params 0 1))))))

/-- An opcode that Table 10-4 does not list is answered BAD_OPCODE once the earlier checks pass, and changes nothing else; a held
event record is written when the ring has room. -/
def Obligations.UnlistedAndEvents : Prop :=
  ∀ (t : Fin 256) (s : State),
    (∀ (op : Half) (k : CmdPkt), listedOpcode op.toNat = false →
      s.takes { op := op.toNat, jrn := false } t = true → s.windowOk t (s.cmdSlot t) 64 false = true →
      (s.taken t).earlyCheck { op := op.toNat, jrn := false } t k = none →
      exec (.unlistedOpcode t op k) s =
        .next (State.ended { op := op.toNat, jrn := false } t k (.err (s.taken t) .badOpcode))) ∧
    (∀ g rest, (s.cmd t).dropped = 0 → (s.cmd t).held = g :: rest → s.eventFits t g = true →
      exec (.eventRecordWrite t) s = .next (settle ((s.modCmd t fun c => { c with held := rest }).putEvents t g))) ∧
    ((s.cmd t).dropped ≠ 0 →
      let r := [eventRecord 0 0 1 5 (s.cmd t).dropped 0 0]
      s.eventFits t r = true →
      exec (.eventRecordWrite t) s = .next (settle ((s.modCmd t fun c => { c with dropped := 0 }).putEvents t r)))

/-! ### Queue pairs, grants and pools -/

/-- QP_CONFIGURE stores the settings of Table 6-1, QP_ENABLE starts the queue pair with the next epoch, QP_DISABLE drains, aborts
or ends it by its state, QP_QUERY writes its record. -/
def Obligations.QueuePairCommands : Prop :=
  ∀ (t : Fin 256) (k : CmdPkt) (s : State),
    let q := fieldAt k.params 0 2
    (s.accepts rowQpConfigure t k = true →
      let b := s.begun rowQpConfigure t k
      let vec := fieldAt k.params 2 1
      let sqSize := fieldAt k.params 4 2
      let cqSize := fieldAt k.params 6 2
      let sqBase : DWord := BitVec.ofNat 64 (fieldAt k.params 8 8)
      let cqBase : DWord := BitVec.ofNat 64 (fieldAt k.params 16 8)
      let head : DWord := BitVec.ofNat 64 (fieldAt k.params 24 8)
      q < 4096 → b.ownsQp t q = true → (b.qp q).state = .disabled → powerOfTwoIn sqSize 16 32768 = true →
      powerOfTwoIn cqSize 16 32768 = true → ringAligned sqBase (sqSize * 64) = true → ringAligned cqBase (cqSize * 32) = true →
      head.toNat % 4 = 0 → inRing head sqBase (sqSize * 64) = false → inRing head cqBase (cqSize * 32) = false →
      vec ≤ (if t.val = 0 then 63 else 7) →
      exec (.qpConfigure t k) s = .next (State.ended rowQpConfigure t k (.ok (b.modQp q fun v => { v with
        sqBase := sqBase, sqSize := sqSize, cqBase := cqBase, cqSize := cqSize, headAddr := head, vector := vec
        configured := true }) 0))) ∧
    (s.accepts rowQpEnable t k = true →
      let b := s.begun rowQpEnable t k
      q < 4096 → b.ownsQp t q = true → (b.qp q).state = .disabled → (b.qp q).configured = true → b.shareFits t 2048 = true →
      exec (.qpEnable t k) s = .next (State.ended rowQpEnable t k
        (.ok (b.qpStart q) (BitVec.ofNat 64 ((b.qp q).epoch + 1).toNat)))) ∧
    (s.accepts rowQpDisable t k = true →
      let b := s.begun rowQpDisable t k
      q < 4096 → b.ownsQp t q = true →
      ((b.qp q).state = .running → exec (.qpDisable t k) s = .next (State.ended rowQpDisable t k
        (.ok ((b.modQp q fun v => { v with state := .draining }).drainCheck q) 0))) ∧
      ((b.qp q).state = .halted → (b.qp q).aborting = false →
        exec (.qpDisable t k) s = .next (State.ended rowQpDisable t k (.ok (b.abortEntries q) 0))) ∧
      ((b.qp q).state = .faulted →
        exec (.qpDisable t k) s = .next (State.ended rowQpDisable t k (.ok (b.enterDisabled q) 0)))) ∧
    (s.accepts rowQpQuery t k = true →
      let b := s.begun rowQpQuery t k
      q < 4096 → b.ownsQp t q = true →
      exec (.qpQuery t k) s = .next (State.ended rowQpQuery t k (.block b ((b.qp q).record q))))

/-- QP_ASSIGN and QP_UNASSIGN give and take queue pairs with their epochs kept, SHARE_SET sets a tenant's units and CHANNEL_ASSIGN
a channel's owner; each amends the running configuration. -/
def Obligations.GrantCommands : Prop :=
  ∀ (t : Fin 256) (k : CmdPkt) (s : State),
    (s.accepts rowQpAssign t k = true →
      let b := s.begun rowQpAssign t k
      let q := fieldAt k.params 0 2
      let n := fieldAt k.params 2 2
      let quad := fieldAt k.params 5 1
      let qs := (List.range n).map (· + q)
      let u := qs.foldl (fun s q => s.setQp q { Qp.blank with
        owner := some (fieldAt k.params 4 1), homeQuad := quad, epoch := (s.qp q).epoch }) b
      n ≠ 0 → q + n ≤ 4096 → quad ≤ 3 → (qs.any fun q => (b.qp q).owner.isSome) = false → u.amendFits = true →
      exec (.qpAssign t k) s = .next (State.ended rowQpAssign t k (.ok (u.noted b) 0))) ∧
    (s.accepts rowQpUnassign t k = true →
      let b := s.begun rowQpUnassign t k
      let q := fieldAt k.params 0 2
      let n := fieldAt k.params 2 2
      let qs := (List.range n).map (· + q)
      let u := qs.foldl (fun s q => s.setQp q { Qp.blank with epoch := (s.qp q).epoch }) b
      n ≠ 0 → q + n ≤ 4096 → (b.qp q).owner ≠ none →
      (∀ x ∈ qs, (b.qp x).owner = (b.qp q).owner ∧ (b.qp x).state = .disabled ∧ (b.qp x).contract = none) →
      u.amendFits = true →
      exec (.qpUnassign t k) s = .next (State.ended rowQpUnassign t k (.ok (u.noted b) 0))) ∧
    (s.accepts rowShareSet t k = true →
      let b := s.begun rowShareSet t k
      let ten := fieldAt k.params 0 1
      let n := fieldAt k.params 2 2
      let old := b.getF Fld.tenCisShareUnits ten
      let s1 := b.setF Fld.tenCisShareUnits ten n
      let u := if n < old then s1.scrubsOut ten (old - n) else s1
      (old < n → b.unitsOut + b.unitsDirty + (n - old) ≤ 2240) → (n < old → b.unitsUsed ten ≤ n) → u.amendFits = true →
      exec (.shareSet t k) s = .next (State.ended rowShareSet t k (.ok (u.noted b) 0))) ∧
    (s.accepts rowChannelAssign t k = true →
      let b := s.begun rowChannelAssign t k
      let ch := fieldAt k.params 0 1
      let ten := fieldAt k.params 1 1
      (ch < 64 → fieldAt k.params 2 1 = 0 → (b.chan ch).owner = none →
        let u := b.modChan ch fun _ => { Chan.blank with owner := some ten }
        u.amendFits = true →
        exec (.channelAssign t k) s = .next (State.ended rowChannelAssign t k (.ok (u.noted b) 0))) ∧
      (ch < 64 → fieldAt k.params 2 1 = 1 → (b.chan ch).owner = some ten → (b.chan ch).slots = [] →
        let u := b.modChan ch fun _ => Chan.blank
        u.amendFits = true →
        exec (.channelAssign t k) s = .next (State.ended rowChannelAssign t k (.ok (u.noted b) 0))))

/-- POOL_MODE chooses pools for a tenant with no open endpoint, POOL_CREATE takes the lowest free number, POOL_DESTROY frees a
pool that no open endpoint uses and has its bytes cleared. -/
def Obligations.PoolCommands : Prop :=
  ∀ (t : Fin 256) (k : CmdPkt) (s : State),
    (s.accepts rowPoolMode t k = true →
      let b := s.begun rowPoolMode t k
      fieldAt k.params 0 1 ≤ 1 → b.hasOpenEp t = false →
      exec (.poolMode t k) s = .next (State.ended rowPoolMode t k
        (.ok (b.setF Fld.tenCisSharePoolMode t (fieldAt k.params 0 1)) 0))) ∧
    (∀ n, s.accepts rowPoolCreate t k = true →
      let b := s.begun rowPoolCreate t k
      let size := fieldAt k.params 0 2
      let count := fieldAt k.params 2 2
      let res := fieldAt k.params 4 1
      powerOfTwoIn size 64 16384 = true → 1 ≤ count → count ≤ 4096 → res ≤ 15 → b.bit Fld.tenCisSharePoolMode t = true →
      ((List.range 16).find? fun k => (Tab.find b.pools (t.val * 16 + k)).isNone) = some n → b.shareFits t (size * count) = true →
      exec (.poolCreate t k) s = .next (State.ended rowPoolCreate t k
        (.ok { b with pools := Tab.set b.pools (t.val * 16 + n) ⟨size, count, res⟩ } (BitVec.ofNat 64 n)))) ∧
    (s.accepts rowPoolDestroy t k = true →
      let b := s.begun rowPoolDestroy t k
      let n := fieldAt k.params 0 1
      let pool := Tab.getD b.pools (t.val * 16 + n) ⟨0, 0, 0⟩
      n ≤ 15 → (Tab.find b.pools (t.val * 16 + n)).isSome = true →
      (b.eps.any fun e => e.2.isOpen && e.2.owner == t.val && e.2.pool == some n) = false →
      exec (.poolDestroy t k) s = .next (State.ended rowPoolDestroy t k
        (.ok ({ b with pools := Tab.del b.pools (t.val * 16 + n) }.scrubs t (pool.size * pool.count)) 0)))

/-! ### Configuration and firmware commands -/

/-- CFG_STAGE, CFG_COMMIT and CFG_ROLLBACK take the chip lock and wait for the flash; CFG_VALIDATE keeps the outcome of the
checks; CFG_CONFIRM journals and then waits for the directory write; CFG_STATUS writes its block. -/
def Obligations.ConfigurationCommands : Prop :=
  ∀ (t : Fin 256) (k : CmdPkt) (s : State),
    (∀ img, s.accepts rowCfgStage t k = true →
      let b := s.begun rowCfgStage t k
      let a : DWord := BitVec.ofNat 64 (fieldAt k.params 0 8)
      let n := fieldAt k.params 8 4
      let b1 := b.emit (.hostRead t a n)
      132 ≤ n → n ≤ 262144 → b.windowOk t a n false = true → k.image = some img →
      (∀ f, b1.headCheck (padTo n img) = some f → 3 < f.code) →
      let u := b1.emit (.flashOp (0x410000 + 0x40000 * b.freeSlot) false)
      exec (.cfgStage t k) s = .next (settle { u with cfg := { u.cfg with busy := some ⟨t, 0x0201, k, true, none⟩ } })) ∧
    (s.accepts rowCfgValidate t k = true →
      let b := s.begun rowCfgValidate t k
      b.namesStaged (fieldAt k.params 0 4) = true → b.validate.1.mirrors = false →
      ∃ u, exec (.cfgValidate t k) s = .next u ∧
        match b.imgCheck (flashSlot b.cfg.flash b.cfg.staged) with
        | .ok floor => u.cfg.valid = true ∧ u.cfg.invalid = false ∧ u.cfg.check = 0 ∧ u.cfg.floor = floor
        | .error f => u.cfg.valid = false ∧ u.cfg.invalid = true ∧ u.cfg.check = f.code ∧ u.cfg.checkOffset = f.off) ∧
    (s.accepts rowCfgCommit t k = true →
      let b := s.begun rowCfgCommit t k
      s.alm.pend = [] → b.mirrors = false → exec (.cfgCommit t k) s = .next (match b.commitCheck k.params with
        | some r => State.ended rowCfgCommit t k r
        | none => settle { b with cfg := { b.cfg with blocking := 0, busy := some ⟨t, 0x0203, k, true, none⟩ } })) ∧
    (s.accepts rowCfgConfirm t k = true →
      let b := s.begun rowCfgConfirm t k
      b.cfg.probation = true → (b.slotGen b.cfg.active).toNat = fieldAt k.params 0 4 → b.now.toNat < b.cfg.deadline.toNat →
      ∃ u, exec (.cfgConfirm t k) s = .next u ∧
        u.cfg = { b.cfg with busy := some ⟨t, 0x0204, k, true, some b.nextLseq⟩ }) ∧
    (s.accepts rowCfgRollback t k = true →
      let b := s.begun rowCfgRollback t k
      s.anyFlr = false → b.cfg.previous < 3 →
      exec (.cfgRollback t k) s = .next (if b.imgVerified (flashSlot b.cfg.flash b.cfg.previous) then
        settle { b with cfg := { b.cfg with busy := some ⟨t, 0x0205, k, true, none⟩ } }
      else State.ended rowCfgRollback t k (.err b .authFailed))) ∧
    (s.accepts rowCfgStatus t k = true →
      let b := s.begun rowCfgStatus t k
      exec (.cfgStatus t k) s = .next (State.ended rowCfgStatus t k (.block b b.cfgBlock)))

/-- FW_STAGE programs the other slot; FW_ACTIVATE and FW_ROLLBACK wait for the directory where the other slot is ready, and
FW_CONFIRM while a trial runs. -/
def Obligations.FirmwareCommands : Prop :=
  ∀ (t : Fin 256) (k : CmdPkt) (s : State),
    let waits := fun (b : State) (op : Nat) => settle { b with cfg := { b.cfg with busy := some ⟨t, op, k, true, none⟩ } }
    (∀ img, s.accepts rowFwStage t k = true →
      let b := s.begun rowFwStage t k
      let a : DWord := BitVec.ofNat 64 (fieldAt k.params 0 8)
      let n := fieldAt k.params 8 4
      1 ≤ n → n ≤ 2097152 → b.windowOk t a n false = true → k.image = some img →
      exec (.fwStage t k) s = .next (waits ((b.emit (.hostRead t a n)).emit (.flashOp (fwSlotAddr (1 - b.cfg.fwBoot)) false))
        0x0207)) ∧
    (s.accepts rowFwActivate t k = true →
      let b := s.begun rowFwActivate t k
      b.fwHeld = false → b.cfg.restart = .none →
      exec (.fwActivate t k) s = .next (if b.otherReady then waits b 0x0208
        else State.ended rowFwActivate t k (.err b .wrongState))) ∧
    (s.accepts rowFwRollback t k = true →
      let b := s.begun rowFwRollback t k
      b.fwHeld = false → b.cfg.restart = .none →
      exec (.fwRollback t k) s = .next (if b.otherReady then waits b 0x020A
        else State.ended rowFwRollback t k (.err b .wrongState))) ∧
    (s.accepts rowFwConfirm t k = true →
      let b := s.begun rowFwConfirm t k
      b.trialRuns = true → exec (.fwConfirm t k) s = .next (waits b 0x0209))

/-! ### Devices, ports and endpoints -/

/-- DEV_ASSIGN and DEV_RELEASE set a device's owner, TREE_ADOPT brings a waiting device up at the address named, PORT_ENABLE,
PORT_DISABLE and PORT_RESET act on the port, PORT_RESET_ACK resumes what the reset halted. -/
def Obligations.DeviceCommands : Prop :=
  ∀ (t : Fin 256) (k : CmdPkt) (s : State),
    let a := fieldAt k.params 0 2
    let r : DWord := BitVec.ofNat 64 (fieldAt k.params 0 8)
    (∀ d, s.accepts rowDevAssign t k = true →
      let b := s.begun rowDevAssign t k
      let u := b.setOwner d.route (fieldAt k.params 2 1)
      b.placeOf a = some d → d.isHub = false → d.owner = 0 → b.devInUse a = false → u.amendFits = true →
      exec (.devAssign t k) s = .next (State.ended rowDevAssign t k (.ok (u.noted b) 0))) ∧
    (∀ d, s.accepts rowDevRelease t k = true →
      let b := s.begun rowDevRelease t k
      let u := b.setOwner d.route 0
      b.placeOf a = some d → b.devInUse a = false → u.amendFits = true →
      exec (.devRelease t k) s = .next (State.ended rowDevRelease t k (.ok (u.noted b) 0))) ∧
    (s.accepts rowTreeAdopt t k = true →
      let b := s.begun rowTreeAdopt t k
      let addr := fieldAt k.params 8 2
      let adopt := fun owner : Nat => (b.firstDevice owner).alter r fun q =>
        { q with step := .setAddr 0, forced := some addr, addr := addr, owner := owner }
      routeOk r = true → fieldAt k.params 10 1 < 2 → addr ≠ 0 → addr < 4096 → (b.placeAt r).isWaiting = true →
      b.addrTaken addr r = false →
      (b.topoAt r = none → exec (.treeAdopt t k) s = .next (State.ended rowTreeAdopt t k (.ok (adopt 0) 0))) ∧
      (∀ e, b.topoAt r = some e → fieldAt k.params 10 1 = 1 → e.addr = addr →
        exec (.treeAdopt t k) s = .next (State.ended rowTreeAdopt t k (.ok (adopt e.owner) 0)))) ∧
    (s.accepts rowPortEnable t k = true →
      let b := s.begun rowPortEnable t k
      let b1 := b.alter r fun q => { q with cause := 0 }
      routeOk r = true → (b.placeAt r).cause ≠ 0 → (b.placeAt r).disabling = false →
      ((b.placeAt r).connected = false → exec (.portEnable t k) s = .next (State.ended rowPortEnable t k (.ok b1 0))) ∧
      ((b.placeAt r).connected = true → parentOf r = none →
        exec (.portEnable t k) s = .next (State.ended rowPortEnable t k (.ok (b1.resetRoot r) 0))) ∧
      (∀ h, (b.placeAt r).connected = true → parentOf r = some h →
        exec (.portEnable t k) s = .next (State.ended rowPortEnable t k
          (.ok (b1.alter r fun q => { q with step := .queued, autonomous := !b.ready }) 0)))) ∧
    (s.accepts rowPortDisable t k = true →
      let b := s.begun rowPortDisable t k
      routeOk r = true → (b.placeAt r).cause = 0 →
      exec (.portDisable t k) s = .next (State.ended rowPortDisable t k (.ok (b.disablePort r 5) 0))) ∧
    (∀ d, s.accepts rowPortReset t k = true →
      let b := s.begun rowPortReset t k
      b.placeOf a = some d → d.owner = t → d.present = true → d.keptByReset = false → d.resetAsked = false →
      d.disabling = false →
      (parentOf d.route = none → ¬(routeLink d.route % 2 = 0 ∧ b.hState (routeLink d.route / 2) = 4) →
        exec (.portReset t k) s = .next (State.ended rowPortReset t k (.ok ((b.beginReset d.route).resetRoot d.route) 0))) ∧
      (parentOf d.route = none → routeLink d.route % 2 = 0 → b.hState (routeLink d.route / 2) = 4 →
        exec (.portReset t k) s = .next (State.ended rowPortReset t k
          (.ok (b.modLink (routeLink d.route) fun k => { k with resetWaits := true }) 0))) ∧
      (∀ h, parentOf d.route = some h → (b.placeAt h).served = true →
        exec (.portReset t k) s = .next (State.ended rowPortReset t k
          (.ok (b.alter d.route fun q => { q with resetAsked := true }) 0)))) ∧
    (∀ d, s.accepts rowPortResetAck t k = true →
      let b := s.begun rowPortResetAck t k
      let mine := fun v : Qp => v.resetHalt a && v.owner == some t.val
      b.placeOf a = some d → d.owner = t → (b.resumable mine) ≠ [] →
      exec (.portResetAck t k) s = .next (State.ended rowPortResetAck t k
        (.ok (b.resumeQps mine).deliverAll (BitVec.ofNat 64 (b.resumable mine).length))))

/-- EP_OPEN opens an endpoint direction with a basin or in a pool, EP_CLOSE closes it, EP_CLEAR_HALT clears its halt, returns the
device's toggles and resumes the tenant's queue pairs that the halt stopped; EP_QUERY, TREE_QUERY and TREE_LIST report. -/
def Obligations.EndpointCommands : Prop :=
  ∀ (t : Fin 256) (k : CmdPkt) (s : State),
    let fl := fieldAt k.params 2 1
    (∀ n, s.accepts rowEpOpen t k = true →
      let b := s.begun rowEpOpen t k
      let kind := epKind (bitsOf fl 1 2)
      let mps := fieldAt k.params 4 2
      let basin := fieldAt k.params 6 2
      let pool := fieldAt k.params 8 1
      let opened := fun (size : Nat) (p : Option Nat) => b.modEp n.addr n.ep n.dirIn fun e => { e with
        isOpen := true, owner := t.val, kind := kind, mps := mps, basin := size, pool := p, backoff := fieldAt k.params 10 2
        waiting := false, waitBeat := false }
      b.namedEp t k.params = .ok n → fl < 8 → (kind = .control ↔ n.ep = 0) → ¬(kind = .strike ∧ n.dirIn = true) → 1 ≤ mps →
      mps ≤ (if n.ep = 0 then 64 else speedMps (((b.placeOf n.addr).map (·.speed)).getD 3)) →
      (∀ c ∈ b.epContracts n, c.maxp ≤ mps) → (b.ep n.addr n.ep n.dirIn).isOpen = false →
      (b.eps.filter fun e => e.2.isOpen).length < 16384 →
      (b.bit Fld.tenCisSharePoolMode t = false → pool = 0 → powerOfTwoIn basin 64 16384 = true → max 64 (2 * mps) ≤ basin →
        b.shareFits t basin = true →
        exec (.epOpen t k) s = .next (State.ended rowEpOpen t k (.ok (opened basin none) 0))) ∧
      (∀ q, b.bit Fld.tenCisSharePoolMode t = true → basin = 0 → pool < 16 → Tab.find b.pools (t.val * 16 + pool) = some q →
        mps ≤ q.size → (∀ c ∈ b.epContracts n, c.poolNeed ≤ q.reserve) → b.poolReserved t pool + q.reserve ≤ q.count →
        exec (.epOpen t k) s = .next (State.ended rowEpOpen t k (.ok (opened 0 (some pool)) 0)))) ∧
    (∀ n, s.accepts rowEpClose t k = true →
      let b := s.begun rowEpClose t k
      b.namedEp t k.params = .ok n → fl < 2 → (b.ep n.addr n.ep n.dirIn).isOpen = true → b.epContracts n = [] →
      b.epNamed n = false →
      exec (.epClose t k) s = .next (State.ended rowEpClose t k
        (.ok (b.closeEps fun e => e.addr == n.addr && e.ep == n.ep && e.dirIn == n.dirIn) 0))) ∧
    (∀ n, s.accepts rowEpClearHalt t k = true →
      let b := s.begun rowEpClearHalt t k
      let mine := fun v : Qp => (v.haltCause == 1 || v.haltCause == 2) && v.owner == some t.val &&
        (v.haltAddr == epKey n.addr n.ep n.dirIn || (n.ep == 0 && v.haltAddr == epKey n.addr n.ep !n.dirIn))
      let byReset := b.qps.any fun v =>
        v.2.state = .halted && v.2.owner == some t.val && v.2.resetHalt n.addr && b.boundTo n.addr v.1 v.2
      let u := b.modEp n.addr n.ep n.dirIn fun e => { e with halted := false, errs := 0 }
      let u := if n.ep = 0 then u.modEp n.addr 0 (!n.dirIn) fun e => { e with halted := false, errs := 0 } else u
      b.namedEp t k.params = .ok n → fl < 2 →
      ((b.ep n.addr n.ep n.dirIn).halted = true ∨ b.resumable mine ≠ [] ∨ byReset = false) →
      exec (.epClearHalt t k) s = .next (State.ended rowEpClearHalt t k (.ok
        ((u.modDevEps n.addr fun e => { e with toggle := false }).resumeQps mine).deliverAll
        (match b.resumable mine with | q :: _ => BitVec.ofNat 64 q | [] => 0xFFFF)))) ∧
    (∀ n, s.accepts rowEpQuery t k = true →
      let b := s.begun rowEpQuery t k
      let e := b.ep n.addr n.ep n.dirIn
      b.namedEp t k.params = .ok n → fl < 2 → e.isOpen = true →
      exec (.epQuery t k) s = .next (State.ended rowEpQuery t k (.ok b (BitVec.ofNat 64
        (e.mps + e.basin * 65536 + (if e.halted then 2 ^ 32 else 0) + min e.errs 7 * 2 ^ 33))))) ∧
    (∀ d, s.accepts rowTreeQuery t k = true →
      let b := s.begun rowTreeQuery t k
      let r : DWord := BitVec.ofNat 64 (fieldAt k.params 0 8)
      (if r = 0 then b.placeOf (fieldAt k.params 8 2)
        else if routeOk r && b.known (b.placeAt r) then some (b.placeAt r) else none) = some d →
      (t.val = 0 ∨ d.owner = t) →
      exec (.treeQuery t k) s = .next (State.ended rowTreeQuery t k (.block b (b.pathRecord d)))) ∧
    (s.accepts rowTreeList t k = true →
      let b := s.begun rowTreeList t k
      fieldAt k.params 0 1 ≤ 15 → fieldAt k.params 1 1 ≤ 1 →
      exec (.treeList t k) s = .next (State.ended rowTreeList t k (.block b
        (((b.treeList t (2 * fieldAt k.params 0 1 + fieldAt k.params 1 1)).take (fieldAt k.params 2 2)).flatMap b.pathRecord))))

/-! ### Contracts, strikes, halts, the Millrace -/

/-- With no change pending, CON_OPEN and CON_REPLACE admit and place a contract and accept the change, and CON_CLOSE accepts the
set without it; while one is pending, a command that would make another waits and is not taken. CON_QUERY writes its record,
WEIR_QUOTA and WEIR_MODE take effect three frames on. -/
def Obligations.ContractCommands : Prop :=
  ∀ (t : Fin 256) (k : CmdPkt) (s : State),
    (∀ id c c1 floor, s.accepts rowConOpen t k = true → s.alm.pend = [] →
      let b := s.begun rowConOpen t k
      let keep := b.latestContracts.filter fun d => some d.id != none
      let u := (b.acceptChange (keep ++ [c1]) floor).bind (if (b.qp c1.qp).contract.isNone then [c1] else [])
      b.freeContract = some id → Contract.parse k.params t 0 = some c → b.conCheck keep none c = none →
      b.placeOne keep { c with id := id } b.floorLimit b.strictNext = .ok (c1, floor) → almanacFull (keep ++ [c1]) = false →
      b.shareFits t c1.areaBytes = true → u.amendFits = true →
      exec (.conOpen t k) s = .next (State.ended rowConOpen t k
        (.ok (u.noted b) (BitVec.ofNat 64 (id + b.nextSwitch.toNat * 65536))))) ∧
    (∀ c floor, s.accepts rowConClose t k = true → s.alm.pend = [] →
      let b := s.begun rowConClose t k
      let keep := b.latestContracts.filter fun d => d.id != c.id
      let u := b.acceptChange keep floor
      b.namedContract t (fieldAt k.params 0 2) = .ok c → b.admission keep b.floorLimit = .ok floor →
      (b.strictNext = true → b.windowShort keep floor b.quantum = false) → u.amendFits = true →
      exec (.conClose t k) s = .next (State.ended rowConClose t k
        (.ok (u.noted b) (BitVec.ofNat 64 (b.nextSwitch.toNat * 65536))))) ∧
    (∀ old id c c1 floor, s.accepts rowConReplace t k = true → s.alm.pend = [] →
      let b := s.begun rowConReplace t k
      let keep := b.latestContracts.filter fun d => some d.id != some old.id
      let u := (b.acceptChange (keep ++ [c1]) floor).bind (if (b.qp c1.qp).contract.isNone then [c1] else [])
      b.namedContract t (fieldAt k.params 0 2) = .ok old → b.freeContract = some id →
      Contract.parse (k.params.drop 8) t 0 = some c → b.conCheck keep (some old.id) c = none →
      b.placeOne keep { c with id := id } b.floorLimit b.strictNext = .ok (c1, floor) → almanacFull (keep ++ [c1]) = false →
      b.shareFits t c1.areaBytes = true → u.amendFits = true →
      exec (.conReplace t k) s = .next (State.ended rowConReplace t k
        (.ok (u.noted b) (BitVec.ofNat 64 (id + b.nextSwitch.toNat * 65536))))) ∧
    (s.alm.pend ≠ [] →
      let more := fun u : State => s.alm.pend.length < u.alm.pend.length
      (more (runCmd rowConOpen t k (fun s p => s.conChange t p none) s) → exec (.conOpen t k) s = .next (settle s)) ∧
      (more (runCmd rowConClose t k (bodyConClose t) s) → exec (.conClose t k) s = .next (settle s)) ∧
      (more (runCmd rowConReplace t k (bodyConReplace t) s) → exec (.conReplace t k) s = .next (settle s))) ∧
    (∀ c, s.accepts rowConQuery t k = true →
      let b := s.begun rowConQuery t k
      (b.allContracts.find? fun c => c.id == fieldAt k.params 0 2) = some c → c.tenant = t →
      exec (.conQuery t k) s = .next (State.ended rowConQuery t k (.block b c.record))) ∧
    (s.accepts rowWeirQuota t k = true →
      let b := s.begun rowWeirQuota t k
      let u := { b with alm := { b.alm with
        quanta := b.alm.quanta ++ [(b.time.frame + 3, fieldAt k.params 0 1, fieldAt k.params 2 2)] } }
      b.quantumOk (fieldAt k.params 0 1) (fieldAt k.params 2 2) = true →
      (b.strictNext = true → b.windowShort b.latestContracts b.floorNow u.quantum = false) → u.amendFits = true →
      exec (.weirQuota t k) s = .next (State.ended rowWeirQuota t k (.ok (u.noted b) ((b.time.frame + 3).setWidth 64)))) ∧
    (s.accepts rowWeirMode t k = true →
      let b := s.begun rowWeirMode t k
      let m := fieldAt k.params 0 1
      let u := { b with alm := { b.alm with mode := b.alm.mode ++ [(b.time.frame + 3, m)] } }
      m ≤ 1 → (m = 1 → b.windowShort b.latestContracts b.floorNow b.quantum = false) → u.amendFits = true →
      exec (.weirMode t k) s = .next (State.ended rowWeirMode t k (.ok (u.noted b) ((b.time.frame + 3).setWidth 64))))

/-- STRIKE_WITHDRAW withdraws every uncommitted strike of the queue pairs named and counts them, STRIKE_RESUME ends their hold;
HALT_BEGIN begins a halt unless one stands, HALT_END ends it while HALT_IN# is released. -/
def Obligations.StrikeAndHaltCommands : Prop :=
  ∀ (t : Fin 256) (k : CmdPkt) (s : State),
    (∀ qs, s.accepts rowStrikeWithdraw t k = true →
      let b := s.begun rowStrikeWithdraw t k
      b.strikeQps t (fieldAt k.params 0 2) = .ok qs →
      exec (.strikeWithdraw t k) s = .next (State.ended rowStrikeWithdraw t k
        (.ok (qs.foldl (fun s q => s.withdrawQp q Entry.uncommitted .retracted) b)
          (BitVec.ofNat 64 ((qs.map fun q => ((b.qp q).entries.filter Entry.uncommitted).length).sum))))) ∧
    (∀ qs, s.accepts rowStrikeResume t k = true →
      let b := s.begun rowStrikeResume t k
      b.strikeQps t (fieldAt k.params 0 2) = .ok qs →
      exec (.strikeResume t k) s = .next (State.ended rowStrikeResume t k
        (.ok (qs.foldl (fun s q => s.modQp q fun v => { v with held := false }) b)
          (BitVec.ofNat 64 (qs.filter fun q => (b.qp q).held).length)))) ∧
    (s.accepts rowHaltBegin t k = true →
      let b := s.begun rowHaltBegin t k
      (b.halt.stands = true → exec (.haltBegin t k) s = .next (State.ended rowHaltBegin t k (.ok b 1))) ∧
      (b.halt.stands = false → exec (.haltBegin t k) s = .next (State.ended rowHaltBegin t k (.ok (b.beginHalt 2) 0)))) ∧
    (s.accepts rowHaltEnd t k = true →
      let b := s.begun rowHaltEnd t k
      b.halt.stands = true → b.halt.pinLow = false →
      exec (.haltEnd t k) s = .next (State.ended rowHaltEnd t k (.ok b.endHalt 0)))

/-- MRC_SET and MRC_MODE write the seven parameter words, which act three frames on, and MRC_QUERY reads eight registers. -/
def Obligations.MillraceCommands : Prop :=
  ∀ (t : Fin 256) (k : CmdPkt) (s : State),
    let written := fun (b : State) (ws : List Word) =>
      let u := (b.mrcWrite ws).1
      { u with cfg := { u.cfg with shadow := { u.cfg.shadow with mrc := ws } } }
    (s.accepts rowMrcSet t k = true →
      let b := s.begun rowMrcSet t k
      let ws := b.mrcSelect k.params
      fieldAt k.params 0 2 < 128 → (∀ x ∈ mrcRegs.zip ws, x.1.cleanWord x.2 = true) → b.mrcOk ws = true →
      (written b ws).amendFits = true →
      exec (.mrcSet t k) s = .next (State.ended rowMrcSet t k
        (.ok ((written b ws).noted b) ((b.time.frame + 3).setWidth 64)))) ∧
    (s.accepts rowMrcMode t k = true →
      let b := s.begun rowMrcMode t k
      let m := fieldAt k.params 0 1
      let ws := putBits (b.reg .mrcCtrl 0) 0 2 m :: b.mrcWords.drop 1
      m ≤ 3 → b.mrcOk ws = true → (written b ws).amendFits = true →
      exec (.mrcMode t k) s = .next (State.ended rowMrcMode t k
        (.ok ((written b ws).noted b) ((b.time.frame + 3).setWidth 64)))) ∧
    (s.accepts rowMrcQuery t k = true →
      let b := s.begun rowMrcQuery t k
      exec (.mrcQuery t k) s = .next (State.ended rowMrcQuery t k (.block b
        (leBytes 4 (b.reg .mrcCtrl 0).toNat ++ leBytes 4 (b.reg .mrcLenMin 0).toNat ++ leBytes 4 (b.reg .mrcLenMax 0).toNat ++
          leBytes 4 (b.reg .mrcLenFixed 0).toNat ++ leBytes 4 (b.reg .mrcAngleOfs 0).toNat ++
          leBytes 4 (b.reg .mrcEncCfg 0).toNat ++ leBytes 4 (b.reg .mrcStatus 0).toNat ++
          leBytes 4 (b.reg .mrcPhase 0).toNat))))

/-! ### Power, security and the pair -/

/-- PWR_VOTE sets and withdraws a tenant's votes, PWR_STATE sets the target, ALARM_SET and ALARM_CLEAR the alarm, PWR_QUERY writes
its record. -/
def Obligations.PowerCommands : Prop :=
  ∀ (t : Fin 256) (k : CmdPkt) (s : State),
    (s.accepts rowPwrVote t k = true →
      let b := s.begun rowPwrVote t k
      let add := fieldAt k.params 0 2
      let del := fieldAt k.params 2 2
      let v := ((List.range 11).map fun d =>
        if bitsOf del d 1 = 1 then 0 else if bitsOf add d 1 = 1 ∨ bitsOf (b.votes t) d 1 = 1 then 2 ^ d else 0).sum
      (∀ d < 16, ¬(bitsOf add d 1 = 1 ∧ bitsOf del d 1 = 1)) →
      (∀ d < 16, bitsOf add d 1 = 1 ∨ bitsOf del d 1 = 1 → bitsOf 0x7FC d 1 = 1 ∧ bitsOf (b.allowedMask t) d 1 = 1) →
      exec (.pwrVote t k) s = .next (State.ended rowPwrVote t k
        (.ok ((b.setF Fld.tenPwrVoteVotes t v).votesChanged b) (BitVec.ofNat 64 v)))) ∧
    (s.accepts rowPwrState t k = true →
      let b := s.begun rowPwrState t k
      let n := fieldAt k.params 0 1
      n ≤ 4 → (b.entryStep = 0 ∨ b.target ≤ n) →
      exec (.pwrState t k) s = .next (State.ended rowPwrState t k (.ok (b.setF Fld.pwrStateTarget 0 n) 0))) ∧
    (s.accepts rowAlarmSet t k = true →
      let b := s.begun rowAlarmSet t k
      let a : DWord := BitVec.ofNat 64 (fieldAt k.params 0 8)
      let b1 := b.setReg64 .pwrAlarmLo .pwrAlarmHi 0 a
      ((a = 0 ∨ b.rtc.toNat < a.toNat) →
        exec (.alarmSet t k) s = .next (State.ended rowAlarmSet t k (.ok b1 0))) ∧
      (a ≠ 0 → a.toNat ≤ b.rtc.toNat →
        exec (.alarmSet t k) s = .next (State.ended rowAlarmSet t k (.ok b1.alarmFires 0)))) ∧
    (s.accepts rowAlarmClear t k = true →
      exec (.alarmClear t k) s = .next (State.ended rowAlarmClear t k
        (.ok ((s.begun rowAlarmClear t k).setReg64 .pwrAlarmLo .pwrAlarmHi 0 0) 0))) ∧
    (s.accepts rowPwrQuery t k = true →
      let b := s.begun rowPwrQuery t k
      exec (.pwrQuery t k) s = .next (State.ended rowPwrQuery t k (.block b (b.pwrRecord t))))

/-- SEC_KEY_LOAD keeps the key that the block unwraps to, SEC_KEY_ERASE takes it away, SEC_LIFECYCLE and SEC_ATTEST report,
SEC_DECOMMISSION burns, zeroises and ends in lifecycle 3. -/
def Obligations.SecurityCommands : Prop :=
  ∀ (t : Fin 256) (k : CmdPkt) (s : State), s.domainOn 5 = true →
    (s.accepts rowSecKeyLoad t k = true →
      let b := s.begun rowSecKeyLoad t k
      let p := k.params
      let label : Word := BitVec.ofNat 32 (fieldAt p 4 4)
      p.length = 144 → fieldAt p 0 2 = 1 → b.lifecycle = 1 → b.lockdown = false → b.cfg.shadow.seals t = true →
      b.sealedSlot t = false → fieldAt p 2 1 = t → fieldAt p 8 8 = b.serial.toNat →
      exec (.secKeyLoad t k) s = .next (State.ended rowSecKeyLoad t k
        (match Config.gcmOpen (Config.wrapKey ((p.drop 16).take 64) b.serial) ((p.drop 80).take 12) (p.take 16)
            ((p.drop 92).take 32) ((p.drop 124).take 16) with
          | none => .err b .authFailed
          | some key => .ok (({ b with sec := { b.sec with keys := Tab.set b.sec.keys t ⟨key, label⟩ } }.setF
              Fld.secKeyStatusLoaded t 1).setReg .secKeyLabel t label) 0))) ∧
    (s.accepts rowSecKeyErase t k = true →
      let b := s.begun rowSecKeyErase t k
      b.lifecycle = 1 → b.lockdown = false → b.sealedSlot t = false →
      exec (.secKeyErase t k) s = .next (State.ended rowSecKeyErase t k (.ok ((b.eraseKey t).votesChanged b) 0))) ∧
    (s.accepts rowSecLifecycle t k = true →
      let b := s.begun rowSecLifecycle t k
      exec (.secLifecycle t k) s = .next (State.ended rowSecLifecycle t k (.ok b (BitVec.ofNat 64
        (b.lifecycle + 256 * b.getF Fld.secStatusDebugCount 0 + 2 ^ 16 * b.getF Fld.secStatusDebugLock 0 +
          2 ^ 17 * b.getF Fld.secStatusLockdown 0))))) ∧
    (s.accepts rowSecAttest t k = true →
      let b := s.begun rowSecAttest t k
      let r := b.attestBody t (k.params.take 32)
      b.lifecycle ≠ 2 → b.lockdown = false → b.sec.identity = true →
      exec (.secAttest t k) s = .next (State.ended rowSecAttest t k
        (.block b (r ++ padTo 64 (Config.ecdsaSign (Config.sha256 r)))))) ∧
    (s.accepts rowSecDecommission t k = true →
      let b := s.begun rowSecDecommission t k
      fieldAt k.params 0 4 = 0x4445434D → b.cfg.probation = false → b.cfg.trial = false →
      exec (.secDecommission t k) s = .next (State.ended rowSecDecommission t k
        (.ok ((((b.burn 4 0).zeroise).setF Fld.secStatusLifecycle 0 3).votesChanged b) 0)))

/-- TWIN_QUERY writes its record, TWIN_SWITCHOVER fixes the switch frame three frames on and sends SWITCH, TWIN_RESYNC starts the
bulk copy. -/
def Obligations.TwinCommands : Prop :=
  ∀ (t : Fin 256) (k : CmdPkt) (s : State),
    (s.accepts rowTwinQuery t k = true →
      let b := s.begun rowTwinQuery t k
      exec (.twinQuery t k) s = .next (State.ended rowTwinQuery t k (.block b b.twinRecord))) ∧
    (s.accepts rowTwinSwitchover t k = true →
      let b := s.begun rowTwinSwitchover t k
      let f := b.time.frame + 3
      b.role = 2 → b.sync = 2 → b.getF Fld.ledStatusMirrorLag 0 = 0 →
      (b.qps.all fun v => v.2.owner.isNone || v.2.state = .disabled) = true →
      (b.qps.any fun v => v.2.entries.any fun e => e.strikeOut) = false → b.cfg.probation = false → b.cfg.trial = false →
      exec (.twinSwitchover t k) s = .next (State.ended rowTwinSwitchover t k
        (.ok ({ b with twn := { b.twn with switchFrame := some f, switchAcked := false } }.twinSend 8 (leBytes 4 f.toNat))
          (f.setWidth 64)))) ∧
    (s.accepts rowTwinResync t k = true →
      let b := s.begun rowTwinResync t k
      b.role = 2 → b.twinUp = true →
      exec (.twinResync t k) s = .next (State.ended rowTwinResync t k (.ok (b.setSync 1).sendCopy 0)))

/-! ### Transfers, host accesses, programs and scrubs -/

/-- The completions of a queue pair leave in order: while no payload write waits, the oldest entry, once finished, takes a free
seat of the ring, or a holding entry while the ring is full or entries are held, and waits while both are full (R153, R157,
R158, R166). An entry that arrives is consumed in order and answered BAD_ENTRY where its kind is none (R148, R150); the
moderation timer sends its message while a completion stands unsignalled (R338), and a pausing channel is paused once nothing
of it is out (R184). -/
def Obligations.TransferEvents : Prop :=
  ∀ (s : State) (q : Fin 4096), let v := s.qp q
    let w := s.writesLeave
    (w.payloadWrite ≠ none → exec (.transferCompletion q) s = .next (settle w)) ∧
    (∀ e rest, w.payloadWrite = none → (w.qp q).entries = e :: rest → w.mayComplete q e = true →
      (w.qp q).state ≠ .faulted → (w.qp q).state ≠ .disabled →
      let v := w.qp q
      let popped := (w.setQp q { v with entries := rest }).dropStarts q e.idx
      let a := if withdrawn e.status then popped.rewind q else popped.commitElems e
      let room := v.ringFree ≠ 0 ∧ v.holding = []
      let b := a.putCompletion q e.completion
      (room → (b.qp q).state ≠ .faulted → exec (.transferCompletion q) s =
        .next (settle (((b.publishHead q (if e.noIrq then 0 else 1)).drainCheck q).sweepEps))) ∧
      (room → (b.qp q).state = .faulted → exec (.transferCompletion q) s = .next (settle b.sweepEps)) ∧
      (¬room → v.holding.length < 64 →
        let kept := if v.holding = [] then a.writeWords 4 (4 * q) else a
        exec (.transferCompletion q) s = .next (settle
          ((kept.modQp q fun v => { v with holding := v.holding ++ [(e.noIrq, e.completion)] }).sweepEps))) ∧
      (¬room → 64 ≤ v.holding.length → exec (.transferCompletion q) s = .next (settle w.sweepEps))) ∧
    (w.payloadWrite = none → (∀ e rest, (w.qp q).entries = e :: rest → w.mayComplete q e = false) →
      exec (.transferCompletion q) s = .next (settle w.sweepEps)) ∧
    (∀ t, v.owner = some t → v.timer = true → 2 ≤ v.modCount → v.unsignalled ≠ 0 →
      exec (.moderationTimerExpiry q) s = .next (settle ((s.setQp q { v with unsignalled := 0, timer := false }).msix t v.vector))) ∧
    (∀ (data : List Byte) (r : Req), (s.dma.reqs.find? fun r => decide (r.what = .subEntry q)) = some r →
      let rest : State := { s with dma := { s.dma with reqs := s.dma.reqs.filter fun x => x.id != r.id } }
      (v.state = .disabled ∨ v.state = .faulted → v.contract = none → rest.landed q = none →
        exec (.submissionEntryArrival q data) s = .next (settle rest)) ∧
      (∀ k, v.state ≠ .disabled → v.state ≠ .faulted → v.contract = none → XKind.ofCode (fieldAt (padTo 64 data) 0 1 % 16) = some k →
        let t := v.owner.getD 0
        let e := Entry.ofBytes (padTo 64 data) v.sqCons k s.alm.order
        let s0 := rest.setQp q { v with sqCons := v.sqCons + 1 }
        let s1 := if v.entries = [] then s0.writeWords 2 q else s0
        let u := State.enterEntry { s1 with alm := { s1.alm with order := s1.alm.order + 1 } } q t e
        rest.entryCheck q t (padTo 64 data) e = none → (u.qp q).contract = none →
        (u.landed q = none → exec (.submissionEntryArrival q data) s = .next (settle u)) ∧
        (∀ e' p, u.landed q = some e' → u.entryPlace e' = some p →
          exec (.submissionEntryArrival q data) s = .next (settle (u.resumeFor p)))) ∧
      (∀ b, v.state = .running → v.contract = none → b = padTo 64 data → XKind.ofCode (fieldAt b 0 1 % 16) = none →
        let bad := Entry.ofBytes b v.sqCons .bulk s.alm.order
        ∃ u : State, exec (.submissionEntryArrival q data) s = .next u ∧ (u.qp q).sqCons = v.sqCons + 1 ∧
          (u.qp q).entries = v.entries ++ [bad.finish .badEntry s.now s.time.frame])) ∧
    (∀ ch : Fin 64,
      ((w.chan ch).state = .pausing → w.chanBusy ch = false → w.chanUnproved ch = false →
        exec (.dmaPauseDrained ch) s = .next (settle (w.modChan ch fun c => { c with state := .paused }))) ∧
      ((w.chan ch).state ≠ .pausing ∨ w.chanBusy ch = true ∨ w.chanUnproved ch = true →
        exec (.dmaPauseDrained ch) s = .next (settle w)))

/-- The arbiter issues the request its order chooses: a fetch, a payload read, an IN write or a flush read, each checked against
the tenant's windows first: outside them no request leaves and the queue pair, load, command path or transfer takes the fault
of its table; what is read of the Cistern for it is read first (R148, R166, R173, R176, R190, R308). -/
def Obligations.HostRequests : Prop :=
  ∀ (s : State),
    (s.readChoice = none → exec (.hostRequestIssue false false) s = .next (settle s)) ∧
    (let w := s.writesLeave;
      (w.writeChoice = none → exec (.hostRequestIssue true false) s = .next (settle w)) ∧
      (∀ c q idx e, w.writeChoice = some c → c.what = .flush q idx → (w.qp q).entry idx = some e →
        let r := w.readFor q e false
        (r.2 = true → exec (.hostRequestIssue true false) s = .next (settle r.1)) ∧
        (r.2 = false → exec (.hostRequestIssue true false) s = .next (settle (if r.1.windowOk c.tenant c.addr 4 true then
          (r.1.issue c).emit (.flushRead c.tenant c.addr)
          else (r.1.isoRefuse c.tenant c.addr).modEntry q idx fun e =>
            Entry.cutOff { e with unflushed := [] } .windowFault true r.1.now r.1.time.frame)))) ∧
      (∀ c q idx e, w.writeChoice = some c → c.what = .inWrite q idx → (w.qp q).entry idx = some e → e.prog = false →
        let r := w.readFor q e true
        (r.2 = true → exec (.hostRequestIssue true false) s = .next (settle r.1)) ∧
        (r.2 = false → exec (.hostRequestIssue true false) s = .next (settle (if r.1.windowOk c.tenant c.addr c.len true then
          (r.1.modEntry q idx fun x => { x with
            data := x.data.drop c.len, xfer := x.xfer - c.len
            unflushed := x.unflushed ++ [(c.addr, e.data.take c.len)] }).issueWrite c.what c.tenant c.addr (e.data.take c.len)
          else r.1.xferWindow q idx c.tenant c.addr)))) ∧
      (∀ c q idx, w.writeChoice = some c → c.what = .inWrite q idx → ∃ u : State,
        exec (.hostRequestIssue true true) s = .next u ∧ u.getF Fld.gblCisEccLastRegion 0 = 4)) ∧
    (∀ c q, s.readChoice = some c → c.what = .subEntry q →
      (s.windowOk c.tenant c.addr 64 false = true → exec (.hostRequestIssue false false) s =
        .next (settle (((s.issue c).modQp q fun v => { v with
          fetchIdx := v.fetchIdx + 1
          doorbells := v.doorbells.filter fun d => d.1 != v.fetchIdx + 1 }).emit (.hostRead c.tenant c.addr 64)))) ∧
      (s.windowOk c.tenant c.addr 64 false = false → exec (.hostRequestIssue false false) s =
        .next (settle ((s.isoRefuse c.tenant c.addr).qpFault q 1)))) ∧
    (∀ c t, s.readChoice = some c → c.what = .command t →
      exec (.hostRequestIssue false false) s = .next (settle (if s.windowOk t c.addr 64 false then
        (s.issue c).emit (.hostRead t c.addr 64) else (s.isoRefuse t c.addr).pathFault t))) ∧
    (∀ c q idx e, s.readChoice = some c → c.what = .payload q idx → (s.qp q).entry idx = some e → e.prog = false →
      let r := s.readFor q e false
      (r.2 = true → exec (.hostRequestIssue false false) s = .next (settle r.1)) ∧
      (r.2 = false → exec (.hostRequestIssue false false) s = .next (settle (if r.1.windowOk c.tenant c.addr c.len false then
        ((r.1.issue c).modEntry q idx fun e => { e with xfer := e.xfer - c.len, inFlight := e.inFlight + c.len }).emit
          (.hostRead c.tenant c.addr c.len)
        else r.1.xferWindow q idx c.tenant c.addr)))) ∧
    (∀ c ch slot, s.readChoice = some c → c.what = .program ch slot → s.windowOk c.tenant c.addr 64 false = true →
      exec (.hostRequestIssue false false) s = .next (settle
        (((s.modChan ch fun x => { x with loading := x.loading.filter fun y => y.1 != slot }).issue c).emit
          (.hostRead c.tenant c.addr 64)))) ∧
    (∀ c q idx, s.readChoice = some c → c.what = .payload q idx → ∃ u : State,
      exec (.hostRequestIssue false true) s = .next u ∧ u.getF Fld.gblCisEccLastRegion 0 = 2)

/-- What comes back from the host: a completion of a payload read joins its transfer in the order of the requests, a flush read
proves the writes it followed, a failed access (of a posted write, an error of the staging only) is retried up to the limit
and then faults the queue pair, ends the transfer or halts the channel, and a program structure that parses takes its slot
while one that does not is refused (R155, R169, R176, R178, R179, R182). -/
def Obligations.HostAnswers : Prop :=
  ∀ (s : State),
    let without := fun id : Nat => ({ s with dma := { s.dma with reqs := s.dma.reqs.filter fun x => x.id != id } } : State)
    (∀ (id : Nat) (r : Req) (kind : HostErr) (data : List Byte), s.req id = some r →
      (∀ q idx, r.what = .payload q idx →
        let s1 : State := { s with dma := { s.dma with
          reqs := s.dma.reqs.map fun x => if x.id == id then { x with data := some data } else x } }
        exec (.hostReadCompletion id data) s = .next (settle ((s1.retryDone q idx).landPayload q idx s1.dma.reqs))) ∧
      (∀ t, r.what = .command t → exec (.hostReadCompletion id data) s = .next (settle (without id))) ∧
      (∀ q idx, r.what = .flush q idx → exec (.flushReadCompletion id) s = .next (settle
        (((without id).retryDone q idx).modEntry q idx fun e =>
          let left := e.unflushed.drop r.elem
          if e.phase = .flushing ∧ e.data = [] ∧ left = [] then { e with unflushed := left, phase := .finished }
          else { e with unflushed := left }))) ∧
      (r.what.isWrite = true → kind ≠ .staging → exec (.hostAccessFailure id kind) s = .next (settle s)) ∧
      (r.what.isWrite = false ∨ kind = .staging → r.tries < s.retryLimit → exec (.hostAccessFailure id kind) s = .next (settle (s.retry r))) ∧
      (∀ q, s.retryLimit ≤ r.tries → r.what = .subEntry q → exec (.hostAccessFailure id kind) s =
        .next (settle (((without id).fnErr r.tenant r.addr false (errKind kind) 1).qpFault q 2))) ∧
      (∀ t, s.retryLimit ≤ r.tries → r.what = .command t → exec (.hostAccessFailure id kind) s =
        .next (settle (((without id).fnErr t r.addr false (errKind kind) 1).pathFault t))) ∧
      (∀ q idx, s.retryLimit ≤ r.tries →
        (r.what = .payload q idx → exec (.hostAccessFailure id kind) s =
          .next (settle ((without id).xferFail q idx (errKind kind) false r.addr))) ∧
        (r.what = .inWrite q idx → kind = .staging → exec (.hostAccessFailure id kind) s =
          .next (settle ((without id).xferFail q idx (errKind kind) true r.addr))) ∧
        (r.what = .flush q idx → exec (.hostAccessFailure id kind) s =
          .next (settle ((without id).xferFail q idx 6 true r.addr)))) ∧
      (∀ q, s.retryLimit ≤ r.tries → kind = .staging →
        (r.what = .completion q → exec (.hostAccessFailure id kind) s =
          .next (settle (((without id).fnErr r.tenant r.addr true 5 1).qpFault q 2))) ∧
        (r.what = .head q → exec (.hostAccessFailure id kind) s =
          .next (settle (((without id).fnErr r.tenant r.addr true 5 2).qpFault q 2)))) ∧
      (∀ ch slot, s.retryLimit ≤ r.tries → r.what = .program ch slot → exec (.hostAccessFailure id kind) s = .next (settle
        ((((without id).fnErr r.tenant r.addr false (errKind kind) 3).loadRefused ch).modChan ch fun x =>
          { x with refetch := x.refetch.filter fun y => y.1 != slot }))) ∧
      (∀ q idx e, s.retryLimit ≤ r.tries → r.what = .payload q idx → (s.qp q).entry idx = some e → e.prog = true →
        exec (.hostAccessFailure id kind) s =
          .next (settle ((without id).chanHalt e.chan (errKind kind) false (e.xfer == 0) r.addr (some (q, idx)))))) ∧
    (∀ (ch : Fin 64) (slot : Fin 16) (data : List Byte) (r : Req),
      (s.dma.reqs.find? fun r => decide (r.what = .program ch slot)) = some r →
      let c := s.chan ch
      let s0 := s.modChan ch fun c => { c with refetch := c.refetch.filter fun x => x.1 != slot.val }
      let gone := ({ s0 with dma := { s0.dma with reqs := s0.dma.reqs.filter (·.id != r.id) } } : State).writeWords 3 ch
      (∀ (t : Nat) (p : Prog), c.owner = some t → Prog.parse data = some p →
        (c.refetch.find? fun x => x.1 == slot.val) = none →
        gone.slotBusy ch slot = false → (gone.qp p.qp).owner = some t →
        (c.slots.any fun e => e.1 != slot.val && e.2.qp == p.qp) = false →
        exec (.programStructureFetched ch slot data) s = .next (settle (gone.modChan ch fun c => { c with
          slots := Tab.set c.slots slot { p with addr := r.addr }
          state := if c.state = .stopped then (if c.pause then .pausing else .running) else c.state }))) ∧
      (Prog.parse data = none → exec (.programStructureFetched ch slot data) s = .next (settle (gone.loadRefused ch))))

/-- What the patrol scrub does: a corrected error of a word it reaches is counted; an uncorrected one is counted, located and
raises the PF's cause, and the word stands in error until it is used or written; a word that the patrol does not reach (it is
off, or has not come there) stands in error, and its first use counts it. The end of a release scrub clears SCRUBBING and the
released bytes, and shares that waited for it settle (R190 to R192). Writes with an effect of their own: the register window's
ports of the PF, CRI_CAUSE_EN, which raises a cause that is enabled while it stands, the vector control of the MSI-X table,
which releases a pending vector, and the Millrace's parameters, refused as a whole with MRC_STATUS.REFUSED where their checks
fail (R77, R309, R335, R337). -/
def Obligations.ScrubsAndSpecialWrites : Prop :=
  (  ∀ (s : State),
    (∀ (addr : BitVec 24) (who : Nat) (reached : Bool),
      let found := reached && s.bit Fld.gblCisScrubPatrolEn 0
      let stands := fun (u : State) (double : Bool) => ({ u with dma := { u.dma with
        bad := u.dma.bad ++ [⟨addr, double, found, u.badKey (cisRegion addr.toNat) who⟩] } } : State)
      let counted := (((s.addF Fld.gblCisEccUncorrected 0 1).setF Fld.gblCisEccLastRegion 0 (cisRegion addr.toNat)).setReg
        .gblCisEccAddr 0 (addr.setWidth 32)).raise 0 12
      exec (.patrolScrubStep addr .none who) s = .next (settle s) ∧
      (found = true →
        exec (.patrolScrubStep addr (.single reached) who) s = .next (settle (s.addF Fld.gblCisEccCorrected 0 1)) ∧
        exec (.patrolScrubStep addr (.double reached) who) s = .next (settle (stands counted true))) ∧
      (found = false →
        exec (.patrolScrubStep addr (.single reached) who) s = .next (settle (stands s false)) ∧
        exec (.patrolScrubStep addr (.double reached) who) s = .next (settle (stands s true)))) ∧
    (∀ (region who : Nat) (b : BadWord), s.dma.bad = [b] → b.isOf region who = true →
      let clean : State := { s with dma := { s.dma with bad := [] } }
      (b.double = false → s.readWords region who = (clean.addF Fld.gblCisEccCorrected 0 1, false)) ∧
      (b.double = true → b.found = true → s.readWords region who = (clean, true)) ∧
      (b.double = true → b.found = false → s.readWords region who = (clean.cisUncorrected (cisRegion b.addr.toNat) b.addr, true)) ∧
      s.writeWords region who = clean) ∧
    (∀ t : Fin 256,
      let u := s.setF Fld.tenCisShareScrubbing t 0
      let clean : State := { u with dma := { u.dma with released := Tab.keep s.dma.released fun k _ => k % 256 != t.val } }
      exec (.releaseScrubDone t) s = .next (settle clean.settleShares) ∧
      (s.cfg.shares = [] → exec (.releaseScrubDone t) s = .next (settle clean)))) ∧
  (∀ (s : State),
    (∀ (off : Nat) (v : Word), barOk 0 off 4 = true → off % 4 = 0 →
      (s.gate 0 off true ≠ .serve →
        exec (.windowWrite off v) s = .next (settle (s.turnedAway (s.gate 0 off true) 0 off true))) ∧
      (s.gate 0 off true = .serve → exec (.windowWrite off v) s = .next (settle (s.writeSpot 0 off v 0)))) ∧
    (∀ (t : Fin 256) (v : Word), s.gate t 0x204 true = .serve →
      let m := s.mergeReg t 0x204 .criCauseEn t v 0
      exec (.causeEnableWrite t v) s =
        .next (settle ((m.2.setReg .criCauseEn t m.1).enableCauses t (s.reg .criCauseEn t) m.1))) ∧
    (∀ (t : Fin 256) (vec : Fin 64), (t.val = 0 ∨ vec.val < 8) → s.gate t (0x1000 + 16 * vec + 12) true = .serve →
      let v := Tab.getD s.pcie.vecs (64 * t + vec) ⟨0, 0, true, false⟩
      exec (.msixVectorUnmask t vec) s = .next (settle
        (({ s with pcie := { s.pcie with vecs := Tab.set s.pcie.vecs (64 * t + vec) { v with mask := false } } } :
          State).vecRelease t vec))) ∧
    (∀ (off : Nat) (r : Reg) (v : Word), blockReg off = some r → mrcRegs.contains r = true → s.gate 0 off true = .serve →
      let m := s.mergeReg 0 off r 0 v 0
      let ws := mrcRegs.map fun x => if x = r then m.1 else m.2.reg x 0
      exec (.millraceParameterWrite off v) s = .next (settle (m.2.mrcWrite ws).1) ∧
      (m.2.mrcOk ws = false → exec (.millraceParameterWrite off v) s =
        .next (settle ((m.2.setF Fld.mrcStatusRefused 0 1).raiseMillrace)))))

/-! ### Strikes, halts and the Millrace's inputs -/

/-- At its commit point a staged strike whose ACK stands is committed, one whose STRIKE packet may have reached the device goes to
its STRIKE_STATUS read, one that has not is NOT_STAGED, and a withdrawal not sent in time leaves it committed or to be
settled; after the ACT_TICK STRIKE_STATUS is read, and the reply, which the keeper's read has brought, settles it (R127, R130,
R132, R134). -/
def Obligations.StrikeEvents : Prop :=
  ∀ (s : State) (q : Fin 4096) (idx : Half) (e : Entry), (s.qp q).entry idx = some e → e.kind = .strike → e.phase = .started →
    let u := s.upTo e.commitAt
    let at_ : State := { u with txns := u.txns.filter fun x => !x.staleAt q idx }
    let mine := fun x : Txn => decide (x.work = .entry q idx) && decide (x.kind = .strikeTok)
    let sent := e.maybeHeld || s.txns.any fun x => mine x && (x.outstanding || decide (x.phase ≠ .start))
    let C := exec (.strikeCommitPoint q idx) s
    let A := exec (.strikeActTickPassed q idx) s
    let R := fun b => s.settleStrike q idx b
    let late := (s.addF Fld.prtStrikeStatLateCancel (s.strikePort e) 1).modEntry q idx fun e => e.strikeActed true
    let gone := match s.strikePlace e with | some p => !p.present | none => true
    let withdrawn :=
      let u := s.addF Fld.prtStrikeStatWithdrawn (s.strikePort e) 1
      if e.wStatus = 0x25 then u.modEntry q idx Entry.replaced else u.endStrike q idx (XStatus.ofCode e.wStatus)
    (e.strike = .acked → C = .next (settle ((at_.commitElems e).modEntry q idx fun e => { e with strike := .committed }))) ∧
    (e.strike = .staged → sent = true → C = .next (settle (at_.modEntry q idx fun e => { e with strike := .settling }))) ∧
    (e.strike = .staged → sent = false → C = .next (settle
      (({ at_ with txns := at_.txns.filter fun x => !mine x } : State).endStrike q idx .notStaged))) ∧
    (e.strike = .withdrawing → e.wSent = true →
      C = .next (settle (at_.modEntry q idx fun e => { e with strike := .settling }))) ∧
    (e.strike = .withdrawing → e.wSent = false → e.stage = 1 ∨ e.flags.getLsbD 2 = true →
      C = .next (settle ((at_.commitElems e).modEntry q idx fun e => { e with strike := .committed, flags := e.flags ||| 4 }))) ∧
    (e.strike = .withdrawing → e.wSent = false → ¬(e.stage = 1 ∨ e.flags.getLsbD 2 = true) →
      C = .next (settle (at_.modEntry q idx fun e => { e with strike := .settling }))) ∧
    (e.strike = .settling → A = .next (settle ((s.upTo e.tAct).modEntry q idx fun e => { e with strike := .readStatus }))) ∧
    (e.strike ≠ .settling → A = .next (settle (s.upTo e.tAct))) ∧
    (∀ b : Option (List Byte),
      let pick := fun k : KReq => k.addr == e.addr && k.setup == setupBytes 0x80 0x32 0 e.ep 16
      let kept : State := { s with keeper := s.keeper.filter fun k => !pick k }
      let got := match s.keeper.find? fun k => pick k && k.stage == 3 with
        | some k => if k.ok then some k.data else none
        | none => b
      exec (.strikeStatusReply q idx b) s = .next (settle (kept.settleStrike q idx got))) ∧
    (e.strike = .readStatus → e.wStatus = 0 →
      (∀ b : List Byte, b.length = 16 →
        (fieldAt b 0 1 % 4 = 3 → fieldAt b 2 1 = e.seq → R (some b) = s.modEntry q idx fun e =>
          { e with phase := .finished, status := 0, count := e.len, tick := e.tAct, frame := e.slotFrame, data := [], xfer := 0
                   flags := e.flags }) ∧
        (fieldAt b 0 1 % 4 = 1 → fieldAt b 1 1 = e.seq → R (some b) = s.endStrike q idx .actUnknown) ∧
        (fieldAt b 0 1 % 4 = 0 ∨ fieldAt b 0 1 % 4 = 2 → R (some b) = s.endStrike q idx .notStaged)) ∧
      R none = s.endStrike q idx (if gone then .deviceGone else .actUnknown)) ∧
    (e.strike = .readStatus → e.wStatus ≠ 0 → s.now.toNat < e.tAct.toNat →
      R none = (s.modEntry q idx fun e => { e with strike := .settling }) ∧
      (∀ b : List Byte, b.length = 16 →
        (fieldAt b 0 1 % 4 = 3 → fieldAt b 2 1 = e.seq → R (some b) = late) ∧
        (fieldAt b 0 1 % 4 = 1 → fieldAt b 1 1 = e.seq → s.now.toNat < e.commitAt.toNat → R (some b) = s.modEntry q idx fun e =>
          { e with strike := .withdrawing, wSent := false, wAgain := false, flags := e.flags ||| 4 }) ∧
        (fieldAt b 0 1 % 4 = 1 → fieldAt b 1 1 = e.seq → e.commitAt.toNat ≤ s.now.toNat → R (some b) = late) ∧
        (fieldAt b 0 1 % 4 = 0 → R (some b) = withdrawn))) ∧
    (e.strike = .readStatus → e.wStatus ≠ 0 → e.tAct.toNat ≤ s.now.toNat →
      R none = s.endStrike q idx (if gone then .deviceGone else .actUnknown) ∧
      (∀ b : List Byte, b.length = 16 →
        (fieldAt b 0 1 % 4 = 3 → fieldAt b 2 1 = e.seq → R (some b) = late) ∧
        (fieldAt b 0 1 % 4 = 1 → fieldAt b 1 1 = e.seq → R (some b) = s.endStrike q idx .actUnknown) ∧
        (fieldAt b 0 1 % 4 = 0 → R (some b) = if e.wSent then withdrawn else s.endStrike q idx .notStaged)))

/-- HALT_IN# asserted in Run begins a halt: HALT_OUT# falls, each active link is due a HALT packet and every placed strike ends
HALTED; a halt that stands begins no second one, and a release ends none (R53, R54). A HALT leaves on each link that is due
it, on a pair once nothing is outstanding there. -/
def Obligations.HaltEvents : Prop :=
  ∀ (s : State),
    let pin := fun l : Bool => ({ s with halt := { s.halt with pinLow := l } } : State)
    (4 ≤ s.stage → s.inHold = false → s.getF Fld.pwrStateState 0 = 0 → s.halt.stands = false →
      exec (.haltInAsserted true) s = .next (settle
        (({ pin true with halt := { (pin true).halt with
          stands := true, cause := 1, release := false, due := if s.role = 3 then [] else s.activeLinks
          sentAt := [] } } : State).haltOut.withdrawAll (fun e => e.kind = .strike && e.strike = .placed) .halted))) ∧
    (s.halt.stands = true ∨ s.stage < 4 → exec (.haltInAsserted true) s = .next (settle (pin true))) ∧
    exec (.haltInAsserted false) s = .next (settle (pin false)) ∧
    (∀ (p : Fin 16) (sd : Side), let l := linkOf p sd
      (s.halt.due.contains l = true → s.linkUp l = true → (sd = .h ∨ ∀ x ∈ s.txns, x.link = l → x.outstanding = false) →
        let sent := (s.wakeLane l).emit (.packet (portOf l) (sideOf l) (s.linkSpeed l) (haltPkt s.halt.cause))
        exec (.haltTokenSend p sd) s = .next (settle (({ sent with halt := { sent.halt with
          due := sent.halt.due.filter (· != l), sentAt := Tab.set sent.halt.sentAt l sent.now } } : State).haltSent l))) ∧
      (s.halt.due.contains l = false ∨ s.linkUp l = false → exec (.haltTokenSend p sd) s = .next (settle s)))

/-- The Millrace's inputs: a lost source clears LOCKED and sets SRC_LOST and SRC_FAULT, a recovered one starts the lock anew, a
reversal past 1/64 frame flips DIR and withdraws every strike given by angle, a transition of an encoder counts one step or
loses the source, an edge of SYNC_IN captures bus time by its mode, SYNC_OUT marks the starts of the frames that its divider
chooses, or of the beats, for its WIDTH, shifted by its OFFSET, each edge within 2 ticks (R70, R72, R78 to R80). -/
def Obligations.MillraceInputs : Prop :=
  ∀ (s : State),
    (s.samples = false → exec .sourceLost s = .next (settle s) ∧ exec .millraceReversal s = .next (settle s)) ∧
    (s.reversed = false → exec .millraceReversal s = .next (settle s)) ∧
    (s.par.source = 3 → s.syncSilent = false → exec .sourceLost s = .next (settle s)) ∧
    (s.samples = true → s.par.source ≠ 3 ∨ s.syncSilent = true →
      let lost : State := { ((s.setF Fld.mrcStatusSrcLost 0 1).setF Fld.mrcStatusSrcFault 0 1).setF Fld.mrcStatusLocked 0 0 with
        mrc := { s.mrc with lockRun := 0 } }
      exec .sourceLost s = .next (settle ((lost.mrcStrikes s).raiseMillrace))) ∧
    (s.samples = true → s.reversed = true →
      let u := (s.setF Fld.mrcStatusDir 0 (1 - s.getF Fld.mrcStatusDir 0)).setF Fld.mrcStatusReversed 0 1
      exec .millraceReversal s = .next (settle ((({ u with mrc := { u.mrc with furthest := u.mrc.count } } : State).withdrawAll
        Entry.isAngle .retracted).raiseMillrace))) ∧
    (s.bit Fld.mrcStatusSrcLost 0 = true → exec .sourceRecovered s = .next (settle
      { s.setF Fld.mrcStatusSrcLost 0 0 with
        mrc := { s.mrc with angle := none, prevAngle := none, silentBeats := 0, lastTick := 0, speed := 0
                            index := s.mrc.count, furthest := s.mrc.count } })) ∧
    (s.bit Fld.mrcStatusSrcLost 0 = false → exec .sourceRecovered s = .next (settle s)) ∧
    (∀ (enc : Fin 2) (a b z : Bool),
      let seen : State := { s with mrc := { s.mrc with levels := Tab.set s.mrc.levels enc.val (a, b) } }
      (s.par.source ≠ enc.val → exec (.encoderTransition enc a b z) s = .next (settle seen)) ∧
      (s.par.source = enc.val → quadStep (Tab.getD s.mrc.levels enc.val (false, false)) (a, b) = none →
        exec (.encoderTransition enc a b z) s = .next (settle seen.loseSource)) ∧
      (∀ d : Int, s.par.source = enc.val → quadStep (Tab.getD s.mrc.levels enc.val (false, false)) (a, b) = some d →
        let n := s.mrc.count + (if s.par.dirInv then -d else d)
        let u := if d = 0 then seen else seen.moveCount n s.now
        let early := s.par.zEn = true ∧ s.bit Fld.mrcStatusZSeen 0 = true ∧ z = true ∧ 4 < offMultiple (n - s.mrc.index) s.par.cprEff
        let missed := s.par.zEn = true ∧ z = false ∧ 5 * s.par.cprEff < 4 * (n - s.mrc.index).natAbs
        (early → exec (.encoderTransition enc a b z) s = .next (settle (u.indexAt n).loseSource)) ∧
        (missed → exec (.encoderTransition enc a b z) s = .next (settle u.loseSource)) ∧
        (¬early → ¬missed → exec (.encoderTransition enc a b z) s = .next (settle (if z then u.indexAt n else u))))) ∧
    (∀ rising : Bool, s.pins.syncEdge = none → s.par.source ≠ 3 →
      let mode := s.getF Fld.gblSyncCtrlInMode 0
      let edge : State := { s with pins := { s.pins with syncEdge := some s.now } }
      ((if rising then mode = 1 ∨ mode = 3 else mode = 2 ∨ mode = 3) → ∃ d : DWord, d.toNat ≤ 4 ∧
        exec (.syncInEdge rising) s = .next (settle
          ((edge.nextFree.setReg64 .gblSyncCapLo .gblSyncCapHi 0 (s.now + d - 2)).setReg .gblSyncCapCnt 0
            (s.reg .gblSyncCapCnt 0 + 1)))) ∧
      (¬(if rising then mode = 1 ∨ mode = 3 else mode = 2 ∨ mode = 3) →
        exec (.syncInEdge rising) s = .next (settle edge))) ∧
    (s.pins.syncEdge = none → s.par.source = 3 → s.getF Fld.gblSyncCtrlInMode 0 = 0 →
      let edge : State := { s with pins := { s.pins with syncEdge := some s.now } }
      exec (.syncInEdge true) s = .next (settle ((edge.moveCount (s.mrc.count + 1) s.now).indexAt (s.mrc.count + 1)))) ∧
    (∀ b : DWord, s.syncBoundary = some b → s.time.running = true → s.pins.syncOut ≠ some b →
      let plan : DWord := BitVec.ofInt 64 ((b.toNat : Int) + s.syncShift)
      s.now.toNat ≤ plan.toNat + 2 → ∃ d1 d2 : DWord, d1.toNat ≤ 4 ∧ d2.toNat ≤ 4 ∧
        let up := plan + d1 - 2
        let down := plan + BitVec.ofNat 64 (8 * s.getF Fld.gblSyncCtrlWidth 0) + d2 - 2
        let u := (s.upTo plan).skipFree 2
        exec .syncOutPulse s = .next (settle (({ u with pins := { u.pins with syncOut := some b } } : State).emit
          (.pulse "SYNC_OUT" up (down - up).toNat)))) ∧
    (s.time.running = false ∨ s.getF Fld.gblSyncCtrlOutMode 0 = 0 → exec .syncOutPulse s = .next (settle s))

/-! ### The tree, the lanes and the pairs -/

/-- The keeper's events: the interval of REMEASURE_S asks each path again, the keeper polls a hub that no contract polls after
POLL_FRAMES frames, and its STATUS_CHANGE names the ports to read, a HUB_PORT_STATUS settles a port, the next bring-up of a
link starts where the tree is served, a request's answer, which its own transactions brought, is the step's, a wait for
adoption that runs out disables the port with reason 6, a pair's device that transmits past its limit loses its port with
reason 1, and a HUB_PORT_DISABLE that is not answered disables the hub's own port (R56, R66, R202, R207 to R209, R225, R227).
-/
def Obligations.KeeperEvents : Prop :=
  ∀ (s : State),
    (s.getF Fld.gblTimeCtrlRemeasureS 0 ≠ 0 → s.busRuns = true →
      exec .pathDelayRemeasure s = .next (settle (s.allPlaces.foldl (fun s p => s.remeasure p.route) s))) ∧
    (s.getF Fld.gblTimeCtrlRemeasureS 0 = 0 ∨ s.busRuns = false → exec .pathDelayRemeasure s = .next (settle s)) ∧
    (∀ (root : Fin 32) (hops : List (Fin 32)), let hub := routeMake root (hops.map (·.val)); let p := s.placeAt hub
      let n := s.getF Fld.gblHpCtrlPollFrames 0
      let ep := (p.hub.map (·.statusEp)).getD 0
      let due := p.hubUp = true ∧ n ≠ 0 ∧ ep ≠ 0 ∧ (s.ready = false ∨ s.hubContract p = false) ∧
        n ≤ (s.time.frame - p.pollAt).toNat ∧ (s.keeper.any fun k => k.route == hub && k.ep != 0) = false
      let u := s.alter hub fun p => { p with pollAt := s.time.frame }
      (due → exec (.hubPoll root hops) s = .next (settle
        { u with keeper := u.keeper ++ [⟨routeLink hub, hub, hub, p.addr, ep, [], 1, false, []⟩] })) ∧
      (¬due → exec (.hubPoll root hops) s = .next (settle s)) ∧
      (∀ b : List Byte, 4 ≤ b.length →
        let ports := ((List.range ((p.hub.map (·.nports)).getD 0)).map (· + 1)).filter fun k =>
          bitsOf (fieldAt b 0 4) k 1 == 1 && !p.reads.contains k
        let u := s.alter hub fun p => { p with reads := p.reads ++ ports }
        s.hubReport hub b = if bitsOf (fieldAt b 0 4) 0 1 = 1 then
          u.treeEvent 0 8 hub (p.addr + s.getF Fld.twnStatusPairEpoch 0 * 2 ^ 24) 0 else u)) ∧
    (∀ (hub : DWord) (port : Fin 32) (reply : Option (List Byte)), let h := s.placeAt hub
      let pick := fun k : KReq => k.asker == hub && k.setup == setupBytes 0xA3 0 0 port 16
      let u := ({ s with keeper := s.keeper.filter fun k => !pick k } : State).alter hub fun p =>
        { p with reads := p.reads.filter (· != port.val) }
      let got := match s.keeper.find? fun k => pick k && k.stage == 3 with
        | some k => if k.ok then some k.data else none
        | none => reply
      h.hubUp = true → h.reads.contains port.val = true →
      (got = none → exec (.portStatusReply hub port reply) s = .next (settle (u.failChecked (u.placeAt (childOf hub port))))) ∧
      (∀ b : List Byte, got = some b → b.length < 16 → exec (.portStatusReply hub port reply) s =
        .next (settle (u.failChecked (u.placeAt (childOf hub port))))) ∧
      (∀ b : List Byte, got = some b → 16 ≤ b.length →
        exec (.portStatusReply hub port reply) s = .next (settle (u.portStatus hub port b)))) ∧
    (∀ (p : Fin 16) (sd : Side),
      (s.busRuns = false → exec (.deviceBringupStart p sd) s = .next (settle s)) ∧
      (s.busRuns = true → s.nextBringUp (linkOf p sd) = none → exec (.deviceBringupStart p sd) s = .next (settle s)) ∧
      (∀ r, s.busRuns = true → s.nextBringUp (linkOf p sd) = some r → parentOf r = none →
        exec (.deviceBringupStart p sd) s = .next (settle (s.alter r fun q => { q with
          step := .desc8 0, version := (s.link (linkOf p sd)).ver
          speed := if linkOf p sd % 2 = 0 then 3 else s.getF Fld.prtLaneStatusPSpeed (linkOf p sd / 2) }))) ∧
      (∀ r h, s.busRuns = true → s.nextBringUp (linkOf p sd) = some r → parentOf r = some h →
        exec (.deviceBringupStart p sd) s = .next (settle (s.alter r fun p =>
          if p.keptByReset && p.enabled then { p with step := .desc8 0 } else { p with step := .reset 0 })))) ∧
    (∀ (r : DWord) (n : Nat) (b : List Byte) (q : Place) (a : KeeperReply), s.place r = some q →
      q.disabling = false → q.dozeExit = false → q.dozeAsked = false →
      let pick := fun k : KReq => k.asker == r && !k.isRead
      let u : State := { s with keeper := s.keeper.filter fun k => !pick k }
      let got := KReq.answer (s.keeper.find? fun k => pick k && k.stage == 3) a
      (q.step = .none → exec (.keeperRequestComplete r a) s = .next (settle u)) ∧
      (q.step = .desc8 n → got = .data b → 8 ≤ b.length → exec (.keeperRequestComplete r a) s =
        .next (settle (u.alter r fun p => { p with step := .desc32 0, desc := b }))) ∧
      (q.step = .setAddr n → got = .data b → exec (.keeperRequestComplete r a) s = .next (settle (u.addressed r))) ∧
      (q.step = .setAddr n → got = .failed → exec (.keeperRequestComplete r a) s = .next (settle (u.stepFailed r)))) ∧
    (∀ r : DWord,
      ((s.placeAt r).isWaiting = true → s.getF Fld.gblHpCtrlAdoptWait 0 ≠ 0 →
        exec (.adoptWaitExpiry r) s = .next (settle (s.disablePort r 6))) ∧
      ((s.placeAt r).isWaiting = false ∨ s.getF Fld.gblHpCtrlAdoptWait 0 = 0 →
        exec (.adoptWaitExpiry r) s = .next (settle s))) ∧
    (∀ p : Fin 16, let l := 2 * p.val + 1
      (s.linkUp l = false → exec (.pairOverlongTransmit p) s = .next (settle s)) ∧
      (s.linkUp l = true → (∀ x ∈ s.txns, x.link = l → x.outstanding = false) →
        exec (.pairOverlongTransmit p) s = .next (settle (s.disablePort (rootRoute p .p) 1)))) ∧
    (∀ r h : DWord,
      ((s.placeAt r).disabling = true → parentOf r = some h → exec (.disableEscalation r) s =
        .next (settle ((s.alter r fun p => { p with disabling := false, cause := 0 }).disablePort h (s.placeAt r).cause))) ∧
      ((s.placeAt r).disabling = false → exec (.disableEscalation r) s = .next (settle s)))

/-- The H lane comes up: a detection pulse tells whether a receiver is there, training sets (TS2 go out once eight are good) and
the CAP set bring the lane to Active, the limit of training ends the attempt and counts it; a loss of lock starts a retrain at
once, which counts a ride-through when it succeeds and takes the link down when it does not; a root port connects and
disconnects (R212, R215, R232, R242 to R244). -/
def Obligations.LaneEvents : Prop :=
  ∀ (s : State) (p : Fin 16), let r := rootRoute p .h
    (∀ (lane : Fin 20) (found : Bool), lane.val < 16 → s.getF Fld.prtLaneStatusHState lane = 0 → 4 ≤ s.stage → s.inHold = false →
      let u := s.emit (.signal (laneLink lane) "detect")
      exec (.receiverDetectPulse lane found) s = .next (settle (if !found && (u.place (rootRoute lane .h)).isSome then
        u.alter (rootRoute lane .h) fun q => { q with connected := false } else u))) ∧
    (∀ lane : Fin 20, 16 ≤ lane.val → s.getF Fld.prtLaneStatusHState lane = 0 → 4 ≤ s.stage → s.inHold = false →
      s.domainOn 10 = true → let l := laneLink lane; let u := s.emit (.signal l "detect")
      exec (.receiverDetectPulse lane false) s = .next (settle (u.modLink l fun k => { k with attempts := 0 })) ∧
      ((u.link l).attempts < 100 → exec (.receiverDetectPulse lane true) s =
        .next (settle (u.modLink l fun k => { k with attempts := k.attempts + 1 }))) ∧
      (100 ≤ (u.link l).attempts → exec (.receiverDetectPulse lane true) s = .next (settle (u.trainStart lane)))) ∧
    (∀ (lane : Fin 20) (ts2 fast loop : Bool) (n : Nat), s.getF Fld.prtLaneStatusHState lane = 2 →
      exec (.trainingSetReceived lane ts2 fast loop n) s = .next (settle s)) ∧
    (∀ (lane : Fin 20) (n : Nat), s.getF Fld.prtLaneStatusHState lane = 1 → (s.link (laneLink lane)).resume = false → n ≠ 0 →
      (s.link (laneLink lane)).ts2 + n < 8 → (s.link (laneLink lane)).lock = 8 →
      exec (.trainingSetReceived lane true false false n) s = .next (settle
        (((s.modLink (laneLink lane) fun k => { k with ts2 := min 8 (k.ts2 + n) }).setF Fld.prtLaneStatusHBitLock lane 1).setF
          Fld.prtLaneStatusHSymLock lane 1))) ∧
    (∀ (lane : Fin 20) (n : Nat), s.getF Fld.prtLaneStatusHState lane = 1 → (s.link (laneLink lane)).resume = false → n ≠ 0 →
      (s.link (laneLink lane)).ts2 = 0 → (s.link (laneLink lane)).lock < 8 → 8 ≤ (s.link (laneLink lane)).lock + n →
      exec (.trainingSetReceived lane false false false n) s = .next (settle
        ((((s.modLink (laneLink lane) fun k => { k with lock := min 8 (k.lock + n) }).setF Fld.prtLaneStatusHBitLock lane 1).setF
          Fld.prtLaneStatusHSymLock lane 1).emit (.ordered lane "TS2" 16 (s.trainFlags lane))))) ∧
    (∀ (rx : LineRx) (w : Word), s.hState p = 2 → capOf rx = some w →
      let a := s.agree p .h w
      exec (.capSetReceived p rx) s = .next (settle
        (if a.2 then (a.1.linkActive p .h).emit (.ordered p "IDLE" 16 []) else a.1.trainFail p .h))) ∧
    (∀ rx : LineRx, s.hState p ≠ 2 ∨ capOf rx = none → exec (.capSetReceived p rx) s = .next (settle s)) ∧
    (∀ lane : Fin 20, let st := s.getF Fld.prtLaneStatusHState lane
      (st ≠ 1 → st ≠ 2 → st ≠ 5 → exec (.trainingLimitTimeout lane) s = .next (settle s)) ∧
      (st = 1 ∨ st = 2 ∨ st = 5 → lane.val < 16 → exec (.trainingLimitTimeout lane) s =
        .next (settle (let u := s.addF Fld.prtRideTrainFail lane 1;
          if (u.placeAt (rootRoute lane .h)).stood then u.learnGone (rootRoute lane .h) else u.linkDown (linkOf lane .h)))) ∧
      (st = 1 ∨ st = 2 ∨ st = 5 → 16 ≤ lane.val → exec (.trainingLimitTimeout lane) s = .next (settle
        ((s.setF Fld.prtLaneStatusHState lane 0).modLink (laneLink lane) fun k =>
          { k with lock := 0, ts2 := 0, attempts := 0 })))) ∧
    (s.linkUp (2 * p) = true → s.bit Fld.prtLaneStatusHRxDrowse p = false →
      exec (.linkLoss p) s = .next (settle ((s.addF Fld.prtLaneErrLoss p 1).retrainStart p))) ∧
    (s.linkUp (2 * p) = false ∨ s.bit Fld.prtLaneStatusHRxDrowse p = true → exec (.linkLoss p) s = .next (settle s)) ∧
    (s.hState p = 4 →
      let up := (((s.setF Fld.prtLaneStatusHState p 3).setF Fld.prtLaneStatusHBitLock p 1).setF Fld.prtLaneStatusHSymLock p
        1).addF Fld.prtRideRideThrough p 1
      (((up.link (2 * p)).resetWaits = true → exec (.retrainSuccess p) s = .next (settle
        (((up.modLink (2 * p) fun k => { k with resetWaits := false }).beginReset r).resetRoot r))) ∧
       ((up.link (2 * p)).resetWaits = false → exec (.retrainSuccess p) s = .next (settle
        (((up.allPlaces.filter fun q => routeLink q.route == 2 * p).map (·.route)).foldl (fun s r => s.remeasure r) up)))) ∧
      (s.role ≠ 3 → exec (.retrainTimeout p) s = .next (settle ((s.addF Fld.prtRideRtFail p 1).learnGone r)))) ∧
    (s.hState p ≠ 4 → exec (.retrainSuccess p) s = .next (settle s) ∧ exec (.retrainTimeout p) s = .next (settle s)) ∧
    (s.hState p = 3 → s.role ≠ 3 → (s.placeAt r).cause = 0 → exec (.rootDisconnect p .h) s = .next (settle (s.learnGone r))) ∧
    (s.hState p ≠ 6 → s.role ≠ 3 → (s.placeAt r).cause ≠ 0 → exec (.rootDisconnect p .h) s =
      .next (settle (s.alter r fun q => { q with connected := false }))) ∧
    (s.trains p .h = true → s.hState p = 0 → s.getF Fld.pwrStateState 0 ≤ 1 → (s.placeAt r).cause = 0 →
      exec (.connectValid r false) s = .next (settle
        (((s.alter r fun q => { q with connected := true }).alter r fun q => { q with speed := 3 }).bringUpSide p .h))) ∧
    (∀ f : Bool, s.trains p .p = true → s.pState p = 0 → s.getF Fld.pwrStateState 0 ≤ 1 → (s.placeAt (rootRoute p .p)).cause = 0 →
      (s.placeAt (rootRoute p .p)).connected = false →
      let u := (s.alter (rootRoute p .p) fun q => { q with connected := true }).alter (rootRoute p .p) fun q =>
        { q with speed := if f then 2 else 1 }
      exec (.connectValid (rootRoute p .p) f) s =
        .next (settle ((u.setF Fld.prtLaneStatusPSpeed p (if f then 2 else 1)).bringUpSide p .p))) ∧
    (s.hState p = 3 → (s.link (laneLink p)).parked = false →
      exec (.trainingSetReceived ⟨p, by omega⟩ false true false 1) s = .next (settle (s.retrainStart p)))

/-- A pair comes up after its reset's SE0: once the device's pull-up has shown its speed, the offer of its capability leaves, up
to three times, and it goes down or Active by what answers; a resume ends with SE0 and J; a port dozes when nothing below it
is busy, the ports of hubs by the keeper's request first, and a device's wake brings it back by the state it is in (R221 to
R223, R226, R236, R237). -/
def Obligations.PairEvents : Prop :=
  ∀ (s : State) (p : Fin 16), let l := 2 * p.val + 1; let r := rootRoute p .p
    let offer := fun u : State => (u.modLink l fun k => { k with attempts := k.attempts + 1 }).emit
      (.packet p .p (u.linkSpeed l) (withCrc8 (u.capWord p .p)))
    let shown := fun (u : State) (f : Bool) => offer ((u.setF Fld.prtLaneStatusPSpeed p (if f then 2 else 1)).alter r fun q =>
      if q.present then q else { q with speed := if f then 2 else 1 })
    (s.pState p = 1 → let u := (s.setF Fld.prtLaneStatusPState p 2).emit (.signal l "J")
      exec (.pairResetSe0End ⟨p, none⟩) s = .next (settle u) ∧
      ∀ f, exec (.pairResetSe0End ⟨p, some f⟩) s = .next (settle (shown u f))) ∧
    (s.pState p = 2 → (s.link l).attempts = 0 → ∀ f, exec (.pairResetSe0End ⟨p, some f⟩) s = .next (settle (shown s f))) ∧
    (s.pState p ≠ 1 → s.pState p ≠ 2 ∨ (s.link l).attempts ≠ 0 → ∀ f, exec (.pairResetSe0End ⟨p, f⟩) s = .next (settle s)) ∧
    (s.pState p = 2 → (s.link l).attempts = 0 → exec (.pairPullupTimeout p) s = .next (settle (s.learnGone r)) ∧
      exec (.pairCapabilityTimeout p) s = .next (settle s) ∧ ∀ rx, exec (.pairCapabilityReply p rx) s = .next (settle s)) ∧
    (s.pState p = 2 → (s.link l).attempts ≠ 0 →
      exec (.pairPullupTimeout p) s = .next (settle s) ∧
      (∀ rx w, capOf rx = some w → exec (.pairCapabilityReply p rx) s = .next (settle
        (if (s.agree p .p w).2 then (s.agree p .p w).1.linkActive p .p else (s.agree p .p w).1.trainFail p .p))) ∧
      ((s.link l).attempts < 3 →
        exec (.pairCapabilityTimeout p) s = .next (settle (offer s)) ∧
        ∀ rx, capOf rx = none → exec (.pairCapabilityReply p rx) s = .next (settle (offer s))) ∧
      (3 ≤ (s.link l).attempts → exec (.pairCapabilityTimeout p) s = .next (settle (s.trainFail p .p)))) ∧
    (s.pState p ≠ 2 → exec (.pairPullupTimeout p) s = .next (settle s) ∧ exec (.pairCapabilityTimeout p) s = .next (settle s) ∧
      ∀ rx, exec (.pairCapabilityReply p rx) s = .next (settle s)) ∧
    (s.pState p = 5 → (s.link l).resumeEnded = false → exec (.resumeSignallingEnd p .p) s = .next (settle
      (((s.modLink l fun k => { k with resumeEnded := true, since := s.now }).emit (.signal l "SE0")).emit (.signal l "J")))) ∧
    (s.pState p ≠ 5 ∨ (s.link l).resumeEnded = true → exec (.resumeSignallingEnd p .p) s = .next (settle s)) ∧
    (s.chipState = 0 → s.entryStep = 0 ∨ s.entryStep = 2 →
      let awake := s.allPlaces.filter fun q => q.hubPair && !q.doze && routeLink q.route == l
      let u := (awake.filter fun q => s.dozeClear q.route && !q.dozeAsked).foldl (fun s q =>
        s.alter q.route fun q => { q with dozeAsked := true }) s
      exec (.dozeEntry p .p) s = .next (settle (if s.pState p = 3 ∧ awake = [] ∧ u.dozeClear r = true then
        ((u.setF Fld.prtLaneStatusPState p 4).modLink l fun k => { k with since := s.now, resume := false }).emit (.signal l "SE0")
          |>.emit (.signal l "J")
        else u))) ∧
    (¬(s.chipState = 0 ∧ (s.entryStep = 0 ∨ s.entryStep = 2)) → ∀ sd, exec (.dozeEntry p sd) s = .next (settle s)) ∧
    (∀ dev : DWord, routeLink dev = 2 * p → s.chipState ≠ 4 → s.lowered = false → s.entryStep = 0 →
      ((s.link (2 * p)).parked = true → let u := (s.relock p).seeWake (2 * p) dev;
        exec (.deviceWakeSignal p .h dev) s = .next (settle (if u.lowered || u.entryStep != 0 then u.wake 1 else u))) ∧
      ((s.link (2 * p)).parked = false → (s.link (2 * p)).resume = true →
        exec (.deviceWakeSignal p .h dev) s = .next (settle (s.remoteWake dev))) ∧
      ((s.link (2 * p)).parked = false → (s.link (2 * p)).resume = false →
        exec (.deviceWakeSignal p .h dev) s = .next (settle s))) ∧
    (∀ dev : DWord, routeLink dev = l → s.chipState ≠ 4 →
      (s.pState p = 5 → s.lowered = false → exec (.deviceWakeSignal p .p dev) s = .next (settle (s.remoteWake dev))) ∧
      (s.pState p = 4 → s.chipState = 0 → s.lowered = false → s.entryStep = 0 → s.dozeTime p ≤ (s.now - (s.link l).since).toNat →
        exec (.deviceWakeSignal p .p dev) s = .next (settle
          (((s.setF Fld.prtLaneStatusPState p 5).modLink l fun k => { k with resume := true, resumeEnded := false }).emit
            (.signal l "K") |>.seeWake l dev))) ∧
      (s.pState p ≠ 4 → s.pState p ≠ 5 → exec (.deviceWakeSignal p .p dev) s = .next (settle s)))

/-- Drowse: the outbound direction of an Active H lane drowses by choice and wakes by a burst that the next packet waits for, the
inbound one drowses at the device's set, ending what is outstanding, and wakes with its burst, and the packets that waited for
it leave; WAKE_REQ asks for it, and a transaction whose device stays silent is in error (R238 to R241). -/
def Obligations.DrowseEvents : Prop :=
  ∀ (s : State) (p : Fin 16), let l := 2 * p.val
    (s.linkUp l = false →
      exec (.drowseSetReceived p) s = .next (settle s) ∧ exec (.outboundDrowseEntry p) s = .next (settle s) ∧
      exec (.outboundDrowseExit p) s = .next (settle s) ∧ exec (.inboundDrowseExit p) s = .next (settle s) ∧
      exec (.wakeReqSend p) s = .next (settle s) ∧ ∀ tag, exec (.wakeReqTimeout p tag) s = .next (settle s)) ∧
    (s.linkUp l = true →
      let rx := s.setF Fld.prtLaneStatusHRxDrowse p 1
      let ended := (rx.outstanding l).foldl (fun s x => s.txError x) rx
      (s.getF Fld.pwrStateEntryStep 0 < 2 → (s.link l).dirDrowse = true →
        exec (.drowseSetReceived p) s = .next (settle ended)) ∧
      (2 ≤ s.getF Fld.pwrStateEntryStep 0 → exec (.drowseSetReceived p) s = .next (settle
        (if ended.bit Fld.prtLaneStatusHTxDrowse p && ended.bit Fld.prtLaneStatusHRxDrowse p then
          ended.modLink l fun k => { k with parked := true, since := ended.now } else ended))) ∧
      (s.bit Fld.prtLaneStatusHTxDrowse p = false → s.bit Fld.prtLaneCtrlHDrowseEn p = true → (s.link l).dirDrowse = true →
        s.getF Fld.pwrStateState 0 = 0 → s.getF Fld.pwrStateEntryStep 0 = 0 → s.role ≠ 3 → s.quietFor p = true →
        exec (.outboundDrowseEntry p) s =
          .next (settle ((s.setF Fld.prtLaneStatusHTxDrowse p 1).emit (.ordered p "DROWSE" 1 [])))) ∧
      (s.bit Fld.prtLaneStatusHTxDrowse p = true →
        let u := (s.setF Fld.prtLaneStatusHTxDrowse p 0).emit (.signal l "wake burst")
        let late := fun (b : Tab Nat) (inbound : Bool) =>
          Tab.set b (busyKey l inbound) (max (Tab.getD b (busyKey l inbound) 0) (s.now.toNat + 500))
        exec (.outboundDrowseExit p) s = .next (settle { u with alm := { u.alm with busy := late (late u.alm.busy false) true } })) ∧
      (let up := (s.setF Fld.prtLaneStatusHRxDrowse p 0).modLink l fun k => { k with wakeReq := none };
        let waits := (up.outstanding l).filter fun x => x.unsent;
        exec (.inboundDrowseExit p) s = .next (settle (waits.foldl (fun s x => s.sendPackets { x with unsent := false })
          { up with txns := up.txns.map fun x => if x.link = l then { x with unsent := false } else x }))) ∧
      (s.bit Fld.prtLaneStatusHRxDrowse p = true → s.bit Fld.prtLaneStatusHTxDrowse p = false →
        exec (.wakeReqSend p) s = .next (settle ((s.modLink l fun k => { k with wakeReq := some s.now }).emit
          (.ordered p "WAKE_REQ" 1 [])))) ∧
      (∀ tag x, s.bit Fld.prtLaneStatusHRxDrowse p = true → (s.link l).wakeReq.isSome = true →
        ((s.outstanding l).find? fun x => x.tag == tag.val && x.unsent) = some x →
        exec (.wakeReqTimeout p tag) s = .next (settle ((s.modLink l fun k => { k with wakeReq := none }).txError x))) ∧
      (s.bit Fld.prtLaneStatusHRxDrowse p = false ∨ (s.link l).wakeReq = none →
        ∀ tag, exec (.wakeReqTimeout p tag) s = .next (settle s)))

/-- Lane health and the tests of a lane: the symbol errors of a second are counted and set HEALTH above the threshold, a margin
scan goes step by step and direction by direction and ends with the far end's report or FAR_NA, a test mode is refused while
the side is enabled, and the checker locks, counts and loses lock (R246 to R251). -/
def Obligations.LaneTests : Prop :=
  ∀ (s : State) (lane : Fin 20), let k := s.link (laneLink lane)
    (∀ (p : Fin 16) (errs el : Nat), let u := (s.addF Fld.prtLaneErrSymbol p errs).addF Fld.prtLaneErrElastic p el
      (s.getF Fld.prtLaneCtrlSymThr p = 0 ∨ errs ≤ s.getF Fld.prtLaneCtrlSymThr p →
        exec (.laneHealthSecond p errs el) s = .next (settle u)) ∧
      (s.getF Fld.prtLaneCtrlSymThr p ≠ 0 → s.getF Fld.prtLaneCtrlSymThr p < errs →
        exec (.laneHealthSecond p errs el) s = .next (settle ((u.setF Fld.prtLaneStatusHealth p 1).raise 0 13)))) ∧
    (exec (.laneRecalibration true) s = .next (settle s) ∧ exec (.laneRecalibration false) s = .next (settle s.chipEvent)) ∧
    (∀ v : Word, s.gate 0 (laneOff lane 0x80 0x10) true = .serve →
      let m := s.mergeReg 0 (laneOff lane 0x80 0x10) .prtMarginCtrl lane (v ||| 1) 0
      let u := m.2.setReg .prtMarginCtrl lane m.1
      exec (.marginScanStart lane v) s =
        .next (settle (if s.bit Fld.prtMarginStatBusy lane then u else u.scanStart lane))) ∧
    (s.bit Fld.prtMarginStatBusy lane = false → ∀ c rx, exec (.marginScanDwellEnd lane c) s = .next (settle s) ∧
      exec (.marginFarTimeout lane) s = .next (settle s) ∧ exec (.marginRpt lane rx) s = .next (settle s)) ∧
    (s.bit Fld.prtMarginStatBusy lane = true → k.scanFar = false →
      (k.scanStep < 30 → exec (.marginScanDwellEnd lane true) s =
        .next (settle (s.modLink (laneLink lane) fun k => { k with scanStep := k.scanStep + 1 }))) ∧
      (k.scanDir < 3 → exec (.marginScanDwellEnd lane false) s = .next (settle
        ((s.setF (scanFld k.scanDir) lane k.scanStep).modLink (laneLink lane) fun x =>
          { x with scanDir := k.scanDir + 1, scanStep := 0 }))) ∧
      (30 ≤ k.scanStep → k.scanDir < 3 → exec (.marginScanDwellEnd lane true) s = .next (settle
        ((s.setF (scanFld k.scanDir) lane 31).modLink (laneLink lane) fun x =>
          { x with scanDir := k.scanDir + 1, scanStep := 0 }))) ∧
      (3 ≤ k.scanDir → exec (.marginScanDwellEnd lane false) s =
        .next (settle ((s.setF (scanFld k.scanDir) lane k.scanStep).scanDone lane)))) ∧
    (s.bit Fld.prtMarginStatBusy lane = true → k.scanFar = true →
      exec (.marginFarTimeout lane) s = .next (settle ((s.setF Fld.prtMarginStatFarNa lane 1).scanDone lane)) ∧
      (∀ a b c d : Byte, exec (.marginRpt lane ⟨[0x80, a, b, c, d, crc8 [0x80, a, b, c, d]], true⟩) s = .next (settle
        (((((s.setF (scanFld 0) lane a.toNat).setF (scanFld 1) lane b.toNat).setF (scanFld 2) lane c.toNat).setF (scanFld 3) lane
          d.toNat).scanDone lane)))) ∧
    (∀ (v : Word) (tr : Bool), s.gate 0 (laneOff lane 0xC0 0x20) true = .serve →
      let inj := ((s.reg .prtTestCtrl lane) &&& 0xFFFF7DFF) ||| bitsMask 9 1
      let chk := ((s.reg .prtTestCtrl lane) &&& 0xFFFF7DFF) ||| bitsMask 8 1
      exec (.testModeWrite lane v tr) s = .next (settle (s.testWrite lane v tr 0)) ∧
      exec (.inject lane) s = .next (settle (s.testWrite lane inj (s.peerKnown lane) 0)) ∧
      exec (.checkerEnable lane) s = .next (settle (s.testWrite lane chk (s.peerKnown lane) 0)) ∧
      (let w := (s.mergeReg 0 (laneOff lane 0xC0 0x20) .prtTestCtrl lane v 0).1;
        getBits w 0 3 ≠ 0 → getBits v 0 3 = getBits w 0 3 → s.sideEnabled lane (getBits w 3 1 == 1) = true →
        exec (.testModeWrite lane v tr) s = .next (settle
          ((s.mergeReg 0 (laneOff lane 0xC0 0x20) .prtTestCtrl lane v 0).2.setF Fld.prtTestCtrlRefused lane 1)))) ∧
    (k.testIdle = true → (s.link (testLink lane true)).testIdle = false → exec (.testModeExitIdleEnd lane) s = .next (settle
      ((s.modLink (laneLink lane) fun k => { k with testIdle := false }).setF Fld.prtLaneStatusHState lane 0))) ∧
    (s.checks lane = false → ∀ a b, exec (.checkerLock lane) s = .next (settle s) ∧
      exec (.checkerLostLock lane a b) s = .next (settle s)) ∧
    (s.checks lane = true →
      (s.bit Fld.prtTestStatChkLock lane = false → exec (.checkerLock lane) s = .next (settle
        ((s.setF Fld.prtTestStatChkLock lane 1).modLink (testLink lane (s.bit Fld.prtTestCtrlSide lane)) fun k =>
          { k with since := s.now }))) ∧
      (∀ bits errs : Word, s.bit Fld.prtTestStatChkLock lane = true → exec (.checkerLostLock lane bits errs) s = .next (settle
        ((((s.setF Fld.prtTestStatChkLock lane 0).setF Fld.prtTestStatLostLock lane 1).setReg64 .prtTestBitsLo .prtTestBitsHi
          lane (s.reg64 .prtTestBitsLo .prtTestBitsHi lane + bits.setWidth 64)).addF Fld.prtTestErrsErrs lane errs.toNat))))

/-! ### Refusals and replies -/

/-- The checks of a command packet in order: a command whose path cannot take it waits, a slot outside the tenant's windows faults
the path, a packet that fails an early check or the checks of its blocks is answered with that status and no entry, one whose
parameters or output address fit no row, or that the chip cannot carry out as a standby, during bring-up or in probation, is
answered BAD_PARAM, NOT_PRIMARY or BUSY, with an entry where the row or the standby's refusal asks for one (R258, R260, R269,
R308). -/
def Obligations.CommandRefusals : Prop :=
  ∀ (c : Instr) (i : CmdInfo) (t : Fin 256) (k : CmdPkt) (s : State), c.row = some (i, t, k) → c.heldBack s = false →
    let b := s.begun i t k
    (s.takes i t = false → exec c s = .next (settle s)) ∧
    (s.takes i t = true → s.windowOk t (s.cmdSlot t) 64 false = false →
      exec c s = .next (settle ((s.isoRefuse t (s.cmdSlot t)).pathFault t))) ∧
    (s.takes i t = true → s.windowOk t (s.cmdSlot t) 64 false = true →
      (∀ st, (s.taken t).earlyCheck i t k = some st →
        exec c s = .next (settle (State.conclude i t k (.err (s.taken t) st) false))) ∧
      ((s.taken t).earlyCheck i t k = none →
        (∀ st, ((s.taken t).blockCheck i t k).2 = some st →
          exec c s = .next (settle (State.conclude i t k (.err b st) false))) ∧
        (((s.taken t).blockCheck i t k).2 = none →
          let fits := i.paramsOk k.params = true ∧ (i.outLen ≠ none ∨ k.outAddr = 0)
          (¬fits → exec c s = .next (State.ended i t k (.err b .badParam))) ∧
          (fits → b.role = 3 → i.standby = false →
            exec c s = .next (settle (State.conclude i t k (.err b .notPrimary) true))) ∧
          (fits → (b.role ≠ 3 ∨ i.standby = true) →
            ((i.needReady = true ∧ b.ready = false) ∨ (b.cfg.probation = true ∧ heldInProbation i.op = true)) →
            exec c s = .next (State.ended i t k (.err b .busy))))))

/-- What ends a command: with status OK its output leaves for the host; a row of column J gains one Ledger entry under the next
LSEQ with the command's words, and the reply follows at once but on a primary in sync, where it waits for the standby's
acknowledgement (R257, R273, R277); a tenant under reset gets no reply. -/
def Obligations.RepliesAndEntries : Prop :=
  ∀ (i : CmdInfo) (t : Nat) (k : CmdPkt) (r : CmdRes), r.wait = false → r.silent = false → r.st.flrBusy t = false →
    let st := r.status.code
    let s1 := if r.status = .ok ∧ r.out ≠ [] then r.st.emit (.hostWrite t k.outAddr r.out) else r.st
    let e : LedEntry := ⟨s1.nextLseq, s1.now, s1.reg .gblCfgGen 0, k.seq, BitVec.ofNat 16 i.op, t, BitVec.ofNat 8 st,
      BitVec.ofNat 8 r.detail, 0, k.session, r.ledResult.getD r.result, k.digest⟩
    let reply := fun l => replyRecord i.op st r.detail k l r.result
    let irq := !k.flags.getLsbD 1
    (i.jrn = false → State.ended i t k r = settle (s1.sendReply t (reply 0) irq)) ∧
    (i.jrn = true → s1.mirrors = false →
      State.ended i t k r = settle ((s1.ledStore e).sendReply t (reply s1.nextLseq) irq)) ∧
    (s1.led.entries.length < 8192 → (s1.ledStore e).led.entries = s1.led.entries ++ [e])

/-! ### Functions and the Crier -/

/-- A function-level reset of a function that exists begins its teardown, once; the PF's reaches every VF and takes them away, as
the end of VF_ENABLE does; the reset ends when the bus is quiet for the tenant and its memory is scrubbed; D0 releases what
was pending (R317, R320, R321, R337, R360). -/
def Obligations.FunctionEvents : Prop :=
  ∀ (s : State) (t : Fin 256),
    (s.exists_ t = false → exec (.initiateFlr t) s = .next (settle s) ∧ ∀ d, exec (.dStateWrite t d) s = .next (settle s)) ∧
    (s.exists_ t = true → t.val ≠ 0 →
      (s.flrBusy t = true → exec (.initiateFlr t) s = .next (settle s)) ∧
      (s.flrBusy t = false → 3 ≤ s.stage →
        exec (.initiateFlr t) s = .next (settle ((s.setF Fld.gblTenStateFlrBusy t 1).tearDown t)))) ∧
    (s.exists_ 0 = true → let u := s.flrRange 1 s.pcie.numVfs;
      exec (.initiateFlr 0) s =
        .next (settle (({ u with pcie := { u.pcie with vfEnable := false, numVfs := 0 } } : State).flrBegin 0))) ∧
    (s.flrBusy t = true → 3 ≤ s.stage → s.busQuiet t = true → s.bit Fld.tenCisShareScrubbing t = false →
      exec (.flrTeardownDone t) s = .next (settle (s.flrEnd t).settleShares) ∧
      (s.cfg.removing.contains t.val = false → ∃ u : State, exec (.flrTeardownDone t) s = .next u ∧
        Tab.find u.sec.keys t.val = none)) ∧
    (s.flrBusy t = false ∨ s.busQuiet t = false ∨ s.bit Fld.tenCisShareScrubbing t = true →
      exec (.flrTeardownDone t) s = .next (settle s)) ∧
    (∀ n : Fin 256,
      (let u := s.flrRange (n + 1) (s.pcie.numVfs - n);
        exec (.vfEnableWrite true n) s = .next (settle { u with pcie := { u.pcie with vfEnable := true, numVfs := n } })) ∧
      (s.pcie.vfEnable = true → let u := s.flrRange 1 s.pcie.numVfs;
        exec (.vfEnableWrite false n) s =
          .next (settle { u with pcie := { u.pcie with vfEnable := false, numVfs := 0 } })) ∧
      (s.pcie.vfEnable = false → exec (.vfEnableWrite false n) s = .next (settle s))) ∧
    (s.exists_ t = true → let u : State := { s with pcie := { s.pcie with d3 := Tab.set s.pcie.d3 t false } };
      exec (.dStateWrite t true) s = .next (settle { s with pcie := { s.pcie with d3 := Tab.set s.pcie.d3 t true } }) ∧
      exec (.dStateWrite t false) s = .next (settle ((List.range 64).foldl (fun s v => s.vecRelease t v) u)))

/-- The Crier: a doorbell makes its source pending and signals the engine that may take it; a claim takes the highest eligible
source, which becomes active on the engine's stack, or counts as spurious; EOI pops the source it names, and any other counts
as spurious; a shim goes by Table 13-3, and sends the doorbell or the withdrawal that it gives (R327 to R333). -/
def Obligations.CrierEvents : Prop :=
  ∀ (s : State) (e : Fin 12) (src : Fin 1024),
    exec (.crierDoorbell src) s =
      .next (settle ((s.modSrc src fun x => { x with pending := true }).signalEng (s.src src).target)) ∧
    (isLevel src = true → (s.src src).active = false →
      exec (.shimWithdrawal src) s = .next (settle (s.modSrc src fun x => { x with pending := false }))) ∧
    (isLevel src = false ∨ (s.src src).active = true → exec (.shimWithdrawal src) s = .next (settle s)) ∧
    (s.chosen e = none → exec (.engineClaimRead e) s = .next (settle ((s.modEng e Eng.spur).emit (.claim e 0)))) ∧
    (∀ i x, s.chosen e = some (i, x) →
      let u := (s.modSrc i fun x => { x with pending := false, active := true }).modEng e fun g =>
        { g with stack := (i, x.prio) :: g.stack }
      (isLevel i = false → exec (.engineClaimRead e) s = .next (settle (u.emit (.claim e (claimWord i x.prio))))) ∧
      (isLevel i = true → (u.shim i).state = .sent → exec (.engineClaimRead e) s =
        .next (settle ((u.modShim i fun h => { h with state := .claimed }).emit (.claim e (claimWord i x.prio)))))) ∧
    (∀ i pr rest, (s.eng e).stack = (i, pr) :: rest →
      let u := (s.modSrc i fun x => { x with active := false }).modEng e fun g => { g with stack := rest }
      (i ≠ src.val → exec (.endOfInterrupt e src) s = .next (settle (s.modEng e Eng.spur))) ∧
      (i = src.val → isLevel i = false → exec (.endOfInterrupt e src) s = .next (settle (u.signalEng e))) ∧
      (i = src.val → isLevel i = true → (u.shim i).state = .claimed → exec (.endOfInterrupt e src) s =
        let v := u.modShim i fun h => { h with state := if h.isActive then .sent else .idle }
        .next (settle ((if (u.shim i).isActive then v.emit (.shimDoorbell i) else v).signalEng e)))) ∧
    ((s.eng e).stack = [] → exec (.endOfInterrupt e src) s = .next (settle (s.modEng e Eng.spur))) ∧
    (let wakes := s.cri.srcs.any fun x => x.2.enabled && x.2.pending && x.2.target == e.val && decide (1 ≤ x.2.prio);
      exec (.engineSleepWake e) s = .next (settle (if wakes then s.emit (.engineResume e) else s))) ∧
    (∀ level : Bool, isLevel src = false → exec (.levelSignalChange src level) s = .next (settle s)) ∧
    (∀ level : Bool, isLevel src = true → ¬(0x3E8 ≤ src.val ∧ src.val < 0x3F8) →
      let h : Shim := { s.shim src with level := level }
      let v := fun st : ShimState => s.modShim src fun _ => { h with state := st }
      let X := exec (.levelSignalChange src level) s
      (h.state = .idle → h.isActive = true → X = .next (settle ((v .sent).emit (.shimDoorbell src)))) ∧
      (h.state = .idle → h.isActive = false → X = .next (settle (v .idle))) ∧
      (h.state = .sent → h.isActive = true → X = .next (settle (v .sent))) ∧
      (h.state = .sent → h.isActive = false → X = .next (settle ((v .idle).emit (.shimWithdrawal src)))) ∧
      (h.state = .claimed → X = .next (settle (v .claimed))))

/-! ### Power and resets -/

/-- Entering a lower state begins when nothing blocks it and goes step by step: the links park, domains drop and the PCIe link
goes to L1, or to L1.2 where the host has enabled it, and DeepSleep or Off follows where the chip is still free; the return
goes through its own steps; Brace begins at the supply's warning and ends after the hold (stated where no bit waits to be
burnt) (R347 to R351, R353 to R356, R358, R361). -/
def Obligations.PowerEvents : Prop :=
  ∀ (s : State),
    (s.target ≠ 0 → s.mayEnter s.target false = true → exec .powerEntryBegin s = .next (settle
      { s.setF Fld.pwrStateEntryStep 0 1 with pwr := { s.pwr with idleAuto := false, dropped := 0 } })) ∧
    (s.target = 0 ∨ s.mayEnter s.target false = false → exec .powerEntryBegin s = .next (settle s)) ∧
    (s.cfg.shadow.autoIdle ≠ 0 → s.target = 0 → s.mayEnter 1 true = true → exec .autoIdleTimer s = .next (settle
      { s.setF Fld.pwrStateEntryStep 0 1 with pwr := { s.pwr with idleAuto := true, dropped := 0 } })) ∧
    (s.cfg.shadow.autoIdle = 0 ∨ s.target ≠ 0 ∨ s.mayEnter 1 true = false → exec .autoIdleTimer s = .next (settle s)) ∧
    (∀ sense : EntrySense, s.brace = true → exec (.powerEntryStepDone sense) s = .next (settle s)) ∧
    (∀ (temp : BitVec 12) (l12 : Bool), s.brace = false →
      let v : State := { s with pcie := { s.pcie with l12 := l12 } }
      let X := exec (.powerEntryStepDone ⟨temp, l12⟩) s
      (s.entryStep = 1 → X = .next (settle (v.setF Fld.pwrStateEntryStep 0 2).parkLanes)) ∧
      (s.entryStep = 2 → v.allParked = false → X = .next (settle v.parkLanes)) ∧
      (s.entryStep = 2 → v.allParked = true → s.pwr.idleAuto = true ∨ s.target = 1 →
        X = .next (settle (((v.twinDrowse true).setF Fld.pwrStateState 0 1).setF Fld.pwrStateEntryStep 0 0))) ∧
      (s.entryStep = 2 → v.allParked = true → s.pwr.idleAuto = false → 2 ≤ s.target →
        X = .next (settle (v.setF Fld.pwrStateEntryStep 0 4))) ∧
      (s.entryStep = 4 → X =
        .next (settle ((v.enterSleep 0).setF Fld.pwrStateEntryStep 0 (if s.target = 2 then 0 else 5))) ∧
        (v.enterSleep 0).pcie.link = if l12 then .l12 else .l1) ∧
      (s.entryStep = 5 → s.pcie.perst = true → v.blocker 0 = false → v.blocker 1 = false → s.target = 4 →
        X = .next (settle (v.enterDeep true))) ∧
      (s.entryStep = 5 → s.pcie.perst = true → v.blocker 0 = false → v.blocker 1 = false → s.target ≠ 4 → s.pwr.refused = false →
        X = .next (settle (v.retentionCheck temp)))) ∧
    (∀ gap : DWord, let go := fun u : State =>
        ({ u with pwr := { u.pwr with returnStep := nextReturn u.pwr.returnFrom s.pwr.returnStep } } : State);
      (s.pwr.returnStep = 0 → exec (.returnStepDone gap) s = .next (settle s)) ∧
      (s.pwr.returnStep = 4 → exec (.returnStepDone gap) s = .next (settle (go s.raiseDomains))) ∧
      (s.pwr.returnStep = 5 → exec (.returnStepDone gap) s = .next (settle (go s.reload))) ∧
      (s.pwr.returnStep = 6 → exec (.returnStepDone gap) s = .next (settle (go { s with areas := [], dma := { s.dma with bad := [] } }))) ∧
      (s.pwr.returnStep = 7 → s.pwr.thermal = false → exec (.returnStepDone gap) s = .next (settle (go s.resumeLinks))) ∧
      (s.pwr.returnStep = 8 → exec (.returnStepDone gap) s = .next (settle
        (if (List.range 32).any fun l => (s.link l).resume && !(s.link l).resumeEnded then s else go s))) ∧
      (s.pwr.returnStep = 9 → exec (.returnStepDone gap) s = .next (settle (s.runAgain gap)))) ∧
    (∀ temp : BitVec 12, s.pwr.refused = true → s.chipState = 2 → s.entryStep = 5 → exec (.deepsleepRecheck temp) s = .next
      (settle (if decide (Config.predictedLoad temp.toInt ≤ 4500) && s.pcie.perst && !s.brace then
        (s.setTemp temp).enterDeep false else s.setTemp temp))) ∧
    (∀ temp : BitVec 12, s.pwr.refused = false ∨ s.chipState ≠ 2 → exec (.deepsleepRecheck temp) s = .next (settle s)) ∧
    (∀ d : Fin 11, bitsOf s.pwr.rising d 1 = 1 →
      let u := ({ s with pwr := { s.pwr with rising := s.pwr.rising - 2 ^ d.val } } : State).domainUp d
      exec (.domainPowerGood d) s = .next (settle (if u.voted d then u else u.domainOff d))) ∧
    (s.chipState < 3 → s.brace = true → exec .supplyWarn s = .next (settle (s.setF Fld.pwrSupplyWarn 0 1))) ∧
    (s.chipState < 3 → s.brace = false →
      let b := ((((s.setF Fld.pwrSupplyWarn 0 1).setF Fld.pwrSupplyBrace 0 1).setF Fld.pwrSupplyWarned 0 1).addF
        Fld.pwrSupplyBraceCount 0 1).alert 1
      exec .supplyWarn s = .next (settle
        ((({ b with pwr := { b.pwr with braceStart := b.now } } : State).raisePower).eventAll 3 2 b.now.toNat 0 0))) ∧
    (3 ≤ s.chipState → exec .supplyWarn s = .next (settle s)) ∧
    (s.brace = false → ∀ mv, exec (.braceEnd mv) s = .next (settle s)) ∧
    (∀ mv : Half, s.brace = true → s.sec.burnWaits = [] → s.sec.unlockWaits = false →
      let u := (((s.upTo (s.pwr.braceStart + 50000)).setF Fld.pwrSupplyBrace 0 0).setF Fld.pwrSupplyWarn 0 0).setF
        Fld.pwrSupplyMinMv 0 mv.toNat
      exec (.braceEnd mv) s = .next (settle
        (u.raisePower.eventAll 3 3 (2 * (u.now.toNat - u.pwr.braceStart.toNat)) mv.toNat 0)))

/-- What wakes the chip and under which code of LAST_WAKE: a link's activity 1, PCIe 2, the alarm 3, WAKE_IN 4, the thermal trip
5, which only DeepSleep takes; Off ends at WAKE_IN by a cold reset (R352, R357). -/
def Obligations.WakeEvents : Prop :=
  ∀ (s : State),
    (∀ strap : Fin 3,
      (s.chipState = 4 → exec (.wakeInAsserted strap) s = .next (settle (s.coldReset 10 strap))) ∧
      (s.chipState ≠ 4 → 2 ≤ s.chipState ∨ s.entersLow = true → exec (.wakeInAsserted strap) s = .next (settle (s.wake 4))) ∧
      (s.chipState < 2 → s.entersLow = false → exec (.wakeInAsserted strap) s = .next (settle s))) ∧
    (∀ (p : Fin 16) (sd : Side), let parked := match sd with | .h => (s.link (2 * p)).parked = true | .p => s.pState p = 4;
      (parked → s.chipState ≠ 4 → s.chipState ≠ 0 ∨ s.entryStep ≠ 0 →
        exec (.linkActivityWake p sd) s = .next (settle (s.wake 1))) ∧
      (¬parked → exec (.linkActivityWake p sd) s = .next (settle s))) ∧
    (let u := ({ s with pcie := { s.pcie with perst := false, link := .l0 } } : State).wakePin false;
      exec .pcieWake s = .next (settle (if s.chipState = 4 then u else (u.wake 2).wakePin false))) ∧
    (∀ rtc : DWord,
      (s.alarm ≠ 0 → s.alarm.toNat ≤ rtc.toNat → s.chipState ≠ 4 → exec (.rtcAlarm rtc) s = .next (settle
        ({ s with pwr := { s.pwr with rtcBase := rtc, rtcAt := s.now } } : State).alarmFires)) ∧
      (s.alarm = 0 ∨ rtc.toNat < s.alarm.toNat ∨ s.chipState = 4 → exec (.rtcAlarm rtc) s = .next (settle s))) ∧
    (∀ temp : BitVec 12,
      (s.chipState = 3 → exec (.thermalTrip temp) s = .next (settle
        (if 4 * tripPoint ≤ temp.toInt then (s.setTemp temp).wake 5 else s))) ∧
      (s.chipState ≠ 3 → exec (.thermalTrip temp) s = .next (settle s))) ∧
    (∀ code, s.pwr.returnStep = 0 → s.chipState = 2 ∨ s.chipState = 3 →
      (s.wake code).getF Fld.pwrStateLastWake 0 = code % 8)

/-- The resets and the way up: each cause of a warm reset in its states, the cold resets, the release, and the six stages in order
HOLD ends at no stage; a fault of the watchdog counts the engine's restarts of the last minute (R358, R367 to R378). -/
def Obligations.ResetEvents : Prop :=
  ∀ (s : State),
    (s.chipState < 3 → exec .coreBrownout s = .next (settle (s.warmReset 4 15)) ∧
      exec .pcieHotReset s = .next (settle (s.warmReset 7 15)) ∧
      (let u : State := { s with pcie := { s.pcie with perst := true } };
        exec .perstAsserted s = .next (settle (if s.entryStep = 5 then u else u.warmReset 6 15))) ∧
      (∀ e : Fin 12, let recent := s.rst.wdogTimes.filter fun t => decide (s.now.toNat < t.toNat + secondTicks 60);
        exec (.watchdogReset e) s = .next (settle (({ s with rst := { s.rst with
          wdogTimes := if s.cfg.trial then [] else recent ++ [s.now] } } : State).warmReset 8 e)))) ∧
    (3 ≤ s.chipState → exec .coreBrownout s = .next (settle s) ∧ exec .pcieHotReset s = .next (settle s) ∧
      exec .perstAsserted s = .next (settle s) ∧ ∀ e, exec (.watchdogReset e) s = .next (settle s)) ∧
    (s.chipState ≠ 4 → exec .resetNAsserted s = .next (settle (s.warmReset 5 15))) ∧
    (s.chipState = 4 → exec .resetNAsserted s = .next (settle s)) ∧
    (s.cfg.restart ≠ .none → exec .softResetBegin s = .next (settle (s.warmReset 9 15))) ∧
    (s.cfg.restart = .none → exec .softResetBegin s = .next (settle s) ∧ exec .fwActivateRestart s = .next (settle s)) ∧
    (s.cfg.restart = .activate ∨ s.cfg.restart = .rollback →
      exec .fwActivateRestart s = .next (settle (s.warmReset 9 15))) ∧
    (∀ strap : Fin 3, exec (.powerOn strap none) s = .next (settle (s.coldReset 1 strap)) ∧
      exec (.alwaysOnBrownout strap) s = .next (settle (s.coldReset 2 strap)) ∧
      ∀ f, exec (.powerOn strap (some f)) s =
        .next (settle (({ s with cfg := { s.cfg with flash := f } } : State).coldReset 1 strap))) ∧
    (∀ gap : DWord,
      (s.rst.asserted = true → exec (.resetRelease gap) s = .next (settle { s with
        rst := { s.rst with asserted := false, gap := refTicks gap }, pcie := { s.pcie with perst := false, link := .l0 } })) ∧
      (s.rst.asserted = false → exec (.resetRelease gap) s = .next (settle s))) ∧
    (∀ e : Fin 12,
      (s.member = true → s.rst.asserted = false → s.inHold = false → exec (.heartbeat e) s = .next (settle (s.aliveOut true))) ∧
      (s.member = false ∨ s.rst.asserted = true ∨ s.inHold = true → exec (.heartbeat e) s = .next (settle s))) ∧
    (∀ (ok : RetCheck) (ms : Half), let X := exec (.startupStageDone ok ms) s;
      (s.rst.asserted = true → X = .next (settle s)) ∧
      (s.rst.asserted = false →
        (s.stage = 0 → X = .next (settle s.stage0)) ∧ (s.stage = 1 → X = .next (settle s.stage1)) ∧
        (s.stage = 2 → X = .next (settle (s.stage3 ok))) ∧
        (s.stage = 3 → let u := s.setF Fld.gblBootStatusStage 0 4;
          X = .next (settle (if u.member then u.setF Fld.twnStatusRole 0 1 else u.busUp))) ∧
        (s.stage = 4 → X = .next (settle (s.stage5 ms))) ∧
        (s.stage = 5 → X = .next (settle s)))) ∧
    (s.inHold = true → ∀ k e, s.warmReset k e = s)

/-! ### Flash, probation and trial -/

/-- A flash operation that ends hands its command the outcome: the staged image, the commit, the confirmation, the rollback or the
firmware's switch, or FLASH_ERROR; nothing ends in Brace. Probation and a trial warn ten seconds before their deadline, once;
at the deadline the configuration rolls back with an entry and an event, or the firmware restarts; a slot without a role is
erased when no command holds the chip lock (R288, R296, R297, R300, R301). -/
def Obligations.FlashEvents : Prop :=
  ∀ (s : State),
    (∀ c, s.cfg.busy = some c → c.flash = true → s.brace = false →
      exec (.flashOperationDone true) s = .next (settle (s.flashEnd c)) ∧
      (let free : State := { s with cfg := { s.cfg with busy := none } };
        (c.op ≠ 0x0201 → c.op ≠ 0x0207 →
          exec (.flashOperationDone false) s = .next (settle (free.endBusy c (.err free .flashError)))) ∧
        (c.op = 0x0207 → let u := free.putFw (1 - free.cfg.fwBoot) [];
          exec (.flashOperationDone false) s = .next (settle (u.endBusy c (.err u .flashError)))) ∧
        (c.op = 0x020A → exec (.flashOperationDone true) s = .next (settle (free.endBusy c (free.finFwSwitch false)))))) ∧
    (∀ ok, (s.cfg.busy = none ∨ s.brace = true) → exec (.flashOperationDone ok) s = .next (settle s)) ∧
    (s.cfg.dueRaised = false → s.cfg.probation = true → s.role ≠ 3 →
      let u := s.upTo (s.cfg.deadline - BitVec.ofNat 64 (secondTicks 10))
      let v : State := { u with cfg := { u.cfg with dueRaised := true } }
      exec .probationDue s = .next (settle (v.cfgEvent 4 (s.slotGen s.cfg.active).toNat 10))) ∧
    (s.cfg.dueRaised = true ∨ (s.cfg.probation = false ∧ s.trialRuns = false) → exec .probationDue s = .next (settle s)) ∧
    (s.cfg.probation = true → s.brace = false → s.cfg.busy = none → s.anyFlr = false → s.role ≠ 3 → s.ready = true →
      let a := s.upTo s.cfg.deadline
      let b := a.rollBack
      exec .probationDeadline s = .next (settle
        ((b.journalInternal 2 ((b.slotGen b.cfg.active).setWidth 64)).rolledBack (a.slotGen a.cfg.active) 1))) ∧
    (s.cfg.probation = false ∨ s.brace = true ∨ s.cfg.busy ≠ none ∨ s.anyFlr = true →
      exec .probationDeadline s = .next (settle s)) ∧
    (s.trialRuns = true → s.ready = true → let u := s.upTo s.cfg.deadline;
      exec .fwTrialDeadline s = .next (settle ({ u with cfg := { u.cfg with restart := .trial } } : State).cfgRegs)) ∧
    (s.trialRuns = false ∨ s.ready = false → exec .fwTrialDeadline s = .next (settle s)) ∧
    (∀ slot : Fin 3,
      (s.brace = false → s.cfg.eraseDue.contains slot.val = true → s.cfg.busy = none →
        let u := (s.putSlot slot []).emit (.flashOp (0x410000 + 0x40000 * slot.val) true)
        exec (.slotBackgroundErase slot) s = .next (settle { u with cfg := { u.cfg with
          eraseDue := u.cfg.eraseDue.filter (· != slot.val) } })) ∧
      (s.brace = true ∨ s.cfg.eraseDue.contains slot.val = false ∨ s.cfg.busy ≠ none →
        exec (.slotBackgroundErase slot) s = .next (settle s)))

/-! ### The pair of chips -/

/-- Frames of the twin link: while it is down nothing is taken; a frame that fails its tag is counted and dropped; one that opens
acknowledges what it names, and with a fresh sequence number has its type's effect by the role; what is unacknowledged is sent
again unless the link drowses; the roles settle from the partner's role and from TWIN_ALIVE; silence and the partner's death
end the link or promote the standby (R383 to R391). -/
def Obligations.TwinEvents : Prop :=
  ∀ (s : State) (f : TwinRx),
    let u := s.acked f.ack
    let took : State := { u with twn := { u.twn with
      rxSeq := f.seq, rxKey := keyFor u.twn.pendingKey f.seq false u.twn.rxKey } }
    let answer := fun (type : Nat) (act : List Byte → State) => Host.Outcome.next (settle (match s.twinOpen type f with
      | none => s.addF Fld.twnCountTagFail 0 1
      | some p => if f.seq.toNat ≤ u.twn.rxSeq.toNat then u else act p))
    (s.twinUp = false → ∀ (off trim : Half) (a : Word), exec (.time f off trim) s = .next (settle s) ∧
      exec (.cursor f) s = .next (settle s) ∧ exec (.ledger f) s = .next (settle s) ∧ exec (.config f) s = .next (settle s) ∧
      exec (.resync f) s = .next (settle s) ∧ exec (.switch f) s = .next (settle s) ∧ exec .keepalive s = .next (settle s) ∧
      exec (.twinFrameAck a) s = .next (settle s) ∧ exec .twinFrameRetransmit s = .next (settle s) ∧
      exec .twinLinkSilent s = .next (settle s) ∧ exec .twinSeqRekey s = .next (settle s)) ∧
    (s.twinUp = true → ∀ off trim : Half,
      exec (.time f off trim) s = answer 3 (fun p => took.timeIn off trim p) ∧
      (took.role = 3 →
        exec (.ledger f) s = answer 5 (fun p => if 64 ≤ p.length then took.mirrorEntry p else took) ∧
        exec (.config f) s = answer 6 (fun p => took.configIn p) ∧
        exec (.resync f) s = answer 7 (fun p => took.copyFrame p) ∧
        exec (.switch f) s = answer 8 (fun p => { took with twn := { took.twn with
          switchFrame := some (BitVec.ofNat 32 (fieldAt p 0 4)) } }) ∧
        (took.chipState = 0 → took.entryStep = 0 →
          exec (.cursor f) s = answer 4 (fun p => if 44 ≤ p.length then took.takeCursor p else took))) ∧
      (took.role ≠ 3 → exec (.ledger f) s = answer 5 (fun _ => took) ∧ exec (.switch f) s = answer 8 (fun _ => took) ∧
        exec (.cursor f) s = answer 4 (fun _ => took)) ∧
      (took.role = 2 → exec (.config f) s = answer 6 (fun p => took.configAnswer p) ∧
        exec (.resync f) s = answer 7 (fun _ => took)) ∧
      (took.role = 1 → exec (.config f) s = answer 6 (fun _ => took) ∧
        exec (.resync f) s = answer 7 (fun p => took.copyFrame p)) ∧
      (let seq := s.twn.txSeq + 1;
        s.twinQuiet = false → exec .keepalive s = .next (settle (({ s with twn := { s.twn with
          txSeq := seq, txKey := keyFor s.twn.pendingKey seq true s.twn.txKey } } : State).twinPut 2 0 seq []))) ∧
      (∀ a, exec (.twinFrameAck a) s = .next (settle (s.acked a))) ∧
      (s.twinQuiet = false → exec .twinFrameRetransmit s = .next (settle (s.twn.unacked.foldl (fun s u => s.twinPut u.2.1 1 u.1 u.2.2) s))) ∧
      (s.twinQuiet = true → exec .keepalive s = .next (settle s) ∧ exec .twinFrameRetransmit s = .next (settle s)) ∧
      (2 ^ 31 ≤ s.twn.txSeq.toNat → s.twn.pendingKey = none → s.twn.hello = [] →
        exec .twinSeqRekey s = .next (settle (s.sendHello (some (s.twn.txSeq + 0x1000))))) ∧
      (s.member = true → s.chipState = 0 → s.pwr.returnStep = 0 →
        let alive := s.bit Fld.twnStatusAliveIn 0
        let d := s.twinDown
        let v := (if alive then d.addF Fld.twnCountLinkLosses 0 1 else d).twinEvent 3 s.twinLanes d.now.toNat
        let w := if v.role = 3 then (if alive then v.setSync 3 else v)
          else if v.role = 2 then v.setSync (if alive then 3 else 0) else v
        (w.role = 3 → alive = false → exec .twinLinkSilent s = .next (settle w.takeOver)) ∧
        (alive = true ∨ w.role = 1 → exec .twinLinkSilent s = .next (settle (w.twinEvent 6 1 w.now.toNat))) ∧
        (alive = false → w.role ≠ 3 → w.role ≠ 1 → exec .twinLinkSilent s = .next (settle w)))) ∧
    (s.member = false → (∀ h, exec (.hello h) s = .next (settle s)) ∧
      ∀ l, exec (.twinAliveInDeasserted l) s = .next (settle s)) ∧
    (∀ h : TwinHello, s.member = true → s.domainOn 10 = true → s.twinLanes ≠ 0 → s.twn.hello ≠ [] →
      h.strap.val = s.getF Fld.twnStatusStrap 0 →
      let u := (s.emit (.twinFrame 1 0 s.twn.txSeq (Config.ecdsaSign (Config.sha256 (s.twn.hello ++ helloBytes h))))).setF
        Fld.twnStatusConflict 0 1
      exec (.hello h) s = .next (settle (u.twinEvent 8 (s.getF Fld.twnStatusStrap 0) h.strap))) ∧
    (s.role ≠ 1 ∨ s.stage < 4 ∨ s.inHold = true → exec .twinRoleSettle s = .next (settle s)) ∧
    (s.role = 1 → 4 ≤ s.stage → s.inHold = false →
      (s.twinUp = true → s.twn.partnerRole = 2 → exec .twinRoleSettle s = .next (settle ((s.setRole 3).setSync 1))) ∧
      (s.twinUp = true → s.twn.partnerRole = 1 → s.getF Fld.twnStatusStrap 0 ≠ 1 →
        exec .twinRoleSettle s = .next (settle ((s.setRole 3).setSync 1))) ∧
      (s.twinUp = false → s.bit Fld.twnStatusAliveIn 0 = false → let u := (s.setRole 2).busUp;
        exec .twinRoleSettle s = .next (settle (if u.twinUp then (u.setSync 1).sendCopy else u))) ∧
      (s.twinUp = false → s.bit Fld.twnStatusAliveIn 0 = true → exec .twinRoleSettle s = .next (settle s))) ∧
    (∀ c, s.cfg.busy = some c → c.op = 0x0203 → c.flash = false →
      exec .twinPrepareTimeout s = .next (settle (s.endBusy c (.err s .busy)))) ∧
    (s.cfg.busy = none → exec .twinPrepareTimeout s = .next (settle s)) ∧
    (s.member = true → s.bit Fld.twnStatusAliveIn 0 = true →
      let u := s.setF Fld.twnStatusAliveIn 0 0
      u.role = 3 → u.chipState = 0 → u.entryStep = 0 → u.twinUp = false →
        exec (.twinAliveInDeasserted false) s = .next (settle u.takeOver)) ∧
    (s.bit Fld.twnStatusAliveOut 0 = true → exec .twinAliveTimerExpiry s =
      .next (settle ((s.setF Fld.twnStatusAliveOut 0 0).emit (.pin "TWIN_ALIVE_OUT" false)))) ∧
    (s.bit Fld.twnStatusAliveOut 0 = false → exec .twinAliveTimerExpiry s = .next (settle s))

/-! ### The security island and the SMBus -/

/-- A glitch is counted and, at the limit within a second, locks the chip down and erases the keys; the debug port answers a
challenge, opens only to the right signature after the keys are zeroised, and DEPLOY burns only in lifecycle 0 with a
configuration key (R414, R419). The SMBus target answers its commands with the bytes of its table and no other, clears the
alert status it returns, and takes a temperature only within its range (R438, R439). -/
def Obligations.SecurityAndSmbusEvents : Prop :=
  ∀ (s : State),
    (s.domainOn 5 = false ∨ s.rst.asserted = true → ∀ c, exec (.glitchDetection c) s = .next (settle s)) ∧
    (∀ c : Bool, s.domainOn 5 = true → s.rst.asserted = false →
      let g := (s.addF (if c then Fld.secGlitchClock else Fld.secGlitchVoltage) 0 1).chipEvent
      let ts := (g.sec.glitches.filter fun t => decide (g.now.toNat < t.toNat + secondTicks 1)) ++ [g.now]
      let u : State := { g with sec := { g.sec with glitches := ts } }
      exec (.glitchDetection c) s = .next (settle (if u.getF Fld.secGlitchLimit 0 ≤ ts.length ∧ u.lockdown = false then
        ((u.setF Fld.secStatusLockdown 0 1).eraseKeys).eraseTwinKeys else u))) ∧
    (s.tapUnlock = false → exec .unlockChallenge s = .next (settle s) ∧
      ∀ a b, exec (.unlockResponse a b) s = .next (settle s)) ∧
    (s.tapUnlock = true → s.domainOn 5 = true →
      (let u := s.skipFree 4;
        exec .unlockChallenge s = .next (settle (({ u with sec := { u.sec with
          challenge := some (s.freeBytes 4, s.now) } } : State).emit (.jtag (s.freeBytes 4))))) ∧
      (∀ pub sig,
        let u : State := { s with sec := { s.sec with challenge := none } }
        let z := u.zeroise.emit (.jtag [1])
        exec (.unlockResponse pub sig) s = .next (settle (if s.unlocks pub sig then
          (if z.brace then { z with sec := { z.sec with unlockWaits := true } } else z.openDebug)
        else (u.emit (.jtag [0])).votesChanged s)))) ∧
    (s.rst.asserted = true ∨ s.lifecycle ≠ 0 → exec .deploy s = .next (settle s)) ∧
    (s.rst.asserted = false → s.lifecycle = 0 →
      (s.getF Fld.secStatusCfgKeyValid 0 = 0 → exec .deploy s = .next (settle (s.emit (.jtag [0])))) ∧
      (s.getF Fld.secStatusCfgKeyValid 0 ≠ 0 → s.brace = false → exec .deploy s =
        .next (settle (({ s with sec := { s.sec with deployed := true } } : State).emit (.jtag [1]))))) ∧
    (let answer := fun bs : List Byte => Host.Outcome.next (settle (s.emit (.smbus (some bs))));
      s.smbUp = true →
      exec .smbReadChipId s = answer (leBytes 2 ((s.reg .gblChipId 0).toNat % 2 ^ 16)) ∧
      exec .smbReadTemperature s = answer (leBytes 1 s.tempByte) ∧
      (∃ mv, exec .smbReadVddCore s = .next (settle ((s.emit (.smbus (some (leBytes 2 mv)))).nextFree))) ∧
      exec .smbReadState s =
        answer (leBytes 1 (s.chipState + 8 * s.stage + (if s.ready then 64 else 0) + (if s.brace then 128 else 0))) ∧
      exec .smbReadAlertTemp s = answer (leBytes 1 s.pins.alertTemp) ∧
      exec .smbReadResetCause s = answer (leBytes 2 ((s.reg .gblResetCause 0).toNat % 2 ^ 16)) ∧
      exec .smbReadLifecycle s = answer (leBytes 1 s.lifecycle) ∧
      exec .smbAlertResponse s = answer (leBytes 1 (2 * (0x58 + s.pins.smbAddr))) ∧
      (s.pins.alert = 0 → exec .smbReadAlertStatus s = .next (settle (s.emit (.smbus (some [0]))).standingAlerts)) ∧
      (s.pins.alert ≠ 0 →
        let u := s.emit (.smbus (some (leBytes 1 s.pins.alert)))
        exec .smbReadAlertStatus s = .next (settle
          ((({ u with pins := { u.pins with alert := 0 } } : State).emit (.pin "SMB_ALERT#" true)).standingAlerts))) ∧
      (∀ v : Byte, 60 ≤ v.toNat → v.toNat ≤ 125 → exec (.smbWriteAlertTemp v) s = .next (settle
        (({ s with pins := { s.pins with alertTemp := v.toNat } } : State).emit (.smbus (some []))).standingAlerts))) ∧
    (∀ v : Byte, v.toNat < 60 ∨ 125 < v.toNat → exec (.smbWriteAlertTemp v) s = .next (settle (s.emit (.smbus none)))) ∧
    (s.smbUp = false → exec .smbReadChipId s = .next (settle (s.emit (.smbus none))) ∧
      exec .smbReadAlertStatus s = .next (settle (s.emit (.smbus none)))) ∧
    exec .smbClockLowTimeout s = .next (settle s) ∧
    (∀ code : Byte, 8 ≤ code.toNat → exec (.smbUnknownCommand code) s = .next (settle (s.emit (.smbus none))))
end

