-- ==== Sys2Proof/Laws/Fold.lean ====
section
/-!
SUPPORT. What a fold keeps.
-/
namespace Sys2Proof.Machine

/-- A fold keeps what each of its steps keeps. -/
theorem foldl_proj {α β γ : Type} (p : α → γ) (f : α → β → α) (h : ∀ a b, p (f a b) = p a) (l : List β) (a : α) :
    p (l.foldl f a) = p a := by
  induction l generalizing a with
  | nil => rfl
  | cons b r ih => exact (ih _).trans (h a b)

end Sys2Proof.Machine
end

