-- ==== Sys2Proof/Laws/State.lean ====
section
/-!
SUPPORT. What each elementary update of the state leaves as it was: one lemma for each field and update.
-/
namespace Sys2Proof.Machine

/-! ### `State.setReg` changes `regs` only -/

@[simp] theorem State.setReg_pending (s : State) (r : Reg) (i : Nat) (w : Word) : (s.setReg r i w).pending = s.pending := rfl
@[simp] theorem State.setReg_out (s : State) (r : Reg) (i : Nat) (w : Word) : (s.setReg r i w).out = s.out := rfl
@[simp] theorem State.setReg_free (s : State) (r : Reg) (i : Nat) (w : Word) : (s.setReg r i w).free = s.free := rfl
@[simp] theorem State.setReg_holds (s : State) (r : Reg) (i : Nat) (w : Word) : (s.setReg r i w).holds = s.holds := rfl
@[simp] theorem State.setReg_time (s : State) (r : Reg) (i : Nat) (w : Word) : (s.setReg r i w).time = s.time := rfl
@[simp] theorem State.setReg_halt (s : State) (r : Reg) (i : Nat) (w : Word) : (s.setReg r i w).halt = s.halt := rfl
@[simp] theorem State.setReg_mrc (s : State) (r : Reg) (i : Nat) (w : Word) : (s.setReg r i w).mrc = s.mrc := rfl
@[simp] theorem State.setReg_alm (s : State) (r : Reg) (i : Nat) (w : Word) : (s.setReg r i w).alm = s.alm := rfl
@[simp] theorem State.setReg_frames (s : State) (r : Reg) (i : Nat) (w : Word) : (s.setReg r i w).frames = s.frames := rfl
@[simp] theorem State.setReg_areas (s : State) (r : Reg) (i : Nat) (w : Word) : (s.setReg r i w).areas = s.areas := rfl
@[simp] theorem State.setReg_links (s : State) (r : Reg) (i : Nat) (w : Word) : (s.setReg r i w).links = s.links := rfl
@[simp] theorem State.setReg_places (s : State) (r : Reg) (i : Nat) (w : Word) : (s.setReg r i w).places = s.places := rfl
@[simp] theorem State.setReg_eps (s : State) (r : Reg) (i : Nat) (w : Word) : (s.setReg r i w).eps = s.eps := rfl
@[simp] theorem State.setReg_txns (s : State) (r : Reg) (i : Nat) (w : Word) : (s.setReg r i w).txns = s.txns := rfl
@[simp] theorem State.setReg_qps (s : State) (r : Reg) (i : Nat) (w : Word) : (s.setReg r i w).qps = s.qps := rfl
@[simp] theorem State.setReg_dma (s : State) (r : Reg) (i : Nat) (w : Word) : (s.setReg r i w).dma = s.dma := rfl
@[simp] theorem State.setReg_pools (s : State) (r : Reg) (i : Nat) (w : Word) : (s.setReg r i w).pools = s.pools := rfl
@[simp] theorem State.setReg_cmds (s : State) (r : Reg) (i : Nat) (w : Word) : (s.setReg r i w).cmds = s.cmds := rfl
@[simp] theorem State.setReg_led (s : State) (r : Reg) (i : Nat) (w : Word) : (s.setReg r i w).led = s.led := rfl
@[simp] theorem State.setReg_cfg (s : State) (r : Reg) (i : Nat) (w : Word) : (s.setReg r i w).cfg = s.cfg := rfl
@[simp] theorem State.setReg_cri (s : State) (r : Reg) (i : Nat) (w : Word) : (s.setReg r i w).cri = s.cri := rfl
@[simp] theorem State.setReg_pcie (s : State) (r : Reg) (i : Nat) (w : Word) : (s.setReg r i w).pcie = s.pcie := rfl
@[simp] theorem State.setReg_pwr (s : State) (r : Reg) (i : Nat) (w : Word) : (s.setReg r i w).pwr = s.pwr := rfl
@[simp] theorem State.setReg_rst (s : State) (r : Reg) (i : Nat) (w : Word) : (s.setReg r i w).rst = s.rst := rfl
@[simp] theorem State.setReg_twn (s : State) (r : Reg) (i : Nat) (w : Word) : (s.setReg r i w).twn = s.twn := rfl
@[simp] theorem State.setReg_sec (s : State) (r : Reg) (i : Nat) (w : Word) : (s.setReg r i w).sec = s.sec := rfl
@[simp] theorem State.setReg_pins (s : State) (r : Reg) (i : Nat) (w : Word) : (s.setReg r i w).pins = s.pins := rfl

/-! ### `State.setF` changes `regs` only -/

@[simp] theorem State.setF_pending (s : State) (f : Fld) (i v : Nat) : (s.setF f i v).pending = s.pending := rfl
@[simp] theorem State.setF_out (s : State) (f : Fld) (i v : Nat) : (s.setF f i v).out = s.out := rfl
@[simp] theorem State.setF_free (s : State) (f : Fld) (i v : Nat) : (s.setF f i v).free = s.free := rfl
@[simp] theorem State.setF_holds (s : State) (f : Fld) (i v : Nat) : (s.setF f i v).holds = s.holds := rfl
@[simp] theorem State.setF_time (s : State) (f : Fld) (i v : Nat) : (s.setF f i v).time = s.time := rfl
@[simp] theorem State.setF_halt (s : State) (f : Fld) (i v : Nat) : (s.setF f i v).halt = s.halt := rfl
@[simp] theorem State.setF_mrc (s : State) (f : Fld) (i v : Nat) : (s.setF f i v).mrc = s.mrc := rfl
@[simp] theorem State.setF_alm (s : State) (f : Fld) (i v : Nat) : (s.setF f i v).alm = s.alm := rfl
@[simp] theorem State.setF_frames (s : State) (f : Fld) (i v : Nat) : (s.setF f i v).frames = s.frames := rfl
@[simp] theorem State.setF_areas (s : State) (f : Fld) (i v : Nat) : (s.setF f i v).areas = s.areas := rfl
@[simp] theorem State.setF_links (s : State) (f : Fld) (i v : Nat) : (s.setF f i v).links = s.links := rfl
@[simp] theorem State.setF_places (s : State) (f : Fld) (i v : Nat) : (s.setF f i v).places = s.places := rfl
@[simp] theorem State.setF_eps (s : State) (f : Fld) (i v : Nat) : (s.setF f i v).eps = s.eps := rfl
@[simp] theorem State.setF_txns (s : State) (f : Fld) (i v : Nat) : (s.setF f i v).txns = s.txns := rfl
@[simp] theorem State.setF_qps (s : State) (f : Fld) (i v : Nat) : (s.setF f i v).qps = s.qps := rfl
@[simp] theorem State.setF_dma (s : State) (f : Fld) (i v : Nat) : (s.setF f i v).dma = s.dma := rfl
@[simp] theorem State.setF_pools (s : State) (f : Fld) (i v : Nat) : (s.setF f i v).pools = s.pools := rfl
@[simp] theorem State.setF_cmds (s : State) (f : Fld) (i v : Nat) : (s.setF f i v).cmds = s.cmds := rfl
@[simp] theorem State.setF_led (s : State) (f : Fld) (i v : Nat) : (s.setF f i v).led = s.led := rfl
@[simp] theorem State.setF_cfg (s : State) (f : Fld) (i v : Nat) : (s.setF f i v).cfg = s.cfg := rfl
@[simp] theorem State.setF_cri (s : State) (f : Fld) (i v : Nat) : (s.setF f i v).cri = s.cri := rfl
@[simp] theorem State.setF_pcie (s : State) (f : Fld) (i v : Nat) : (s.setF f i v).pcie = s.pcie := rfl
@[simp] theorem State.setF_pwr (s : State) (f : Fld) (i v : Nat) : (s.setF f i v).pwr = s.pwr := rfl
@[simp] theorem State.setF_rst (s : State) (f : Fld) (i v : Nat) : (s.setF f i v).rst = s.rst := rfl
@[simp] theorem State.setF_twn (s : State) (f : Fld) (i v : Nat) : (s.setF f i v).twn = s.twn := rfl
@[simp] theorem State.setF_sec (s : State) (f : Fld) (i v : Nat) : (s.setF f i v).sec = s.sec := rfl
@[simp] theorem State.setF_pins (s : State) (f : Fld) (i v : Nat) : (s.setF f i v).pins = s.pins := rfl

/-! ### `State.addF` changes `regs` only -/

@[simp] theorem State.addF_pending (s : State) (f : Fld) (i n : Nat) : (s.addF f i n).pending = s.pending := rfl
@[simp] theorem State.addF_out (s : State) (f : Fld) (i n : Nat) : (s.addF f i n).out = s.out := rfl
@[simp] theorem State.addF_free (s : State) (f : Fld) (i n : Nat) : (s.addF f i n).free = s.free := rfl
@[simp] theorem State.addF_holds (s : State) (f : Fld) (i n : Nat) : (s.addF f i n).holds = s.holds := rfl
@[simp] theorem State.addF_time (s : State) (f : Fld) (i n : Nat) : (s.addF f i n).time = s.time := rfl
@[simp] theorem State.addF_halt (s : State) (f : Fld) (i n : Nat) : (s.addF f i n).halt = s.halt := rfl
@[simp] theorem State.addF_mrc (s : State) (f : Fld) (i n : Nat) : (s.addF f i n).mrc = s.mrc := rfl
@[simp] theorem State.addF_alm (s : State) (f : Fld) (i n : Nat) : (s.addF f i n).alm = s.alm := rfl
@[simp] theorem State.addF_frames (s : State) (f : Fld) (i n : Nat) : (s.addF f i n).frames = s.frames := rfl
@[simp] theorem State.addF_areas (s : State) (f : Fld) (i n : Nat) : (s.addF f i n).areas = s.areas := rfl
@[simp] theorem State.addF_links (s : State) (f : Fld) (i n : Nat) : (s.addF f i n).links = s.links := rfl
@[simp] theorem State.addF_places (s : State) (f : Fld) (i n : Nat) : (s.addF f i n).places = s.places := rfl
@[simp] theorem State.addF_eps (s : State) (f : Fld) (i n : Nat) : (s.addF f i n).eps = s.eps := rfl
@[simp] theorem State.addF_txns (s : State) (f : Fld) (i n : Nat) : (s.addF f i n).txns = s.txns := rfl
@[simp] theorem State.addF_qps (s : State) (f : Fld) (i n : Nat) : (s.addF f i n).qps = s.qps := rfl
@[simp] theorem State.addF_dma (s : State) (f : Fld) (i n : Nat) : (s.addF f i n).dma = s.dma := rfl
@[simp] theorem State.addF_pools (s : State) (f : Fld) (i n : Nat) : (s.addF f i n).pools = s.pools := rfl
@[simp] theorem State.addF_cmds (s : State) (f : Fld) (i n : Nat) : (s.addF f i n).cmds = s.cmds := rfl
@[simp] theorem State.addF_led (s : State) (f : Fld) (i n : Nat) : (s.addF f i n).led = s.led := rfl
@[simp] theorem State.addF_cfg (s : State) (f : Fld) (i n : Nat) : (s.addF f i n).cfg = s.cfg := rfl
@[simp] theorem State.addF_cri (s : State) (f : Fld) (i n : Nat) : (s.addF f i n).cri = s.cri := rfl
@[simp] theorem State.addF_pcie (s : State) (f : Fld) (i n : Nat) : (s.addF f i n).pcie = s.pcie := rfl
@[simp] theorem State.addF_pwr (s : State) (f : Fld) (i n : Nat) : (s.addF f i n).pwr = s.pwr := rfl
@[simp] theorem State.addF_rst (s : State) (f : Fld) (i n : Nat) : (s.addF f i n).rst = s.rst := rfl
@[simp] theorem State.addF_twn (s : State) (f : Fld) (i n : Nat) : (s.addF f i n).twn = s.twn := rfl
@[simp] theorem State.addF_sec (s : State) (f : Fld) (i n : Nat) : (s.addF f i n).sec = s.sec := rfl
@[simp] theorem State.addF_pins (s : State) (f : Fld) (i n : Nat) : (s.addF f i n).pins = s.pins := rfl

/-! ### `State.setReg64` changes `regs` only -/

@[simp] theorem State.setReg64_pending (s : State) (lo hi : Reg) (i : Nat) (v : DWord) : (s.setReg64 lo hi i v).pending = s.pending := rfl
@[simp] theorem State.setReg64_out (s : State) (lo hi : Reg) (i : Nat) (v : DWord) : (s.setReg64 lo hi i v).out = s.out := rfl
@[simp] theorem State.setReg64_free (s : State) (lo hi : Reg) (i : Nat) (v : DWord) : (s.setReg64 lo hi i v).free = s.free := rfl
@[simp] theorem State.setReg64_holds (s : State) (lo hi : Reg) (i : Nat) (v : DWord) : (s.setReg64 lo hi i v).holds = s.holds := rfl
@[simp] theorem State.setReg64_time (s : State) (lo hi : Reg) (i : Nat) (v : DWord) : (s.setReg64 lo hi i v).time = s.time := rfl
@[simp] theorem State.setReg64_halt (s : State) (lo hi : Reg) (i : Nat) (v : DWord) : (s.setReg64 lo hi i v).halt = s.halt := rfl
@[simp] theorem State.setReg64_mrc (s : State) (lo hi : Reg) (i : Nat) (v : DWord) : (s.setReg64 lo hi i v).mrc = s.mrc := rfl
@[simp] theorem State.setReg64_alm (s : State) (lo hi : Reg) (i : Nat) (v : DWord) : (s.setReg64 lo hi i v).alm = s.alm := rfl
@[simp] theorem State.setReg64_frames (s : State) (lo hi : Reg) (i : Nat) (v : DWord) : (s.setReg64 lo hi i v).frames = s.frames := rfl
@[simp] theorem State.setReg64_areas (s : State) (lo hi : Reg) (i : Nat) (v : DWord) : (s.setReg64 lo hi i v).areas = s.areas := rfl
@[simp] theorem State.setReg64_links (s : State) (lo hi : Reg) (i : Nat) (v : DWord) : (s.setReg64 lo hi i v).links = s.links := rfl
@[simp] theorem State.setReg64_places (s : State) (lo hi : Reg) (i : Nat) (v : DWord) : (s.setReg64 lo hi i v).places = s.places := rfl
@[simp] theorem State.setReg64_eps (s : State) (lo hi : Reg) (i : Nat) (v : DWord) : (s.setReg64 lo hi i v).eps = s.eps := rfl
@[simp] theorem State.setReg64_txns (s : State) (lo hi : Reg) (i : Nat) (v : DWord) : (s.setReg64 lo hi i v).txns = s.txns := rfl
@[simp] theorem State.setReg64_qps (s : State) (lo hi : Reg) (i : Nat) (v : DWord) : (s.setReg64 lo hi i v).qps = s.qps := rfl
@[simp] theorem State.setReg64_dma (s : State) (lo hi : Reg) (i : Nat) (v : DWord) : (s.setReg64 lo hi i v).dma = s.dma := rfl
@[simp] theorem State.setReg64_pools (s : State) (lo hi : Reg) (i : Nat) (v : DWord) : (s.setReg64 lo hi i v).pools = s.pools := rfl
@[simp] theorem State.setReg64_cmds (s : State) (lo hi : Reg) (i : Nat) (v : DWord) : (s.setReg64 lo hi i v).cmds = s.cmds := rfl
@[simp] theorem State.setReg64_led (s : State) (lo hi : Reg) (i : Nat) (v : DWord) : (s.setReg64 lo hi i v).led = s.led := rfl
@[simp] theorem State.setReg64_cfg (s : State) (lo hi : Reg) (i : Nat) (v : DWord) : (s.setReg64 lo hi i v).cfg = s.cfg := rfl
@[simp] theorem State.setReg64_cri (s : State) (lo hi : Reg) (i : Nat) (v : DWord) : (s.setReg64 lo hi i v).cri = s.cri := rfl
@[simp] theorem State.setReg64_pcie (s : State) (lo hi : Reg) (i : Nat) (v : DWord) : (s.setReg64 lo hi i v).pcie = s.pcie := rfl
@[simp] theorem State.setReg64_pwr (s : State) (lo hi : Reg) (i : Nat) (v : DWord) : (s.setReg64 lo hi i v).pwr = s.pwr := rfl
@[simp] theorem State.setReg64_rst (s : State) (lo hi : Reg) (i : Nat) (v : DWord) : (s.setReg64 lo hi i v).rst = s.rst := rfl
@[simp] theorem State.setReg64_twn (s : State) (lo hi : Reg) (i : Nat) (v : DWord) : (s.setReg64 lo hi i v).twn = s.twn := rfl
@[simp] theorem State.setReg64_sec (s : State) (lo hi : Reg) (i : Nat) (v : DWord) : (s.setReg64 lo hi i v).sec = s.sec := rfl
@[simp] theorem State.setReg64_pins (s : State) (lo hi : Reg) (i : Nat) (v : DWord) : (s.setReg64 lo hi i v).pins = s.pins := rfl

/-! ### `State.emit` changes `out` only -/

@[simp] theorem State.emit_pending (s : State) (o : Output) : (s.emit o).pending = s.pending := rfl
@[simp] theorem State.emit_free (s : State) (o : Output) : (s.emit o).free = s.free := rfl
@[simp] theorem State.emit_regs (s : State) (o : Output) : (s.emit o).regs = s.regs := rfl
@[simp] theorem State.emit_holds (s : State) (o : Output) : (s.emit o).holds = s.holds := rfl
@[simp] theorem State.emit_time (s : State) (o : Output) : (s.emit o).time = s.time := rfl
@[simp] theorem State.emit_halt (s : State) (o : Output) : (s.emit o).halt = s.halt := rfl
@[simp] theorem State.emit_mrc (s : State) (o : Output) : (s.emit o).mrc = s.mrc := rfl
@[simp] theorem State.emit_alm (s : State) (o : Output) : (s.emit o).alm = s.alm := rfl
@[simp] theorem State.emit_frames (s : State) (o : Output) : (s.emit o).frames = s.frames := rfl
@[simp] theorem State.emit_areas (s : State) (o : Output) : (s.emit o).areas = s.areas := rfl
@[simp] theorem State.emit_links (s : State) (o : Output) : (s.emit o).links = s.links := rfl
@[simp] theorem State.emit_places (s : State) (o : Output) : (s.emit o).places = s.places := rfl
@[simp] theorem State.emit_eps (s : State) (o : Output) : (s.emit o).eps = s.eps := rfl
@[simp] theorem State.emit_txns (s : State) (o : Output) : (s.emit o).txns = s.txns := rfl
@[simp] theorem State.emit_qps (s : State) (o : Output) : (s.emit o).qps = s.qps := rfl
@[simp] theorem State.emit_dma (s : State) (o : Output) : (s.emit o).dma = s.dma := rfl
@[simp] theorem State.emit_pools (s : State) (o : Output) : (s.emit o).pools = s.pools := rfl
@[simp] theorem State.emit_cmds (s : State) (o : Output) : (s.emit o).cmds = s.cmds := rfl
@[simp] theorem State.emit_led (s : State) (o : Output) : (s.emit o).led = s.led := rfl
@[simp] theorem State.emit_cfg (s : State) (o : Output) : (s.emit o).cfg = s.cfg := rfl
@[simp] theorem State.emit_cri (s : State) (o : Output) : (s.emit o).cri = s.cri := rfl
@[simp] theorem State.emit_pcie (s : State) (o : Output) : (s.emit o).pcie = s.pcie := rfl
@[simp] theorem State.emit_pwr (s : State) (o : Output) : (s.emit o).pwr = s.pwr := rfl
@[simp] theorem State.emit_rst (s : State) (o : Output) : (s.emit o).rst = s.rst := rfl
@[simp] theorem State.emit_twn (s : State) (o : Output) : (s.emit o).twn = s.twn := rfl
@[simp] theorem State.emit_sec (s : State) (o : Output) : (s.emit o).sec = s.sec := rfl
@[simp] theorem State.emit_pins (s : State) (o : Output) : (s.emit o).pins = s.pins := rfl

/-! ### `State.nextFree` changes `free` only -/

@[simp] theorem State.nextFree_pending (s : State) : (s.nextFree).pending = s.pending := rfl
@[simp] theorem State.nextFree_out (s : State) : (s.nextFree).out = s.out := rfl
@[simp] theorem State.nextFree_regs (s : State) : (s.nextFree).regs = s.regs := rfl
@[simp] theorem State.nextFree_holds (s : State) : (s.nextFree).holds = s.holds := rfl
@[simp] theorem State.nextFree_time (s : State) : (s.nextFree).time = s.time := rfl
@[simp] theorem State.nextFree_halt (s : State) : (s.nextFree).halt = s.halt := rfl
@[simp] theorem State.nextFree_mrc (s : State) : (s.nextFree).mrc = s.mrc := rfl
@[simp] theorem State.nextFree_alm (s : State) : (s.nextFree).alm = s.alm := rfl
@[simp] theorem State.nextFree_frames (s : State) : (s.nextFree).frames = s.frames := rfl
@[simp] theorem State.nextFree_areas (s : State) : (s.nextFree).areas = s.areas := rfl
@[simp] theorem State.nextFree_links (s : State) : (s.nextFree).links = s.links := rfl
@[simp] theorem State.nextFree_places (s : State) : (s.nextFree).places = s.places := rfl
@[simp] theorem State.nextFree_eps (s : State) : (s.nextFree).eps = s.eps := rfl
@[simp] theorem State.nextFree_txns (s : State) : (s.nextFree).txns = s.txns := rfl
@[simp] theorem State.nextFree_qps (s : State) : (s.nextFree).qps = s.qps := rfl
@[simp] theorem State.nextFree_dma (s : State) : (s.nextFree).dma = s.dma := rfl
@[simp] theorem State.nextFree_pools (s : State) : (s.nextFree).pools = s.pools := rfl
@[simp] theorem State.nextFree_cmds (s : State) : (s.nextFree).cmds = s.cmds := rfl
@[simp] theorem State.nextFree_led (s : State) : (s.nextFree).led = s.led := rfl
@[simp] theorem State.nextFree_cfg (s : State) : (s.nextFree).cfg = s.cfg := rfl
@[simp] theorem State.nextFree_cri (s : State) : (s.nextFree).cri = s.cri := rfl
@[simp] theorem State.nextFree_pcie (s : State) : (s.nextFree).pcie = s.pcie := rfl
@[simp] theorem State.nextFree_pwr (s : State) : (s.nextFree).pwr = s.pwr := rfl
@[simp] theorem State.nextFree_rst (s : State) : (s.nextFree).rst = s.rst := rfl
@[simp] theorem State.nextFree_twn (s : State) : (s.nextFree).twn = s.twn := rfl
@[simp] theorem State.nextFree_sec (s : State) : (s.nextFree).sec = s.sec := rfl
@[simp] theorem State.nextFree_pins (s : State) : (s.nextFree).pins = s.pins := rfl

/-! ### `State.skipFree` changes `free` only -/

@[simp] theorem State.skipFree_pending (s : State) (n : Nat) : (s.skipFree n).pending = s.pending := rfl
@[simp] theorem State.skipFree_out (s : State) (n : Nat) : (s.skipFree n).out = s.out := rfl
@[simp] theorem State.skipFree_regs (s : State) (n : Nat) : (s.skipFree n).regs = s.regs := rfl
@[simp] theorem State.skipFree_holds (s : State) (n : Nat) : (s.skipFree n).holds = s.holds := rfl
@[simp] theorem State.skipFree_time (s : State) (n : Nat) : (s.skipFree n).time = s.time := rfl
@[simp] theorem State.skipFree_halt (s : State) (n : Nat) : (s.skipFree n).halt = s.halt := rfl
@[simp] theorem State.skipFree_mrc (s : State) (n : Nat) : (s.skipFree n).mrc = s.mrc := rfl
@[simp] theorem State.skipFree_alm (s : State) (n : Nat) : (s.skipFree n).alm = s.alm := rfl
@[simp] theorem State.skipFree_frames (s : State) (n : Nat) : (s.skipFree n).frames = s.frames := rfl
@[simp] theorem State.skipFree_areas (s : State) (n : Nat) : (s.skipFree n).areas = s.areas := rfl
@[simp] theorem State.skipFree_links (s : State) (n : Nat) : (s.skipFree n).links = s.links := rfl
@[simp] theorem State.skipFree_places (s : State) (n : Nat) : (s.skipFree n).places = s.places := rfl
@[simp] theorem State.skipFree_eps (s : State) (n : Nat) : (s.skipFree n).eps = s.eps := rfl
@[simp] theorem State.skipFree_txns (s : State) (n : Nat) : (s.skipFree n).txns = s.txns := rfl
@[simp] theorem State.skipFree_qps (s : State) (n : Nat) : (s.skipFree n).qps = s.qps := rfl
@[simp] theorem State.skipFree_dma (s : State) (n : Nat) : (s.skipFree n).dma = s.dma := rfl
@[simp] theorem State.skipFree_pools (s : State) (n : Nat) : (s.skipFree n).pools = s.pools := rfl
@[simp] theorem State.skipFree_cmds (s : State) (n : Nat) : (s.skipFree n).cmds = s.cmds := rfl
@[simp] theorem State.skipFree_led (s : State) (n : Nat) : (s.skipFree n).led = s.led := rfl
@[simp] theorem State.skipFree_cfg (s : State) (n : Nat) : (s.skipFree n).cfg = s.cfg := rfl
@[simp] theorem State.skipFree_cri (s : State) (n : Nat) : (s.skipFree n).cri = s.cri := rfl
@[simp] theorem State.skipFree_pcie (s : State) (n : Nat) : (s.skipFree n).pcie = s.pcie := rfl
@[simp] theorem State.skipFree_pwr (s : State) (n : Nat) : (s.skipFree n).pwr = s.pwr := rfl
@[simp] theorem State.skipFree_rst (s : State) (n : Nat) : (s.skipFree n).rst = s.rst := rfl
@[simp] theorem State.skipFree_twn (s : State) (n : Nat) : (s.skipFree n).twn = s.twn := rfl
@[simp] theorem State.skipFree_sec (s : State) (n : Nat) : (s.skipFree n).sec = s.sec := rfl
@[simp] theorem State.skipFree_pins (s : State) (n : Nat) : (s.skipFree n).pins = s.pins := rfl

/-! ### `State.setQp` changes `qps` only -/

@[simp] theorem State.setQp_pending (s : State) (q : Nat) (v : Qp) : (s.setQp q v).pending = s.pending := rfl
@[simp] theorem State.setQp_out (s : State) (q : Nat) (v : Qp) : (s.setQp q v).out = s.out := rfl
@[simp] theorem State.setQp_free (s : State) (q : Nat) (v : Qp) : (s.setQp q v).free = s.free := rfl
@[simp] theorem State.setQp_regs (s : State) (q : Nat) (v : Qp) : (s.setQp q v).regs = s.regs := rfl
@[simp] theorem State.setQp_holds (s : State) (q : Nat) (v : Qp) : (s.setQp q v).holds = s.holds := rfl
@[simp] theorem State.setQp_time (s : State) (q : Nat) (v : Qp) : (s.setQp q v).time = s.time := rfl
@[simp] theorem State.setQp_halt (s : State) (q : Nat) (v : Qp) : (s.setQp q v).halt = s.halt := rfl
@[simp] theorem State.setQp_mrc (s : State) (q : Nat) (v : Qp) : (s.setQp q v).mrc = s.mrc := rfl
@[simp] theorem State.setQp_alm (s : State) (q : Nat) (v : Qp) : (s.setQp q v).alm = s.alm := rfl
@[simp] theorem State.setQp_frames (s : State) (q : Nat) (v : Qp) : (s.setQp q v).frames = s.frames := rfl
@[simp] theorem State.setQp_areas (s : State) (q : Nat) (v : Qp) : (s.setQp q v).areas = s.areas := rfl
@[simp] theorem State.setQp_links (s : State) (q : Nat) (v : Qp) : (s.setQp q v).links = s.links := rfl
@[simp] theorem State.setQp_places (s : State) (q : Nat) (v : Qp) : (s.setQp q v).places = s.places := rfl
@[simp] theorem State.setQp_eps (s : State) (q : Nat) (v : Qp) : (s.setQp q v).eps = s.eps := rfl
@[simp] theorem State.setQp_txns (s : State) (q : Nat) (v : Qp) : (s.setQp q v).txns = s.txns := rfl
@[simp] theorem State.setQp_dma (s : State) (q : Nat) (v : Qp) : (s.setQp q v).dma = s.dma := rfl
@[simp] theorem State.setQp_pools (s : State) (q : Nat) (v : Qp) : (s.setQp q v).pools = s.pools := rfl
@[simp] theorem State.setQp_cmds (s : State) (q : Nat) (v : Qp) : (s.setQp q v).cmds = s.cmds := rfl
@[simp] theorem State.setQp_led (s : State) (q : Nat) (v : Qp) : (s.setQp q v).led = s.led := rfl
@[simp] theorem State.setQp_cfg (s : State) (q : Nat) (v : Qp) : (s.setQp q v).cfg = s.cfg := rfl
@[simp] theorem State.setQp_cri (s : State) (q : Nat) (v : Qp) : (s.setQp q v).cri = s.cri := rfl
@[simp] theorem State.setQp_pcie (s : State) (q : Nat) (v : Qp) : (s.setQp q v).pcie = s.pcie := rfl
@[simp] theorem State.setQp_pwr (s : State) (q : Nat) (v : Qp) : (s.setQp q v).pwr = s.pwr := rfl
@[simp] theorem State.setQp_rst (s : State) (q : Nat) (v : Qp) : (s.setQp q v).rst = s.rst := rfl
@[simp] theorem State.setQp_twn (s : State) (q : Nat) (v : Qp) : (s.setQp q v).twn = s.twn := rfl
@[simp] theorem State.setQp_sec (s : State) (q : Nat) (v : Qp) : (s.setQp q v).sec = s.sec := rfl
@[simp] theorem State.setQp_pins (s : State) (q : Nat) (v : Qp) : (s.setQp q v).pins = s.pins := rfl

/-! ### `State.modQp` changes `qps` only -/

@[simp] theorem State.modQp_pending (s : State) (q : Nat) (f : Qp → Qp) : (s.modQp q f).pending = s.pending := rfl
@[simp] theorem State.modQp_out (s : State) (q : Nat) (f : Qp → Qp) : (s.modQp q f).out = s.out := rfl
@[simp] theorem State.modQp_free (s : State) (q : Nat) (f : Qp → Qp) : (s.modQp q f).free = s.free := rfl
@[simp] theorem State.modQp_regs (s : State) (q : Nat) (f : Qp → Qp) : (s.modQp q f).regs = s.regs := rfl
@[simp] theorem State.modQp_holds (s : State) (q : Nat) (f : Qp → Qp) : (s.modQp q f).holds = s.holds := rfl
@[simp] theorem State.modQp_time (s : State) (q : Nat) (f : Qp → Qp) : (s.modQp q f).time = s.time := rfl
@[simp] theorem State.modQp_halt (s : State) (q : Nat) (f : Qp → Qp) : (s.modQp q f).halt = s.halt := rfl
@[simp] theorem State.modQp_mrc (s : State) (q : Nat) (f : Qp → Qp) : (s.modQp q f).mrc = s.mrc := rfl
@[simp] theorem State.modQp_alm (s : State) (q : Nat) (f : Qp → Qp) : (s.modQp q f).alm = s.alm := rfl
@[simp] theorem State.modQp_frames (s : State) (q : Nat) (f : Qp → Qp) : (s.modQp q f).frames = s.frames := rfl
@[simp] theorem State.modQp_areas (s : State) (q : Nat) (f : Qp → Qp) : (s.modQp q f).areas = s.areas := rfl
@[simp] theorem State.modQp_links (s : State) (q : Nat) (f : Qp → Qp) : (s.modQp q f).links = s.links := rfl
@[simp] theorem State.modQp_places (s : State) (q : Nat) (f : Qp → Qp) : (s.modQp q f).places = s.places := rfl
@[simp] theorem State.modQp_eps (s : State) (q : Nat) (f : Qp → Qp) : (s.modQp q f).eps = s.eps := rfl
@[simp] theorem State.modQp_txns (s : State) (q : Nat) (f : Qp → Qp) : (s.modQp q f).txns = s.txns := rfl
@[simp] theorem State.modQp_dma (s : State) (q : Nat) (f : Qp → Qp) : (s.modQp q f).dma = s.dma := rfl
@[simp] theorem State.modQp_pools (s : State) (q : Nat) (f : Qp → Qp) : (s.modQp q f).pools = s.pools := rfl
@[simp] theorem State.modQp_cmds (s : State) (q : Nat) (f : Qp → Qp) : (s.modQp q f).cmds = s.cmds := rfl
@[simp] theorem State.modQp_led (s : State) (q : Nat) (f : Qp → Qp) : (s.modQp q f).led = s.led := rfl
@[simp] theorem State.modQp_cfg (s : State) (q : Nat) (f : Qp → Qp) : (s.modQp q f).cfg = s.cfg := rfl
@[simp] theorem State.modQp_cri (s : State) (q : Nat) (f : Qp → Qp) : (s.modQp q f).cri = s.cri := rfl
@[simp] theorem State.modQp_pcie (s : State) (q : Nat) (f : Qp → Qp) : (s.modQp q f).pcie = s.pcie := rfl
@[simp] theorem State.modQp_pwr (s : State) (q : Nat) (f : Qp → Qp) : (s.modQp q f).pwr = s.pwr := rfl
@[simp] theorem State.modQp_rst (s : State) (q : Nat) (f : Qp → Qp) : (s.modQp q f).rst = s.rst := rfl
@[simp] theorem State.modQp_twn (s : State) (q : Nat) (f : Qp → Qp) : (s.modQp q f).twn = s.twn := rfl
@[simp] theorem State.modQp_sec (s : State) (q : Nat) (f : Qp → Qp) : (s.modQp q f).sec = s.sec := rfl
@[simp] theorem State.modQp_pins (s : State) (q : Nat) (f : Qp → Qp) : (s.modQp q f).pins = s.pins := rfl

/-! ### `State.modCmd` changes `cmds` only -/

@[simp] theorem State.modCmd_pending (s : State) (t : Nat) (f : CmdPath → CmdPath) : (s.modCmd t f).pending = s.pending := rfl
@[simp] theorem State.modCmd_out (s : State) (t : Nat) (f : CmdPath → CmdPath) : (s.modCmd t f).out = s.out := rfl
@[simp] theorem State.modCmd_free (s : State) (t : Nat) (f : CmdPath → CmdPath) : (s.modCmd t f).free = s.free := rfl
@[simp] theorem State.modCmd_regs (s : State) (t : Nat) (f : CmdPath → CmdPath) : (s.modCmd t f).regs = s.regs := rfl
@[simp] theorem State.modCmd_holds (s : State) (t : Nat) (f : CmdPath → CmdPath) : (s.modCmd t f).holds = s.holds := rfl
@[simp] theorem State.modCmd_time (s : State) (t : Nat) (f : CmdPath → CmdPath) : (s.modCmd t f).time = s.time := rfl
@[simp] theorem State.modCmd_halt (s : State) (t : Nat) (f : CmdPath → CmdPath) : (s.modCmd t f).halt = s.halt := rfl
@[simp] theorem State.modCmd_mrc (s : State) (t : Nat) (f : CmdPath → CmdPath) : (s.modCmd t f).mrc = s.mrc := rfl
@[simp] theorem State.modCmd_alm (s : State) (t : Nat) (f : CmdPath → CmdPath) : (s.modCmd t f).alm = s.alm := rfl
@[simp] theorem State.modCmd_frames (s : State) (t : Nat) (f : CmdPath → CmdPath) : (s.modCmd t f).frames = s.frames := rfl
@[simp] theorem State.modCmd_areas (s : State) (t : Nat) (f : CmdPath → CmdPath) : (s.modCmd t f).areas = s.areas := rfl
@[simp] theorem State.modCmd_links (s : State) (t : Nat) (f : CmdPath → CmdPath) : (s.modCmd t f).links = s.links := rfl
@[simp] theorem State.modCmd_places (s : State) (t : Nat) (f : CmdPath → CmdPath) : (s.modCmd t f).places = s.places := rfl
@[simp] theorem State.modCmd_eps (s : State) (t : Nat) (f : CmdPath → CmdPath) : (s.modCmd t f).eps = s.eps := rfl
@[simp] theorem State.modCmd_txns (s : State) (t : Nat) (f : CmdPath → CmdPath) : (s.modCmd t f).txns = s.txns := rfl
@[simp] theorem State.modCmd_qps (s : State) (t : Nat) (f : CmdPath → CmdPath) : (s.modCmd t f).qps = s.qps := rfl
@[simp] theorem State.modCmd_dma (s : State) (t : Nat) (f : CmdPath → CmdPath) : (s.modCmd t f).dma = s.dma := rfl
@[simp] theorem State.modCmd_pools (s : State) (t : Nat) (f : CmdPath → CmdPath) : (s.modCmd t f).pools = s.pools := rfl
@[simp] theorem State.modCmd_led (s : State) (t : Nat) (f : CmdPath → CmdPath) : (s.modCmd t f).led = s.led := rfl
@[simp] theorem State.modCmd_cfg (s : State) (t : Nat) (f : CmdPath → CmdPath) : (s.modCmd t f).cfg = s.cfg := rfl
@[simp] theorem State.modCmd_cri (s : State) (t : Nat) (f : CmdPath → CmdPath) : (s.modCmd t f).cri = s.cri := rfl
@[simp] theorem State.modCmd_pcie (s : State) (t : Nat) (f : CmdPath → CmdPath) : (s.modCmd t f).pcie = s.pcie := rfl
@[simp] theorem State.modCmd_pwr (s : State) (t : Nat) (f : CmdPath → CmdPath) : (s.modCmd t f).pwr = s.pwr := rfl
@[simp] theorem State.modCmd_rst (s : State) (t : Nat) (f : CmdPath → CmdPath) : (s.modCmd t f).rst = s.rst := rfl
@[simp] theorem State.modCmd_twn (s : State) (t : Nat) (f : CmdPath → CmdPath) : (s.modCmd t f).twn = s.twn := rfl
@[simp] theorem State.modCmd_sec (s : State) (t : Nat) (f : CmdPath → CmdPath) : (s.modCmd t f).sec = s.sec := rfl
@[simp] theorem State.modCmd_pins (s : State) (t : Nat) (f : CmdPath → CmdPath) : (s.modCmd t f).pins = s.pins := rfl

/-! ### `State.modChan` changes `dma` only -/

@[simp] theorem State.modChan_pending (s : State) (c : Nat) (f : Chan → Chan) : (s.modChan c f).pending = s.pending := rfl
@[simp] theorem State.modChan_out (s : State) (c : Nat) (f : Chan → Chan) : (s.modChan c f).out = s.out := rfl
@[simp] theorem State.modChan_free (s : State) (c : Nat) (f : Chan → Chan) : (s.modChan c f).free = s.free := rfl
@[simp] theorem State.modChan_regs (s : State) (c : Nat) (f : Chan → Chan) : (s.modChan c f).regs = s.regs := rfl
@[simp] theorem State.modChan_holds (s : State) (c : Nat) (f : Chan → Chan) : (s.modChan c f).holds = s.holds := rfl
@[simp] theorem State.modChan_time (s : State) (c : Nat) (f : Chan → Chan) : (s.modChan c f).time = s.time := rfl
@[simp] theorem State.modChan_halt (s : State) (c : Nat) (f : Chan → Chan) : (s.modChan c f).halt = s.halt := rfl
@[simp] theorem State.modChan_mrc (s : State) (c : Nat) (f : Chan → Chan) : (s.modChan c f).mrc = s.mrc := rfl
@[simp] theorem State.modChan_alm (s : State) (c : Nat) (f : Chan → Chan) : (s.modChan c f).alm = s.alm := rfl
@[simp] theorem State.modChan_frames (s : State) (c : Nat) (f : Chan → Chan) : (s.modChan c f).frames = s.frames := rfl
@[simp] theorem State.modChan_areas (s : State) (c : Nat) (f : Chan → Chan) : (s.modChan c f).areas = s.areas := rfl
@[simp] theorem State.modChan_links (s : State) (c : Nat) (f : Chan → Chan) : (s.modChan c f).links = s.links := rfl
@[simp] theorem State.modChan_places (s : State) (c : Nat) (f : Chan → Chan) : (s.modChan c f).places = s.places := rfl
@[simp] theorem State.modChan_eps (s : State) (c : Nat) (f : Chan → Chan) : (s.modChan c f).eps = s.eps := rfl
@[simp] theorem State.modChan_txns (s : State) (c : Nat) (f : Chan → Chan) : (s.modChan c f).txns = s.txns := rfl
@[simp] theorem State.modChan_qps (s : State) (c : Nat) (f : Chan → Chan) : (s.modChan c f).qps = s.qps := rfl
@[simp] theorem State.modChan_pools (s : State) (c : Nat) (f : Chan → Chan) : (s.modChan c f).pools = s.pools := rfl
@[simp] theorem State.modChan_cmds (s : State) (c : Nat) (f : Chan → Chan) : (s.modChan c f).cmds = s.cmds := rfl
@[simp] theorem State.modChan_led (s : State) (c : Nat) (f : Chan → Chan) : (s.modChan c f).led = s.led := rfl
@[simp] theorem State.modChan_cfg (s : State) (c : Nat) (f : Chan → Chan) : (s.modChan c f).cfg = s.cfg := rfl
@[simp] theorem State.modChan_cri (s : State) (c : Nat) (f : Chan → Chan) : (s.modChan c f).cri = s.cri := rfl
@[simp] theorem State.modChan_pcie (s : State) (c : Nat) (f : Chan → Chan) : (s.modChan c f).pcie = s.pcie := rfl
@[simp] theorem State.modChan_pwr (s : State) (c : Nat) (f : Chan → Chan) : (s.modChan c f).pwr = s.pwr := rfl
@[simp] theorem State.modChan_rst (s : State) (c : Nat) (f : Chan → Chan) : (s.modChan c f).rst = s.rst := rfl
@[simp] theorem State.modChan_twn (s : State) (c : Nat) (f : Chan → Chan) : (s.modChan c f).twn = s.twn := rfl
@[simp] theorem State.modChan_sec (s : State) (c : Nat) (f : Chan → Chan) : (s.modChan c f).sec = s.sec := rfl
@[simp] theorem State.modChan_pins (s : State) (c : Nat) (f : Chan → Chan) : (s.modChan c f).pins = s.pins := rfl

/-! ### `State.modLink` changes `links` only -/

@[simp] theorem State.modLink_pending (s : State) (l : Nat) (f : Link → Link) : (s.modLink l f).pending = s.pending := rfl
@[simp] theorem State.modLink_out (s : State) (l : Nat) (f : Link → Link) : (s.modLink l f).out = s.out := rfl
@[simp] theorem State.modLink_free (s : State) (l : Nat) (f : Link → Link) : (s.modLink l f).free = s.free := rfl
@[simp] theorem State.modLink_regs (s : State) (l : Nat) (f : Link → Link) : (s.modLink l f).regs = s.regs := rfl
@[simp] theorem State.modLink_holds (s : State) (l : Nat) (f : Link → Link) : (s.modLink l f).holds = s.holds := rfl
@[simp] theorem State.modLink_time (s : State) (l : Nat) (f : Link → Link) : (s.modLink l f).time = s.time := rfl
@[simp] theorem State.modLink_halt (s : State) (l : Nat) (f : Link → Link) : (s.modLink l f).halt = s.halt := rfl
@[simp] theorem State.modLink_mrc (s : State) (l : Nat) (f : Link → Link) : (s.modLink l f).mrc = s.mrc := rfl
@[simp] theorem State.modLink_alm (s : State) (l : Nat) (f : Link → Link) : (s.modLink l f).alm = s.alm := rfl
@[simp] theorem State.modLink_frames (s : State) (l : Nat) (f : Link → Link) : (s.modLink l f).frames = s.frames := rfl
@[simp] theorem State.modLink_areas (s : State) (l : Nat) (f : Link → Link) : (s.modLink l f).areas = s.areas := rfl
@[simp] theorem State.modLink_places (s : State) (l : Nat) (f : Link → Link) : (s.modLink l f).places = s.places := rfl
@[simp] theorem State.modLink_eps (s : State) (l : Nat) (f : Link → Link) : (s.modLink l f).eps = s.eps := rfl
@[simp] theorem State.modLink_txns (s : State) (l : Nat) (f : Link → Link) : (s.modLink l f).txns = s.txns := rfl
@[simp] theorem State.modLink_qps (s : State) (l : Nat) (f : Link → Link) : (s.modLink l f).qps = s.qps := rfl
@[simp] theorem State.modLink_dma (s : State) (l : Nat) (f : Link → Link) : (s.modLink l f).dma = s.dma := rfl
@[simp] theorem State.modLink_pools (s : State) (l : Nat) (f : Link → Link) : (s.modLink l f).pools = s.pools := rfl
@[simp] theorem State.modLink_cmds (s : State) (l : Nat) (f : Link → Link) : (s.modLink l f).cmds = s.cmds := rfl
@[simp] theorem State.modLink_led (s : State) (l : Nat) (f : Link → Link) : (s.modLink l f).led = s.led := rfl
@[simp] theorem State.modLink_cfg (s : State) (l : Nat) (f : Link → Link) : (s.modLink l f).cfg = s.cfg := rfl
@[simp] theorem State.modLink_cri (s : State) (l : Nat) (f : Link → Link) : (s.modLink l f).cri = s.cri := rfl
@[simp] theorem State.modLink_pcie (s : State) (l : Nat) (f : Link → Link) : (s.modLink l f).pcie = s.pcie := rfl
@[simp] theorem State.modLink_pwr (s : State) (l : Nat) (f : Link → Link) : (s.modLink l f).pwr = s.pwr := rfl
@[simp] theorem State.modLink_rst (s : State) (l : Nat) (f : Link → Link) : (s.modLink l f).rst = s.rst := rfl
@[simp] theorem State.modLink_twn (s : State) (l : Nat) (f : Link → Link) : (s.modLink l f).twn = s.twn := rfl
@[simp] theorem State.modLink_sec (s : State) (l : Nat) (f : Link → Link) : (s.modLink l f).sec = s.sec := rfl
@[simp] theorem State.modLink_pins (s : State) (l : Nat) (f : Link → Link) : (s.modLink l f).pins = s.pins := rfl

/-! ### `State.modEp` changes `eps` only -/

@[simp] theorem State.modEp_pending (s : State) (addr ep : Nat) (dirIn : Bool) (f : Ep → Ep) : (s.modEp addr ep dirIn f).pending = s.pending := rfl
@[simp] theorem State.modEp_out (s : State) (addr ep : Nat) (dirIn : Bool) (f : Ep → Ep) : (s.modEp addr ep dirIn f).out = s.out := rfl
@[simp] theorem State.modEp_free (s : State) (addr ep : Nat) (dirIn : Bool) (f : Ep → Ep) : (s.modEp addr ep dirIn f).free = s.free := rfl
@[simp] theorem State.modEp_regs (s : State) (addr ep : Nat) (dirIn : Bool) (f : Ep → Ep) : (s.modEp addr ep dirIn f).regs = s.regs := rfl
@[simp] theorem State.modEp_holds (s : State) (addr ep : Nat) (dirIn : Bool) (f : Ep → Ep) : (s.modEp addr ep dirIn f).holds = s.holds := rfl
@[simp] theorem State.modEp_time (s : State) (addr ep : Nat) (dirIn : Bool) (f : Ep → Ep) : (s.modEp addr ep dirIn f).time = s.time := rfl
@[simp] theorem State.modEp_halt (s : State) (addr ep : Nat) (dirIn : Bool) (f : Ep → Ep) : (s.modEp addr ep dirIn f).halt = s.halt := rfl
@[simp] theorem State.modEp_mrc (s : State) (addr ep : Nat) (dirIn : Bool) (f : Ep → Ep) : (s.modEp addr ep dirIn f).mrc = s.mrc := rfl
@[simp] theorem State.modEp_alm (s : State) (addr ep : Nat) (dirIn : Bool) (f : Ep → Ep) : (s.modEp addr ep dirIn f).alm = s.alm := rfl
@[simp] theorem State.modEp_frames (s : State) (addr ep : Nat) (dirIn : Bool) (f : Ep → Ep) : (s.modEp addr ep dirIn f).frames = s.frames := rfl
@[simp] theorem State.modEp_areas (s : State) (addr ep : Nat) (dirIn : Bool) (f : Ep → Ep) : (s.modEp addr ep dirIn f).areas = s.areas := rfl
@[simp] theorem State.modEp_links (s : State) (addr ep : Nat) (dirIn : Bool) (f : Ep → Ep) : (s.modEp addr ep dirIn f).links = s.links := rfl
@[simp] theorem State.modEp_places (s : State) (addr ep : Nat) (dirIn : Bool) (f : Ep → Ep) : (s.modEp addr ep dirIn f).places = s.places := rfl
@[simp] theorem State.modEp_txns (s : State) (addr ep : Nat) (dirIn : Bool) (f : Ep → Ep) : (s.modEp addr ep dirIn f).txns = s.txns := rfl
@[simp] theorem State.modEp_qps (s : State) (addr ep : Nat) (dirIn : Bool) (f : Ep → Ep) : (s.modEp addr ep dirIn f).qps = s.qps := rfl
@[simp] theorem State.modEp_dma (s : State) (addr ep : Nat) (dirIn : Bool) (f : Ep → Ep) : (s.modEp addr ep dirIn f).dma = s.dma := rfl
@[simp] theorem State.modEp_pools (s : State) (addr ep : Nat) (dirIn : Bool) (f : Ep → Ep) : (s.modEp addr ep dirIn f).pools = s.pools := rfl
@[simp] theorem State.modEp_cmds (s : State) (addr ep : Nat) (dirIn : Bool) (f : Ep → Ep) : (s.modEp addr ep dirIn f).cmds = s.cmds := rfl
@[simp] theorem State.modEp_led (s : State) (addr ep : Nat) (dirIn : Bool) (f : Ep → Ep) : (s.modEp addr ep dirIn f).led = s.led := rfl
@[simp] theorem State.modEp_cfg (s : State) (addr ep : Nat) (dirIn : Bool) (f : Ep → Ep) : (s.modEp addr ep dirIn f).cfg = s.cfg := rfl
@[simp] theorem State.modEp_cri (s : State) (addr ep : Nat) (dirIn : Bool) (f : Ep → Ep) : (s.modEp addr ep dirIn f).cri = s.cri := rfl
@[simp] theorem State.modEp_pcie (s : State) (addr ep : Nat) (dirIn : Bool) (f : Ep → Ep) : (s.modEp addr ep dirIn f).pcie = s.pcie := rfl
@[simp] theorem State.modEp_pwr (s : State) (addr ep : Nat) (dirIn : Bool) (f : Ep → Ep) : (s.modEp addr ep dirIn f).pwr = s.pwr := rfl
@[simp] theorem State.modEp_rst (s : State) (addr ep : Nat) (dirIn : Bool) (f : Ep → Ep) : (s.modEp addr ep dirIn f).rst = s.rst := rfl
@[simp] theorem State.modEp_twn (s : State) (addr ep : Nat) (dirIn : Bool) (f : Ep → Ep) : (s.modEp addr ep dirIn f).twn = s.twn := rfl
@[simp] theorem State.modEp_sec (s : State) (addr ep : Nat) (dirIn : Bool) (f : Ep → Ep) : (s.modEp addr ep dirIn f).sec = s.sec := rfl
@[simp] theorem State.modEp_pins (s : State) (addr ep : Nat) (dirIn : Bool) (f : Ep → Ep) : (s.modEp addr ep dirIn f).pins = s.pins := rfl

/-! ### `State.modDevEps` changes `eps` only -/

@[simp] theorem State.modDevEps_pending (s : State) (addr : Nat) (f : Ep → Ep) : (s.modDevEps addr f).pending = s.pending := rfl
@[simp] theorem State.modDevEps_out (s : State) (addr : Nat) (f : Ep → Ep) : (s.modDevEps addr f).out = s.out := rfl
@[simp] theorem State.modDevEps_free (s : State) (addr : Nat) (f : Ep → Ep) : (s.modDevEps addr f).free = s.free := rfl
@[simp] theorem State.modDevEps_regs (s : State) (addr : Nat) (f : Ep → Ep) : (s.modDevEps addr f).regs = s.regs := rfl
@[simp] theorem State.modDevEps_holds (s : State) (addr : Nat) (f : Ep → Ep) : (s.modDevEps addr f).holds = s.holds := rfl
@[simp] theorem State.modDevEps_time (s : State) (addr : Nat) (f : Ep → Ep) : (s.modDevEps addr f).time = s.time := rfl
@[simp] theorem State.modDevEps_halt (s : State) (addr : Nat) (f : Ep → Ep) : (s.modDevEps addr f).halt = s.halt := rfl
@[simp] theorem State.modDevEps_mrc (s : State) (addr : Nat) (f : Ep → Ep) : (s.modDevEps addr f).mrc = s.mrc := rfl
@[simp] theorem State.modDevEps_alm (s : State) (addr : Nat) (f : Ep → Ep) : (s.modDevEps addr f).alm = s.alm := rfl
@[simp] theorem State.modDevEps_frames (s : State) (addr : Nat) (f : Ep → Ep) : (s.modDevEps addr f).frames = s.frames := rfl
@[simp] theorem State.modDevEps_areas (s : State) (addr : Nat) (f : Ep → Ep) : (s.modDevEps addr f).areas = s.areas := rfl
@[simp] theorem State.modDevEps_links (s : State) (addr : Nat) (f : Ep → Ep) : (s.modDevEps addr f).links = s.links := rfl
@[simp] theorem State.modDevEps_places (s : State) (addr : Nat) (f : Ep → Ep) : (s.modDevEps addr f).places = s.places := rfl
@[simp] theorem State.modDevEps_txns (s : State) (addr : Nat) (f : Ep → Ep) : (s.modDevEps addr f).txns = s.txns := rfl
@[simp] theorem State.modDevEps_qps (s : State) (addr : Nat) (f : Ep → Ep) : (s.modDevEps addr f).qps = s.qps := rfl
@[simp] theorem State.modDevEps_dma (s : State) (addr : Nat) (f : Ep → Ep) : (s.modDevEps addr f).dma = s.dma := rfl
@[simp] theorem State.modDevEps_pools (s : State) (addr : Nat) (f : Ep → Ep) : (s.modDevEps addr f).pools = s.pools := rfl
@[simp] theorem State.modDevEps_cmds (s : State) (addr : Nat) (f : Ep → Ep) : (s.modDevEps addr f).cmds = s.cmds := rfl
@[simp] theorem State.modDevEps_led (s : State) (addr : Nat) (f : Ep → Ep) : (s.modDevEps addr f).led = s.led := rfl
@[simp] theorem State.modDevEps_cfg (s : State) (addr : Nat) (f : Ep → Ep) : (s.modDevEps addr f).cfg = s.cfg := rfl
@[simp] theorem State.modDevEps_cri (s : State) (addr : Nat) (f : Ep → Ep) : (s.modDevEps addr f).cri = s.cri := rfl
@[simp] theorem State.modDevEps_pcie (s : State) (addr : Nat) (f : Ep → Ep) : (s.modDevEps addr f).pcie = s.pcie := rfl
@[simp] theorem State.modDevEps_pwr (s : State) (addr : Nat) (f : Ep → Ep) : (s.modDevEps addr f).pwr = s.pwr := rfl
@[simp] theorem State.modDevEps_rst (s : State) (addr : Nat) (f : Ep → Ep) : (s.modDevEps addr f).rst = s.rst := rfl
@[simp] theorem State.modDevEps_twn (s : State) (addr : Nat) (f : Ep → Ep) : (s.modDevEps addr f).twn = s.twn := rfl
@[simp] theorem State.modDevEps_sec (s : State) (addr : Nat) (f : Ep → Ep) : (s.modDevEps addr f).sec = s.sec := rfl
@[simp] theorem State.modDevEps_pins (s : State) (addr : Nat) (f : Ep → Ep) : (s.modDevEps addr f).pins = s.pins := rfl

/-! ### `State.setPlace` changes `places` only -/

@[simp] theorem State.setPlace_pending (s : State) (p : Place) : (s.setPlace p).pending = s.pending := rfl
@[simp] theorem State.setPlace_out (s : State) (p : Place) : (s.setPlace p).out = s.out := rfl
@[simp] theorem State.setPlace_free (s : State) (p : Place) : (s.setPlace p).free = s.free := rfl
@[simp] theorem State.setPlace_regs (s : State) (p : Place) : (s.setPlace p).regs = s.regs := rfl
@[simp] theorem State.setPlace_holds (s : State) (p : Place) : (s.setPlace p).holds = s.holds := rfl
@[simp] theorem State.setPlace_time (s : State) (p : Place) : (s.setPlace p).time = s.time := rfl
@[simp] theorem State.setPlace_halt (s : State) (p : Place) : (s.setPlace p).halt = s.halt := rfl
@[simp] theorem State.setPlace_mrc (s : State) (p : Place) : (s.setPlace p).mrc = s.mrc := rfl
@[simp] theorem State.setPlace_alm (s : State) (p : Place) : (s.setPlace p).alm = s.alm := rfl
@[simp] theorem State.setPlace_frames (s : State) (p : Place) : (s.setPlace p).frames = s.frames := rfl
@[simp] theorem State.setPlace_areas (s : State) (p : Place) : (s.setPlace p).areas = s.areas := rfl
@[simp] theorem State.setPlace_links (s : State) (p : Place) : (s.setPlace p).links = s.links := rfl
@[simp] theorem State.setPlace_eps (s : State) (p : Place) : (s.setPlace p).eps = s.eps := rfl
@[simp] theorem State.setPlace_txns (s : State) (p : Place) : (s.setPlace p).txns = s.txns := rfl
@[simp] theorem State.setPlace_qps (s : State) (p : Place) : (s.setPlace p).qps = s.qps := rfl
@[simp] theorem State.setPlace_dma (s : State) (p : Place) : (s.setPlace p).dma = s.dma := rfl
@[simp] theorem State.setPlace_pools (s : State) (p : Place) : (s.setPlace p).pools = s.pools := rfl
@[simp] theorem State.setPlace_cmds (s : State) (p : Place) : (s.setPlace p).cmds = s.cmds := rfl
@[simp] theorem State.setPlace_led (s : State) (p : Place) : (s.setPlace p).led = s.led := rfl
@[simp] theorem State.setPlace_cfg (s : State) (p : Place) : (s.setPlace p).cfg = s.cfg := rfl
@[simp] theorem State.setPlace_cri (s : State) (p : Place) : (s.setPlace p).cri = s.cri := rfl
@[simp] theorem State.setPlace_pcie (s : State) (p : Place) : (s.setPlace p).pcie = s.pcie := rfl
@[simp] theorem State.setPlace_pwr (s : State) (p : Place) : (s.setPlace p).pwr = s.pwr := rfl
@[simp] theorem State.setPlace_rst (s : State) (p : Place) : (s.setPlace p).rst = s.rst := rfl
@[simp] theorem State.setPlace_twn (s : State) (p : Place) : (s.setPlace p).twn = s.twn := rfl
@[simp] theorem State.setPlace_sec (s : State) (p : Place) : (s.setPlace p).sec = s.sec := rfl
@[simp] theorem State.setPlace_pins (s : State) (p : Place) : (s.setPlace p).pins = s.pins := rfl

/-! ### The fields that an update writes -/

@[simp] theorem State.setReg_regs (s : State) (r : Reg) (i : Nat) (w : Word) :
    (s.setReg r i w).regs = Tab.set s.regs (r.ctorIdx * 4096 + i) w := rfl
@[simp] theorem State.emit_out (s : State) (o : Output) : (s.emit o).out = s.out ++ [o] := rfl
@[simp] theorem State.nextFree_free (s : State) : s.nextFree.free = s.free + 1 := rfl
@[simp] theorem State.skipFree_free (s : State) (n : Nat) : (s.skipFree n).free = s.free + n := rfl
@[simp] theorem State.setQp_qps (s : State) (q : Nat) (v : Qp) : (s.setQp q v).qps = Tab.set s.qps q v := rfl
@[simp] theorem State.modQp_qps (s : State) (q : Nat) (f : Qp → Qp) : (s.modQp q f).qps = Tab.set s.qps q (f (s.qp q)) := rfl
@[simp] theorem State.modCmd_cmds (s : State) (t : Nat) (f : CmdPath → CmdPath) :
    (s.modCmd t f).cmds = Tab.set s.cmds t (f (s.cmd t)) := rfl
@[simp] theorem State.modLink_links (s : State) (l : Nat) (f : Link → Link) :
    (s.modLink l f).links = Tab.set s.links l (f (s.link l)) := rfl
@[simp] theorem State.setPlace_places (s : State) (p : Place) :
    (s.setPlace p).places = Tab.set s.places p.route.toNat p := rfl

/-! ### `State.modPlace` changes `places` only -/

@[simp] theorem State.modPlace_pending (s : State) (r : DWord) (f : Place → Place) : (s.modPlace r f).pending = s.pending := by
  unfold State.modPlace; split <;> rfl
@[simp] theorem State.modPlace_out (s : State) (r : DWord) (f : Place → Place) : (s.modPlace r f).out = s.out := by
  unfold State.modPlace; split <;> rfl
@[simp] theorem State.modPlace_free (s : State) (r : DWord) (f : Place → Place) : (s.modPlace r f).free = s.free := by
  unfold State.modPlace; split <;> rfl
@[simp] theorem State.modPlace_regs (s : State) (r : DWord) (f : Place → Place) : (s.modPlace r f).regs = s.regs := by
  unfold State.modPlace; split <;> rfl
@[simp] theorem State.modPlace_holds (s : State) (r : DWord) (f : Place → Place) : (s.modPlace r f).holds = s.holds := by
  unfold State.modPlace; split <;> rfl
@[simp] theorem State.modPlace_time (s : State) (r : DWord) (f : Place → Place) : (s.modPlace r f).time = s.time := by
  unfold State.modPlace; split <;> rfl
@[simp] theorem State.modPlace_halt (s : State) (r : DWord) (f : Place → Place) : (s.modPlace r f).halt = s.halt := by
  unfold State.modPlace; split <;> rfl
@[simp] theorem State.modPlace_mrc (s : State) (r : DWord) (f : Place → Place) : (s.modPlace r f).mrc = s.mrc := by
  unfold State.modPlace; split <;> rfl
@[simp] theorem State.modPlace_alm (s : State) (r : DWord) (f : Place → Place) : (s.modPlace r f).alm = s.alm := by
  unfold State.modPlace; split <;> rfl
@[simp] theorem State.modPlace_frames (s : State) (r : DWord) (f : Place → Place) : (s.modPlace r f).frames = s.frames := by
  unfold State.modPlace; split <;> rfl
@[simp] theorem State.modPlace_areas (s : State) (r : DWord) (f : Place → Place) : (s.modPlace r f).areas = s.areas := by
  unfold State.modPlace; split <;> rfl
@[simp] theorem State.modPlace_links (s : State) (r : DWord) (f : Place → Place) : (s.modPlace r f).links = s.links := by
  unfold State.modPlace; split <;> rfl
@[simp] theorem State.modPlace_eps (s : State) (r : DWord) (f : Place → Place) : (s.modPlace r f).eps = s.eps := by
  unfold State.modPlace; split <;> rfl
@[simp] theorem State.modPlace_txns (s : State) (r : DWord) (f : Place → Place) : (s.modPlace r f).txns = s.txns := by
  unfold State.modPlace; split <;> rfl
@[simp] theorem State.modPlace_qps (s : State) (r : DWord) (f : Place → Place) : (s.modPlace r f).qps = s.qps := by
  unfold State.modPlace; split <;> rfl
@[simp] theorem State.modPlace_dma (s : State) (r : DWord) (f : Place → Place) : (s.modPlace r f).dma = s.dma := by
  unfold State.modPlace; split <;> rfl
@[simp] theorem State.modPlace_pools (s : State) (r : DWord) (f : Place → Place) : (s.modPlace r f).pools = s.pools := by
  unfold State.modPlace; split <;> rfl
@[simp] theorem State.modPlace_cmds (s : State) (r : DWord) (f : Place → Place) : (s.modPlace r f).cmds = s.cmds := by
  unfold State.modPlace; split <;> rfl
@[simp] theorem State.modPlace_led (s : State) (r : DWord) (f : Place → Place) : (s.modPlace r f).led = s.led := by
  unfold State.modPlace; split <;> rfl
@[simp] theorem State.modPlace_cfg (s : State) (r : DWord) (f : Place → Place) : (s.modPlace r f).cfg = s.cfg := by
  unfold State.modPlace; split <;> rfl
@[simp] theorem State.modPlace_cri (s : State) (r : DWord) (f : Place → Place) : (s.modPlace r f).cri = s.cri := by
  unfold State.modPlace; split <;> rfl
@[simp] theorem State.modPlace_pcie (s : State) (r : DWord) (f : Place → Place) : (s.modPlace r f).pcie = s.pcie := by
  unfold State.modPlace; split <;> rfl
@[simp] theorem State.modPlace_pwr (s : State) (r : DWord) (f : Place → Place) : (s.modPlace r f).pwr = s.pwr := by
  unfold State.modPlace; split <;> rfl
@[simp] theorem State.modPlace_rst (s : State) (r : DWord) (f : Place → Place) : (s.modPlace r f).rst = s.rst := by
  unfold State.modPlace; split <;> rfl
@[simp] theorem State.modPlace_twn (s : State) (r : DWord) (f : Place → Place) : (s.modPlace r f).twn = s.twn := by
  unfold State.modPlace; split <;> rfl
@[simp] theorem State.modPlace_sec (s : State) (r : DWord) (f : Place → Place) : (s.modPlace r f).sec = s.sec := by
  unfold State.modPlace; split <;> rfl
@[simp] theorem State.modPlace_pins (s : State) (r : DWord) (f : Place → Place) : (s.modPlace r f).pins = s.pins := by
  unfold State.modPlace; split <;> rfl

/-! ### Readers see through updates of other fields -/

@[simp] theorem State.setReg_rd_qp (s : State) (r : Reg) (i : Nat) (w : Word) (j : Nat) :
    (s.setReg r i w).qp j = s.qp j := rfl
@[simp] theorem State.setReg_rd_cmd (s : State) (r : Reg) (i : Nat) (w : Word) (j : Nat) :
    (s.setReg r i w).cmd j = s.cmd j := rfl
@[simp] theorem State.setReg_rd_chan (s : State) (r : Reg) (i : Nat) (w : Word) (j : Nat) :
    (s.setReg r i w).chan j = s.chan j := rfl
@[simp] theorem State.setReg_rd_link (s : State) (r : Reg) (i : Nat) (w : Word) (j : Nat) :
    (s.setReg r i w).link j = s.link j := rfl
@[simp] theorem State.setReg_rd_ep (s : State) (r : Reg) (i : Nat) (w : Word) (a2 e2 : Nat) (d2 : Bool) :
    (s.setReg r i w).ep a2 e2 d2 = s.ep a2 e2 d2 := rfl
@[simp] theorem State.setReg_rd_place (s : State) (r : Reg) (i : Nat) (w : Word) (r2 : DWord) :
    (s.setReg r i w).place r2 = s.place r2 := rfl
@[simp] theorem State.setF_rd_qp (s : State) (f : Fld) (i v : Nat) (j : Nat) :
    (s.setF f i v).qp j = s.qp j := rfl
@[simp] theorem State.setF_rd_cmd (s : State) (f : Fld) (i v : Nat) (j : Nat) :
    (s.setF f i v).cmd j = s.cmd j := rfl
@[simp] theorem State.setF_rd_chan (s : State) (f : Fld) (i v : Nat) (j : Nat) :
    (s.setF f i v).chan j = s.chan j := rfl
@[simp] theorem State.setF_rd_link (s : State) (f : Fld) (i v : Nat) (j : Nat) :
    (s.setF f i v).link j = s.link j := rfl
@[simp] theorem State.setF_rd_ep (s : State) (f : Fld) (i v : Nat) (a2 e2 : Nat) (d2 : Bool) :
    (s.setF f i v).ep a2 e2 d2 = s.ep a2 e2 d2 := rfl
@[simp] theorem State.setF_rd_place (s : State) (f : Fld) (i v : Nat) (r2 : DWord) :
    (s.setF f i v).place r2 = s.place r2 := rfl
@[simp] theorem State.addF_rd_qp (s : State) (f : Fld) (i n : Nat) (j : Nat) :
    (s.addF f i n).qp j = s.qp j := rfl
@[simp] theorem State.addF_rd_cmd (s : State) (f : Fld) (i n : Nat) (j : Nat) :
    (s.addF f i n).cmd j = s.cmd j := rfl
@[simp] theorem State.addF_rd_chan (s : State) (f : Fld) (i n : Nat) (j : Nat) :
    (s.addF f i n).chan j = s.chan j := rfl
@[simp] theorem State.addF_rd_link (s : State) (f : Fld) (i n : Nat) (j : Nat) :
    (s.addF f i n).link j = s.link j := rfl
@[simp] theorem State.addF_rd_ep (s : State) (f : Fld) (i n : Nat) (a2 e2 : Nat) (d2 : Bool) :
    (s.addF f i n).ep a2 e2 d2 = s.ep a2 e2 d2 := rfl
@[simp] theorem State.addF_rd_place (s : State) (f : Fld) (i n : Nat) (r2 : DWord) :
    (s.addF f i n).place r2 = s.place r2 := rfl
@[simp] theorem State.setReg64_rd_qp (s : State) (lo hi : Reg) (i : Nat) (v : DWord) (j : Nat) :
    (s.setReg64 lo hi i v).qp j = s.qp j := rfl
@[simp] theorem State.setReg64_rd_cmd (s : State) (lo hi : Reg) (i : Nat) (v : DWord) (j : Nat) :
    (s.setReg64 lo hi i v).cmd j = s.cmd j := rfl
@[simp] theorem State.setReg64_rd_chan (s : State) (lo hi : Reg) (i : Nat) (v : DWord) (j : Nat) :
    (s.setReg64 lo hi i v).chan j = s.chan j := rfl
@[simp] theorem State.setReg64_rd_link (s : State) (lo hi : Reg) (i : Nat) (v : DWord) (j : Nat) :
    (s.setReg64 lo hi i v).link j = s.link j := rfl
@[simp] theorem State.setReg64_rd_ep (s : State) (lo hi : Reg) (i : Nat) (v : DWord) (a2 e2 : Nat) (d2 : Bool) :
    (s.setReg64 lo hi i v).ep a2 e2 d2 = s.ep a2 e2 d2 := rfl
@[simp] theorem State.setReg64_rd_place (s : State) (lo hi : Reg) (i : Nat) (v : DWord) (r2 : DWord) :
    (s.setReg64 lo hi i v).place r2 = s.place r2 := rfl
@[simp] theorem State.emit_rd_reg (s : State) (o : Output) (r2 : Reg) (j : Nat) :
    (s.emit o).reg r2 j = s.reg r2 j := rfl
@[simp] theorem State.emit_rd_getF (s : State) (o : Output) (f2 : Fld) (j : Nat) :
    (s.emit o).getF f2 j = s.getF f2 j := rfl
@[simp] theorem State.emit_rd_bit (s : State) (o : Output) (f2 : Fld) (j : Nat) :
    (s.emit o).bit f2 j = s.bit f2 j := rfl
@[simp] theorem State.emit_rd_reg64 (s : State) (o : Output) (lo2 hi2 : Reg) (j : Nat) :
    (s.emit o).reg64 lo2 hi2 j = s.reg64 lo2 hi2 j := rfl
@[simp] theorem State.emit_rd_qp (s : State) (o : Output) (j : Nat) :
    (s.emit o).qp j = s.qp j := rfl
@[simp] theorem State.emit_rd_cmd (s : State) (o : Output) (j : Nat) :
    (s.emit o).cmd j = s.cmd j := rfl
@[simp] theorem State.emit_rd_chan (s : State) (o : Output) (j : Nat) :
    (s.emit o).chan j = s.chan j := rfl
@[simp] theorem State.emit_rd_link (s : State) (o : Output) (j : Nat) :
    (s.emit o).link j = s.link j := rfl
@[simp] theorem State.emit_rd_ep (s : State) (o : Output) (a2 e2 : Nat) (d2 : Bool) :
    (s.emit o).ep a2 e2 d2 = s.ep a2 e2 d2 := rfl
@[simp] theorem State.emit_rd_place (s : State) (o : Output) (r2 : DWord) :
    (s.emit o).place r2 = s.place r2 := rfl
@[simp] theorem State.nextFree_rd_reg (s : State) (r2 : Reg) (j : Nat) :
    (s.nextFree).reg r2 j = s.reg r2 j := rfl
@[simp] theorem State.nextFree_rd_getF (s : State) (f2 : Fld) (j : Nat) :
    (s.nextFree).getF f2 j = s.getF f2 j := rfl
@[simp] theorem State.nextFree_rd_bit (s : State) (f2 : Fld) (j : Nat) :
    (s.nextFree).bit f2 j = s.bit f2 j := rfl
@[simp] theorem State.nextFree_rd_reg64 (s : State) (lo2 hi2 : Reg) (j : Nat) :
    (s.nextFree).reg64 lo2 hi2 j = s.reg64 lo2 hi2 j := rfl
@[simp] theorem State.nextFree_rd_qp (s : State) (j : Nat) :
    (s.nextFree).qp j = s.qp j := rfl
@[simp] theorem State.nextFree_rd_cmd (s : State) (j : Nat) :
    (s.nextFree).cmd j = s.cmd j := rfl
@[simp] theorem State.nextFree_rd_chan (s : State) (j : Nat) :
    (s.nextFree).chan j = s.chan j := rfl
@[simp] theorem State.nextFree_rd_link (s : State) (j : Nat) :
    (s.nextFree).link j = s.link j := rfl
@[simp] theorem State.nextFree_rd_ep (s : State) (a2 e2 : Nat) (d2 : Bool) :
    (s.nextFree).ep a2 e2 d2 = s.ep a2 e2 d2 := rfl
@[simp] theorem State.nextFree_rd_place (s : State) (r2 : DWord) :
    (s.nextFree).place r2 = s.place r2 := rfl
@[simp] theorem State.skipFree_rd_reg (s : State) (n : Nat) (r2 : Reg) (j : Nat) :
    (s.skipFree n).reg r2 j = s.reg r2 j := rfl
@[simp] theorem State.skipFree_rd_getF (s : State) (n : Nat) (f2 : Fld) (j : Nat) :
    (s.skipFree n).getF f2 j = s.getF f2 j := rfl
@[simp] theorem State.skipFree_rd_bit (s : State) (n : Nat) (f2 : Fld) (j : Nat) :
    (s.skipFree n).bit f2 j = s.bit f2 j := rfl
@[simp] theorem State.skipFree_rd_reg64 (s : State) (n : Nat) (lo2 hi2 : Reg) (j : Nat) :
    (s.skipFree n).reg64 lo2 hi2 j = s.reg64 lo2 hi2 j := rfl
@[simp] theorem State.skipFree_rd_qp (s : State) (n : Nat) (j : Nat) :
    (s.skipFree n).qp j = s.qp j := rfl
@[simp] theorem State.skipFree_rd_cmd (s : State) (n : Nat) (j : Nat) :
    (s.skipFree n).cmd j = s.cmd j := rfl
@[simp] theorem State.skipFree_rd_chan (s : State) (n : Nat) (j : Nat) :
    (s.skipFree n).chan j = s.chan j := rfl
@[simp] theorem State.skipFree_rd_link (s : State) (n : Nat) (j : Nat) :
    (s.skipFree n).link j = s.link j := rfl
@[simp] theorem State.skipFree_rd_ep (s : State) (n : Nat) (a2 e2 : Nat) (d2 : Bool) :
    (s.skipFree n).ep a2 e2 d2 = s.ep a2 e2 d2 := rfl
@[simp] theorem State.skipFree_rd_place (s : State) (n : Nat) (r2 : DWord) :
    (s.skipFree n).place r2 = s.place r2 := rfl
@[simp] theorem State.setQp_rd_reg (s : State) (q : Nat) (v : Qp) (r2 : Reg) (j : Nat) :
    (s.setQp q v).reg r2 j = s.reg r2 j := rfl
@[simp] theorem State.setQp_rd_getF (s : State) (q : Nat) (v : Qp) (f2 : Fld) (j : Nat) :
    (s.setQp q v).getF f2 j = s.getF f2 j := rfl
@[simp] theorem State.setQp_rd_bit (s : State) (q : Nat) (v : Qp) (f2 : Fld) (j : Nat) :
    (s.setQp q v).bit f2 j = s.bit f2 j := rfl
@[simp] theorem State.setQp_rd_reg64 (s : State) (q : Nat) (v : Qp) (lo2 hi2 : Reg) (j : Nat) :
    (s.setQp q v).reg64 lo2 hi2 j = s.reg64 lo2 hi2 j := rfl
@[simp] theorem State.setQp_rd_cmd (s : State) (q : Nat) (v : Qp) (j : Nat) :
    (s.setQp q v).cmd j = s.cmd j := rfl
@[simp] theorem State.setQp_rd_chan (s : State) (q : Nat) (v : Qp) (j : Nat) :
    (s.setQp q v).chan j = s.chan j := rfl
@[simp] theorem State.setQp_rd_link (s : State) (q : Nat) (v : Qp) (j : Nat) :
    (s.setQp q v).link j = s.link j := rfl
@[simp] theorem State.setQp_rd_ep (s : State) (q : Nat) (v : Qp) (a2 e2 : Nat) (d2 : Bool) :
    (s.setQp q v).ep a2 e2 d2 = s.ep a2 e2 d2 := rfl
@[simp] theorem State.setQp_rd_place (s : State) (q : Nat) (v : Qp) (r2 : DWord) :
    (s.setQp q v).place r2 = s.place r2 := rfl
@[simp] theorem State.modQp_rd_reg (s : State) (q : Nat) (f : Qp → Qp) (r2 : Reg) (j : Nat) :
    (s.modQp q f).reg r2 j = s.reg r2 j := rfl
@[simp] theorem State.modQp_rd_getF (s : State) (q : Nat) (f : Qp → Qp) (f2 : Fld) (j : Nat) :
    (s.modQp q f).getF f2 j = s.getF f2 j := rfl
@[simp] theorem State.modQp_rd_bit (s : State) (q : Nat) (f : Qp → Qp) (f2 : Fld) (j : Nat) :
    (s.modQp q f).bit f2 j = s.bit f2 j := rfl
@[simp] theorem State.modQp_rd_reg64 (s : State) (q : Nat) (f : Qp → Qp) (lo2 hi2 : Reg) (j : Nat) :
    (s.modQp q f).reg64 lo2 hi2 j = s.reg64 lo2 hi2 j := rfl
@[simp] theorem State.modQp_rd_cmd (s : State) (q : Nat) (f : Qp → Qp) (j : Nat) :
    (s.modQp q f).cmd j = s.cmd j := rfl
@[simp] theorem State.modQp_rd_chan (s : State) (q : Nat) (f : Qp → Qp) (j : Nat) :
    (s.modQp q f).chan j = s.chan j := rfl
@[simp] theorem State.modQp_rd_link (s : State) (q : Nat) (f : Qp → Qp) (j : Nat) :
    (s.modQp q f).link j = s.link j := rfl
@[simp] theorem State.modQp_rd_ep (s : State) (q : Nat) (f : Qp → Qp) (a2 e2 : Nat) (d2 : Bool) :
    (s.modQp q f).ep a2 e2 d2 = s.ep a2 e2 d2 := rfl
@[simp] theorem State.modQp_rd_place (s : State) (q : Nat) (f : Qp → Qp) (r2 : DWord) :
    (s.modQp q f).place r2 = s.place r2 := rfl
@[simp] theorem State.modCmd_rd_reg (s : State) (t : Nat) (f : CmdPath → CmdPath) (r2 : Reg) (j : Nat) :
    (s.modCmd t f).reg r2 j = s.reg r2 j := rfl
@[simp] theorem State.modCmd_rd_getF (s : State) (t : Nat) (f : CmdPath → CmdPath) (f2 : Fld) (j : Nat) :
    (s.modCmd t f).getF f2 j = s.getF f2 j := rfl
@[simp] theorem State.modCmd_rd_bit (s : State) (t : Nat) (f : CmdPath → CmdPath) (f2 : Fld) (j : Nat) :
    (s.modCmd t f).bit f2 j = s.bit f2 j := rfl
@[simp] theorem State.modCmd_rd_reg64 (s : State) (t : Nat) (f : CmdPath → CmdPath) (lo2 hi2 : Reg) (j : Nat) :
    (s.modCmd t f).reg64 lo2 hi2 j = s.reg64 lo2 hi2 j := rfl
@[simp] theorem State.modCmd_rd_qp (s : State) (t : Nat) (f : CmdPath → CmdPath) (j : Nat) :
    (s.modCmd t f).qp j = s.qp j := rfl
@[simp] theorem State.modCmd_rd_chan (s : State) (t : Nat) (f : CmdPath → CmdPath) (j : Nat) :
    (s.modCmd t f).chan j = s.chan j := rfl
@[simp] theorem State.modCmd_rd_link (s : State) (t : Nat) (f : CmdPath → CmdPath) (j : Nat) :
    (s.modCmd t f).link j = s.link j := rfl
@[simp] theorem State.modCmd_rd_ep (s : State) (t : Nat) (f : CmdPath → CmdPath) (a2 e2 : Nat) (d2 : Bool) :
    (s.modCmd t f).ep a2 e2 d2 = s.ep a2 e2 d2 := rfl
@[simp] theorem State.modCmd_rd_place (s : State) (t : Nat) (f : CmdPath → CmdPath) (r2 : DWord) :
    (s.modCmd t f).place r2 = s.place r2 := rfl
@[simp] theorem State.modChan_rd_reg (s : State) (c : Nat) (f : Chan → Chan) (r2 : Reg) (j : Nat) :
    (s.modChan c f).reg r2 j = s.reg r2 j := rfl
@[simp] theorem State.modChan_rd_getF (s : State) (c : Nat) (f : Chan → Chan) (f2 : Fld) (j : Nat) :
    (s.modChan c f).getF f2 j = s.getF f2 j := rfl
@[simp] theorem State.modChan_rd_bit (s : State) (c : Nat) (f : Chan → Chan) (f2 : Fld) (j : Nat) :
    (s.modChan c f).bit f2 j = s.bit f2 j := rfl
@[simp] theorem State.modChan_rd_reg64 (s : State) (c : Nat) (f : Chan → Chan) (lo2 hi2 : Reg) (j : Nat) :
    (s.modChan c f).reg64 lo2 hi2 j = s.reg64 lo2 hi2 j := rfl
@[simp] theorem State.modChan_rd_qp (s : State) (c : Nat) (f : Chan → Chan) (j : Nat) :
    (s.modChan c f).qp j = s.qp j := rfl
@[simp] theorem State.modChan_rd_cmd (s : State) (c : Nat) (f : Chan → Chan) (j : Nat) :
    (s.modChan c f).cmd j = s.cmd j := rfl
@[simp] theorem State.modChan_rd_link (s : State) (c : Nat) (f : Chan → Chan) (j : Nat) :
    (s.modChan c f).link j = s.link j := rfl
@[simp] theorem State.modChan_rd_ep (s : State) (c : Nat) (f : Chan → Chan) (a2 e2 : Nat) (d2 : Bool) :
    (s.modChan c f).ep a2 e2 d2 = s.ep a2 e2 d2 := rfl
@[simp] theorem State.modChan_rd_place (s : State) (c : Nat) (f : Chan → Chan) (r2 : DWord) :
    (s.modChan c f).place r2 = s.place r2 := rfl
@[simp] theorem State.modLink_rd_reg (s : State) (l : Nat) (f : Link → Link) (r2 : Reg) (j : Nat) :
    (s.modLink l f).reg r2 j = s.reg r2 j := rfl
@[simp] theorem State.modLink_rd_getF (s : State) (l : Nat) (f : Link → Link) (f2 : Fld) (j : Nat) :
    (s.modLink l f).getF f2 j = s.getF f2 j := rfl
@[simp] theorem State.modLink_rd_bit (s : State) (l : Nat) (f : Link → Link) (f2 : Fld) (j : Nat) :
    (s.modLink l f).bit f2 j = s.bit f2 j := rfl
@[simp] theorem State.modLink_rd_reg64 (s : State) (l : Nat) (f : Link → Link) (lo2 hi2 : Reg) (j : Nat) :
    (s.modLink l f).reg64 lo2 hi2 j = s.reg64 lo2 hi2 j := rfl
@[simp] theorem State.modLink_rd_qp (s : State) (l : Nat) (f : Link → Link) (j : Nat) :
    (s.modLink l f).qp j = s.qp j := rfl
@[simp] theorem State.modLink_rd_cmd (s : State) (l : Nat) (f : Link → Link) (j : Nat) :
    (s.modLink l f).cmd j = s.cmd j := rfl
@[simp] theorem State.modLink_rd_chan (s : State) (l : Nat) (f : Link → Link) (j : Nat) :
    (s.modLink l f).chan j = s.chan j := rfl
@[simp] theorem State.modLink_rd_ep (s : State) (l : Nat) (f : Link → Link) (a2 e2 : Nat) (d2 : Bool) :
    (s.modLink l f).ep a2 e2 d2 = s.ep a2 e2 d2 := rfl
@[simp] theorem State.modLink_rd_place (s : State) (l : Nat) (f : Link → Link) (r2 : DWord) :
    (s.modLink l f).place r2 = s.place r2 := rfl
@[simp] theorem State.modEp_rd_reg (s : State) (addr ep : Nat) (dirIn : Bool) (f : Ep → Ep) (r2 : Reg) (j : Nat) :
    (s.modEp addr ep dirIn f).reg r2 j = s.reg r2 j := rfl
@[simp] theorem State.modEp_rd_getF (s : State) (addr ep : Nat) (dirIn : Bool) (f : Ep → Ep) (f2 : Fld) (j : Nat) :
    (s.modEp addr ep dirIn f).getF f2 j = s.getF f2 j := rfl
@[simp] theorem State.modEp_rd_bit (s : State) (addr ep : Nat) (dirIn : Bool) (f : Ep → Ep) (f2 : Fld) (j : Nat) :
    (s.modEp addr ep dirIn f).bit f2 j = s.bit f2 j := rfl
@[simp] theorem State.modEp_rd_reg64 (s : State) (addr ep : Nat) (dirIn : Bool) (f : Ep → Ep) (lo2 hi2 : Reg) (j : Nat) :
    (s.modEp addr ep dirIn f).reg64 lo2 hi2 j = s.reg64 lo2 hi2 j := rfl
@[simp] theorem State.modEp_rd_qp (s : State) (addr ep : Nat) (dirIn : Bool) (f : Ep → Ep) (j : Nat) :
    (s.modEp addr ep dirIn f).qp j = s.qp j := rfl
@[simp] theorem State.modEp_rd_cmd (s : State) (addr ep : Nat) (dirIn : Bool) (f : Ep → Ep) (j : Nat) :
    (s.modEp addr ep dirIn f).cmd j = s.cmd j := rfl
@[simp] theorem State.modEp_rd_chan (s : State) (addr ep : Nat) (dirIn : Bool) (f : Ep → Ep) (j : Nat) :
    (s.modEp addr ep dirIn f).chan j = s.chan j := rfl
@[simp] theorem State.modEp_rd_link (s : State) (addr ep : Nat) (dirIn : Bool) (f : Ep → Ep) (j : Nat) :
    (s.modEp addr ep dirIn f).link j = s.link j := rfl
@[simp] theorem State.modEp_rd_place (s : State) (addr ep : Nat) (dirIn : Bool) (f : Ep → Ep) (r2 : DWord) :
    (s.modEp addr ep dirIn f).place r2 = s.place r2 := rfl
@[simp] theorem State.modDevEps_rd_reg (s : State) (addr : Nat) (f : Ep → Ep) (r2 : Reg) (j : Nat) :
    (s.modDevEps addr f).reg r2 j = s.reg r2 j := rfl
@[simp] theorem State.modDevEps_rd_getF (s : State) (addr : Nat) (f : Ep → Ep) (f2 : Fld) (j : Nat) :
    (s.modDevEps addr f).getF f2 j = s.getF f2 j := rfl
@[simp] theorem State.modDevEps_rd_bit (s : State) (addr : Nat) (f : Ep → Ep) (f2 : Fld) (j : Nat) :
    (s.modDevEps addr f).bit f2 j = s.bit f2 j := rfl
@[simp] theorem State.modDevEps_rd_reg64 (s : State) (addr : Nat) (f : Ep → Ep) (lo2 hi2 : Reg) (j : Nat) :
    (s.modDevEps addr f).reg64 lo2 hi2 j = s.reg64 lo2 hi2 j := rfl
@[simp] theorem State.modDevEps_rd_qp (s : State) (addr : Nat) (f : Ep → Ep) (j : Nat) :
    (s.modDevEps addr f).qp j = s.qp j := rfl
@[simp] theorem State.modDevEps_rd_cmd (s : State) (addr : Nat) (f : Ep → Ep) (j : Nat) :
    (s.modDevEps addr f).cmd j = s.cmd j := rfl
@[simp] theorem State.modDevEps_rd_chan (s : State) (addr : Nat) (f : Ep → Ep) (j : Nat) :
    (s.modDevEps addr f).chan j = s.chan j := rfl
@[simp] theorem State.modDevEps_rd_link (s : State) (addr : Nat) (f : Ep → Ep) (j : Nat) :
    (s.modDevEps addr f).link j = s.link j := rfl
@[simp] theorem State.modDevEps_rd_place (s : State) (addr : Nat) (f : Ep → Ep) (r2 : DWord) :
    (s.modDevEps addr f).place r2 = s.place r2 := rfl
@[simp] theorem State.setPlace_rd_reg (s : State) (p : Place) (r2 : Reg) (j : Nat) :
    (s.setPlace p).reg r2 j = s.reg r2 j := rfl
@[simp] theorem State.setPlace_rd_getF (s : State) (p : Place) (f2 : Fld) (j : Nat) :
    (s.setPlace p).getF f2 j = s.getF f2 j := rfl
@[simp] theorem State.setPlace_rd_bit (s : State) (p : Place) (f2 : Fld) (j : Nat) :
    (s.setPlace p).bit f2 j = s.bit f2 j := rfl
@[simp] theorem State.setPlace_rd_reg64 (s : State) (p : Place) (lo2 hi2 : Reg) (j : Nat) :
    (s.setPlace p).reg64 lo2 hi2 j = s.reg64 lo2 hi2 j := rfl
@[simp] theorem State.setPlace_rd_qp (s : State) (p : Place) (j : Nat) :
    (s.setPlace p).qp j = s.qp j := rfl
@[simp] theorem State.setPlace_rd_cmd (s : State) (p : Place) (j : Nat) :
    (s.setPlace p).cmd j = s.cmd j := rfl
@[simp] theorem State.setPlace_rd_chan (s : State) (p : Place) (j : Nat) :
    (s.setPlace p).chan j = s.chan j := rfl
@[simp] theorem State.setPlace_rd_link (s : State) (p : Place) (j : Nat) :
    (s.setPlace p).link j = s.link j := rfl
@[simp] theorem State.setPlace_rd_ep (s : State) (p : Place) (a2 e2 : Nat) (d2 : Bool) :
    (s.setPlace p).ep a2 e2 d2 = s.ep a2 e2 d2 := rfl

end Sys2Proof.Machine
end

