-- ==== Sys2Proof/Laws/OpsFrames.lean ====
section
/-!
SUPPORT. What each shared operation leaves as it was: one lemma for each operation and each field of the state that it does not write.
-/
namespace Sys2Proof.Machine

@[simp] theorem State.clearRegs_pending (s : State) (c : RClass) : (s.clearRegs c).pending = s.pending := by
  unfold State.clearRegs; (repeat' split) <;> first | rfl | simp
@[simp] theorem State.clearRegs_out (s : State) (c : RClass) : (s.clearRegs c).out = s.out := by
  unfold State.clearRegs; (repeat' split) <;> first | rfl | simp
@[simp] theorem State.clearRegs_free (s : State) (c : RClass) : (s.clearRegs c).free = s.free := by
  unfold State.clearRegs; (repeat' split) <;> first | rfl | simp
@[simp] theorem State.clearRegs_time (s : State) (c : RClass) : (s.clearRegs c).time = s.time := by
  unfold State.clearRegs; (repeat' split) <;> first | rfl | simp
@[simp] theorem State.clearRegs_halt (s : State) (c : RClass) : (s.clearRegs c).halt = s.halt := by
  unfold State.clearRegs; (repeat' split) <;> first | rfl | simp
@[simp] theorem State.clearRegs_mrc (s : State) (c : RClass) : (s.clearRegs c).mrc = s.mrc := by
  unfold State.clearRegs; (repeat' split) <;> first | rfl | simp
@[simp] theorem State.clearRegs_alm (s : State) (c : RClass) : (s.clearRegs c).alm = s.alm := by
  unfold State.clearRegs; (repeat' split) <;> first | rfl | simp
@[simp] theorem State.clearRegs_frames (s : State) (c : RClass) : (s.clearRegs c).frames = s.frames := by
  unfold State.clearRegs; (repeat' split) <;> first | rfl | simp
@[simp] theorem State.clearRegs_areas (s : State) (c : RClass) : (s.clearRegs c).areas = s.areas := by
  unfold State.clearRegs; (repeat' split) <;> first | rfl | simp
@[simp] theorem State.clearRegs_links (s : State) (c : RClass) : (s.clearRegs c).links = s.links := by
  unfold State.clearRegs; (repeat' split) <;> first | rfl | simp
@[simp] theorem State.clearRegs_places (s : State) (c : RClass) : (s.clearRegs c).places = s.places := by
  unfold State.clearRegs; (repeat' split) <;> first | rfl | simp
@[simp] theorem State.clearRegs_eps (s : State) (c : RClass) : (s.clearRegs c).eps = s.eps := by
  unfold State.clearRegs; (repeat' split) <;> first | rfl | simp
@[simp] theorem State.clearRegs_txns (s : State) (c : RClass) : (s.clearRegs c).txns = s.txns := by
  unfold State.clearRegs; (repeat' split) <;> first | rfl | simp
@[simp] theorem State.clearRegs_qps (s : State) (c : RClass) : (s.clearRegs c).qps = s.qps := by
  unfold State.clearRegs; (repeat' split) <;> first | rfl | simp
@[simp] theorem State.clearRegs_dma (s : State) (c : RClass) : (s.clearRegs c).dma = s.dma := by
  unfold State.clearRegs; (repeat' split) <;> first | rfl | simp
@[simp] theorem State.clearRegs_pools (s : State) (c : RClass) : (s.clearRegs c).pools = s.pools := by
  unfold State.clearRegs; (repeat' split) <;> first | rfl | simp
@[simp] theorem State.clearRegs_cmds (s : State) (c : RClass) : (s.clearRegs c).cmds = s.cmds := by
  unfold State.clearRegs; (repeat' split) <;> first | rfl | simp
@[simp] theorem State.clearRegs_led (s : State) (c : RClass) : (s.clearRegs c).led = s.led := by
  unfold State.clearRegs; (repeat' split) <;> first | rfl | simp
@[simp] theorem State.clearRegs_cfg (s : State) (c : RClass) : (s.clearRegs c).cfg = s.cfg := by
  unfold State.clearRegs; (repeat' split) <;> first | rfl | simp
@[simp] theorem State.clearRegs_cri (s : State) (c : RClass) : (s.clearRegs c).cri = s.cri := by
  unfold State.clearRegs; (repeat' split) <;> first | rfl | simp
@[simp] theorem State.clearRegs_pcie (s : State) (c : RClass) : (s.clearRegs c).pcie = s.pcie := by
  unfold State.clearRegs; (repeat' split) <;> first | rfl | simp
@[simp] theorem State.clearRegs_pwr (s : State) (c : RClass) : (s.clearRegs c).pwr = s.pwr := by
  unfold State.clearRegs; (repeat' split) <;> first | rfl | simp
@[simp] theorem State.clearRegs_rst (s : State) (c : RClass) : (s.clearRegs c).rst = s.rst := by
  unfold State.clearRegs; (repeat' split) <;> first | rfl | simp
@[simp] theorem State.clearRegs_twn (s : State) (c : RClass) : (s.clearRegs c).twn = s.twn := by
  unfold State.clearRegs; (repeat' split) <;> first | rfl | simp
@[simp] theorem State.clearRegs_sec (s : State) (c : RClass) : (s.clearRegs c).sec = s.sec := by
  unfold State.clearRegs; (repeat' split) <;> first | rfl | simp
@[simp] theorem State.clearRegs_pins (s : State) (c : RClass) : (s.clearRegs c).pins = s.pins := by
  unfold State.clearRegs; (repeat' split) <;> first | rfl | simp
@[simp] theorem State.clearFnRegs_pending (s : State) (t : Nat) : (s.clearFnRegs t).pending = s.pending := by
  unfold State.clearFnRegs; (repeat' split) <;> first | rfl | simp
@[simp] theorem State.clearFnRegs_out (s : State) (t : Nat) : (s.clearFnRegs t).out = s.out := by
  unfold State.clearFnRegs; (repeat' split) <;> first | rfl | simp
@[simp] theorem State.clearFnRegs_free (s : State) (t : Nat) : (s.clearFnRegs t).free = s.free := by
  unfold State.clearFnRegs; (repeat' split) <;> first | rfl | simp
@[simp] theorem State.clearFnRegs_time (s : State) (t : Nat) : (s.clearFnRegs t).time = s.time := by
  unfold State.clearFnRegs; (repeat' split) <;> first | rfl | simp
@[simp] theorem State.clearFnRegs_halt (s : State) (t : Nat) : (s.clearFnRegs t).halt = s.halt := by
  unfold State.clearFnRegs; (repeat' split) <;> first | rfl | simp
@[simp] theorem State.clearFnRegs_mrc (s : State) (t : Nat) : (s.clearFnRegs t).mrc = s.mrc := by
  unfold State.clearFnRegs; (repeat' split) <;> first | rfl | simp
@[simp] theorem State.clearFnRegs_alm (s : State) (t : Nat) : (s.clearFnRegs t).alm = s.alm := by
  unfold State.clearFnRegs; (repeat' split) <;> first | rfl | simp
@[simp] theorem State.clearFnRegs_frames (s : State) (t : Nat) : (s.clearFnRegs t).frames = s.frames := by
  unfold State.clearFnRegs; (repeat' split) <;> first | rfl | simp
@[simp] theorem State.clearFnRegs_areas (s : State) (t : Nat) : (s.clearFnRegs t).areas = s.areas := by
  unfold State.clearFnRegs; (repeat' split) <;> first | rfl | simp
@[simp] theorem State.clearFnRegs_links (s : State) (t : Nat) : (s.clearFnRegs t).links = s.links := by
  unfold State.clearFnRegs; (repeat' split) <;> first | rfl | simp
@[simp] theorem State.clearFnRegs_places (s : State) (t : Nat) : (s.clearFnRegs t).places = s.places := by
  unfold State.clearFnRegs; (repeat' split) <;> first | rfl | simp
@[simp] theorem State.clearFnRegs_eps (s : State) (t : Nat) : (s.clearFnRegs t).eps = s.eps := by
  unfold State.clearFnRegs; (repeat' split) <;> first | rfl | simp
@[simp] theorem State.clearFnRegs_txns (s : State) (t : Nat) : (s.clearFnRegs t).txns = s.txns := by
  unfold State.clearFnRegs; (repeat' split) <;> first | rfl | simp
@[simp] theorem State.clearFnRegs_qps (s : State) (t : Nat) : (s.clearFnRegs t).qps = s.qps := by
  unfold State.clearFnRegs; (repeat' split) <;> first | rfl | simp
@[simp] theorem State.clearFnRegs_dma (s : State) (t : Nat) : (s.clearFnRegs t).dma = s.dma := by
  unfold State.clearFnRegs; (repeat' split) <;> first | rfl | simp
@[simp] theorem State.clearFnRegs_pools (s : State) (t : Nat) : (s.clearFnRegs t).pools = s.pools := by
  unfold State.clearFnRegs; (repeat' split) <;> first | rfl | simp
@[simp] theorem State.clearFnRegs_cmds (s : State) (t : Nat) : (s.clearFnRegs t).cmds = s.cmds := by
  unfold State.clearFnRegs; (repeat' split) <;> first | rfl | simp
@[simp] theorem State.clearFnRegs_led (s : State) (t : Nat) : (s.clearFnRegs t).led = s.led := by
  unfold State.clearFnRegs; (repeat' split) <;> first | rfl | simp
@[simp] theorem State.clearFnRegs_cfg (s : State) (t : Nat) : (s.clearFnRegs t).cfg = s.cfg := by
  unfold State.clearFnRegs; (repeat' split) <;> first | rfl | simp
@[simp] theorem State.clearFnRegs_cri (s : State) (t : Nat) : (s.clearFnRegs t).cri = s.cri := by
  unfold State.clearFnRegs; (repeat' split) <;> first | rfl | simp
@[simp] theorem State.clearFnRegs_pcie (s : State) (t : Nat) : (s.clearFnRegs t).pcie = s.pcie := by
  unfold State.clearFnRegs; (repeat' split) <;> first | rfl | simp
@[simp] theorem State.clearFnRegs_pwr (s : State) (t : Nat) : (s.clearFnRegs t).pwr = s.pwr := by
  unfold State.clearFnRegs; (repeat' split) <;> first | rfl | simp
@[simp] theorem State.clearFnRegs_rst (s : State) (t : Nat) : (s.clearFnRegs t).rst = s.rst := by
  unfold State.clearFnRegs; (repeat' split) <;> first | rfl | simp
@[simp] theorem State.clearFnRegs_twn (s : State) (t : Nat) : (s.clearFnRegs t).twn = s.twn := by
  unfold State.clearFnRegs; (repeat' split) <;> first | rfl | simp
@[simp] theorem State.clearFnRegs_sec (s : State) (t : Nat) : (s.clearFnRegs t).sec = s.sec := by
  unfold State.clearFnRegs; (repeat' split) <;> first | rfl | simp
@[simp] theorem State.clearFnRegs_pins (s : State) (t : Nat) : (s.clearFnRegs t).pins = s.pins := by
  unfold State.clearFnRegs; (repeat' split) <;> first | rfl | simp
@[simp] theorem State.msix_pending (s : State) (t vec : Nat) : (s.msix t vec).pending = s.pending := by
  unfold State.msix; (repeat' split) <;> first | rfl | (simp; done) | (dsimp only; (repeat' split) <;> first | rfl | (simp; done))
@[simp] theorem State.msix_free (s : State) (t vec : Nat) : (s.msix t vec).free = s.free := by
  unfold State.msix; (repeat' split) <;> first | rfl | (simp; done) | (dsimp only; (repeat' split) <;> first | rfl | (simp; done))
@[simp] theorem State.msix_regs (s : State) (t vec : Nat) : (s.msix t vec).regs = s.regs := by
  unfold State.msix; (repeat' split) <;> first | rfl | (simp; done) | (dsimp only; (repeat' split) <;> first | rfl | (simp; done))
@[simp] theorem State.msix_holds (s : State) (t vec : Nat) : (s.msix t vec).holds = s.holds := by
  unfold State.msix; (repeat' split) <;> first | rfl | (simp; done) | (dsimp only; (repeat' split) <;> first | rfl | (simp; done))
@[simp] theorem State.msix_time (s : State) (t vec : Nat) : (s.msix t vec).time = s.time := by
  unfold State.msix; (repeat' split) <;> first | rfl | (simp; done) | (dsimp only; (repeat' split) <;> first | rfl | (simp; done))
@[simp] theorem State.msix_halt (s : State) (t vec : Nat) : (s.msix t vec).halt = s.halt := by
  unfold State.msix; (repeat' split) <;> first | rfl | (simp; done) | (dsimp only; (repeat' split) <;> first | rfl | (simp; done))
@[simp] theorem State.msix_mrc (s : State) (t vec : Nat) : (s.msix t vec).mrc = s.mrc := by
  unfold State.msix; (repeat' split) <;> first | rfl | (simp; done) | (dsimp only; (repeat' split) <;> first | rfl | (simp; done))
@[simp] theorem State.msix_alm (s : State) (t vec : Nat) : (s.msix t vec).alm = s.alm := by
  unfold State.msix; (repeat' split) <;> first | rfl | (simp; done) | (dsimp only; (repeat' split) <;> first | rfl | (simp; done))
@[simp] theorem State.msix_frames (s : State) (t vec : Nat) : (s.msix t vec).frames = s.frames := by
  unfold State.msix; (repeat' split) <;> first | rfl | (simp; done) | (dsimp only; (repeat' split) <;> first | rfl | (simp; done))
@[simp] theorem State.msix_areas (s : State) (t vec : Nat) : (s.msix t vec).areas = s.areas := by
  unfold State.msix; (repeat' split) <;> first | rfl | (simp; done) | (dsimp only; (repeat' split) <;> first | rfl | (simp; done))
@[simp] theorem State.msix_links (s : State) (t vec : Nat) : (s.msix t vec).links = s.links := by
  unfold State.msix; (repeat' split) <;> first | rfl | (simp; done) | (dsimp only; (repeat' split) <;> first | rfl | (simp; done))
@[simp] theorem State.msix_places (s : State) (t vec : Nat) : (s.msix t vec).places = s.places := by
  unfold State.msix; (repeat' split) <;> first | rfl | (simp; done) | (dsimp only; (repeat' split) <;> first | rfl | (simp; done))
@[simp] theorem State.msix_eps (s : State) (t vec : Nat) : (s.msix t vec).eps = s.eps := by
  unfold State.msix; (repeat' split) <;> first | rfl | (simp; done) | (dsimp only; (repeat' split) <;> first | rfl | (simp; done))
@[simp] theorem State.msix_txns (s : State) (t vec : Nat) : (s.msix t vec).txns = s.txns := by
  unfold State.msix; (repeat' split) <;> first | rfl | (simp; done) | (dsimp only; (repeat' split) <;> first | rfl | (simp; done))
@[simp] theorem State.msix_qps (s : State) (t vec : Nat) : (s.msix t vec).qps = s.qps := by
  unfold State.msix; (repeat' split) <;> first | rfl | (simp; done) | (dsimp only; (repeat' split) <;> first | rfl | (simp; done))
@[simp] theorem State.msix_dma (s : State) (t vec : Nat) : (s.msix t vec).dma = s.dma := by
  unfold State.msix; (repeat' split) <;> first | rfl | (simp; done) | (dsimp only; (repeat' split) <;> first | rfl | (simp; done))
@[simp] theorem State.msix_pools (s : State) (t vec : Nat) : (s.msix t vec).pools = s.pools := by
  unfold State.msix; (repeat' split) <;> first | rfl | (simp; done) | (dsimp only; (repeat' split) <;> first | rfl | (simp; done))
@[simp] theorem State.msix_cmds (s : State) (t vec : Nat) : (s.msix t vec).cmds = s.cmds := by
  unfold State.msix; (repeat' split) <;> first | rfl | (simp; done) | (dsimp only; (repeat' split) <;> first | rfl | (simp; done))
@[simp] theorem State.msix_led (s : State) (t vec : Nat) : (s.msix t vec).led = s.led := by
  unfold State.msix; (repeat' split) <;> first | rfl | (simp; done) | (dsimp only; (repeat' split) <;> first | rfl | (simp; done))
@[simp] theorem State.msix_cfg (s : State) (t vec : Nat) : (s.msix t vec).cfg = s.cfg := by
  unfold State.msix; (repeat' split) <;> first | rfl | (simp; done) | (dsimp only; (repeat' split) <;> first | rfl | (simp; done))
@[simp] theorem State.msix_cri (s : State) (t vec : Nat) : (s.msix t vec).cri = s.cri := by
  unfold State.msix; (repeat' split) <;> first | rfl | (simp; done) | (dsimp only; (repeat' split) <;> first | rfl | (simp; done))
@[simp] theorem State.msix_pwr (s : State) (t vec : Nat) : (s.msix t vec).pwr = s.pwr := by
  unfold State.msix; (repeat' split) <;> first | rfl | (simp; done) | (dsimp only; (repeat' split) <;> first | rfl | (simp; done))
@[simp] theorem State.msix_rst (s : State) (t vec : Nat) : (s.msix t vec).rst = s.rst := by
  unfold State.msix; (repeat' split) <;> first | rfl | (simp; done) | (dsimp only; (repeat' split) <;> first | rfl | (simp; done))
@[simp] theorem State.msix_twn (s : State) (t vec : Nat) : (s.msix t vec).twn = s.twn := by
  unfold State.msix; (repeat' split) <;> first | rfl | (simp; done) | (dsimp only; (repeat' split) <;> first | rfl | (simp; done))
@[simp] theorem State.msix_sec (s : State) (t vec : Nat) : (s.msix t vec).sec = s.sec := by
  unfold State.msix; (repeat' split) <;> first | rfl | (simp; done) | (dsimp only; (repeat' split) <;> first | rfl | (simp; done))
@[simp] theorem State.msix_pins (s : State) (t vec : Nat) : (s.msix t vec).pins = s.pins := by
  unfold State.msix; (repeat' split) <;> first | rfl | (simp; done) | (dsimp only; (repeat' split) <;> first | rfl | (simp; done))
@[simp] theorem State.raise_pending (s : State) (t bit : Nat) : (s.raise t bit).pending = s.pending := by
  unfold State.raise; (repeat' split) <;> first | rfl | (simp; done) | (dsimp only; (repeat' split) <;> first | rfl | (simp; done))
@[simp] theorem State.raise_free (s : State) (t bit : Nat) : (s.raise t bit).free = s.free := by
  unfold State.raise; (repeat' split) <;> first | rfl | (simp; done) | (dsimp only; (repeat' split) <;> first | rfl | (simp; done))
@[simp] theorem State.raise_holds (s : State) (t bit : Nat) : (s.raise t bit).holds = s.holds := by
  unfold State.raise; (repeat' split) <;> first | rfl | (simp; done) | (dsimp only; (repeat' split) <;> first | rfl | (simp; done))
@[simp] theorem State.raise_time (s : State) (t bit : Nat) : (s.raise t bit).time = s.time := by
  unfold State.raise; (repeat' split) <;> first | rfl | (simp; done) | (dsimp only; (repeat' split) <;> first | rfl | (simp; done))
@[simp] theorem State.raise_halt (s : State) (t bit : Nat) : (s.raise t bit).halt = s.halt := by
  unfold State.raise; (repeat' split) <;> first | rfl | (simp; done) | (dsimp only; (repeat' split) <;> first | rfl | (simp; done))
@[simp] theorem State.raise_mrc (s : State) (t bit : Nat) : (s.raise t bit).mrc = s.mrc := by
  unfold State.raise; (repeat' split) <;> first | rfl | (simp; done) | (dsimp only; (repeat' split) <;> first | rfl | (simp; done))
@[simp] theorem State.raise_alm (s : State) (t bit : Nat) : (s.raise t bit).alm = s.alm := by
  unfold State.raise; (repeat' split) <;> first | rfl | (simp; done) | (dsimp only; (repeat' split) <;> first | rfl | (simp; done))
@[simp] theorem State.raise_frames (s : State) (t bit : Nat) : (s.raise t bit).frames = s.frames := by
  unfold State.raise; (repeat' split) <;> first | rfl | (simp; done) | (dsimp only; (repeat' split) <;> first | rfl | (simp; done))
@[simp] theorem State.raise_areas (s : State) (t bit : Nat) : (s.raise t bit).areas = s.areas := by
  unfold State.raise; (repeat' split) <;> first | rfl | (simp; done) | (dsimp only; (repeat' split) <;> first | rfl | (simp; done))
@[simp] theorem State.raise_links (s : State) (t bit : Nat) : (s.raise t bit).links = s.links := by
  unfold State.raise; (repeat' split) <;> first | rfl | (simp; done) | (dsimp only; (repeat' split) <;> first | rfl | (simp; done))
@[simp] theorem State.raise_places (s : State) (t bit : Nat) : (s.raise t bit).places = s.places := by
  unfold State.raise; (repeat' split) <;> first | rfl | (simp; done) | (dsimp only; (repeat' split) <;> first | rfl | (simp; done))
@[simp] theorem State.raise_eps (s : State) (t bit : Nat) : (s.raise t bit).eps = s.eps := by
  unfold State.raise; (repeat' split) <;> first | rfl | (simp; done) | (dsimp only; (repeat' split) <;> first | rfl | (simp; done))
@[simp] theorem State.raise_txns (s : State) (t bit : Nat) : (s.raise t bit).txns = s.txns := by
  unfold State.raise; (repeat' split) <;> first | rfl | (simp; done) | (dsimp only; (repeat' split) <;> first | rfl | (simp; done))
@[simp] theorem State.raise_qps (s : State) (t bit : Nat) : (s.raise t bit).qps = s.qps := by
  unfold State.raise; (repeat' split) <;> first | rfl | (simp; done) | (dsimp only; (repeat' split) <;> first | rfl | (simp; done))
@[simp] theorem State.raise_dma (s : State) (t bit : Nat) : (s.raise t bit).dma = s.dma := by
  unfold State.raise; (repeat' split) <;> first | rfl | (simp; done) | (dsimp only; (repeat' split) <;> first | rfl | (simp; done))
@[simp] theorem State.raise_pools (s : State) (t bit : Nat) : (s.raise t bit).pools = s.pools := by
  unfold State.raise; (repeat' split) <;> first | rfl | (simp; done) | (dsimp only; (repeat' split) <;> first | rfl | (simp; done))
@[simp] theorem State.raise_cmds (s : State) (t bit : Nat) : (s.raise t bit).cmds = s.cmds := by
  unfold State.raise; (repeat' split) <;> first | rfl | (simp; done) | (dsimp only; (repeat' split) <;> first | rfl | (simp; done))
@[simp] theorem State.raise_led (s : State) (t bit : Nat) : (s.raise t bit).led = s.led := by
  unfold State.raise; (repeat' split) <;> first | rfl | (simp; done) | (dsimp only; (repeat' split) <;> first | rfl | (simp; done))
@[simp] theorem State.raise_cfg (s : State) (t bit : Nat) : (s.raise t bit).cfg = s.cfg := by
  unfold State.raise; (repeat' split) <;> first | rfl | (simp; done) | (dsimp only; (repeat' split) <;> first | rfl | (simp; done))
@[simp] theorem State.raise_cri (s : State) (t bit : Nat) : (s.raise t bit).cri = s.cri := by
  unfold State.raise; (repeat' split) <;> first | rfl | (simp; done) | (dsimp only; (repeat' split) <;> first | rfl | (simp; done))
@[simp] theorem State.raise_pwr (s : State) (t bit : Nat) : (s.raise t bit).pwr = s.pwr := by
  unfold State.raise; (repeat' split) <;> first | rfl | (simp; done) | (dsimp only; (repeat' split) <;> first | rfl | (simp; done))
@[simp] theorem State.raise_rst (s : State) (t bit : Nat) : (s.raise t bit).rst = s.rst := by
  unfold State.raise; (repeat' split) <;> first | rfl | (simp; done) | (dsimp only; (repeat' split) <;> first | rfl | (simp; done))
@[simp] theorem State.raise_twn (s : State) (t bit : Nat) : (s.raise t bit).twn = s.twn := by
  unfold State.raise; (repeat' split) <;> first | rfl | (simp; done) | (dsimp only; (repeat' split) <;> first | rfl | (simp; done))
@[simp] theorem State.raise_sec (s : State) (t bit : Nat) : (s.raise t bit).sec = s.sec := by
  unfold State.raise; (repeat' split) <;> first | rfl | (simp; done) | (dsimp only; (repeat' split) <;> first | rfl | (simp; done))
@[simp] theorem State.raise_pins (s : State) (t bit : Nat) : (s.raise t bit).pins = s.pins := by
  unfold State.raise; (repeat' split) <;> first | rfl | (simp; done) | (dsimp only; (repeat' split) <;> first | rfl | (simp; done))
@[simp] theorem State.raiseTo_pending (s : State) (p : Nat → Bool) (bit : Nat) : (s.raiseTo p bit).pending = s.pending := by
  unfold State.raiseTo; exact foldl_proj (fun x : State => x.pending) _ (by intros; (repeat' split) <;> first | rfl | simp) _ _
@[simp] theorem State.raiseTo_free (s : State) (p : Nat → Bool) (bit : Nat) : (s.raiseTo p bit).free = s.free := by
  unfold State.raiseTo; exact foldl_proj (fun x : State => x.free) _ (by intros; (repeat' split) <;> first | rfl | simp) _ _
@[simp] theorem State.raiseTo_holds (s : State) (p : Nat → Bool) (bit : Nat) : (s.raiseTo p bit).holds = s.holds := by
  unfold State.raiseTo; exact foldl_proj (fun x : State => x.holds) _ (by intros; (repeat' split) <;> first | rfl | simp) _ _
@[simp] theorem State.raiseTo_time (s : State) (p : Nat → Bool) (bit : Nat) : (s.raiseTo p bit).time = s.time := by
  unfold State.raiseTo; exact foldl_proj (fun x : State => x.time) _ (by intros; (repeat' split) <;> first | rfl | simp) _ _
@[simp] theorem State.raiseTo_halt (s : State) (p : Nat → Bool) (bit : Nat) : (s.raiseTo p bit).halt = s.halt := by
  unfold State.raiseTo; exact foldl_proj (fun x : State => x.halt) _ (by intros; (repeat' split) <;> first | rfl | simp) _ _
@[simp] theorem State.raiseTo_mrc (s : State) (p : Nat → Bool) (bit : Nat) : (s.raiseTo p bit).mrc = s.mrc := by
  unfold State.raiseTo; exact foldl_proj (fun x : State => x.mrc) _ (by intros; (repeat' split) <;> first | rfl | simp) _ _
@[simp] theorem State.raiseTo_alm (s : State) (p : Nat → Bool) (bit : Nat) : (s.raiseTo p bit).alm = s.alm := by
  unfold State.raiseTo; exact foldl_proj (fun x : State => x.alm) _ (by intros; (repeat' split) <;> first | rfl | simp) _ _
@[simp] theorem State.raiseTo_frames (s : State) (p : Nat → Bool) (bit : Nat) : (s.raiseTo p bit).frames = s.frames := by
  unfold State.raiseTo; exact foldl_proj (fun x : State => x.frames) _ (by intros; (repeat' split) <;> first | rfl | simp) _ _
@[simp] theorem State.raiseTo_areas (s : State) (p : Nat → Bool) (bit : Nat) : (s.raiseTo p bit).areas = s.areas := by
  unfold State.raiseTo; exact foldl_proj (fun x : State => x.areas) _ (by intros; (repeat' split) <;> first | rfl | simp) _ _
@[simp] theorem State.raiseTo_links (s : State) (p : Nat → Bool) (bit : Nat) : (s.raiseTo p bit).links = s.links := by
  unfold State.raiseTo; exact foldl_proj (fun x : State => x.links) _ (by intros; (repeat' split) <;> first | rfl | simp) _ _
@[simp] theorem State.raiseTo_places (s : State) (p : Nat → Bool) (bit : Nat) : (s.raiseTo p bit).places = s.places := by
  unfold State.raiseTo; exact foldl_proj (fun x : State => x.places) _ (by intros; (repeat' split) <;> first | rfl | simp) _ _
@[simp] theorem State.raiseTo_eps (s : State) (p : Nat → Bool) (bit : Nat) : (s.raiseTo p bit).eps = s.eps := by
  unfold State.raiseTo; exact foldl_proj (fun x : State => x.eps) _ (by intros; (repeat' split) <;> first | rfl | simp) _ _
@[simp] theorem State.raiseTo_txns (s : State) (p : Nat → Bool) (bit : Nat) : (s.raiseTo p bit).txns = s.txns := by
  unfold State.raiseTo; exact foldl_proj (fun x : State => x.txns) _ (by intros; (repeat' split) <;> first | rfl | simp) _ _
@[simp] theorem State.raiseTo_qps (s : State) (p : Nat → Bool) (bit : Nat) : (s.raiseTo p bit).qps = s.qps := by
  unfold State.raiseTo; exact foldl_proj (fun x : State => x.qps) _ (by intros; (repeat' split) <;> first | rfl | simp) _ _
@[simp] theorem State.raiseTo_dma (s : State) (p : Nat → Bool) (bit : Nat) : (s.raiseTo p bit).dma = s.dma := by
  unfold State.raiseTo; exact foldl_proj (fun x : State => x.dma) _ (by intros; (repeat' split) <;> first | rfl | simp) _ _
@[simp] theorem State.raiseTo_pools (s : State) (p : Nat → Bool) (bit : Nat) : (s.raiseTo p bit).pools = s.pools := by
  unfold State.raiseTo; exact foldl_proj (fun x : State => x.pools) _ (by intros; (repeat' split) <;> first | rfl | simp) _ _
@[simp] theorem State.raiseTo_cmds (s : State) (p : Nat → Bool) (bit : Nat) : (s.raiseTo p bit).cmds = s.cmds := by
  unfold State.raiseTo; exact foldl_proj (fun x : State => x.cmds) _ (by intros; (repeat' split) <;> first | rfl | simp) _ _
@[simp] theorem State.raiseTo_led (s : State) (p : Nat → Bool) (bit : Nat) : (s.raiseTo p bit).led = s.led := by
  unfold State.raiseTo; exact foldl_proj (fun x : State => x.led) _ (by intros; (repeat' split) <;> first | rfl | simp) _ _
@[simp] theorem State.raiseTo_cfg (s : State) (p : Nat → Bool) (bit : Nat) : (s.raiseTo p bit).cfg = s.cfg := by
  unfold State.raiseTo; exact foldl_proj (fun x : State => x.cfg) _ (by intros; (repeat' split) <;> first | rfl | simp) _ _
@[simp] theorem State.raiseTo_cri (s : State) (p : Nat → Bool) (bit : Nat) : (s.raiseTo p bit).cri = s.cri := by
  unfold State.raiseTo; exact foldl_proj (fun x : State => x.cri) _ (by intros; (repeat' split) <;> first | rfl | simp) _ _
@[simp] theorem State.raiseTo_pwr (s : State) (p : Nat → Bool) (bit : Nat) : (s.raiseTo p bit).pwr = s.pwr := by
  unfold State.raiseTo; exact foldl_proj (fun x : State => x.pwr) _ (by intros; (repeat' split) <;> first | rfl | simp) _ _
@[simp] theorem State.raiseTo_rst (s : State) (p : Nat → Bool) (bit : Nat) : (s.raiseTo p bit).rst = s.rst := by
  unfold State.raiseTo; exact foldl_proj (fun x : State => x.rst) _ (by intros; (repeat' split) <;> first | rfl | simp) _ _
@[simp] theorem State.raiseTo_twn (s : State) (p : Nat → Bool) (bit : Nat) : (s.raiseTo p bit).twn = s.twn := by
  unfold State.raiseTo; exact foldl_proj (fun x : State => x.twn) _ (by intros; (repeat' split) <;> first | rfl | simp) _ _
@[simp] theorem State.raiseTo_sec (s : State) (p : Nat → Bool) (bit : Nat) : (s.raiseTo p bit).sec = s.sec := by
  unfold State.raiseTo; exact foldl_proj (fun x : State => x.sec) _ (by intros; (repeat' split) <;> first | rfl | simp) _ _
@[simp] theorem State.raiseTo_pins (s : State) (p : Nat → Bool) (bit : Nat) : (s.raiseTo p bit).pins = s.pins := by
  unfold State.raiseTo; exact foldl_proj (fun x : State => x.pins) _ (by intros; (repeat' split) <;> first | rfl | simp) _ _
@[simp] theorem State.raisePower_pending (s : State) : (s.raisePower).pending = s.pending := by
  unfold State.raisePower; (repeat' split) <;> first | rfl | simp
@[simp] theorem State.raisePower_free (s : State) : (s.raisePower).free = s.free := by
  unfold State.raisePower; (repeat' split) <;> first | rfl | simp
@[simp] theorem State.raisePower_holds (s : State) : (s.raisePower).holds = s.holds := by
  unfold State.raisePower; (repeat' split) <;> first | rfl | simp
@[simp] theorem State.raisePower_time (s : State) : (s.raisePower).time = s.time := by
  unfold State.raisePower; (repeat' split) <;> first | rfl | simp
@[simp] theorem State.raisePower_halt (s : State) : (s.raisePower).halt = s.halt := by
  unfold State.raisePower; (repeat' split) <;> first | rfl | simp
@[simp] theorem State.raisePower_mrc (s : State) : (s.raisePower).mrc = s.mrc := by
  unfold State.raisePower; (repeat' split) <;> first | rfl | simp
@[simp] theorem State.raisePower_alm (s : State) : (s.raisePower).alm = s.alm := by
  unfold State.raisePower; (repeat' split) <;> first | rfl | simp
@[simp] theorem State.raisePower_frames (s : State) : (s.raisePower).frames = s.frames := by
  unfold State.raisePower; (repeat' split) <;> first | rfl | simp
@[simp] theorem State.raisePower_areas (s : State) : (s.raisePower).areas = s.areas := by
  unfold State.raisePower; (repeat' split) <;> first | rfl | simp
@[simp] theorem State.raisePower_links (s : State) : (s.raisePower).links = s.links := by
  unfold State.raisePower; (repeat' split) <;> first | rfl | simp
@[simp] theorem State.raisePower_places (s : State) : (s.raisePower).places = s.places := by
  unfold State.raisePower; (repeat' split) <;> first | rfl | simp
@[simp] theorem State.raisePower_eps (s : State) : (s.raisePower).eps = s.eps := by
  unfold State.raisePower; (repeat' split) <;> first | rfl | simp
@[simp] theorem State.raisePower_txns (s : State) : (s.raisePower).txns = s.txns := by
  unfold State.raisePower; (repeat' split) <;> first | rfl | simp
@[simp] theorem State.raisePower_qps (s : State) : (s.raisePower).qps = s.qps := by
  unfold State.raisePower; (repeat' split) <;> first | rfl | simp
@[simp] theorem State.raisePower_dma (s : State) : (s.raisePower).dma = s.dma := by
  unfold State.raisePower; (repeat' split) <;> first | rfl | simp
@[simp] theorem State.raisePower_pools (s : State) : (s.raisePower).pools = s.pools := by
  unfold State.raisePower; (repeat' split) <;> first | rfl | simp
@[simp] theorem State.raisePower_cmds (s : State) : (s.raisePower).cmds = s.cmds := by
  unfold State.raisePower; (repeat' split) <;> first | rfl | simp
@[simp] theorem State.raisePower_led (s : State) : (s.raisePower).led = s.led := by
  unfold State.raisePower; (repeat' split) <;> first | rfl | simp
@[simp] theorem State.raisePower_cfg (s : State) : (s.raisePower).cfg = s.cfg := by
  unfold State.raisePower; (repeat' split) <;> first | rfl | simp
@[simp] theorem State.raisePower_cri (s : State) : (s.raisePower).cri = s.cri := by
  unfold State.raisePower; (repeat' split) <;> first | rfl | simp
@[simp] theorem State.raisePower_pwr (s : State) : (s.raisePower).pwr = s.pwr := by
  unfold State.raisePower; (repeat' split) <;> first | rfl | simp
@[simp] theorem State.raisePower_rst (s : State) : (s.raisePower).rst = s.rst := by
  unfold State.raisePower; (repeat' split) <;> first | rfl | simp
@[simp] theorem State.raisePower_twn (s : State) : (s.raisePower).twn = s.twn := by
  unfold State.raisePower; (repeat' split) <;> first | rfl | simp
@[simp] theorem State.raisePower_sec (s : State) : (s.raisePower).sec = s.sec := by
  unfold State.raisePower; (repeat' split) <;> first | rfl | simp
@[simp] theorem State.raisePower_pins (s : State) : (s.raisePower).pins = s.pins := by
  unfold State.raisePower; (repeat' split) <;> first | rfl | simp
@[simp] theorem State.raiseMillrace_pending (s : State) : (s.raiseMillrace).pending = s.pending := by
  unfold State.raiseMillrace; (repeat' split) <;> first | rfl | simp
@[simp] theorem State.raiseMillrace_free (s : State) : (s.raiseMillrace).free = s.free := by
  unfold State.raiseMillrace; (repeat' split) <;> first | rfl | simp
@[simp] theorem State.raiseMillrace_holds (s : State) : (s.raiseMillrace).holds = s.holds := by
  unfold State.raiseMillrace; (repeat' split) <;> first | rfl | simp
@[simp] theorem State.raiseMillrace_time (s : State) : (s.raiseMillrace).time = s.time := by
  unfold State.raiseMillrace; (repeat' split) <;> first | rfl | simp
@[simp] theorem State.raiseMillrace_halt (s : State) : (s.raiseMillrace).halt = s.halt := by
  unfold State.raiseMillrace; (repeat' split) <;> first | rfl | simp
@[simp] theorem State.raiseMillrace_mrc (s : State) : (s.raiseMillrace).mrc = s.mrc := by
  unfold State.raiseMillrace; (repeat' split) <;> first | rfl | simp
@[simp] theorem State.raiseMillrace_alm (s : State) : (s.raiseMillrace).alm = s.alm := by
  unfold State.raiseMillrace; (repeat' split) <;> first | rfl | simp
@[simp] theorem State.raiseMillrace_frames (s : State) : (s.raiseMillrace).frames = s.frames := by
  unfold State.raiseMillrace; (repeat' split) <;> first | rfl | simp
@[simp] theorem State.raiseMillrace_areas (s : State) : (s.raiseMillrace).areas = s.areas := by
  unfold State.raiseMillrace; (repeat' split) <;> first | rfl | simp
@[simp] theorem State.raiseMillrace_links (s : State) : (s.raiseMillrace).links = s.links := by
  unfold State.raiseMillrace; (repeat' split) <;> first | rfl | simp
@[simp] theorem State.raiseMillrace_places (s : State) : (s.raiseMillrace).places = s.places := by
  unfold State.raiseMillrace; (repeat' split) <;> first | rfl | simp
@[simp] theorem State.raiseMillrace_eps (s : State) : (s.raiseMillrace).eps = s.eps := by
  unfold State.raiseMillrace; (repeat' split) <;> first | rfl | simp
@[simp] theorem State.raiseMillrace_txns (s : State) : (s.raiseMillrace).txns = s.txns := by
  unfold State.raiseMillrace; (repeat' split) <;> first | rfl | simp
@[simp] theorem State.raiseMillrace_qps (s : State) : (s.raiseMillrace).qps = s.qps := by
  unfold State.raiseMillrace; (repeat' split) <;> first | rfl | simp
@[simp] theorem State.raiseMillrace_dma (s : State) : (s.raiseMillrace).dma = s.dma := by
  unfold State.raiseMillrace; (repeat' split) <;> first | rfl | simp
@[simp] theorem State.raiseMillrace_pools (s : State) : (s.raiseMillrace).pools = s.pools := by
  unfold State.raiseMillrace; (repeat' split) <;> first | rfl | simp
@[simp] theorem State.raiseMillrace_cmds (s : State) : (s.raiseMillrace).cmds = s.cmds := by
  unfold State.raiseMillrace; (repeat' split) <;> first | rfl | simp
@[simp] theorem State.raiseMillrace_led (s : State) : (s.raiseMillrace).led = s.led := by
  unfold State.raiseMillrace; (repeat' split) <;> first | rfl | simp
@[simp] theorem State.raiseMillrace_cfg (s : State) : (s.raiseMillrace).cfg = s.cfg := by
  unfold State.raiseMillrace; (repeat' split) <;> first | rfl | simp
@[simp] theorem State.raiseMillrace_cri (s : State) : (s.raiseMillrace).cri = s.cri := by
  unfold State.raiseMillrace; (repeat' split) <;> first | rfl | simp
@[simp] theorem State.raiseMillrace_pwr (s : State) : (s.raiseMillrace).pwr = s.pwr := by
  unfold State.raiseMillrace; (repeat' split) <;> first | rfl | simp
@[simp] theorem State.raiseMillrace_rst (s : State) : (s.raiseMillrace).rst = s.rst := by
  unfold State.raiseMillrace; (repeat' split) <;> first | rfl | simp
@[simp] theorem State.raiseMillrace_twn (s : State) : (s.raiseMillrace).twn = s.twn := by
  unfold State.raiseMillrace; (repeat' split) <;> first | rfl | simp
@[simp] theorem State.raiseMillrace_sec (s : State) : (s.raiseMillrace).sec = s.sec := by
  unfold State.raiseMillrace; (repeat' split) <;> first | rfl | simp
@[simp] theorem State.raiseMillrace_pins (s : State) : (s.raiseMillrace).pins = s.pins := by
  unfold State.raiseMillrace; (repeat' split) <;> first | rfl | simp
@[simp] theorem State.busFault_pending (s : State) (fn off bit : Nat) : (s.busFault fn off bit).pending = s.pending := by
  unfold State.busFault; (repeat' split) <;> first | rfl | (simp; done) | (dsimp only; (repeat' split) <;> first | rfl | (simp; done))
@[simp] theorem State.busFault_free (s : State) (fn off bit : Nat) : (s.busFault fn off bit).free = s.free := by
  unfold State.busFault; (repeat' split) <;> first | rfl | (simp; done) | (dsimp only; (repeat' split) <;> first | rfl | (simp; done))
@[simp] theorem State.busFault_holds (s : State) (fn off bit : Nat) : (s.busFault fn off bit).holds = s.holds := by
  unfold State.busFault; (repeat' split) <;> first | rfl | (simp; done) | (dsimp only; (repeat' split) <;> first | rfl | (simp; done))
@[simp] theorem State.busFault_time (s : State) (fn off bit : Nat) : (s.busFault fn off bit).time = s.time := by
  unfold State.busFault; (repeat' split) <;> first | rfl | (simp; done) | (dsimp only; (repeat' split) <;> first | rfl | (simp; done))
@[simp] theorem State.busFault_halt (s : State) (fn off bit : Nat) : (s.busFault fn off bit).halt = s.halt := by
  unfold State.busFault; (repeat' split) <;> first | rfl | (simp; done) | (dsimp only; (repeat' split) <;> first | rfl | (simp; done))
@[simp] theorem State.busFault_mrc (s : State) (fn off bit : Nat) : (s.busFault fn off bit).mrc = s.mrc := by
  unfold State.busFault; (repeat' split) <;> first | rfl | (simp; done) | (dsimp only; (repeat' split) <;> first | rfl | (simp; done))
@[simp] theorem State.busFault_alm (s : State) (fn off bit : Nat) : (s.busFault fn off bit).alm = s.alm := by
  unfold State.busFault; (repeat' split) <;> first | rfl | (simp; done) | (dsimp only; (repeat' split) <;> first | rfl | (simp; done))
@[simp] theorem State.busFault_frames (s : State) (fn off bit : Nat) : (s.busFault fn off bit).frames = s.frames := by
  unfold State.busFault; (repeat' split) <;> first | rfl | (simp; done) | (dsimp only; (repeat' split) <;> first | rfl | (simp; done))
@[simp] theorem State.busFault_areas (s : State) (fn off bit : Nat) : (s.busFault fn off bit).areas = s.areas := by
  unfold State.busFault; (repeat' split) <;> first | rfl | (simp; done) | (dsimp only; (repeat' split) <;> first | rfl | (simp; done))
@[simp] theorem State.busFault_links (s : State) (fn off bit : Nat) : (s.busFault fn off bit).links = s.links := by
  unfold State.busFault; (repeat' split) <;> first | rfl | (simp; done) | (dsimp only; (repeat' split) <;> first | rfl | (simp; done))
@[simp] theorem State.busFault_places (s : State) (fn off bit : Nat) : (s.busFault fn off bit).places = s.places := by
  unfold State.busFault; (repeat' split) <;> first | rfl | (simp; done) | (dsimp only; (repeat' split) <;> first | rfl | (simp; done))
@[simp] theorem State.busFault_eps (s : State) (fn off bit : Nat) : (s.busFault fn off bit).eps = s.eps := by
  unfold State.busFault; (repeat' split) <;> first | rfl | (simp; done) | (dsimp only; (repeat' split) <;> first | rfl | (simp; done))
@[simp] theorem State.busFault_txns (s : State) (fn off bit : Nat) : (s.busFault fn off bit).txns = s.txns := by
  unfold State.busFault; (repeat' split) <;> first | rfl | (simp; done) | (dsimp only; (repeat' split) <;> first | rfl | (simp; done))
@[simp] theorem State.busFault_qps (s : State) (fn off bit : Nat) : (s.busFault fn off bit).qps = s.qps := by
  unfold State.busFault; (repeat' split) <;> first | rfl | (simp; done) | (dsimp only; (repeat' split) <;> first | rfl | (simp; done))
@[simp] theorem State.busFault_dma (s : State) (fn off bit : Nat) : (s.busFault fn off bit).dma = s.dma := by
  unfold State.busFault; (repeat' split) <;> first | rfl | (simp; done) | (dsimp only; (repeat' split) <;> first | rfl | (simp; done))
@[simp] theorem State.busFault_pools (s : State) (fn off bit : Nat) : (s.busFault fn off bit).pools = s.pools := by
  unfold State.busFault; (repeat' split) <;> first | rfl | (simp; done) | (dsimp only; (repeat' split) <;> first | rfl | (simp; done))
@[simp] theorem State.busFault_cmds (s : State) (fn off bit : Nat) : (s.busFault fn off bit).cmds = s.cmds := by
  unfold State.busFault; (repeat' split) <;> first | rfl | (simp; done) | (dsimp only; (repeat' split) <;> first | rfl | (simp; done))
@[simp] theorem State.busFault_led (s : State) (fn off bit : Nat) : (s.busFault fn off bit).led = s.led := by
  unfold State.busFault; (repeat' split) <;> first | rfl | (simp; done) | (dsimp only; (repeat' split) <;> first | rfl | (simp; done))
@[simp] theorem State.busFault_cfg (s : State) (fn off bit : Nat) : (s.busFault fn off bit).cfg = s.cfg := by
  unfold State.busFault; (repeat' split) <;> first | rfl | (simp; done) | (dsimp only; (repeat' split) <;> first | rfl | (simp; done))
@[simp] theorem State.busFault_cri (s : State) (fn off bit : Nat) : (s.busFault fn off bit).cri = s.cri := by
  unfold State.busFault; (repeat' split) <;> first | rfl | (simp; done) | (dsimp only; (repeat' split) <;> first | rfl | (simp; done))
@[simp] theorem State.busFault_pwr (s : State) (fn off bit : Nat) : (s.busFault fn off bit).pwr = s.pwr := by
  unfold State.busFault; (repeat' split) <;> first | rfl | (simp; done) | (dsimp only; (repeat' split) <;> first | rfl | (simp; done))
@[simp] theorem State.busFault_rst (s : State) (fn off bit : Nat) : (s.busFault fn off bit).rst = s.rst := by
  unfold State.busFault; (repeat' split) <;> first | rfl | (simp; done) | (dsimp only; (repeat' split) <;> first | rfl | (simp; done))
@[simp] theorem State.busFault_twn (s : State) (fn off bit : Nat) : (s.busFault fn off bit).twn = s.twn := by
  unfold State.busFault; (repeat' split) <;> first | rfl | (simp; done) | (dsimp only; (repeat' split) <;> first | rfl | (simp; done))
@[simp] theorem State.busFault_sec (s : State) (fn off bit : Nat) : (s.busFault fn off bit).sec = s.sec := by
  unfold State.busFault; (repeat' split) <;> first | rfl | (simp; done) | (dsimp only; (repeat' split) <;> first | rfl | (simp; done))
@[simp] theorem State.busFault_pins (s : State) (fn off bit : Nat) : (s.busFault fn off bit).pins = s.pins := by
  unfold State.busFault; (repeat' split) <;> first | rfl | (simp; done) | (dsimp only; (repeat' split) <;> first | rfl | (simp; done))
@[simp] theorem State.qpCause_pending (s : State) (q bit : Nat) : (s.qpCause q bit).pending = s.pending := by
  unfold State.qpCause; (repeat' split) <;> first | rfl | (simp; done) | (dsimp only; (repeat' split) <;> first | rfl | (simp; done))
@[simp] theorem State.qpCause_free (s : State) (q bit : Nat) : (s.qpCause q bit).free = s.free := by
  unfold State.qpCause; (repeat' split) <;> first | rfl | (simp; done) | (dsimp only; (repeat' split) <;> first | rfl | (simp; done))
@[simp] theorem State.qpCause_regs (s : State) (q bit : Nat) : (s.qpCause q bit).regs = s.regs := by
  unfold State.qpCause; (repeat' split) <;> first | rfl | (simp; done) | (dsimp only; (repeat' split) <;> first | rfl | (simp; done))
@[simp] theorem State.qpCause_holds (s : State) (q bit : Nat) : (s.qpCause q bit).holds = s.holds := by
  unfold State.qpCause; (repeat' split) <;> first | rfl | (simp; done) | (dsimp only; (repeat' split) <;> first | rfl | (simp; done))
@[simp] theorem State.qpCause_time (s : State) (q bit : Nat) : (s.qpCause q bit).time = s.time := by
  unfold State.qpCause; (repeat' split) <;> first | rfl | (simp; done) | (dsimp only; (repeat' split) <;> first | rfl | (simp; done))
@[simp] theorem State.qpCause_halt (s : State) (q bit : Nat) : (s.qpCause q bit).halt = s.halt := by
  unfold State.qpCause; (repeat' split) <;> first | rfl | (simp; done) | (dsimp only; (repeat' split) <;> first | rfl | (simp; done))
@[simp] theorem State.qpCause_mrc (s : State) (q bit : Nat) : (s.qpCause q bit).mrc = s.mrc := by
  unfold State.qpCause; (repeat' split) <;> first | rfl | (simp; done) | (dsimp only; (repeat' split) <;> first | rfl | (simp; done))
@[simp] theorem State.qpCause_alm (s : State) (q bit : Nat) : (s.qpCause q bit).alm = s.alm := by
  unfold State.qpCause; (repeat' split) <;> first | rfl | (simp; done) | (dsimp only; (repeat' split) <;> first | rfl | (simp; done))
@[simp] theorem State.qpCause_frames (s : State) (q bit : Nat) : (s.qpCause q bit).frames = s.frames := by
  unfold State.qpCause; (repeat' split) <;> first | rfl | (simp; done) | (dsimp only; (repeat' split) <;> first | rfl | (simp; done))
@[simp] theorem State.qpCause_areas (s : State) (q bit : Nat) : (s.qpCause q bit).areas = s.areas := by
  unfold State.qpCause; (repeat' split) <;> first | rfl | (simp; done) | (dsimp only; (repeat' split) <;> first | rfl | (simp; done))
@[simp] theorem State.qpCause_links (s : State) (q bit : Nat) : (s.qpCause q bit).links = s.links := by
  unfold State.qpCause; (repeat' split) <;> first | rfl | (simp; done) | (dsimp only; (repeat' split) <;> first | rfl | (simp; done))
@[simp] theorem State.qpCause_places (s : State) (q bit : Nat) : (s.qpCause q bit).places = s.places := by
  unfold State.qpCause; (repeat' split) <;> first | rfl | (simp; done) | (dsimp only; (repeat' split) <;> first | rfl | (simp; done))
@[simp] theorem State.qpCause_eps (s : State) (q bit : Nat) : (s.qpCause q bit).eps = s.eps := by
  unfold State.qpCause; (repeat' split) <;> first | rfl | (simp; done) | (dsimp only; (repeat' split) <;> first | rfl | (simp; done))
@[simp] theorem State.qpCause_txns (s : State) (q bit : Nat) : (s.qpCause q bit).txns = s.txns := by
  unfold State.qpCause; (repeat' split) <;> first | rfl | (simp; done) | (dsimp only; (repeat' split) <;> first | rfl | (simp; done))
@[simp] theorem State.qpCause_dma (s : State) (q bit : Nat) : (s.qpCause q bit).dma = s.dma := by
  unfold State.qpCause; (repeat' split) <;> first | rfl | (simp; done) | (dsimp only; (repeat' split) <;> first | rfl | (simp; done))
@[simp] theorem State.qpCause_pools (s : State) (q bit : Nat) : (s.qpCause q bit).pools = s.pools := by
  unfold State.qpCause; (repeat' split) <;> first | rfl | (simp; done) | (dsimp only; (repeat' split) <;> first | rfl | (simp; done))
@[simp] theorem State.qpCause_cmds (s : State) (q bit : Nat) : (s.qpCause q bit).cmds = s.cmds := by
  unfold State.qpCause; (repeat' split) <;> first | rfl | (simp; done) | (dsimp only; (repeat' split) <;> first | rfl | (simp; done))
@[simp] theorem State.qpCause_led (s : State) (q bit : Nat) : (s.qpCause q bit).led = s.led := by
  unfold State.qpCause; (repeat' split) <;> first | rfl | (simp; done) | (dsimp only; (repeat' split) <;> first | rfl | (simp; done))
@[simp] theorem State.qpCause_cfg (s : State) (q bit : Nat) : (s.qpCause q bit).cfg = s.cfg := by
  unfold State.qpCause; (repeat' split) <;> first | rfl | (simp; done) | (dsimp only; (repeat' split) <;> first | rfl | (simp; done))
@[simp] theorem State.qpCause_cri (s : State) (q bit : Nat) : (s.qpCause q bit).cri = s.cri := by
  unfold State.qpCause; (repeat' split) <;> first | rfl | (simp; done) | (dsimp only; (repeat' split) <;> first | rfl | (simp; done))
@[simp] theorem State.qpCause_pwr (s : State) (q bit : Nat) : (s.qpCause q bit).pwr = s.pwr := by
  unfold State.qpCause; (repeat' split) <;> first | rfl | (simp; done) | (dsimp only; (repeat' split) <;> first | rfl | (simp; done))
@[simp] theorem State.qpCause_rst (s : State) (q bit : Nat) : (s.qpCause q bit).rst = s.rst := by
  unfold State.qpCause; (repeat' split) <;> first | rfl | (simp; done) | (dsimp only; (repeat' split) <;> first | rfl | (simp; done))
@[simp] theorem State.qpCause_twn (s : State) (q bit : Nat) : (s.qpCause q bit).twn = s.twn := by
  unfold State.qpCause; (repeat' split) <;> first | rfl | (simp; done) | (dsimp only; (repeat' split) <;> first | rfl | (simp; done))
@[simp] theorem State.qpCause_sec (s : State) (q bit : Nat) : (s.qpCause q bit).sec = s.sec := by
  unfold State.qpCause; (repeat' split) <;> first | rfl | (simp; done) | (dsimp only; (repeat' split) <;> first | rfl | (simp; done))
@[simp] theorem State.qpCause_pins (s : State) (q bit : Nat) : (s.qpCause q bit).pins = s.pins := by
  unfold State.qpCause; (repeat' split) <;> first | rfl | (simp; done) | (dsimp only; (repeat' split) <;> first | rfl | (simp; done))
@[simp] theorem State.dbFault_pending (s : State) (q : Nat) : (s.dbFault q).pending = s.pending := by
  unfold State.dbFault; (repeat' split) <;> first | rfl | simp
@[simp] theorem State.dbFault_free (s : State) (q : Nat) : (s.dbFault q).free = s.free := by
  unfold State.dbFault; (repeat' split) <;> first | rfl | simp
@[simp] theorem State.dbFault_regs (s : State) (q : Nat) : (s.dbFault q).regs = s.regs := by
  unfold State.dbFault; (repeat' split) <;> first | rfl | simp
@[simp] theorem State.dbFault_holds (s : State) (q : Nat) : (s.dbFault q).holds = s.holds := by
  unfold State.dbFault; (repeat' split) <;> first | rfl | simp
@[simp] theorem State.dbFault_time (s : State) (q : Nat) : (s.dbFault q).time = s.time := by
  unfold State.dbFault; (repeat' split) <;> first | rfl | simp
@[simp] theorem State.dbFault_halt (s : State) (q : Nat) : (s.dbFault q).halt = s.halt := by
  unfold State.dbFault; (repeat' split) <;> first | rfl | simp
@[simp] theorem State.dbFault_mrc (s : State) (q : Nat) : (s.dbFault q).mrc = s.mrc := by
  unfold State.dbFault; (repeat' split) <;> first | rfl | simp
@[simp] theorem State.dbFault_alm (s : State) (q : Nat) : (s.dbFault q).alm = s.alm := by
  unfold State.dbFault; (repeat' split) <;> first | rfl | simp
@[simp] theorem State.dbFault_frames (s : State) (q : Nat) : (s.dbFault q).frames = s.frames := by
  unfold State.dbFault; (repeat' split) <;> first | rfl | simp
@[simp] theorem State.dbFault_areas (s : State) (q : Nat) : (s.dbFault q).areas = s.areas := by
  unfold State.dbFault; (repeat' split) <;> first | rfl | simp
@[simp] theorem State.dbFault_links (s : State) (q : Nat) : (s.dbFault q).links = s.links := by
  unfold State.dbFault; (repeat' split) <;> first | rfl | simp
@[simp] theorem State.dbFault_places (s : State) (q : Nat) : (s.dbFault q).places = s.places := by
  unfold State.dbFault; (repeat' split) <;> first | rfl | simp
@[simp] theorem State.dbFault_eps (s : State) (q : Nat) : (s.dbFault q).eps = s.eps := by
  unfold State.dbFault; (repeat' split) <;> first | rfl | simp
@[simp] theorem State.dbFault_txns (s : State) (q : Nat) : (s.dbFault q).txns = s.txns := by
  unfold State.dbFault; (repeat' split) <;> first | rfl | simp
@[simp] theorem State.dbFault_dma (s : State) (q : Nat) : (s.dbFault q).dma = s.dma := by
  unfold State.dbFault; (repeat' split) <;> first | rfl | simp
@[simp] theorem State.dbFault_pools (s : State) (q : Nat) : (s.dbFault q).pools = s.pools := by
  unfold State.dbFault; (repeat' split) <;> first | rfl | simp
@[simp] theorem State.dbFault_cmds (s : State) (q : Nat) : (s.dbFault q).cmds = s.cmds := by
  unfold State.dbFault; (repeat' split) <;> first | rfl | simp
@[simp] theorem State.dbFault_led (s : State) (q : Nat) : (s.dbFault q).led = s.led := by
  unfold State.dbFault; (repeat' split) <;> first | rfl | simp
@[simp] theorem State.dbFault_cfg (s : State) (q : Nat) : (s.dbFault q).cfg = s.cfg := by
  unfold State.dbFault; (repeat' split) <;> first | rfl | simp
@[simp] theorem State.dbFault_cri (s : State) (q : Nat) : (s.dbFault q).cri = s.cri := by
  unfold State.dbFault; (repeat' split) <;> first | rfl | simp
@[simp] theorem State.dbFault_pwr (s : State) (q : Nat) : (s.dbFault q).pwr = s.pwr := by
  unfold State.dbFault; (repeat' split) <;> first | rfl | simp
@[simp] theorem State.dbFault_rst (s : State) (q : Nat) : (s.dbFault q).rst = s.rst := by
  unfold State.dbFault; (repeat' split) <;> first | rfl | simp
@[simp] theorem State.dbFault_twn (s : State) (q : Nat) : (s.dbFault q).twn = s.twn := by
  unfold State.dbFault; (repeat' split) <;> first | rfl | simp
@[simp] theorem State.dbFault_sec (s : State) (q : Nat) : (s.dbFault q).sec = s.sec := by
  unfold State.dbFault; (repeat' split) <;> first | rfl | simp
@[simp] theorem State.dbFault_pins (s : State) (q : Nat) : (s.dbFault q).pins = s.pins := by
  unfold State.dbFault; (repeat' split) <;> first | rfl | simp
@[simp] theorem State.alert_pending (s : State) (bit : Nat) : (s.alert bit).pending = s.pending := by
  unfold State.alert; (repeat' split) <;> first | rfl | (simp; done) | (dsimp only; (repeat' split) <;> first | rfl | (simp; done))
@[simp] theorem State.alert_free (s : State) (bit : Nat) : (s.alert bit).free = s.free := by
  unfold State.alert; (repeat' split) <;> first | rfl | (simp; done) | (dsimp only; (repeat' split) <;> first | rfl | (simp; done))
@[simp] theorem State.alert_regs (s : State) (bit : Nat) : (s.alert bit).regs = s.regs := by
  unfold State.alert; (repeat' split) <;> first | rfl | (simp; done) | (dsimp only; (repeat' split) <;> first | rfl | (simp; done))
@[simp] theorem State.alert_holds (s : State) (bit : Nat) : (s.alert bit).holds = s.holds := by
  unfold State.alert; (repeat' split) <;> first | rfl | (simp; done) | (dsimp only; (repeat' split) <;> first | rfl | (simp; done))
@[simp] theorem State.alert_time (s : State) (bit : Nat) : (s.alert bit).time = s.time := by
  unfold State.alert; (repeat' split) <;> first | rfl | (simp; done) | (dsimp only; (repeat' split) <;> first | rfl | (simp; done))
@[simp] theorem State.alert_halt (s : State) (bit : Nat) : (s.alert bit).halt = s.halt := by
  unfold State.alert; (repeat' split) <;> first | rfl | (simp; done) | (dsimp only; (repeat' split) <;> first | rfl | (simp; done))
@[simp] theorem State.alert_mrc (s : State) (bit : Nat) : (s.alert bit).mrc = s.mrc := by
  unfold State.alert; (repeat' split) <;> first | rfl | (simp; done) | (dsimp only; (repeat' split) <;> first | rfl | (simp; done))
@[simp] theorem State.alert_alm (s : State) (bit : Nat) : (s.alert bit).alm = s.alm := by
  unfold State.alert; (repeat' split) <;> first | rfl | (simp; done) | (dsimp only; (repeat' split) <;> first | rfl | (simp; done))
@[simp] theorem State.alert_frames (s : State) (bit : Nat) : (s.alert bit).frames = s.frames := by
  unfold State.alert; (repeat' split) <;> first | rfl | (simp; done) | (dsimp only; (repeat' split) <;> first | rfl | (simp; done))
@[simp] theorem State.alert_areas (s : State) (bit : Nat) : (s.alert bit).areas = s.areas := by
  unfold State.alert; (repeat' split) <;> first | rfl | (simp; done) | (dsimp only; (repeat' split) <;> first | rfl | (simp; done))
@[simp] theorem State.alert_links (s : State) (bit : Nat) : (s.alert bit).links = s.links := by
  unfold State.alert; (repeat' split) <;> first | rfl | (simp; done) | (dsimp only; (repeat' split) <;> first | rfl | (simp; done))
@[simp] theorem State.alert_places (s : State) (bit : Nat) : (s.alert bit).places = s.places := by
  unfold State.alert; (repeat' split) <;> first | rfl | (simp; done) | (dsimp only; (repeat' split) <;> first | rfl | (simp; done))
@[simp] theorem State.alert_eps (s : State) (bit : Nat) : (s.alert bit).eps = s.eps := by
  unfold State.alert; (repeat' split) <;> first | rfl | (simp; done) | (dsimp only; (repeat' split) <;> first | rfl | (simp; done))
@[simp] theorem State.alert_txns (s : State) (bit : Nat) : (s.alert bit).txns = s.txns := by
  unfold State.alert; (repeat' split) <;> first | rfl | (simp; done) | (dsimp only; (repeat' split) <;> first | rfl | (simp; done))
@[simp] theorem State.alert_qps (s : State) (bit : Nat) : (s.alert bit).qps = s.qps := by
  unfold State.alert; (repeat' split) <;> first | rfl | (simp; done) | (dsimp only; (repeat' split) <;> first | rfl | (simp; done))
@[simp] theorem State.alert_dma (s : State) (bit : Nat) : (s.alert bit).dma = s.dma := by
  unfold State.alert; (repeat' split) <;> first | rfl | (simp; done) | (dsimp only; (repeat' split) <;> first | rfl | (simp; done))
@[simp] theorem State.alert_pools (s : State) (bit : Nat) : (s.alert bit).pools = s.pools := by
  unfold State.alert; (repeat' split) <;> first | rfl | (simp; done) | (dsimp only; (repeat' split) <;> first | rfl | (simp; done))
@[simp] theorem State.alert_cmds (s : State) (bit : Nat) : (s.alert bit).cmds = s.cmds := by
  unfold State.alert; (repeat' split) <;> first | rfl | (simp; done) | (dsimp only; (repeat' split) <;> first | rfl | (simp; done))
@[simp] theorem State.alert_led (s : State) (bit : Nat) : (s.alert bit).led = s.led := by
  unfold State.alert; (repeat' split) <;> first | rfl | (simp; done) | (dsimp only; (repeat' split) <;> first | rfl | (simp; done))
@[simp] theorem State.alert_cfg (s : State) (bit : Nat) : (s.alert bit).cfg = s.cfg := by
  unfold State.alert; (repeat' split) <;> first | rfl | (simp; done) | (dsimp only; (repeat' split) <;> first | rfl | (simp; done))
@[simp] theorem State.alert_cri (s : State) (bit : Nat) : (s.alert bit).cri = s.cri := by
  unfold State.alert; (repeat' split) <;> first | rfl | (simp; done) | (dsimp only; (repeat' split) <;> first | rfl | (simp; done))
@[simp] theorem State.alert_pcie (s : State) (bit : Nat) : (s.alert bit).pcie = s.pcie := by
  unfold State.alert; (repeat' split) <;> first | rfl | (simp; done) | (dsimp only; (repeat' split) <;> first | rfl | (simp; done))
@[simp] theorem State.alert_pwr (s : State) (bit : Nat) : (s.alert bit).pwr = s.pwr := by
  unfold State.alert; (repeat' split) <;> first | rfl | (simp; done) | (dsimp only; (repeat' split) <;> first | rfl | (simp; done))
@[simp] theorem State.alert_rst (s : State) (bit : Nat) : (s.alert bit).rst = s.rst := by
  unfold State.alert; (repeat' split) <;> first | rfl | (simp; done) | (dsimp only; (repeat' split) <;> first | rfl | (simp; done))
@[simp] theorem State.alert_twn (s : State) (bit : Nat) : (s.alert bit).twn = s.twn := by
  unfold State.alert; (repeat' split) <;> first | rfl | (simp; done) | (dsimp only; (repeat' split) <;> first | rfl | (simp; done))
@[simp] theorem State.alert_sec (s : State) (bit : Nat) : (s.alert bit).sec = s.sec := by
  unfold State.alert; (repeat' split) <;> first | rfl | (simp; done) | (dsimp only; (repeat' split) <;> first | rfl | (simp; done))
@[simp] theorem State.chipEvent_pending (s : State) : (s.chipEvent).pending = s.pending := by
  unfold State.chipEvent; (repeat' split) <;> first | rfl | simp
@[simp] theorem State.chipEvent_holds (s : State) : (s.chipEvent).holds = s.holds := by
  unfold State.chipEvent; (repeat' split) <;> first | rfl | simp
@[simp] theorem State.chipEvent_time (s : State) : (s.chipEvent).time = s.time := by
  unfold State.chipEvent; (repeat' split) <;> first | rfl | simp
@[simp] theorem State.chipEvent_halt (s : State) : (s.chipEvent).halt = s.halt := by
  unfold State.chipEvent; (repeat' split) <;> first | rfl | simp
@[simp] theorem State.chipEvent_mrc (s : State) : (s.chipEvent).mrc = s.mrc := by
  unfold State.chipEvent; (repeat' split) <;> first | rfl | simp
@[simp] theorem State.chipEvent_alm (s : State) : (s.chipEvent).alm = s.alm := by
  unfold State.chipEvent; (repeat' split) <;> first | rfl | simp
@[simp] theorem State.chipEvent_frames (s : State) : (s.chipEvent).frames = s.frames := by
  unfold State.chipEvent; (repeat' split) <;> first | rfl | simp
@[simp] theorem State.chipEvent_areas (s : State) : (s.chipEvent).areas = s.areas := by
  unfold State.chipEvent; (repeat' split) <;> first | rfl | simp
@[simp] theorem State.chipEvent_links (s : State) : (s.chipEvent).links = s.links := by
  unfold State.chipEvent; (repeat' split) <;> first | rfl | simp
@[simp] theorem State.chipEvent_places (s : State) : (s.chipEvent).places = s.places := by
  unfold State.chipEvent; (repeat' split) <;> first | rfl | simp
@[simp] theorem State.chipEvent_eps (s : State) : (s.chipEvent).eps = s.eps := by
  unfold State.chipEvent; (repeat' split) <;> first | rfl | simp
@[simp] theorem State.chipEvent_txns (s : State) : (s.chipEvent).txns = s.txns := by
  unfold State.chipEvent; (repeat' split) <;> first | rfl | simp
@[simp] theorem State.chipEvent_qps (s : State) : (s.chipEvent).qps = s.qps := by
  unfold State.chipEvent; (repeat' split) <;> first | rfl | simp
@[simp] theorem State.chipEvent_dma (s : State) : (s.chipEvent).dma = s.dma := by
  unfold State.chipEvent; (repeat' split) <;> first | rfl | simp
@[simp] theorem State.chipEvent_pools (s : State) : (s.chipEvent).pools = s.pools := by
  unfold State.chipEvent; (repeat' split) <;> first | rfl | simp
@[simp] theorem State.chipEvent_cmds (s : State) : (s.chipEvent).cmds = s.cmds := by
  unfold State.chipEvent; (repeat' split) <;> first | rfl | simp
@[simp] theorem State.chipEvent_led (s : State) : (s.chipEvent).led = s.led := by
  unfold State.chipEvent; (repeat' split) <;> first | rfl | simp
@[simp] theorem State.chipEvent_cfg (s : State) : (s.chipEvent).cfg = s.cfg := by
  unfold State.chipEvent; (repeat' split) <;> first | rfl | simp
@[simp] theorem State.chipEvent_cri (s : State) : (s.chipEvent).cri = s.cri := by
  unfold State.chipEvent; (repeat' split) <;> first | rfl | simp
@[simp] theorem State.chipEvent_pwr (s : State) : (s.chipEvent).pwr = s.pwr := by
  unfold State.chipEvent; (repeat' split) <;> first | rfl | simp
@[simp] theorem State.chipEvent_twn (s : State) : (s.chipEvent).twn = s.twn := by
  unfold State.chipEvent; (repeat' split) <;> first | rfl | simp
@[simp] theorem State.chipEvent_sec (s : State) : (s.chipEvent).sec = s.sec := by
  unfold State.chipEvent; (repeat' split) <;> first | rfl | simp
@[simp] theorem State.isoRefuse_pending (s : State) (t : Nat) (addr : DWord) : (s.isoRefuse t addr).pending = s.pending := by
  unfold State.isoRefuse; (repeat' split) <;> first | rfl | simp
@[simp] theorem State.isoRefuse_free (s : State) (t : Nat) (addr : DWord) : (s.isoRefuse t addr).free = s.free := by
  unfold State.isoRefuse; (repeat' split) <;> first | rfl | simp
@[simp] theorem State.isoRefuse_holds (s : State) (t : Nat) (addr : DWord) : (s.isoRefuse t addr).holds = s.holds := by
  unfold State.isoRefuse; (repeat' split) <;> first | rfl | simp
@[simp] theorem State.isoRefuse_time (s : State) (t : Nat) (addr : DWord) : (s.isoRefuse t addr).time = s.time := by
  unfold State.isoRefuse; (repeat' split) <;> first | rfl | simp
@[simp] theorem State.isoRefuse_halt (s : State) (t : Nat) (addr : DWord) : (s.isoRefuse t addr).halt = s.halt := by
  unfold State.isoRefuse; (repeat' split) <;> first | rfl | simp
@[simp] theorem State.isoRefuse_mrc (s : State) (t : Nat) (addr : DWord) : (s.isoRefuse t addr).mrc = s.mrc := by
  unfold State.isoRefuse; (repeat' split) <;> first | rfl | simp
@[simp] theorem State.isoRefuse_alm (s : State) (t : Nat) (addr : DWord) : (s.isoRefuse t addr).alm = s.alm := by
  unfold State.isoRefuse; (repeat' split) <;> first | rfl | simp
@[simp] theorem State.isoRefuse_frames (s : State) (t : Nat) (addr : DWord) : (s.isoRefuse t addr).frames = s.frames := by
  unfold State.isoRefuse; (repeat' split) <;> first | rfl | simp
@[simp] theorem State.isoRefuse_areas (s : State) (t : Nat) (addr : DWord) : (s.isoRefuse t addr).areas = s.areas := by
  unfold State.isoRefuse; (repeat' split) <;> first | rfl | simp
@[simp] theorem State.isoRefuse_links (s : State) (t : Nat) (addr : DWord) : (s.isoRefuse t addr).links = s.links := by
  unfold State.isoRefuse; (repeat' split) <;> first | rfl | simp
@[simp] theorem State.isoRefuse_places (s : State) (t : Nat) (addr : DWord) : (s.isoRefuse t addr).places = s.places := by
  unfold State.isoRefuse; (repeat' split) <;> first | rfl | simp
@[simp] theorem State.isoRefuse_eps (s : State) (t : Nat) (addr : DWord) : (s.isoRefuse t addr).eps = s.eps := by
  unfold State.isoRefuse; (repeat' split) <;> first | rfl | simp
@[simp] theorem State.isoRefuse_txns (s : State) (t : Nat) (addr : DWord) : (s.isoRefuse t addr).txns = s.txns := by
  unfold State.isoRefuse; (repeat' split) <;> first | rfl | simp
@[simp] theorem State.isoRefuse_qps (s : State) (t : Nat) (addr : DWord) : (s.isoRefuse t addr).qps = s.qps := by
  unfold State.isoRefuse; (repeat' split) <;> first | rfl | simp
@[simp] theorem State.isoRefuse_dma (s : State) (t : Nat) (addr : DWord) : (s.isoRefuse t addr).dma = s.dma := by
  unfold State.isoRefuse; (repeat' split) <;> first | rfl | simp
@[simp] theorem State.isoRefuse_pools (s : State) (t : Nat) (addr : DWord) : (s.isoRefuse t addr).pools = s.pools := by
  unfold State.isoRefuse; (repeat' split) <;> first | rfl | simp
@[simp] theorem State.isoRefuse_cmds (s : State) (t : Nat) (addr : DWord) : (s.isoRefuse t addr).cmds = s.cmds := by
  unfold State.isoRefuse; (repeat' split) <;> first | rfl | simp
@[simp] theorem State.isoRefuse_led (s : State) (t : Nat) (addr : DWord) : (s.isoRefuse t addr).led = s.led := by
  unfold State.isoRefuse; (repeat' split) <;> first | rfl | simp
@[simp] theorem State.isoRefuse_cfg (s : State) (t : Nat) (addr : DWord) : (s.isoRefuse t addr).cfg = s.cfg := by
  unfold State.isoRefuse; (repeat' split) <;> first | rfl | simp
@[simp] theorem State.isoRefuse_cri (s : State) (t : Nat) (addr : DWord) : (s.isoRefuse t addr).cri = s.cri := by
  unfold State.isoRefuse; (repeat' split) <;> first | rfl | simp
@[simp] theorem State.isoRefuse_pwr (s : State) (t : Nat) (addr : DWord) : (s.isoRefuse t addr).pwr = s.pwr := by
  unfold State.isoRefuse; (repeat' split) <;> first | rfl | simp
@[simp] theorem State.isoRefuse_rst (s : State) (t : Nat) (addr : DWord) : (s.isoRefuse t addr).rst = s.rst := by
  unfold State.isoRefuse; (repeat' split) <;> first | rfl | simp
@[simp] theorem State.isoRefuse_twn (s : State) (t : Nat) (addr : DWord) : (s.isoRefuse t addr).twn = s.twn := by
  unfold State.isoRefuse; (repeat' split) <;> first | rfl | simp
@[simp] theorem State.isoRefuse_sec (s : State) (t : Nat) (addr : DWord) : (s.isoRefuse t addr).sec = s.sec := by
  unfold State.isoRefuse; (repeat' split) <;> first | rfl | simp
@[simp] theorem State.isoRefuse_pins (s : State) (t : Nat) (addr : DWord) : (s.isoRefuse t addr).pins = s.pins := by
  unfold State.isoRefuse; (repeat' split) <;> first | rfl | simp
@[simp] theorem State.foreign_pending (s : State) (t : Nat) : (s.foreign t).pending = s.pending := by
  unfold State.foreign; (repeat' split) <;> first | rfl | simp
@[simp] theorem State.foreign_free (s : State) (t : Nat) : (s.foreign t).free = s.free := by
  unfold State.foreign; (repeat' split) <;> first | rfl | simp
@[simp] theorem State.foreign_holds (s : State) (t : Nat) : (s.foreign t).holds = s.holds := by
  unfold State.foreign; (repeat' split) <;> first | rfl | simp
@[simp] theorem State.foreign_time (s : State) (t : Nat) : (s.foreign t).time = s.time := by
  unfold State.foreign; (repeat' split) <;> first | rfl | simp
@[simp] theorem State.foreign_halt (s : State) (t : Nat) : (s.foreign t).halt = s.halt := by
  unfold State.foreign; (repeat' split) <;> first | rfl | simp
@[simp] theorem State.foreign_mrc (s : State) (t : Nat) : (s.foreign t).mrc = s.mrc := by
  unfold State.foreign; (repeat' split) <;> first | rfl | simp
@[simp] theorem State.foreign_alm (s : State) (t : Nat) : (s.foreign t).alm = s.alm := by
  unfold State.foreign; (repeat' split) <;> first | rfl | simp
@[simp] theorem State.foreign_frames (s : State) (t : Nat) : (s.foreign t).frames = s.frames := by
  unfold State.foreign; (repeat' split) <;> first | rfl | simp
@[simp] theorem State.foreign_areas (s : State) (t : Nat) : (s.foreign t).areas = s.areas := by
  unfold State.foreign; (repeat' split) <;> first | rfl | simp
@[simp] theorem State.foreign_links (s : State) (t : Nat) : (s.foreign t).links = s.links := by
  unfold State.foreign; (repeat' split) <;> first | rfl | simp
@[simp] theorem State.foreign_places (s : State) (t : Nat) : (s.foreign t).places = s.places := by
  unfold State.foreign; (repeat' split) <;> first | rfl | simp
@[simp] theorem State.foreign_eps (s : State) (t : Nat) : (s.foreign t).eps = s.eps := by
  unfold State.foreign; (repeat' split) <;> first | rfl | simp
@[simp] theorem State.foreign_txns (s : State) (t : Nat) : (s.foreign t).txns = s.txns := by
  unfold State.foreign; (repeat' split) <;> first | rfl | simp
@[simp] theorem State.foreign_qps (s : State) (t : Nat) : (s.foreign t).qps = s.qps := by
  unfold State.foreign; (repeat' split) <;> first | rfl | simp
@[simp] theorem State.foreign_dma (s : State) (t : Nat) : (s.foreign t).dma = s.dma := by
  unfold State.foreign; (repeat' split) <;> first | rfl | simp
@[simp] theorem State.foreign_pools (s : State) (t : Nat) : (s.foreign t).pools = s.pools := by
  unfold State.foreign; (repeat' split) <;> first | rfl | simp
@[simp] theorem State.foreign_cmds (s : State) (t : Nat) : (s.foreign t).cmds = s.cmds := by
  unfold State.foreign; (repeat' split) <;> first | rfl | simp
@[simp] theorem State.foreign_led (s : State) (t : Nat) : (s.foreign t).led = s.led := by
  unfold State.foreign; (repeat' split) <;> first | rfl | simp
@[simp] theorem State.foreign_cfg (s : State) (t : Nat) : (s.foreign t).cfg = s.cfg := by
  unfold State.foreign; (repeat' split) <;> first | rfl | simp
@[simp] theorem State.foreign_cri (s : State) (t : Nat) : (s.foreign t).cri = s.cri := by
  unfold State.foreign; (repeat' split) <;> first | rfl | simp
@[simp] theorem State.foreign_pwr (s : State) (t : Nat) : (s.foreign t).pwr = s.pwr := by
  unfold State.foreign; (repeat' split) <;> first | rfl | simp
@[simp] theorem State.foreign_rst (s : State) (t : Nat) : (s.foreign t).rst = s.rst := by
  unfold State.foreign; (repeat' split) <;> first | rfl | simp
@[simp] theorem State.foreign_twn (s : State) (t : Nat) : (s.foreign t).twn = s.twn := by
  unfold State.foreign; (repeat' split) <;> first | rfl | simp
@[simp] theorem State.foreign_sec (s : State) (t : Nat) : (s.foreign t).sec = s.sec := by
  unfold State.foreign; (repeat' split) <;> first | rfl | simp
@[simp] theorem State.foreign_pins (s : State) (t : Nat) : (s.foreign t).pins = s.pins := by
  unfold State.foreign; (repeat' split) <;> first | rfl | simp
@[simp] theorem State.pathFault_pending (s : State) (t : Nat) : (s.pathFault t).pending = s.pending := by
  unfold State.pathFault; (repeat' split) <;> first | rfl | simp
@[simp] theorem State.pathFault_free (s : State) (t : Nat) : (s.pathFault t).free = s.free := by
  unfold State.pathFault; (repeat' split) <;> first | rfl | simp
@[simp] theorem State.pathFault_holds (s : State) (t : Nat) : (s.pathFault t).holds = s.holds := by
  unfold State.pathFault; (repeat' split) <;> first | rfl | simp
@[simp] theorem State.pathFault_time (s : State) (t : Nat) : (s.pathFault t).time = s.time := by
  unfold State.pathFault; (repeat' split) <;> first | rfl | simp
@[simp] theorem State.pathFault_halt (s : State) (t : Nat) : (s.pathFault t).halt = s.halt := by
  unfold State.pathFault; (repeat' split) <;> first | rfl | simp
@[simp] theorem State.pathFault_mrc (s : State) (t : Nat) : (s.pathFault t).mrc = s.mrc := by
  unfold State.pathFault; (repeat' split) <;> first | rfl | simp
@[simp] theorem State.pathFault_alm (s : State) (t : Nat) : (s.pathFault t).alm = s.alm := by
  unfold State.pathFault; (repeat' split) <;> first | rfl | simp
@[simp] theorem State.pathFault_frames (s : State) (t : Nat) : (s.pathFault t).frames = s.frames := by
  unfold State.pathFault; (repeat' split) <;> first | rfl | simp
@[simp] theorem State.pathFault_areas (s : State) (t : Nat) : (s.pathFault t).areas = s.areas := by
  unfold State.pathFault; (repeat' split) <;> first | rfl | simp
@[simp] theorem State.pathFault_links (s : State) (t : Nat) : (s.pathFault t).links = s.links := by
  unfold State.pathFault; (repeat' split) <;> first | rfl | simp
@[simp] theorem State.pathFault_places (s : State) (t : Nat) : (s.pathFault t).places = s.places := by
  unfold State.pathFault; (repeat' split) <;> first | rfl | simp
@[simp] theorem State.pathFault_eps (s : State) (t : Nat) : (s.pathFault t).eps = s.eps := by
  unfold State.pathFault; (repeat' split) <;> first | rfl | simp
@[simp] theorem State.pathFault_txns (s : State) (t : Nat) : (s.pathFault t).txns = s.txns := by
  unfold State.pathFault; (repeat' split) <;> first | rfl | simp
@[simp] theorem State.pathFault_qps (s : State) (t : Nat) : (s.pathFault t).qps = s.qps := by
  unfold State.pathFault; (repeat' split) <;> first | rfl | simp
@[simp] theorem State.pathFault_dma (s : State) (t : Nat) : (s.pathFault t).dma = s.dma := by
  unfold State.pathFault; (repeat' split) <;> first | rfl | simp
@[simp] theorem State.pathFault_pools (s : State) (t : Nat) : (s.pathFault t).pools = s.pools := by
  unfold State.pathFault; (repeat' split) <;> first | rfl | simp
@[simp] theorem State.pathFault_cmds (s : State) (t : Nat) : (s.pathFault t).cmds = s.cmds := by
  unfold State.pathFault; (repeat' split) <;> first | rfl | simp
@[simp] theorem State.pathFault_led (s : State) (t : Nat) : (s.pathFault t).led = s.led := by
  unfold State.pathFault; (repeat' split) <;> first | rfl | simp
@[simp] theorem State.pathFault_cfg (s : State) (t : Nat) : (s.pathFault t).cfg = s.cfg := by
  unfold State.pathFault; (repeat' split) <;> first | rfl | simp
@[simp] theorem State.pathFault_cri (s : State) (t : Nat) : (s.pathFault t).cri = s.cri := by
  unfold State.pathFault; (repeat' split) <;> first | rfl | simp
@[simp] theorem State.pathFault_pwr (s : State) (t : Nat) : (s.pathFault t).pwr = s.pwr := by
  unfold State.pathFault; (repeat' split) <;> first | rfl | simp
@[simp] theorem State.pathFault_rst (s : State) (t : Nat) : (s.pathFault t).rst = s.rst := by
  unfold State.pathFault; (repeat' split) <;> first | rfl | simp
@[simp] theorem State.pathFault_twn (s : State) (t : Nat) : (s.pathFault t).twn = s.twn := by
  unfold State.pathFault; (repeat' split) <;> first | rfl | simp
@[simp] theorem State.pathFault_sec (s : State) (t : Nat) : (s.pathFault t).sec = s.sec := by
  unfold State.pathFault; (repeat' split) <;> first | rfl | simp
@[simp] theorem State.pathFault_pins (s : State) (t : Nat) : (s.pathFault t).pins = s.pins := by
  unfold State.pathFault; (repeat' split) <;> first | rfl | simp
@[simp] theorem State.publishReply_pending (s : State) (t : Nat) : (s.publishReply t).pending = s.pending := by
  unfold State.publishReply; (repeat' split) <;> first | rfl | (simp; done) | (dsimp only; (repeat' split) <;> first | rfl | (simp; done))
@[simp] theorem State.publishReply_free (s : State) (t : Nat) : (s.publishReply t).free = s.free := by
  unfold State.publishReply; (repeat' split) <;> first | rfl | (simp; done) | (dsimp only; (repeat' split) <;> first | rfl | (simp; done))
@[simp] theorem State.publishReply_holds (s : State) (t : Nat) : (s.publishReply t).holds = s.holds := by
  unfold State.publishReply; (repeat' split) <;> first | rfl | (simp; done) | (dsimp only; (repeat' split) <;> first | rfl | (simp; done))
@[simp] theorem State.publishReply_time (s : State) (t : Nat) : (s.publishReply t).time = s.time := by
  unfold State.publishReply; (repeat' split) <;> first | rfl | (simp; done) | (dsimp only; (repeat' split) <;> first | rfl | (simp; done))
@[simp] theorem State.publishReply_halt (s : State) (t : Nat) : (s.publishReply t).halt = s.halt := by
  unfold State.publishReply; (repeat' split) <;> first | rfl | (simp; done) | (dsimp only; (repeat' split) <;> first | rfl | (simp; done))
@[simp] theorem State.publishReply_mrc (s : State) (t : Nat) : (s.publishReply t).mrc = s.mrc := by
  unfold State.publishReply; (repeat' split) <;> first | rfl | (simp; done) | (dsimp only; (repeat' split) <;> first | rfl | (simp; done))
@[simp] theorem State.publishReply_alm (s : State) (t : Nat) : (s.publishReply t).alm = s.alm := by
  unfold State.publishReply; (repeat' split) <;> first | rfl | (simp; done) | (dsimp only; (repeat' split) <;> first | rfl | (simp; done))
@[simp] theorem State.publishReply_frames (s : State) (t : Nat) : (s.publishReply t).frames = s.frames := by
  unfold State.publishReply; (repeat' split) <;> first | rfl | (simp; done) | (dsimp only; (repeat' split) <;> first | rfl | (simp; done))
@[simp] theorem State.publishReply_areas (s : State) (t : Nat) : (s.publishReply t).areas = s.areas := by
  unfold State.publishReply; (repeat' split) <;> first | rfl | (simp; done) | (dsimp only; (repeat' split) <;> first | rfl | (simp; done))
@[simp] theorem State.publishReply_links (s : State) (t : Nat) : (s.publishReply t).links = s.links := by
  unfold State.publishReply; (repeat' split) <;> first | rfl | (simp; done) | (dsimp only; (repeat' split) <;> first | rfl | (simp; done))
@[simp] theorem State.publishReply_places (s : State) (t : Nat) : (s.publishReply t).places = s.places := by
  unfold State.publishReply; (repeat' split) <;> first | rfl | (simp; done) | (dsimp only; (repeat' split) <;> first | rfl | (simp; done))
@[simp] theorem State.publishReply_eps (s : State) (t : Nat) : (s.publishReply t).eps = s.eps := by
  unfold State.publishReply; (repeat' split) <;> first | rfl | (simp; done) | (dsimp only; (repeat' split) <;> first | rfl | (simp; done))
@[simp] theorem State.publishReply_txns (s : State) (t : Nat) : (s.publishReply t).txns = s.txns := by
  unfold State.publishReply; (repeat' split) <;> first | rfl | (simp; done) | (dsimp only; (repeat' split) <;> first | rfl | (simp; done))
@[simp] theorem State.publishReply_qps (s : State) (t : Nat) : (s.publishReply t).qps = s.qps := by
  unfold State.publishReply; (repeat' split) <;> first | rfl | (simp; done) | (dsimp only; (repeat' split) <;> first | rfl | (simp; done))
@[simp] theorem State.publishReply_dma (s : State) (t : Nat) : (s.publishReply t).dma = s.dma := by
  unfold State.publishReply; (repeat' split) <;> first | rfl | (simp; done) | (dsimp only; (repeat' split) <;> first | rfl | (simp; done))
@[simp] theorem State.publishReply_pools (s : State) (t : Nat) : (s.publishReply t).pools = s.pools := by
  unfold State.publishReply; (repeat' split) <;> first | rfl | (simp; done) | (dsimp only; (repeat' split) <;> first | rfl | (simp; done))
@[simp] theorem State.publishReply_led (s : State) (t : Nat) : (s.publishReply t).led = s.led := by
  unfold State.publishReply; (repeat' split) <;> first | rfl | (simp; done) | (dsimp only; (repeat' split) <;> first | rfl | (simp; done))
@[simp] theorem State.publishReply_cfg (s : State) (t : Nat) : (s.publishReply t).cfg = s.cfg := by
  unfold State.publishReply; (repeat' split) <;> first | rfl | (simp; done) | (dsimp only; (repeat' split) <;> first | rfl | (simp; done))
@[simp] theorem State.publishReply_cri (s : State) (t : Nat) : (s.publishReply t).cri = s.cri := by
  unfold State.publishReply; (repeat' split) <;> first | rfl | (simp; done) | (dsimp only; (repeat' split) <;> first | rfl | (simp; done))
@[simp] theorem State.publishReply_pwr (s : State) (t : Nat) : (s.publishReply t).pwr = s.pwr := by
  unfold State.publishReply; (repeat' split) <;> first | rfl | (simp; done) | (dsimp only; (repeat' split) <;> first | rfl | (simp; done))
@[simp] theorem State.publishReply_rst (s : State) (t : Nat) : (s.publishReply t).rst = s.rst := by
  unfold State.publishReply; (repeat' split) <;> first | rfl | (simp; done) | (dsimp only; (repeat' split) <;> first | rfl | (simp; done))
@[simp] theorem State.publishReply_twn (s : State) (t : Nat) : (s.publishReply t).twn = s.twn := by
  unfold State.publishReply; (repeat' split) <;> first | rfl | (simp; done) | (dsimp only; (repeat' split) <;> first | rfl | (simp; done))
@[simp] theorem State.publishReply_sec (s : State) (t : Nat) : (s.publishReply t).sec = s.sec := by
  unfold State.publishReply; (repeat' split) <;> first | rfl | (simp; done) | (dsimp only; (repeat' split) <;> first | rfl | (simp; done))
@[simp] theorem State.publishReply_pins (s : State) (t : Nat) : (s.publishReply t).pins = s.pins := by
  unfold State.publishReply; (repeat' split) <;> first | rfl | (simp; done) | (dsimp only; (repeat' split) <;> first | rfl | (simp; done))
@[simp] theorem State.putReply_pending (s : State) (t : Nat) (rec : List Byte) : (s.putReply t rec).pending = s.pending := by
  unfold State.putReply; (repeat' split) <;> first | rfl | (simp; done) | (dsimp only; (repeat' split) <;> first | rfl | (simp; done))
@[simp] theorem State.putReply_free (s : State) (t : Nat) (rec : List Byte) : (s.putReply t rec).free = s.free := by
  unfold State.putReply; (repeat' split) <;> first | rfl | (simp; done) | (dsimp only; (repeat' split) <;> first | rfl | (simp; done))
@[simp] theorem State.putReply_holds (s : State) (t : Nat) (rec : List Byte) : (s.putReply t rec).holds = s.holds := by
  unfold State.putReply; (repeat' split) <;> first | rfl | (simp; done) | (dsimp only; (repeat' split) <;> first | rfl | (simp; done))
@[simp] theorem State.putReply_time (s : State) (t : Nat) (rec : List Byte) : (s.putReply t rec).time = s.time := by
  unfold State.putReply; (repeat' split) <;> first | rfl | (simp; done) | (dsimp only; (repeat' split) <;> first | rfl | (simp; done))
@[simp] theorem State.putReply_halt (s : State) (t : Nat) (rec : List Byte) : (s.putReply t rec).halt = s.halt := by
  unfold State.putReply; (repeat' split) <;> first | rfl | (simp; done) | (dsimp only; (repeat' split) <;> first | rfl | (simp; done))
@[simp] theorem State.putReply_mrc (s : State) (t : Nat) (rec : List Byte) : (s.putReply t rec).mrc = s.mrc := by
  unfold State.putReply; (repeat' split) <;> first | rfl | (simp; done) | (dsimp only; (repeat' split) <;> first | rfl | (simp; done))
@[simp] theorem State.putReply_alm (s : State) (t : Nat) (rec : List Byte) : (s.putReply t rec).alm = s.alm := by
  unfold State.putReply; (repeat' split) <;> first | rfl | (simp; done) | (dsimp only; (repeat' split) <;> first | rfl | (simp; done))
@[simp] theorem State.putReply_frames (s : State) (t : Nat) (rec : List Byte) : (s.putReply t rec).frames = s.frames := by
  unfold State.putReply; (repeat' split) <;> first | rfl | (simp; done) | (dsimp only; (repeat' split) <;> first | rfl | (simp; done))
@[simp] theorem State.putReply_areas (s : State) (t : Nat) (rec : List Byte) : (s.putReply t rec).areas = s.areas := by
  unfold State.putReply; (repeat' split) <;> first | rfl | (simp; done) | (dsimp only; (repeat' split) <;> first | rfl | (simp; done))
@[simp] theorem State.putReply_links (s : State) (t : Nat) (rec : List Byte) : (s.putReply t rec).links = s.links := by
  unfold State.putReply; (repeat' split) <;> first | rfl | (simp; done) | (dsimp only; (repeat' split) <;> first | rfl | (simp; done))
@[simp] theorem State.putReply_places (s : State) (t : Nat) (rec : List Byte) : (s.putReply t rec).places = s.places := by
  unfold State.putReply; (repeat' split) <;> first | rfl | (simp; done) | (dsimp only; (repeat' split) <;> first | rfl | (simp; done))
@[simp] theorem State.putReply_eps (s : State) (t : Nat) (rec : List Byte) : (s.putReply t rec).eps = s.eps := by
  unfold State.putReply; (repeat' split) <;> first | rfl | (simp; done) | (dsimp only; (repeat' split) <;> first | rfl | (simp; done))
@[simp] theorem State.putReply_txns (s : State) (t : Nat) (rec : List Byte) : (s.putReply t rec).txns = s.txns := by
  unfold State.putReply; (repeat' split) <;> first | rfl | (simp; done) | (dsimp only; (repeat' split) <;> first | rfl | (simp; done))
@[simp] theorem State.putReply_qps (s : State) (t : Nat) (rec : List Byte) : (s.putReply t rec).qps = s.qps := by
  unfold State.putReply; (repeat' split) <;> first | rfl | (simp; done) | (dsimp only; (repeat' split) <;> first | rfl | (simp; done))
@[simp] theorem State.putReply_dma (s : State) (t : Nat) (rec : List Byte) : (s.putReply t rec).dma = s.dma := by
  unfold State.putReply; (repeat' split) <;> first | rfl | (simp; done) | (dsimp only; (repeat' split) <;> first | rfl | (simp; done))
@[simp] theorem State.putReply_pools (s : State) (t : Nat) (rec : List Byte) : (s.putReply t rec).pools = s.pools := by
  unfold State.putReply; (repeat' split) <;> first | rfl | (simp; done) | (dsimp only; (repeat' split) <;> first | rfl | (simp; done))
@[simp] theorem State.putReply_led (s : State) (t : Nat) (rec : List Byte) : (s.putReply t rec).led = s.led := by
  unfold State.putReply; (repeat' split) <;> first | rfl | (simp; done) | (dsimp only; (repeat' split) <;> first | rfl | (simp; done))
@[simp] theorem State.putReply_cfg (s : State) (t : Nat) (rec : List Byte) : (s.putReply t rec).cfg = s.cfg := by
  unfold State.putReply; (repeat' split) <;> first | rfl | (simp; done) | (dsimp only; (repeat' split) <;> first | rfl | (simp; done))
@[simp] theorem State.putReply_cri (s : State) (t : Nat) (rec : List Byte) : (s.putReply t rec).cri = s.cri := by
  unfold State.putReply; (repeat' split) <;> first | rfl | (simp; done) | (dsimp only; (repeat' split) <;> first | rfl | (simp; done))
@[simp] theorem State.putReply_pwr (s : State) (t : Nat) (rec : List Byte) : (s.putReply t rec).pwr = s.pwr := by
  unfold State.putReply; (repeat' split) <;> first | rfl | (simp; done) | (dsimp only; (repeat' split) <;> first | rfl | (simp; done))
@[simp] theorem State.putReply_rst (s : State) (t : Nat) (rec : List Byte) : (s.putReply t rec).rst = s.rst := by
  unfold State.putReply; (repeat' split) <;> first | rfl | (simp; done) | (dsimp only; (repeat' split) <;> first | rfl | (simp; done))
@[simp] theorem State.putReply_twn (s : State) (t : Nat) (rec : List Byte) : (s.putReply t rec).twn = s.twn := by
  unfold State.putReply; (repeat' split) <;> first | rfl | (simp; done) | (dsimp only; (repeat' split) <;> first | rfl | (simp; done))
@[simp] theorem State.putReply_sec (s : State) (t : Nat) (rec : List Byte) : (s.putReply t rec).sec = s.sec := by
  unfold State.putReply; (repeat' split) <;> first | rfl | (simp; done) | (dsimp only; (repeat' split) <;> first | rfl | (simp; done))
@[simp] theorem State.putReply_pins (s : State) (t : Nat) (rec : List Byte) : (s.putReply t rec).pins = s.pins := by
  unfold State.putReply; (repeat' split) <;> first | rfl | (simp; done) | (dsimp only; (repeat' split) <;> first | rfl | (simp; done))
@[simp] theorem State.publishUp_pending (s : State) (t : Nat) : (s.publishUp t).pending = s.pending := by
  unfold State.publishUp; (repeat' split) <;> first | rfl | simp
@[simp] theorem State.publishUp_free (s : State) (t : Nat) : (s.publishUp t).free = s.free := by
  unfold State.publishUp; (repeat' split) <;> first | rfl | simp
@[simp] theorem State.publishUp_holds (s : State) (t : Nat) : (s.publishUp t).holds = s.holds := by
  unfold State.publishUp; (repeat' split) <;> first | rfl | simp
@[simp] theorem State.publishUp_time (s : State) (t : Nat) : (s.publishUp t).time = s.time := by
  unfold State.publishUp; (repeat' split) <;> first | rfl | simp
@[simp] theorem State.publishUp_halt (s : State) (t : Nat) : (s.publishUp t).halt = s.halt := by
  unfold State.publishUp; (repeat' split) <;> first | rfl | simp
@[simp] theorem State.publishUp_mrc (s : State) (t : Nat) : (s.publishUp t).mrc = s.mrc := by
  unfold State.publishUp; (repeat' split) <;> first | rfl | simp
@[simp] theorem State.publishUp_alm (s : State) (t : Nat) : (s.publishUp t).alm = s.alm := by
  unfold State.publishUp; (repeat' split) <;> first | rfl | simp
@[simp] theorem State.publishUp_frames (s : State) (t : Nat) : (s.publishUp t).frames = s.frames := by
  unfold State.publishUp; (repeat' split) <;> first | rfl | simp
@[simp] theorem State.publishUp_areas (s : State) (t : Nat) : (s.publishUp t).areas = s.areas := by
  unfold State.publishUp; (repeat' split) <;> first | rfl | simp
@[simp] theorem State.publishUp_links (s : State) (t : Nat) : (s.publishUp t).links = s.links := by
  unfold State.publishUp; (repeat' split) <;> first | rfl | simp
@[simp] theorem State.publishUp_places (s : State) (t : Nat) : (s.publishUp t).places = s.places := by
  unfold State.publishUp; (repeat' split) <;> first | rfl | simp
@[simp] theorem State.publishUp_eps (s : State) (t : Nat) : (s.publishUp t).eps = s.eps := by
  unfold State.publishUp; (repeat' split) <;> first | rfl | simp
@[simp] theorem State.publishUp_txns (s : State) (t : Nat) : (s.publishUp t).txns = s.txns := by
  unfold State.publishUp; (repeat' split) <;> first | rfl | simp
@[simp] theorem State.publishUp_qps (s : State) (t : Nat) : (s.publishUp t).qps = s.qps := by
  unfold State.publishUp; (repeat' split) <;> first | rfl | simp
@[simp] theorem State.publishUp_dma (s : State) (t : Nat) : (s.publishUp t).dma = s.dma := by
  unfold State.publishUp; (repeat' split) <;> first | rfl | simp
@[simp] theorem State.publishUp_pools (s : State) (t : Nat) : (s.publishUp t).pools = s.pools := by
  unfold State.publishUp; (repeat' split) <;> first | rfl | simp
@[simp] theorem State.publishUp_led (s : State) (t : Nat) : (s.publishUp t).led = s.led := by
  unfold State.publishUp; (repeat' split) <;> first | rfl | simp
@[simp] theorem State.publishUp_cfg (s : State) (t : Nat) : (s.publishUp t).cfg = s.cfg := by
  unfold State.publishUp; (repeat' split) <;> first | rfl | simp
@[simp] theorem State.publishUp_cri (s : State) (t : Nat) : (s.publishUp t).cri = s.cri := by
  unfold State.publishUp; (repeat' split) <;> first | rfl | simp
@[simp] theorem State.publishUp_pwr (s : State) (t : Nat) : (s.publishUp t).pwr = s.pwr := by
  unfold State.publishUp; (repeat' split) <;> first | rfl | simp
@[simp] theorem State.publishUp_rst (s : State) (t : Nat) : (s.publishUp t).rst = s.rst := by
  unfold State.publishUp; (repeat' split) <;> first | rfl | simp
@[simp] theorem State.publishUp_twn (s : State) (t : Nat) : (s.publishUp t).twn = s.twn := by
  unfold State.publishUp; (repeat' split) <;> first | rfl | simp
@[simp] theorem State.publishUp_sec (s : State) (t : Nat) : (s.publishUp t).sec = s.sec := by
  unfold State.publishUp; (repeat' split) <;> first | rfl | simp
@[simp] theorem State.publishUp_pins (s : State) (t : Nat) : (s.publishUp t).pins = s.pins := by
  unfold State.publishUp; (repeat' split) <;> first | rfl | simp
@[simp] theorem State.putEvents_pending (s : State) (t : Nat) (recs : List (List Byte)) : (s.putEvents t recs).pending = s.pending := by
  unfold State.putEvents; dsimp only; (repeat' split) <;> first | rfl | (simp; done) | (try simp); exact foldl_proj (fun x : State => x.pending) _ (by intros; (repeat' split) <;> simp) _ _
@[simp] theorem State.putEvents_free (s : State) (t : Nat) (recs : List (List Byte)) : (s.putEvents t recs).free = s.free := by
  unfold State.putEvents; dsimp only; (repeat' split) <;> first | rfl | (simp; done) | (try simp); exact foldl_proj (fun x : State => x.free) _ (by intros; (repeat' split) <;> simp) _ _
@[simp] theorem State.putEvents_holds (s : State) (t : Nat) (recs : List (List Byte)) : (s.putEvents t recs).holds = s.holds := by
  unfold State.putEvents; dsimp only; (repeat' split) <;> first | rfl | (simp; done) | (try simp); exact foldl_proj (fun x : State => x.holds) _ (by intros; (repeat' split) <;> simp) _ _
@[simp] theorem State.putEvents_time (s : State) (t : Nat) (recs : List (List Byte)) : (s.putEvents t recs).time = s.time := by
  unfold State.putEvents; dsimp only; (repeat' split) <;> first | rfl | (simp; done) | (try simp); exact foldl_proj (fun x : State => x.time) _ (by intros; (repeat' split) <;> simp) _ _
@[simp] theorem State.putEvents_halt (s : State) (t : Nat) (recs : List (List Byte)) : (s.putEvents t recs).halt = s.halt := by
  unfold State.putEvents; dsimp only; (repeat' split) <;> first | rfl | (simp; done) | (try simp); exact foldl_proj (fun x : State => x.halt) _ (by intros; (repeat' split) <;> simp) _ _
@[simp] theorem State.putEvents_mrc (s : State) (t : Nat) (recs : List (List Byte)) : (s.putEvents t recs).mrc = s.mrc := by
  unfold State.putEvents; dsimp only; (repeat' split) <;> first | rfl | (simp; done) | (try simp); exact foldl_proj (fun x : State => x.mrc) _ (by intros; (repeat' split) <;> simp) _ _
@[simp] theorem State.putEvents_alm (s : State) (t : Nat) (recs : List (List Byte)) : (s.putEvents t recs).alm = s.alm := by
  unfold State.putEvents; dsimp only; (repeat' split) <;> first | rfl | (simp; done) | (try simp); exact foldl_proj (fun x : State => x.alm) _ (by intros; (repeat' split) <;> simp) _ _
@[simp] theorem State.putEvents_frames (s : State) (t : Nat) (recs : List (List Byte)) : (s.putEvents t recs).frames = s.frames := by
  unfold State.putEvents; dsimp only; (repeat' split) <;> first | rfl | (simp; done) | (try simp); exact foldl_proj (fun x : State => x.frames) _ (by intros; (repeat' split) <;> simp) _ _
@[simp] theorem State.putEvents_areas (s : State) (t : Nat) (recs : List (List Byte)) : (s.putEvents t recs).areas = s.areas := by
  unfold State.putEvents; dsimp only; (repeat' split) <;> first | rfl | (simp; done) | (try simp); exact foldl_proj (fun x : State => x.areas) _ (by intros; (repeat' split) <;> simp) _ _
@[simp] theorem State.putEvents_links (s : State) (t : Nat) (recs : List (List Byte)) : (s.putEvents t recs).links = s.links := by
  unfold State.putEvents; dsimp only; (repeat' split) <;> first | rfl | (simp; done) | (try simp); exact foldl_proj (fun x : State => x.links) _ (by intros; (repeat' split) <;> simp) _ _
@[simp] theorem State.putEvents_places (s : State) (t : Nat) (recs : List (List Byte)) : (s.putEvents t recs).places = s.places := by
  unfold State.putEvents; dsimp only; (repeat' split) <;> first | rfl | (simp; done) | (try simp); exact foldl_proj (fun x : State => x.places) _ (by intros; (repeat' split) <;> simp) _ _
@[simp] theorem State.putEvents_eps (s : State) (t : Nat) (recs : List (List Byte)) : (s.putEvents t recs).eps = s.eps := by
  unfold State.putEvents; dsimp only; (repeat' split) <;> first | rfl | (simp; done) | (try simp); exact foldl_proj (fun x : State => x.eps) _ (by intros; (repeat' split) <;> simp) _ _
@[simp] theorem State.putEvents_txns (s : State) (t : Nat) (recs : List (List Byte)) : (s.putEvents t recs).txns = s.txns := by
  unfold State.putEvents; dsimp only; (repeat' split) <;> first | rfl | (simp; done) | (try simp); exact foldl_proj (fun x : State => x.txns) _ (by intros; (repeat' split) <;> simp) _ _
@[simp] theorem State.putEvents_qps (s : State) (t : Nat) (recs : List (List Byte)) : (s.putEvents t recs).qps = s.qps := by
  unfold State.putEvents; dsimp only; (repeat' split) <;> first | rfl | (simp; done) | (try simp); exact foldl_proj (fun x : State => x.qps) _ (by intros; (repeat' split) <;> simp) _ _
@[simp] theorem State.putEvents_dma (s : State) (t : Nat) (recs : List (List Byte)) : (s.putEvents t recs).dma = s.dma := by
  unfold State.putEvents; dsimp only; (repeat' split) <;> first | rfl | (simp; done) | (try simp); exact foldl_proj (fun x : State => x.dma) _ (by intros; (repeat' split) <;> simp) _ _
@[simp] theorem State.putEvents_pools (s : State) (t : Nat) (recs : List (List Byte)) : (s.putEvents t recs).pools = s.pools := by
  unfold State.putEvents; dsimp only; (repeat' split) <;> first | rfl | (simp; done) | (try simp); exact foldl_proj (fun x : State => x.pools) _ (by intros; (repeat' split) <;> simp) _ _
@[simp] theorem State.putEvents_led (s : State) (t : Nat) (recs : List (List Byte)) : (s.putEvents t recs).led = s.led := by
  unfold State.putEvents; dsimp only; (repeat' split) <;> first | rfl | (simp; done) | (try simp); exact foldl_proj (fun x : State => x.led) _ (by intros; (repeat' split) <;> simp) _ _
@[simp] theorem State.putEvents_cfg (s : State) (t : Nat) (recs : List (List Byte)) : (s.putEvents t recs).cfg = s.cfg := by
  unfold State.putEvents; dsimp only; (repeat' split) <;> first | rfl | (simp; done) | (try simp); exact foldl_proj (fun x : State => x.cfg) _ (by intros; (repeat' split) <;> simp) _ _
@[simp] theorem State.putEvents_cri (s : State) (t : Nat) (recs : List (List Byte)) : (s.putEvents t recs).cri = s.cri := by
  unfold State.putEvents; dsimp only; (repeat' split) <;> first | rfl | (simp; done) | (try simp); exact foldl_proj (fun x : State => x.cri) _ (by intros; (repeat' split) <;> simp) _ _
@[simp] theorem State.putEvents_pwr (s : State) (t : Nat) (recs : List (List Byte)) : (s.putEvents t recs).pwr = s.pwr := by
  unfold State.putEvents; dsimp only; (repeat' split) <;> first | rfl | (simp; done) | (try simp); exact foldl_proj (fun x : State => x.pwr) _ (by intros; (repeat' split) <;> simp) _ _
@[simp] theorem State.putEvents_rst (s : State) (t : Nat) (recs : List (List Byte)) : (s.putEvents t recs).rst = s.rst := by
  unfold State.putEvents; dsimp only; (repeat' split) <;> first | rfl | (simp; done) | (try simp); exact foldl_proj (fun x : State => x.rst) _ (by intros; (repeat' split) <;> simp) _ _
@[simp] theorem State.putEvents_twn (s : State) (t : Nat) (recs : List (List Byte)) : (s.putEvents t recs).twn = s.twn := by
  unfold State.putEvents; dsimp only; (repeat' split) <;> first | rfl | (simp; done) | (try simp); exact foldl_proj (fun x : State => x.twn) _ (by intros; (repeat' split) <;> simp) _ _
@[simp] theorem State.putEvents_sec (s : State) (t : Nat) (recs : List (List Byte)) : (s.putEvents t recs).sec = s.sec := by
  unfold State.putEvents; dsimp only; (repeat' split) <;> first | rfl | (simp; done) | (try simp); exact foldl_proj (fun x : State => x.sec) _ (by intros; (repeat' split) <;> simp) _ _
@[simp] theorem State.putEvents_pins (s : State) (t : Nat) (recs : List (List Byte)) : (s.putEvents t recs).pins = s.pins := by
  unfold State.putEvents; dsimp only; (repeat' split) <;> first | rfl | (simp; done) | (try simp); exact foldl_proj (fun x : State => x.pins) _ (by intros; (repeat' split) <;> simp) _ _
@[simp] theorem State.event_pending (s : State) (t : Nat) (recs : List (List Byte)) : (s.event t recs).pending = s.pending := by
  unfold State.event; (repeat' split) <;> first | rfl | (simp; done) | (dsimp only; (repeat' split) <;> first | rfl | (simp; done))
@[simp] theorem State.event_free (s : State) (t : Nat) (recs : List (List Byte)) : (s.event t recs).free = s.free := by
  unfold State.event; (repeat' split) <;> first | rfl | (simp; done) | (dsimp only; (repeat' split) <;> first | rfl | (simp; done))
@[simp] theorem State.event_holds (s : State) (t : Nat) (recs : List (List Byte)) : (s.event t recs).holds = s.holds := by
  unfold State.event; (repeat' split) <;> first | rfl | (simp; done) | (dsimp only; (repeat' split) <;> first | rfl | (simp; done))
@[simp] theorem State.event_time (s : State) (t : Nat) (recs : List (List Byte)) : (s.event t recs).time = s.time := by
  unfold State.event; (repeat' split) <;> first | rfl | (simp; done) | (dsimp only; (repeat' split) <;> first | rfl | (simp; done))
@[simp] theorem State.event_halt (s : State) (t : Nat) (recs : List (List Byte)) : (s.event t recs).halt = s.halt := by
  unfold State.event; (repeat' split) <;> first | rfl | (simp; done) | (dsimp only; (repeat' split) <;> first | rfl | (simp; done))
@[simp] theorem State.event_mrc (s : State) (t : Nat) (recs : List (List Byte)) : (s.event t recs).mrc = s.mrc := by
  unfold State.event; (repeat' split) <;> first | rfl | (simp; done) | (dsimp only; (repeat' split) <;> first | rfl | (simp; done))
@[simp] theorem State.event_alm (s : State) (t : Nat) (recs : List (List Byte)) : (s.event t recs).alm = s.alm := by
  unfold State.event; (repeat' split) <;> first | rfl | (simp; done) | (dsimp only; (repeat' split) <;> first | rfl | (simp; done))
@[simp] theorem State.event_frames (s : State) (t : Nat) (recs : List (List Byte)) : (s.event t recs).frames = s.frames := by
  unfold State.event; (repeat' split) <;> first | rfl | (simp; done) | (dsimp only; (repeat' split) <;> first | rfl | (simp; done))
@[simp] theorem State.event_areas (s : State) (t : Nat) (recs : List (List Byte)) : (s.event t recs).areas = s.areas := by
  unfold State.event; (repeat' split) <;> first | rfl | (simp; done) | (dsimp only; (repeat' split) <;> first | rfl | (simp; done))
@[simp] theorem State.event_links (s : State) (t : Nat) (recs : List (List Byte)) : (s.event t recs).links = s.links := by
  unfold State.event; (repeat' split) <;> first | rfl | (simp; done) | (dsimp only; (repeat' split) <;> first | rfl | (simp; done))
@[simp] theorem State.event_places (s : State) (t : Nat) (recs : List (List Byte)) : (s.event t recs).places = s.places := by
  unfold State.event; (repeat' split) <;> first | rfl | (simp; done) | (dsimp only; (repeat' split) <;> first | rfl | (simp; done))
@[simp] theorem State.event_eps (s : State) (t : Nat) (recs : List (List Byte)) : (s.event t recs).eps = s.eps := by
  unfold State.event; (repeat' split) <;> first | rfl | (simp; done) | (dsimp only; (repeat' split) <;> first | rfl | (simp; done))
@[simp] theorem State.event_txns (s : State) (t : Nat) (recs : List (List Byte)) : (s.event t recs).txns = s.txns := by
  unfold State.event; (repeat' split) <;> first | rfl | (simp; done) | (dsimp only; (repeat' split) <;> first | rfl | (simp; done))
@[simp] theorem State.event_qps (s : State) (t : Nat) (recs : List (List Byte)) : (s.event t recs).qps = s.qps := by
  unfold State.event; (repeat' split) <;> first | rfl | (simp; done) | (dsimp only; (repeat' split) <;> first | rfl | (simp; done))
@[simp] theorem State.event_dma (s : State) (t : Nat) (recs : List (List Byte)) : (s.event t recs).dma = s.dma := by
  unfold State.event; (repeat' split) <;> first | rfl | (simp; done) | (dsimp only; (repeat' split) <;> first | rfl | (simp; done))
@[simp] theorem State.event_pools (s : State) (t : Nat) (recs : List (List Byte)) : (s.event t recs).pools = s.pools := by
  unfold State.event; (repeat' split) <;> first | rfl | (simp; done) | (dsimp only; (repeat' split) <;> first | rfl | (simp; done))
@[simp] theorem State.event_led (s : State) (t : Nat) (recs : List (List Byte)) : (s.event t recs).led = s.led := by
  unfold State.event; (repeat' split) <;> first | rfl | (simp; done) | (dsimp only; (repeat' split) <;> first | rfl | (simp; done))
@[simp] theorem State.event_cfg (s : State) (t : Nat) (recs : List (List Byte)) : (s.event t recs).cfg = s.cfg := by
  unfold State.event; (repeat' split) <;> first | rfl | (simp; done) | (dsimp only; (repeat' split) <;> first | rfl | (simp; done))
@[simp] theorem State.event_cri (s : State) (t : Nat) (recs : List (List Byte)) : (s.event t recs).cri = s.cri := by
  unfold State.event; (repeat' split) <;> first | rfl | (simp; done) | (dsimp only; (repeat' split) <;> first | rfl | (simp; done))
@[simp] theorem State.event_pwr (s : State) (t : Nat) (recs : List (List Byte)) : (s.event t recs).pwr = s.pwr := by
  unfold State.event; (repeat' split) <;> first | rfl | (simp; done) | (dsimp only; (repeat' split) <;> first | rfl | (simp; done))
@[simp] theorem State.event_rst (s : State) (t : Nat) (recs : List (List Byte)) : (s.event t recs).rst = s.rst := by
  unfold State.event; (repeat' split) <;> first | rfl | (simp; done) | (dsimp only; (repeat' split) <;> first | rfl | (simp; done))
@[simp] theorem State.event_twn (s : State) (t : Nat) (recs : List (List Byte)) : (s.event t recs).twn = s.twn := by
  unfold State.event; (repeat' split) <;> first | rfl | (simp; done) | (dsimp only; (repeat' split) <;> first | rfl | (simp; done))
@[simp] theorem State.event_sec (s : State) (t : Nat) (recs : List (List Byte)) : (s.event t recs).sec = s.sec := by
  unfold State.event; (repeat' split) <;> first | rfl | (simp; done) | (dsimp only; (repeat' split) <;> first | rfl | (simp; done))
@[simp] theorem State.event_pins (s : State) (t : Nat) (recs : List (List Byte)) : (s.event t recs).pins = s.pins := by
  unfold State.event; (repeat' split) <;> first | rfl | (simp; done) | (dsimp only; (repeat' split) <;> first | rfl | (simp; done))
@[simp] theorem State.event1_pending (s : State) (t cls code d0 d1 d2 : Nat) : (s.event1 t cls code d0 d1 d2).pending = s.pending := by
  unfold State.event1; (repeat' split) <;> first | rfl | simp
@[simp] theorem State.event1_free (s : State) (t cls code d0 d1 d2 : Nat) : (s.event1 t cls code d0 d1 d2).free = s.free := by
  unfold State.event1; (repeat' split) <;> first | rfl | simp
@[simp] theorem State.event1_holds (s : State) (t cls code d0 d1 d2 : Nat) : (s.event1 t cls code d0 d1 d2).holds = s.holds := by
  unfold State.event1; (repeat' split) <;> first | rfl | simp
@[simp] theorem State.event1_time (s : State) (t cls code d0 d1 d2 : Nat) : (s.event1 t cls code d0 d1 d2).time = s.time := by
  unfold State.event1; (repeat' split) <;> first | rfl | simp
@[simp] theorem State.event1_halt (s : State) (t cls code d0 d1 d2 : Nat) : (s.event1 t cls code d0 d1 d2).halt = s.halt := by
  unfold State.event1; (repeat' split) <;> first | rfl | simp
@[simp] theorem State.event1_mrc (s : State) (t cls code d0 d1 d2 : Nat) : (s.event1 t cls code d0 d1 d2).mrc = s.mrc := by
  unfold State.event1; (repeat' split) <;> first | rfl | simp
@[simp] theorem State.event1_alm (s : State) (t cls code d0 d1 d2 : Nat) : (s.event1 t cls code d0 d1 d2).alm = s.alm := by
  unfold State.event1; (repeat' split) <;> first | rfl | simp
@[simp] theorem State.event1_frames (s : State) (t cls code d0 d1 d2 : Nat) : (s.event1 t cls code d0 d1 d2).frames = s.frames := by
  unfold State.event1; (repeat' split) <;> first | rfl | simp
@[simp] theorem State.event1_areas (s : State) (t cls code d0 d1 d2 : Nat) : (s.event1 t cls code d0 d1 d2).areas = s.areas := by
  unfold State.event1; (repeat' split) <;> first | rfl | simp
@[simp] theorem State.event1_links (s : State) (t cls code d0 d1 d2 : Nat) : (s.event1 t cls code d0 d1 d2).links = s.links := by
  unfold State.event1; (repeat' split) <;> first | rfl | simp
@[simp] theorem State.event1_places (s : State) (t cls code d0 d1 d2 : Nat) : (s.event1 t cls code d0 d1 d2).places = s.places := by
  unfold State.event1; (repeat' split) <;> first | rfl | simp
@[simp] theorem State.event1_eps (s : State) (t cls code d0 d1 d2 : Nat) : (s.event1 t cls code d0 d1 d2).eps = s.eps := by
  unfold State.event1; (repeat' split) <;> first | rfl | simp
@[simp] theorem State.event1_txns (s : State) (t cls code d0 d1 d2 : Nat) : (s.event1 t cls code d0 d1 d2).txns = s.txns := by
  unfold State.event1; (repeat' split) <;> first | rfl | simp
@[simp] theorem State.event1_qps (s : State) (t cls code d0 d1 d2 : Nat) : (s.event1 t cls code d0 d1 d2).qps = s.qps := by
  unfold State.event1; (repeat' split) <;> first | rfl | simp
@[simp] theorem State.event1_dma (s : State) (t cls code d0 d1 d2 : Nat) : (s.event1 t cls code d0 d1 d2).dma = s.dma := by
  unfold State.event1; (repeat' split) <;> first | rfl | simp
@[simp] theorem State.event1_pools (s : State) (t cls code d0 d1 d2 : Nat) : (s.event1 t cls code d0 d1 d2).pools = s.pools := by
  unfold State.event1; (repeat' split) <;> first | rfl | simp
@[simp] theorem State.event1_led (s : State) (t cls code d0 d1 d2 : Nat) : (s.event1 t cls code d0 d1 d2).led = s.led := by
  unfold State.event1; (repeat' split) <;> first | rfl | simp
@[simp] theorem State.event1_cfg (s : State) (t cls code d0 d1 d2 : Nat) : (s.event1 t cls code d0 d1 d2).cfg = s.cfg := by
  unfold State.event1; (repeat' split) <;> first | rfl | simp
@[simp] theorem State.event1_cri (s : State) (t cls code d0 d1 d2 : Nat) : (s.event1 t cls code d0 d1 d2).cri = s.cri := by
  unfold State.event1; (repeat' split) <;> first | rfl | simp
@[simp] theorem State.event1_pwr (s : State) (t cls code d0 d1 d2 : Nat) : (s.event1 t cls code d0 d1 d2).pwr = s.pwr := by
  unfold State.event1; (repeat' split) <;> first | rfl | simp
@[simp] theorem State.event1_rst (s : State) (t cls code d0 d1 d2 : Nat) : (s.event1 t cls code d0 d1 d2).rst = s.rst := by
  unfold State.event1; (repeat' split) <;> first | rfl | simp
@[simp] theorem State.event1_twn (s : State) (t cls code d0 d1 d2 : Nat) : (s.event1 t cls code d0 d1 d2).twn = s.twn := by
  unfold State.event1; (repeat' split) <;> first | rfl | simp
@[simp] theorem State.event1_sec (s : State) (t cls code d0 d1 d2 : Nat) : (s.event1 t cls code d0 d1 d2).sec = s.sec := by
  unfold State.event1; (repeat' split) <;> first | rfl | simp
@[simp] theorem State.event1_pins (s : State) (t cls code d0 d1 d2 : Nat) : (s.event1 t cls code d0 d1 d2).pins = s.pins := by
  unfold State.event1; (repeat' split) <;> first | rfl | simp
@[simp] theorem State.eventAll_pending (s : State) (cls code d0 d1 d2 : Nat) : (s.eventAll cls code d0 d1 d2).pending = s.pending := by
  unfold State.eventAll; exact foldl_proj (fun x : State => x.pending) _ (by intros; (repeat' split) <;> first | rfl | simp) _ _
@[simp] theorem State.eventAll_free (s : State) (cls code d0 d1 d2 : Nat) : (s.eventAll cls code d0 d1 d2).free = s.free := by
  unfold State.eventAll; exact foldl_proj (fun x : State => x.free) _ (by intros; (repeat' split) <;> first | rfl | simp) _ _
@[simp] theorem State.eventAll_holds (s : State) (cls code d0 d1 d2 : Nat) : (s.eventAll cls code d0 d1 d2).holds = s.holds := by
  unfold State.eventAll; exact foldl_proj (fun x : State => x.holds) _ (by intros; (repeat' split) <;> first | rfl | simp) _ _
@[simp] theorem State.eventAll_time (s : State) (cls code d0 d1 d2 : Nat) : (s.eventAll cls code d0 d1 d2).time = s.time := by
  unfold State.eventAll; exact foldl_proj (fun x : State => x.time) _ (by intros; (repeat' split) <;> first | rfl | simp) _ _
@[simp] theorem State.eventAll_halt (s : State) (cls code d0 d1 d2 : Nat) : (s.eventAll cls code d0 d1 d2).halt = s.halt := by
  unfold State.eventAll; exact foldl_proj (fun x : State => x.halt) _ (by intros; (repeat' split) <;> first | rfl | simp) _ _
@[simp] theorem State.eventAll_mrc (s : State) (cls code d0 d1 d2 : Nat) : (s.eventAll cls code d0 d1 d2).mrc = s.mrc := by
  unfold State.eventAll; exact foldl_proj (fun x : State => x.mrc) _ (by intros; (repeat' split) <;> first | rfl | simp) _ _
@[simp] theorem State.eventAll_alm (s : State) (cls code d0 d1 d2 : Nat) : (s.eventAll cls code d0 d1 d2).alm = s.alm := by
  unfold State.eventAll; exact foldl_proj (fun x : State => x.alm) _ (by intros; (repeat' split) <;> first | rfl | simp) _ _
@[simp] theorem State.eventAll_frames (s : State) (cls code d0 d1 d2 : Nat) : (s.eventAll cls code d0 d1 d2).frames = s.frames := by
  unfold State.eventAll; exact foldl_proj (fun x : State => x.frames) _ (by intros; (repeat' split) <;> first | rfl | simp) _ _
@[simp] theorem State.eventAll_areas (s : State) (cls code d0 d1 d2 : Nat) : (s.eventAll cls code d0 d1 d2).areas = s.areas := by
  unfold State.eventAll; exact foldl_proj (fun x : State => x.areas) _ (by intros; (repeat' split) <;> first | rfl | simp) _ _
@[simp] theorem State.eventAll_links (s : State) (cls code d0 d1 d2 : Nat) : (s.eventAll cls code d0 d1 d2).links = s.links := by
  unfold State.eventAll; exact foldl_proj (fun x : State => x.links) _ (by intros; (repeat' split) <;> first | rfl | simp) _ _
@[simp] theorem State.eventAll_places (s : State) (cls code d0 d1 d2 : Nat) : (s.eventAll cls code d0 d1 d2).places = s.places := by
  unfold State.eventAll; exact foldl_proj (fun x : State => x.places) _ (by intros; (repeat' split) <;> first | rfl | simp) _ _
@[simp] theorem State.eventAll_eps (s : State) (cls code d0 d1 d2 : Nat) : (s.eventAll cls code d0 d1 d2).eps = s.eps := by
  unfold State.eventAll; exact foldl_proj (fun x : State => x.eps) _ (by intros; (repeat' split) <;> first | rfl | simp) _ _
@[simp] theorem State.eventAll_txns (s : State) (cls code d0 d1 d2 : Nat) : (s.eventAll cls code d0 d1 d2).txns = s.txns := by
  unfold State.eventAll; exact foldl_proj (fun x : State => x.txns) _ (by intros; (repeat' split) <;> first | rfl | simp) _ _
@[simp] theorem State.eventAll_qps (s : State) (cls code d0 d1 d2 : Nat) : (s.eventAll cls code d0 d1 d2).qps = s.qps := by
  unfold State.eventAll; exact foldl_proj (fun x : State => x.qps) _ (by intros; (repeat' split) <;> first | rfl | simp) _ _
@[simp] theorem State.eventAll_dma (s : State) (cls code d0 d1 d2 : Nat) : (s.eventAll cls code d0 d1 d2).dma = s.dma := by
  unfold State.eventAll; exact foldl_proj (fun x : State => x.dma) _ (by intros; (repeat' split) <;> first | rfl | simp) _ _
@[simp] theorem State.eventAll_pools (s : State) (cls code d0 d1 d2 : Nat) : (s.eventAll cls code d0 d1 d2).pools = s.pools := by
  unfold State.eventAll; exact foldl_proj (fun x : State => x.pools) _ (by intros; (repeat' split) <;> first | rfl | simp) _ _
@[simp] theorem State.eventAll_led (s : State) (cls code d0 d1 d2 : Nat) : (s.eventAll cls code d0 d1 d2).led = s.led := by
  unfold State.eventAll; exact foldl_proj (fun x : State => x.led) _ (by intros; (repeat' split) <;> first | rfl | simp) _ _
@[simp] theorem State.eventAll_cfg (s : State) (cls code d0 d1 d2 : Nat) : (s.eventAll cls code d0 d1 d2).cfg = s.cfg := by
  unfold State.eventAll; exact foldl_proj (fun x : State => x.cfg) _ (by intros; (repeat' split) <;> first | rfl | simp) _ _
@[simp] theorem State.eventAll_cri (s : State) (cls code d0 d1 d2 : Nat) : (s.eventAll cls code d0 d1 d2).cri = s.cri := by
  unfold State.eventAll; exact foldl_proj (fun x : State => x.cri) _ (by intros; (repeat' split) <;> first | rfl | simp) _ _
@[simp] theorem State.eventAll_pwr (s : State) (cls code d0 d1 d2 : Nat) : (s.eventAll cls code d0 d1 d2).pwr = s.pwr := by
  unfold State.eventAll; exact foldl_proj (fun x : State => x.pwr) _ (by intros; (repeat' split) <;> first | rfl | simp) _ _
@[simp] theorem State.eventAll_rst (s : State) (cls code d0 d1 d2 : Nat) : (s.eventAll cls code d0 d1 d2).rst = s.rst := by
  unfold State.eventAll; exact foldl_proj (fun x : State => x.rst) _ (by intros; (repeat' split) <;> first | rfl | simp) _ _
@[simp] theorem State.eventAll_twn (s : State) (cls code d0 d1 d2 : Nat) : (s.eventAll cls code d0 d1 d2).twn = s.twn := by
  unfold State.eventAll; exact foldl_proj (fun x : State => x.twn) _ (by intros; (repeat' split) <;> first | rfl | simp) _ _
@[simp] theorem State.eventAll_sec (s : State) (cls code d0 d1 d2 : Nat) : (s.eventAll cls code d0 d1 d2).sec = s.sec := by
  unfold State.eventAll; exact foldl_proj (fun x : State => x.sec) _ (by intros; (repeat' split) <;> first | rfl | simp) _ _
@[simp] theorem State.eventAll_pins (s : State) (cls code d0 d1 d2 : Nat) : (s.eventAll cls code d0 d1 d2).pins = s.pins := by
  unfold State.eventAll; exact foldl_proj (fun x : State => x.pins) _ (by intros; (repeat' split) <;> first | rfl | simp) _ _
@[simp] theorem State.upTo_pending (s : State) (tick : DWord) : (s.upTo tick).pending = s.pending := by
  unfold State.upTo; (repeat' split) <;> first | rfl | simp
@[simp] theorem State.upTo_out (s : State) (tick : DWord) : (s.upTo tick).out = s.out := by
  unfold State.upTo; (repeat' split) <;> first | rfl | simp
@[simp] theorem State.upTo_free (s : State) (tick : DWord) : (s.upTo tick).free = s.free := by
  unfold State.upTo; (repeat' split) <;> first | rfl | simp
@[simp] theorem State.upTo_regs (s : State) (tick : DWord) : (s.upTo tick).regs = s.regs := by
  unfold State.upTo; (repeat' split) <;> first | rfl | simp
@[simp] theorem State.upTo_holds (s : State) (tick : DWord) : (s.upTo tick).holds = s.holds := by
  unfold State.upTo; (repeat' split) <;> first | rfl | simp
@[simp] theorem State.upTo_halt (s : State) (tick : DWord) : (s.upTo tick).halt = s.halt := by
  unfold State.upTo; (repeat' split) <;> first | rfl | simp
@[simp] theorem State.upTo_mrc (s : State) (tick : DWord) : (s.upTo tick).mrc = s.mrc := by
  unfold State.upTo; (repeat' split) <;> first | rfl | simp
@[simp] theorem State.upTo_alm (s : State) (tick : DWord) : (s.upTo tick).alm = s.alm := by
  unfold State.upTo; (repeat' split) <;> first | rfl | simp
@[simp] theorem State.upTo_frames (s : State) (tick : DWord) : (s.upTo tick).frames = s.frames := by
  unfold State.upTo; (repeat' split) <;> first | rfl | simp
@[simp] theorem State.upTo_areas (s : State) (tick : DWord) : (s.upTo tick).areas = s.areas := by
  unfold State.upTo; (repeat' split) <;> first | rfl | simp
@[simp] theorem State.upTo_links (s : State) (tick : DWord) : (s.upTo tick).links = s.links := by
  unfold State.upTo; (repeat' split) <;> first | rfl | simp
@[simp] theorem State.upTo_places (s : State) (tick : DWord) : (s.upTo tick).places = s.places := by
  unfold State.upTo; (repeat' split) <;> first | rfl | simp
@[simp] theorem State.upTo_eps (s : State) (tick : DWord) : (s.upTo tick).eps = s.eps := by
  unfold State.upTo; (repeat' split) <;> first | rfl | simp
@[simp] theorem State.upTo_txns (s : State) (tick : DWord) : (s.upTo tick).txns = s.txns := by
  unfold State.upTo; (repeat' split) <;> first | rfl | simp
@[simp] theorem State.upTo_qps (s : State) (tick : DWord) : (s.upTo tick).qps = s.qps := by
  unfold State.upTo; (repeat' split) <;> first | rfl | simp
@[simp] theorem State.upTo_dma (s : State) (tick : DWord) : (s.upTo tick).dma = s.dma := by
  unfold State.upTo; (repeat' split) <;> first | rfl | simp
@[simp] theorem State.upTo_pools (s : State) (tick : DWord) : (s.upTo tick).pools = s.pools := by
  unfold State.upTo; (repeat' split) <;> first | rfl | simp
@[simp] theorem State.upTo_cmds (s : State) (tick : DWord) : (s.upTo tick).cmds = s.cmds := by
  unfold State.upTo; (repeat' split) <;> first | rfl | simp
@[simp] theorem State.upTo_led (s : State) (tick : DWord) : (s.upTo tick).led = s.led := by
  unfold State.upTo; (repeat' split) <;> first | rfl | simp
@[simp] theorem State.upTo_cfg (s : State) (tick : DWord) : (s.upTo tick).cfg = s.cfg := by
  unfold State.upTo; (repeat' split) <;> first | rfl | simp
@[simp] theorem State.upTo_cri (s : State) (tick : DWord) : (s.upTo tick).cri = s.cri := by
  unfold State.upTo; (repeat' split) <;> first | rfl | simp
@[simp] theorem State.upTo_pcie (s : State) (tick : DWord) : (s.upTo tick).pcie = s.pcie := by
  unfold State.upTo; (repeat' split) <;> first | rfl | simp
@[simp] theorem State.upTo_pwr (s : State) (tick : DWord) : (s.upTo tick).pwr = s.pwr := by
  unfold State.upTo; (repeat' split) <;> first | rfl | simp
@[simp] theorem State.upTo_rst (s : State) (tick : DWord) : (s.upTo tick).rst = s.rst := by
  unfold State.upTo; (repeat' split) <;> first | rfl | simp
@[simp] theorem State.upTo_twn (s : State) (tick : DWord) : (s.upTo tick).twn = s.twn := by
  unfold State.upTo; (repeat' split) <;> first | rfl | simp
@[simp] theorem State.upTo_sec (s : State) (tick : DWord) : (s.upTo tick).sec = s.sec := by
  unfold State.upTo; (repeat' split) <;> first | rfl | simp
@[simp] theorem State.upTo_pins (s : State) (tick : DWord) : (s.upTo tick).pins = s.pins := by
  unfold State.upTo; (repeat' split) <;> first | rfl | simp
@[simp] theorem settle_pending (s : State) : (settle s).pending = s.pending := by
  unfold settle; exact foldl_proj (fun x : State => x.pending) _ (by intros; (repeat' split) <;> first | rfl | simp) _ _
@[simp] theorem settle_free (s : State) : (settle s).free = s.free := by
  unfold settle; exact foldl_proj (fun x : State => x.free) _ (by intros; (repeat' split) <;> first | rfl | simp) _ _
@[simp] theorem settle_regs (s : State) : (settle s).regs = s.regs := by
  unfold settle; exact foldl_proj (fun x : State => x.regs) _ (by intros; (repeat' split) <;> first | rfl | simp) _ _
@[simp] theorem settle_holds (s : State) : (settle s).holds = s.holds := by
  unfold settle; exact foldl_proj (fun x : State => x.holds) _ (by intros; (repeat' split) <;> first | rfl | simp) _ _
@[simp] theorem settle_time (s : State) : (settle s).time = s.time := by
  unfold settle; exact foldl_proj (fun x : State => x.time) _ (by intros; (repeat' split) <;> first | rfl | simp) _ _
@[simp] theorem settle_halt (s : State) : (settle s).halt = s.halt := by
  unfold settle; exact foldl_proj (fun x : State => x.halt) _ (by intros; (repeat' split) <;> first | rfl | simp) _ _
@[simp] theorem settle_mrc (s : State) : (settle s).mrc = s.mrc := by
  unfold settle; exact foldl_proj (fun x : State => x.mrc) _ (by intros; (repeat' split) <;> first | rfl | simp) _ _
@[simp] theorem settle_alm (s : State) : (settle s).alm = s.alm := by
  unfold settle; exact foldl_proj (fun x : State => x.alm) _ (by intros; (repeat' split) <;> first | rfl | simp) _ _
@[simp] theorem settle_frames (s : State) : (settle s).frames = s.frames := by
  unfold settle; exact foldl_proj (fun x : State => x.frames) _ (by intros; (repeat' split) <;> first | rfl | simp) _ _
@[simp] theorem settle_areas (s : State) : (settle s).areas = s.areas := by
  unfold settle; exact foldl_proj (fun x : State => x.areas) _ (by intros; (repeat' split) <;> first | rfl | simp) _ _
@[simp] theorem settle_links (s : State) : (settle s).links = s.links := by
  unfold settle; exact foldl_proj (fun x : State => x.links) _ (by intros; (repeat' split) <;> first | rfl | simp) _ _
@[simp] theorem settle_places (s : State) : (settle s).places = s.places := by
  unfold settle; exact foldl_proj (fun x : State => x.places) _ (by intros; (repeat' split) <;> first | rfl | simp) _ _
@[simp] theorem settle_eps (s : State) : (settle s).eps = s.eps := by
  unfold settle; exact foldl_proj (fun x : State => x.eps) _ (by intros; (repeat' split) <;> first | rfl | simp) _ _
@[simp] theorem settle_txns (s : State) : (settle s).txns = s.txns := by
  unfold settle; exact foldl_proj (fun x : State => x.txns) _ (by intros; (repeat' split) <;> first | rfl | simp) _ _
@[simp] theorem settle_dma (s : State) : (settle s).dma = s.dma := by
  unfold settle; exact foldl_proj (fun x : State => x.dma) _ (by intros; (repeat' split) <;> first | rfl | simp) _ _
@[simp] theorem settle_pools (s : State) : (settle s).pools = s.pools := by
  unfold settle; exact foldl_proj (fun x : State => x.pools) _ (by intros; (repeat' split) <;> first | rfl | simp) _ _
@[simp] theorem settle_cmds (s : State) : (settle s).cmds = s.cmds := by
  unfold settle; exact foldl_proj (fun x : State => x.cmds) _ (by intros; (repeat' split) <;> first | rfl | simp) _ _
@[simp] theorem settle_led (s : State) : (settle s).led = s.led := by
  unfold settle; exact foldl_proj (fun x : State => x.led) _ (by intros; (repeat' split) <;> first | rfl | simp) _ _
@[simp] theorem settle_cfg (s : State) : (settle s).cfg = s.cfg := by
  unfold settle; exact foldl_proj (fun x : State => x.cfg) _ (by intros; (repeat' split) <;> first | rfl | simp) _ _
@[simp] theorem settle_cri (s : State) : (settle s).cri = s.cri := by
  unfold settle; exact foldl_proj (fun x : State => x.cri) _ (by intros; (repeat' split) <;> first | rfl | simp) _ _
@[simp] theorem settle_pwr (s : State) : (settle s).pwr = s.pwr := by
  unfold settle; exact foldl_proj (fun x : State => x.pwr) _ (by intros; (repeat' split) <;> first | rfl | simp) _ _
@[simp] theorem settle_rst (s : State) : (settle s).rst = s.rst := by
  unfold settle; exact foldl_proj (fun x : State => x.rst) _ (by intros; (repeat' split) <;> first | rfl | simp) _ _
@[simp] theorem settle_twn (s : State) : (settle s).twn = s.twn := by
  unfold settle; exact foldl_proj (fun x : State => x.twn) _ (by intros; (repeat' split) <;> first | rfl | simp) _ _
@[simp] theorem settle_sec (s : State) : (settle s).sec = s.sec := by
  unfold settle; exact foldl_proj (fun x : State => x.sec) _ (by intros; (repeat' split) <;> first | rfl | simp) _ _
@[simp] theorem settle_pins (s : State) : (settle s).pins = s.pins := by
  unfold settle; exact foldl_proj (fun x : State => x.pins) _ (by intros; (repeat' split) <;> first | rfl | simp) _ _

end Sys2Proof.Machine
end

