-- ==== Sys2Proof/Laws/CommandFrames.lean ====
section
/-!
SUPPORT. What journalling, replies and turned-away accesses leave as it was.
-/
namespace Sys2Proof.Machine

@[simp] theorem State.twinPut_pending (s : State) (type flags : Nat) (seq : Word) (payload : List Byte) : (s.twinPut type flags seq payload).pending = s.pending := by
  unfold State.twinPut; (repeat' split) <;> first | rfl | simp
@[simp] theorem State.twinPut_free (s : State) (type flags : Nat) (seq : Word) (payload : List Byte) : (s.twinPut type flags seq payload).free = s.free := by
  unfold State.twinPut; (repeat' split) <;> first | rfl | simp
@[simp] theorem State.twinPut_regs (s : State) (type flags : Nat) (seq : Word) (payload : List Byte) : (s.twinPut type flags seq payload).regs = s.regs := by
  unfold State.twinPut; (repeat' split) <;> first | rfl | simp
@[simp] theorem State.twinPut_holds (s : State) (type flags : Nat) (seq : Word) (payload : List Byte) : (s.twinPut type flags seq payload).holds = s.holds := by
  unfold State.twinPut; (repeat' split) <;> first | rfl | simp
@[simp] theorem State.twinPut_time (s : State) (type flags : Nat) (seq : Word) (payload : List Byte) : (s.twinPut type flags seq payload).time = s.time := by
  unfold State.twinPut; (repeat' split) <;> first | rfl | simp
@[simp] theorem State.twinPut_halt (s : State) (type flags : Nat) (seq : Word) (payload : List Byte) : (s.twinPut type flags seq payload).halt = s.halt := by
  unfold State.twinPut; (repeat' split) <;> first | rfl | simp
@[simp] theorem State.twinPut_mrc (s : State) (type flags : Nat) (seq : Word) (payload : List Byte) : (s.twinPut type flags seq payload).mrc = s.mrc := by
  unfold State.twinPut; (repeat' split) <;> first | rfl | simp
@[simp] theorem State.twinPut_alm (s : State) (type flags : Nat) (seq : Word) (payload : List Byte) : (s.twinPut type flags seq payload).alm = s.alm := by
  unfold State.twinPut; (repeat' split) <;> first | rfl | simp
@[simp] theorem State.twinPut_frames (s : State) (type flags : Nat) (seq : Word) (payload : List Byte) : (s.twinPut type flags seq payload).frames = s.frames := by
  unfold State.twinPut; (repeat' split) <;> first | rfl | simp
@[simp] theorem State.twinPut_areas (s : State) (type flags : Nat) (seq : Word) (payload : List Byte) : (s.twinPut type flags seq payload).areas = s.areas := by
  unfold State.twinPut; (repeat' split) <;> first | rfl | simp
@[simp] theorem State.twinPut_links (s : State) (type flags : Nat) (seq : Word) (payload : List Byte) : (s.twinPut type flags seq payload).links = s.links := by
  unfold State.twinPut; (repeat' split) <;> first | rfl | simp
@[simp] theorem State.twinPut_places (s : State) (type flags : Nat) (seq : Word) (payload : List Byte) : (s.twinPut type flags seq payload).places = s.places := by
  unfold State.twinPut; (repeat' split) <;> first | rfl | simp
@[simp] theorem State.twinPut_eps (s : State) (type flags : Nat) (seq : Word) (payload : List Byte) : (s.twinPut type flags seq payload).eps = s.eps := by
  unfold State.twinPut; (repeat' split) <;> first | rfl | simp
@[simp] theorem State.twinPut_txns (s : State) (type flags : Nat) (seq : Word) (payload : List Byte) : (s.twinPut type flags seq payload).txns = s.txns := by
  unfold State.twinPut; (repeat' split) <;> first | rfl | simp
@[simp] theorem State.twinPut_qps (s : State) (type flags : Nat) (seq : Word) (payload : List Byte) : (s.twinPut type flags seq payload).qps = s.qps := by
  unfold State.twinPut; (repeat' split) <;> first | rfl | simp
@[simp] theorem State.twinPut_dma (s : State) (type flags : Nat) (seq : Word) (payload : List Byte) : (s.twinPut type flags seq payload).dma = s.dma := by
  unfold State.twinPut; (repeat' split) <;> first | rfl | simp
@[simp] theorem State.twinPut_pools (s : State) (type flags : Nat) (seq : Word) (payload : List Byte) : (s.twinPut type flags seq payload).pools = s.pools := by
  unfold State.twinPut; (repeat' split) <;> first | rfl | simp
@[simp] theorem State.twinPut_cmds (s : State) (type flags : Nat) (seq : Word) (payload : List Byte) : (s.twinPut type flags seq payload).cmds = s.cmds := by
  unfold State.twinPut; (repeat' split) <;> first | rfl | simp
@[simp] theorem State.twinPut_led (s : State) (type flags : Nat) (seq : Word) (payload : List Byte) : (s.twinPut type flags seq payload).led = s.led := by
  unfold State.twinPut; (repeat' split) <;> first | rfl | simp
@[simp] theorem State.twinPut_cfg (s : State) (type flags : Nat) (seq : Word) (payload : List Byte) : (s.twinPut type flags seq payload).cfg = s.cfg := by
  unfold State.twinPut; (repeat' split) <;> first | rfl | simp
@[simp] theorem State.twinPut_cri (s : State) (type flags : Nat) (seq : Word) (payload : List Byte) : (s.twinPut type flags seq payload).cri = s.cri := by
  unfold State.twinPut; (repeat' split) <;> first | rfl | simp
@[simp] theorem State.twinPut_pcie (s : State) (type flags : Nat) (seq : Word) (payload : List Byte) : (s.twinPut type flags seq payload).pcie = s.pcie := by
  unfold State.twinPut; (repeat' split) <;> first | rfl | simp
@[simp] theorem State.twinPut_pwr (s : State) (type flags : Nat) (seq : Word) (payload : List Byte) : (s.twinPut type flags seq payload).pwr = s.pwr := by
  unfold State.twinPut; (repeat' split) <;> first | rfl | simp
@[simp] theorem State.twinPut_rst (s : State) (type flags : Nat) (seq : Word) (payload : List Byte) : (s.twinPut type flags seq payload).rst = s.rst := by
  unfold State.twinPut; (repeat' split) <;> first | rfl | simp
@[simp] theorem State.twinPut_twn (s : State) (type flags : Nat) (seq : Word) (payload : List Byte) : (s.twinPut type flags seq payload).twn = s.twn := by
  unfold State.twinPut; (repeat' split) <;> first | rfl | simp
@[simp] theorem State.twinPut_sec (s : State) (type flags : Nat) (seq : Word) (payload : List Byte) : (s.twinPut type flags seq payload).sec = s.sec := by
  unfold State.twinPut; (repeat' split) <;> first | rfl | simp
@[simp] theorem State.twinPut_pins (s : State) (type flags : Nat) (seq : Word) (payload : List Byte) : (s.twinPut type flags seq payload).pins = s.pins := by
  unfold State.twinPut; (repeat' split) <;> first | rfl | simp
@[simp] theorem State.twinSend_pending (s : State) (type : Nat) (payload : List Byte) : (s.twinSend type payload).pending = s.pending := by
  unfold State.twinSend; (repeat' split) <;> first | rfl | simp
@[simp] theorem State.twinSend_free (s : State) (type : Nat) (payload : List Byte) : (s.twinSend type payload).free = s.free := by
  unfold State.twinSend; (repeat' split) <;> first | rfl | simp
@[simp] theorem State.twinSend_regs (s : State) (type : Nat) (payload : List Byte) : (s.twinSend type payload).regs = s.regs := by
  unfold State.twinSend; (repeat' split) <;> first | rfl | simp
@[simp] theorem State.twinSend_holds (s : State) (type : Nat) (payload : List Byte) : (s.twinSend type payload).holds = s.holds := by
  unfold State.twinSend; (repeat' split) <;> first | rfl | simp
@[simp] theorem State.twinSend_time (s : State) (type : Nat) (payload : List Byte) : (s.twinSend type payload).time = s.time := by
  unfold State.twinSend; (repeat' split) <;> first | rfl | simp
@[simp] theorem State.twinSend_halt (s : State) (type : Nat) (payload : List Byte) : (s.twinSend type payload).halt = s.halt := by
  unfold State.twinSend; (repeat' split) <;> first | rfl | simp
@[simp] theorem State.twinSend_mrc (s : State) (type : Nat) (payload : List Byte) : (s.twinSend type payload).mrc = s.mrc := by
  unfold State.twinSend; (repeat' split) <;> first | rfl | simp
@[simp] theorem State.twinSend_alm (s : State) (type : Nat) (payload : List Byte) : (s.twinSend type payload).alm = s.alm := by
  unfold State.twinSend; (repeat' split) <;> first | rfl | simp
@[simp] theorem State.twinSend_frames (s : State) (type : Nat) (payload : List Byte) : (s.twinSend type payload).frames = s.frames := by
  unfold State.twinSend; (repeat' split) <;> first | rfl | simp
@[simp] theorem State.twinSend_areas (s : State) (type : Nat) (payload : List Byte) : (s.twinSend type payload).areas = s.areas := by
  unfold State.twinSend; (repeat' split) <;> first | rfl | simp
@[simp] theorem State.twinSend_links (s : State) (type : Nat) (payload : List Byte) : (s.twinSend type payload).links = s.links := by
  unfold State.twinSend; (repeat' split) <;> first | rfl | simp
@[simp] theorem State.twinSend_places (s : State) (type : Nat) (payload : List Byte) : (s.twinSend type payload).places = s.places := by
  unfold State.twinSend; (repeat' split) <;> first | rfl | simp
@[simp] theorem State.twinSend_eps (s : State) (type : Nat) (payload : List Byte) : (s.twinSend type payload).eps = s.eps := by
  unfold State.twinSend; (repeat' split) <;> first | rfl | simp
@[simp] theorem State.twinSend_txns (s : State) (type : Nat) (payload : List Byte) : (s.twinSend type payload).txns = s.txns := by
  unfold State.twinSend; (repeat' split) <;> first | rfl | simp
@[simp] theorem State.twinSend_qps (s : State) (type : Nat) (payload : List Byte) : (s.twinSend type payload).qps = s.qps := by
  unfold State.twinSend; (repeat' split) <;> first | rfl | simp
@[simp] theorem State.twinSend_dma (s : State) (type : Nat) (payload : List Byte) : (s.twinSend type payload).dma = s.dma := by
  unfold State.twinSend; (repeat' split) <;> first | rfl | simp
@[simp] theorem State.twinSend_pools (s : State) (type : Nat) (payload : List Byte) : (s.twinSend type payload).pools = s.pools := by
  unfold State.twinSend; (repeat' split) <;> first | rfl | simp
@[simp] theorem State.twinSend_cmds (s : State) (type : Nat) (payload : List Byte) : (s.twinSend type payload).cmds = s.cmds := by
  unfold State.twinSend; (repeat' split) <;> first | rfl | simp
@[simp] theorem State.twinSend_led (s : State) (type : Nat) (payload : List Byte) : (s.twinSend type payload).led = s.led := by
  unfold State.twinSend; (repeat' split) <;> first | rfl | simp
@[simp] theorem State.twinSend_cfg (s : State) (type : Nat) (payload : List Byte) : (s.twinSend type payload).cfg = s.cfg := by
  unfold State.twinSend; (repeat' split) <;> first | rfl | simp
@[simp] theorem State.twinSend_cri (s : State) (type : Nat) (payload : List Byte) : (s.twinSend type payload).cri = s.cri := by
  unfold State.twinSend; (repeat' split) <;> first | rfl | simp
@[simp] theorem State.twinSend_pcie (s : State) (type : Nat) (payload : List Byte) : (s.twinSend type payload).pcie = s.pcie := by
  unfold State.twinSend; (repeat' split) <;> first | rfl | simp
@[simp] theorem State.twinSend_pwr (s : State) (type : Nat) (payload : List Byte) : (s.twinSend type payload).pwr = s.pwr := by
  unfold State.twinSend; (repeat' split) <;> first | rfl | simp
@[simp] theorem State.twinSend_rst (s : State) (type : Nat) (payload : List Byte) : (s.twinSend type payload).rst = s.rst := by
  unfold State.twinSend; (repeat' split) <;> first | rfl | simp
@[simp] theorem State.twinSend_sec (s : State) (type : Nat) (payload : List Byte) : (s.twinSend type payload).sec = s.sec := by
  unfold State.twinSend; (repeat' split) <;> first | rfl | simp
@[simp] theorem State.twinSend_pins (s : State) (type : Nat) (payload : List Byte) : (s.twinSend type payload).pins = s.pins := by
  unfold State.twinSend; (repeat' split) <;> first | rfl | simp
@[simp] theorem State.sendHello_pending (s : State) (rekey : Option Word) : (s.sendHello rekey).pending = s.pending := by
  unfold State.sendHello; (repeat' split) <;> first | rfl | simp
@[simp] theorem State.sendHello_regs (s : State) (rekey : Option Word) : (s.sendHello rekey).regs = s.regs := by
  unfold State.sendHello; (repeat' split) <;> first | rfl | simp
@[simp] theorem State.sendHello_holds (s : State) (rekey : Option Word) : (s.sendHello rekey).holds = s.holds := by
  unfold State.sendHello; (repeat' split) <;> first | rfl | simp
@[simp] theorem State.sendHello_time (s : State) (rekey : Option Word) : (s.sendHello rekey).time = s.time := by
  unfold State.sendHello; (repeat' split) <;> first | rfl | simp
@[simp] theorem State.sendHello_halt (s : State) (rekey : Option Word) : (s.sendHello rekey).halt = s.halt := by
  unfold State.sendHello; (repeat' split) <;> first | rfl | simp
@[simp] theorem State.sendHello_mrc (s : State) (rekey : Option Word) : (s.sendHello rekey).mrc = s.mrc := by
  unfold State.sendHello; (repeat' split) <;> first | rfl | simp
@[simp] theorem State.sendHello_alm (s : State) (rekey : Option Word) : (s.sendHello rekey).alm = s.alm := by
  unfold State.sendHello; (repeat' split) <;> first | rfl | simp
@[simp] theorem State.sendHello_frames (s : State) (rekey : Option Word) : (s.sendHello rekey).frames = s.frames := by
  unfold State.sendHello; (repeat' split) <;> first | rfl | simp
@[simp] theorem State.sendHello_areas (s : State) (rekey : Option Word) : (s.sendHello rekey).areas = s.areas := by
  unfold State.sendHello; (repeat' split) <;> first | rfl | simp
@[simp] theorem State.sendHello_links (s : State) (rekey : Option Word) : (s.sendHello rekey).links = s.links := by
  unfold State.sendHello; (repeat' split) <;> first | rfl | simp
@[simp] theorem State.sendHello_places (s : State) (rekey : Option Word) : (s.sendHello rekey).places = s.places := by
  unfold State.sendHello; (repeat' split) <;> first | rfl | simp
@[simp] theorem State.sendHello_eps (s : State) (rekey : Option Word) : (s.sendHello rekey).eps = s.eps := by
  unfold State.sendHello; (repeat' split) <;> first | rfl | simp
@[simp] theorem State.sendHello_txns (s : State) (rekey : Option Word) : (s.sendHello rekey).txns = s.txns := by
  unfold State.sendHello; (repeat' split) <;> first | rfl | simp
@[simp] theorem State.sendHello_qps (s : State) (rekey : Option Word) : (s.sendHello rekey).qps = s.qps := by
  unfold State.sendHello; (repeat' split) <;> first | rfl | simp
@[simp] theorem State.sendHello_dma (s : State) (rekey : Option Word) : (s.sendHello rekey).dma = s.dma := by
  unfold State.sendHello; (repeat' split) <;> first | rfl | simp
@[simp] theorem State.sendHello_pools (s : State) (rekey : Option Word) : (s.sendHello rekey).pools = s.pools := by
  unfold State.sendHello; (repeat' split) <;> first | rfl | simp
@[simp] theorem State.sendHello_cmds (s : State) (rekey : Option Word) : (s.sendHello rekey).cmds = s.cmds := by
  unfold State.sendHello; (repeat' split) <;> first | rfl | simp
@[simp] theorem State.sendHello_led (s : State) (rekey : Option Word) : (s.sendHello rekey).led = s.led := by
  unfold State.sendHello; (repeat' split) <;> first | rfl | simp
@[simp] theorem State.sendHello_cfg (s : State) (rekey : Option Word) : (s.sendHello rekey).cfg = s.cfg := by
  unfold State.sendHello; (repeat' split) <;> first | rfl | simp
@[simp] theorem State.sendHello_cri (s : State) (rekey : Option Word) : (s.sendHello rekey).cri = s.cri := by
  unfold State.sendHello; (repeat' split) <;> first | rfl | simp
@[simp] theorem State.sendHello_pcie (s : State) (rekey : Option Word) : (s.sendHello rekey).pcie = s.pcie := by
  unfold State.sendHello; (repeat' split) <;> first | rfl | simp
@[simp] theorem State.sendHello_pwr (s : State) (rekey : Option Word) : (s.sendHello rekey).pwr = s.pwr := by
  unfold State.sendHello; (repeat' split) <;> first | rfl | simp
@[simp] theorem State.sendHello_rst (s : State) (rekey : Option Word) : (s.sendHello rekey).rst = s.rst := by
  unfold State.sendHello; (repeat' split) <;> first | rfl | simp
@[simp] theorem State.sendHello_sec (s : State) (rekey : Option Word) : (s.sendHello rekey).sec = s.sec := by
  unfold State.sendHello; (repeat' split) <;> first | rfl | simp
@[simp] theorem State.sendHello_pins (s : State) (rekey : Option Word) : (s.sendHello rekey).pins = s.pins := by
  unfold State.sendHello; (repeat' split) <;> first | rfl | simp
@[simp] theorem State.twinEvent_pending (s : State) (code d0 d1 : Nat) : (s.twinEvent code d0 d1).pending = s.pending := by
  unfold State.twinEvent; (repeat' split) <;> first | rfl | simp
@[simp] theorem State.twinEvent_free (s : State) (code d0 d1 : Nat) : (s.twinEvent code d0 d1).free = s.free := by
  unfold State.twinEvent; (repeat' split) <;> first | rfl | simp
@[simp] theorem State.twinEvent_holds (s : State) (code d0 d1 : Nat) : (s.twinEvent code d0 d1).holds = s.holds := by
  unfold State.twinEvent; (repeat' split) <;> first | rfl | simp
@[simp] theorem State.twinEvent_time (s : State) (code d0 d1 : Nat) : (s.twinEvent code d0 d1).time = s.time := by
  unfold State.twinEvent; (repeat' split) <;> first | rfl | simp
@[simp] theorem State.twinEvent_halt (s : State) (code d0 d1 : Nat) : (s.twinEvent code d0 d1).halt = s.halt := by
  unfold State.twinEvent; (repeat' split) <;> first | rfl | simp
@[simp] theorem State.twinEvent_mrc (s : State) (code d0 d1 : Nat) : (s.twinEvent code d0 d1).mrc = s.mrc := by
  unfold State.twinEvent; (repeat' split) <;> first | rfl | simp
@[simp] theorem State.twinEvent_alm (s : State) (code d0 d1 : Nat) : (s.twinEvent code d0 d1).alm = s.alm := by
  unfold State.twinEvent; (repeat' split) <;> first | rfl | simp
@[simp] theorem State.twinEvent_frames (s : State) (code d0 d1 : Nat) : (s.twinEvent code d0 d1).frames = s.frames := by
  unfold State.twinEvent; (repeat' split) <;> first | rfl | simp
@[simp] theorem State.twinEvent_areas (s : State) (code d0 d1 : Nat) : (s.twinEvent code d0 d1).areas = s.areas := by
  unfold State.twinEvent; (repeat' split) <;> first | rfl | simp
@[simp] theorem State.twinEvent_links (s : State) (code d0 d1 : Nat) : (s.twinEvent code d0 d1).links = s.links := by
  unfold State.twinEvent; (repeat' split) <;> first | rfl | simp
@[simp] theorem State.twinEvent_places (s : State) (code d0 d1 : Nat) : (s.twinEvent code d0 d1).places = s.places := by
  unfold State.twinEvent; (repeat' split) <;> first | rfl | simp
@[simp] theorem State.twinEvent_eps (s : State) (code d0 d1 : Nat) : (s.twinEvent code d0 d1).eps = s.eps := by
  unfold State.twinEvent; (repeat' split) <;> first | rfl | simp
@[simp] theorem State.twinEvent_txns (s : State) (code d0 d1 : Nat) : (s.twinEvent code d0 d1).txns = s.txns := by
  unfold State.twinEvent; (repeat' split) <;> first | rfl | simp
@[simp] theorem State.twinEvent_qps (s : State) (code d0 d1 : Nat) : (s.twinEvent code d0 d1).qps = s.qps := by
  unfold State.twinEvent; (repeat' split) <;> first | rfl | simp
@[simp] theorem State.twinEvent_dma (s : State) (code d0 d1 : Nat) : (s.twinEvent code d0 d1).dma = s.dma := by
  unfold State.twinEvent; (repeat' split) <;> first | rfl | simp
@[simp] theorem State.twinEvent_pools (s : State) (code d0 d1 : Nat) : (s.twinEvent code d0 d1).pools = s.pools := by
  unfold State.twinEvent; (repeat' split) <;> first | rfl | simp
@[simp] theorem State.twinEvent_led (s : State) (code d0 d1 : Nat) : (s.twinEvent code d0 d1).led = s.led := by
  unfold State.twinEvent; (repeat' split) <;> first | rfl | simp
@[simp] theorem State.twinEvent_cfg (s : State) (code d0 d1 : Nat) : (s.twinEvent code d0 d1).cfg = s.cfg := by
  unfold State.twinEvent; (repeat' split) <;> first | rfl | simp
@[simp] theorem State.twinEvent_cri (s : State) (code d0 d1 : Nat) : (s.twinEvent code d0 d1).cri = s.cri := by
  unfold State.twinEvent; (repeat' split) <;> first | rfl | simp
@[simp] theorem State.twinEvent_pwr (s : State) (code d0 d1 : Nat) : (s.twinEvent code d0 d1).pwr = s.pwr := by
  unfold State.twinEvent; (repeat' split) <;> first | rfl | simp
@[simp] theorem State.twinEvent_rst (s : State) (code d0 d1 : Nat) : (s.twinEvent code d0 d1).rst = s.rst := by
  unfold State.twinEvent; (repeat' split) <;> first | rfl | simp
@[simp] theorem State.twinEvent_twn (s : State) (code d0 d1 : Nat) : (s.twinEvent code d0 d1).twn = s.twn := by
  unfold State.twinEvent; (repeat' split) <;> first | rfl | simp
@[simp] theorem State.twinEvent_sec (s : State) (code d0 d1 : Nat) : (s.twinEvent code d0 d1).sec = s.sec := by
  unfold State.twinEvent; (repeat' split) <;> first | rfl | simp
@[simp] theorem State.twinEvent_pins (s : State) (code d0 d1 : Nat) : (s.twinEvent code d0 d1).pins = s.pins := by
  unfold State.twinEvent; (repeat' split) <;> first | rfl | simp
@[simp] theorem State.setLag_pending (s : State) : (s.setLag).pending = s.pending := by
  unfold State.setLag; (repeat' split) <;> first | rfl | simp
@[simp] theorem State.setLag_out (s : State) : (s.setLag).out = s.out := by
  unfold State.setLag; (repeat' split) <;> first | rfl | simp
@[simp] theorem State.setLag_free (s : State) : (s.setLag).free = s.free := by
  unfold State.setLag; (repeat' split) <;> first | rfl | simp
@[simp] theorem State.setLag_holds (s : State) : (s.setLag).holds = s.holds := by
  unfold State.setLag; (repeat' split) <;> first | rfl | simp
@[simp] theorem State.setLag_time (s : State) : (s.setLag).time = s.time := by
  unfold State.setLag; (repeat' split) <;> first | rfl | simp
@[simp] theorem State.setLag_halt (s : State) : (s.setLag).halt = s.halt := by
  unfold State.setLag; (repeat' split) <;> first | rfl | simp
@[simp] theorem State.setLag_mrc (s : State) : (s.setLag).mrc = s.mrc := by
  unfold State.setLag; (repeat' split) <;> first | rfl | simp
@[simp] theorem State.setLag_alm (s : State) : (s.setLag).alm = s.alm := by
  unfold State.setLag; (repeat' split) <;> first | rfl | simp
@[simp] theorem State.setLag_frames (s : State) : (s.setLag).frames = s.frames := by
  unfold State.setLag; (repeat' split) <;> first | rfl | simp
@[simp] theorem State.setLag_areas (s : State) : (s.setLag).areas = s.areas := by
  unfold State.setLag; (repeat' split) <;> first | rfl | simp
@[simp] theorem State.setLag_links (s : State) : (s.setLag).links = s.links := by
  unfold State.setLag; (repeat' split) <;> first | rfl | simp
@[simp] theorem State.setLag_places (s : State) : (s.setLag).places = s.places := by
  unfold State.setLag; (repeat' split) <;> first | rfl | simp
@[simp] theorem State.setLag_eps (s : State) : (s.setLag).eps = s.eps := by
  unfold State.setLag; (repeat' split) <;> first | rfl | simp
@[simp] theorem State.setLag_txns (s : State) : (s.setLag).txns = s.txns := by
  unfold State.setLag; (repeat' split) <;> first | rfl | simp
@[simp] theorem State.setLag_qps (s : State) : (s.setLag).qps = s.qps := by
  unfold State.setLag; (repeat' split) <;> first | rfl | simp
@[simp] theorem State.setLag_dma (s : State) : (s.setLag).dma = s.dma := by
  unfold State.setLag; (repeat' split) <;> first | rfl | simp
@[simp] theorem State.setLag_pools (s : State) : (s.setLag).pools = s.pools := by
  unfold State.setLag; (repeat' split) <;> first | rfl | simp
@[simp] theorem State.setLag_cmds (s : State) : (s.setLag).cmds = s.cmds := by
  unfold State.setLag; (repeat' split) <;> first | rfl | simp
@[simp] theorem State.setLag_led (s : State) : (s.setLag).led = s.led := by
  unfold State.setLag; (repeat' split) <;> first | rfl | simp
@[simp] theorem State.setLag_cfg (s : State) : (s.setLag).cfg = s.cfg := by
  unfold State.setLag; (repeat' split) <;> first | rfl | simp
@[simp] theorem State.setLag_cri (s : State) : (s.setLag).cri = s.cri := by
  unfold State.setLag; (repeat' split) <;> first | rfl | simp
@[simp] theorem State.setLag_pcie (s : State) : (s.setLag).pcie = s.pcie := by
  unfold State.setLag; (repeat' split) <;> first | rfl | simp
@[simp] theorem State.setLag_pwr (s : State) : (s.setLag).pwr = s.pwr := by
  unfold State.setLag; (repeat' split) <;> first | rfl | simp
@[simp] theorem State.setLag_rst (s : State) : (s.setLag).rst = s.rst := by
  unfold State.setLag; (repeat' split) <;> first | rfl | simp
@[simp] theorem State.setLag_twn (s : State) : (s.setLag).twn = s.twn := by
  unfold State.setLag; (repeat' split) <;> first | rfl | simp
@[simp] theorem State.setLag_sec (s : State) : (s.setLag).sec = s.sec := by
  unfold State.setLag; (repeat' split) <;> first | rfl | simp
@[simp] theorem State.setLag_pins (s : State) : (s.setLag).pins = s.pins := by
  unfold State.setLag; (repeat' split) <;> first | rfl | simp
@[simp] theorem State.ledRegs_pending (s : State) : (s.ledRegs).pending = s.pending := by
  unfold State.ledRegs; (repeat' split) <;> first | rfl | simp
@[simp] theorem State.ledRegs_out (s : State) : (s.ledRegs).out = s.out := by
  unfold State.ledRegs; (repeat' split) <;> first | rfl | simp
@[simp] theorem State.ledRegs_free (s : State) : (s.ledRegs).free = s.free := by
  unfold State.ledRegs; (repeat' split) <;> first | rfl | simp
@[simp] theorem State.ledRegs_holds (s : State) : (s.ledRegs).holds = s.holds := by
  unfold State.ledRegs; (repeat' split) <;> first | rfl | simp
@[simp] theorem State.ledRegs_time (s : State) : (s.ledRegs).time = s.time := by
  unfold State.ledRegs; (repeat' split) <;> first | rfl | simp
@[simp] theorem State.ledRegs_halt (s : State) : (s.ledRegs).halt = s.halt := by
  unfold State.ledRegs; (repeat' split) <;> first | rfl | simp
@[simp] theorem State.ledRegs_mrc (s : State) : (s.ledRegs).mrc = s.mrc := by
  unfold State.ledRegs; (repeat' split) <;> first | rfl | simp
@[simp] theorem State.ledRegs_alm (s : State) : (s.ledRegs).alm = s.alm := by
  unfold State.ledRegs; (repeat' split) <;> first | rfl | simp
@[simp] theorem State.ledRegs_frames (s : State) : (s.ledRegs).frames = s.frames := by
  unfold State.ledRegs; (repeat' split) <;> first | rfl | simp
@[simp] theorem State.ledRegs_areas (s : State) : (s.ledRegs).areas = s.areas := by
  unfold State.ledRegs; (repeat' split) <;> first | rfl | simp
@[simp] theorem State.ledRegs_links (s : State) : (s.ledRegs).links = s.links := by
  unfold State.ledRegs; (repeat' split) <;> first | rfl | simp
@[simp] theorem State.ledRegs_places (s : State) : (s.ledRegs).places = s.places := by
  unfold State.ledRegs; (repeat' split) <;> first | rfl | simp
@[simp] theorem State.ledRegs_eps (s : State) : (s.ledRegs).eps = s.eps := by
  unfold State.ledRegs; (repeat' split) <;> first | rfl | simp
@[simp] theorem State.ledRegs_txns (s : State) : (s.ledRegs).txns = s.txns := by
  unfold State.ledRegs; (repeat' split) <;> first | rfl | simp
@[simp] theorem State.ledRegs_qps (s : State) : (s.ledRegs).qps = s.qps := by
  unfold State.ledRegs; (repeat' split) <;> first | rfl | simp
@[simp] theorem State.ledRegs_dma (s : State) : (s.ledRegs).dma = s.dma := by
  unfold State.ledRegs; (repeat' split) <;> first | rfl | simp
@[simp] theorem State.ledRegs_pools (s : State) : (s.ledRegs).pools = s.pools := by
  unfold State.ledRegs; (repeat' split) <;> first | rfl | simp
@[simp] theorem State.ledRegs_cmds (s : State) : (s.ledRegs).cmds = s.cmds := by
  unfold State.ledRegs; (repeat' split) <;> first | rfl | simp
@[simp] theorem State.ledRegs_led (s : State) : (s.ledRegs).led = s.led := by
  unfold State.ledRegs; (repeat' split) <;> first | rfl | simp
@[simp] theorem State.ledRegs_cfg (s : State) : (s.ledRegs).cfg = s.cfg := by
  unfold State.ledRegs; (repeat' split) <;> first | rfl | simp
@[simp] theorem State.ledRegs_cri (s : State) : (s.ledRegs).cri = s.cri := by
  unfold State.ledRegs; (repeat' split) <;> first | rfl | simp
@[simp] theorem State.ledRegs_pcie (s : State) : (s.ledRegs).pcie = s.pcie := by
  unfold State.ledRegs; (repeat' split) <;> first | rfl | simp
@[simp] theorem State.ledRegs_pwr (s : State) : (s.ledRegs).pwr = s.pwr := by
  unfold State.ledRegs; (repeat' split) <;> first | rfl | simp
@[simp] theorem State.ledRegs_rst (s : State) : (s.ledRegs).rst = s.rst := by
  unfold State.ledRegs; (repeat' split) <;> first | rfl | simp
@[simp] theorem State.ledRegs_twn (s : State) : (s.ledRegs).twn = s.twn := by
  unfold State.ledRegs; (repeat' split) <;> first | rfl | simp
@[simp] theorem State.ledRegs_sec (s : State) : (s.ledRegs).sec = s.sec := by
  unfold State.ledRegs; (repeat' split) <;> first | rfl | simp
@[simp] theorem State.ledRegs_pins (s : State) : (s.ledRegs).pins = s.pins := by
  unfold State.ledRegs; (repeat' split) <;> first | rfl | simp
@[simp] theorem State.ledStore_pending (s : State) (e : LedEntry) : (s.ledStore e).pending = s.pending := by
  unfold State.ledStore; (repeat' split) <;> first | rfl | simp
@[simp] theorem State.ledStore_out (s : State) (e : LedEntry) : (s.ledStore e).out = s.out := by
  unfold State.ledStore; (repeat' split) <;> first | rfl | simp
@[simp] theorem State.ledStore_free (s : State) (e : LedEntry) : (s.ledStore e).free = s.free := by
  unfold State.ledStore; (repeat' split) <;> first | rfl | simp
@[simp] theorem State.ledStore_holds (s : State) (e : LedEntry) : (s.ledStore e).holds = s.holds := by
  unfold State.ledStore; (repeat' split) <;> first | rfl | simp
@[simp] theorem State.ledStore_time (s : State) (e : LedEntry) : (s.ledStore e).time = s.time := by
  unfold State.ledStore; (repeat' split) <;> first | rfl | simp
@[simp] theorem State.ledStore_halt (s : State) (e : LedEntry) : (s.ledStore e).halt = s.halt := by
  unfold State.ledStore; (repeat' split) <;> first | rfl | simp
@[simp] theorem State.ledStore_mrc (s : State) (e : LedEntry) : (s.ledStore e).mrc = s.mrc := by
  unfold State.ledStore; (repeat' split) <;> first | rfl | simp
@[simp] theorem State.ledStore_alm (s : State) (e : LedEntry) : (s.ledStore e).alm = s.alm := by
  unfold State.ledStore; (repeat' split) <;> first | rfl | simp
@[simp] theorem State.ledStore_frames (s : State) (e : LedEntry) : (s.ledStore e).frames = s.frames := by
  unfold State.ledStore; (repeat' split) <;> first | rfl | simp
@[simp] theorem State.ledStore_areas (s : State) (e : LedEntry) : (s.ledStore e).areas = s.areas := by
  unfold State.ledStore; (repeat' split) <;> first | rfl | simp
@[simp] theorem State.ledStore_links (s : State) (e : LedEntry) : (s.ledStore e).links = s.links := by
  unfold State.ledStore; (repeat' split) <;> first | rfl | simp
@[simp] theorem State.ledStore_places (s : State) (e : LedEntry) : (s.ledStore e).places = s.places := by
  unfold State.ledStore; (repeat' split) <;> first | rfl | simp
@[simp] theorem State.ledStore_eps (s : State) (e : LedEntry) : (s.ledStore e).eps = s.eps := by
  unfold State.ledStore; (repeat' split) <;> first | rfl | simp
@[simp] theorem State.ledStore_txns (s : State) (e : LedEntry) : (s.ledStore e).txns = s.txns := by
  unfold State.ledStore; (repeat' split) <;> first | rfl | simp
@[simp] theorem State.ledStore_qps (s : State) (e : LedEntry) : (s.ledStore e).qps = s.qps := by
  unfold State.ledStore; (repeat' split) <;> first | rfl | simp
@[simp] theorem State.ledStore_dma (s : State) (e : LedEntry) : (s.ledStore e).dma = s.dma := by
  unfold State.ledStore; (repeat' split) <;> first | rfl | simp
@[simp] theorem State.ledStore_pools (s : State) (e : LedEntry) : (s.ledStore e).pools = s.pools := by
  unfold State.ledStore; (repeat' split) <;> first | rfl | simp
@[simp] theorem State.ledStore_cmds (s : State) (e : LedEntry) : (s.ledStore e).cmds = s.cmds := by
  unfold State.ledStore; (repeat' split) <;> first | rfl | simp
@[simp] theorem State.ledStore_cfg (s : State) (e : LedEntry) : (s.ledStore e).cfg = s.cfg := by
  unfold State.ledStore; (repeat' split) <;> first | rfl | simp
@[simp] theorem State.ledStore_cri (s : State) (e : LedEntry) : (s.ledStore e).cri = s.cri := by
  unfold State.ledStore; (repeat' split) <;> first | rfl | simp
@[simp] theorem State.ledStore_pcie (s : State) (e : LedEntry) : (s.ledStore e).pcie = s.pcie := by
  unfold State.ledStore; (repeat' split) <;> first | rfl | simp
@[simp] theorem State.ledStore_pwr (s : State) (e : LedEntry) : (s.ledStore e).pwr = s.pwr := by
  unfold State.ledStore; (repeat' split) <;> first | rfl | simp
@[simp] theorem State.ledStore_rst (s : State) (e : LedEntry) : (s.ledStore e).rst = s.rst := by
  unfold State.ledStore; (repeat' split) <;> first | rfl | simp
@[simp] theorem State.ledStore_twn (s : State) (e : LedEntry) : (s.ledStore e).twn = s.twn := by
  unfold State.ledStore; (repeat' split) <;> first | rfl | simp
@[simp] theorem State.ledStore_sec (s : State) (e : LedEntry) : (s.ledStore e).sec = s.sec := by
  unfold State.ledStore; (repeat' split) <;> first | rfl | simp
@[simp] theorem State.ledStore_pins (s : State) (e : LedEntry) : (s.ledStore e).pins = s.pins := by
  unfold State.ledStore; (repeat' split) <;> first | rfl | simp
@[simp] theorem State.journal_pending (s : State) (e : LedEntry) (params : List Byte) : (s.journal e params).pending = s.pending := by
  unfold State.journal; (repeat' split) <;> first | rfl | (simp; done) | (dsimp only; (repeat' split) <;> first | rfl | (simp; done))
@[simp] theorem State.journal_free (s : State) (e : LedEntry) (params : List Byte) : (s.journal e params).free = s.free := by
  unfold State.journal; (repeat' split) <;> first | rfl | (simp; done) | (dsimp only; (repeat' split) <;> first | rfl | (simp; done))
@[simp] theorem State.journal_holds (s : State) (e : LedEntry) (params : List Byte) : (s.journal e params).holds = s.holds := by
  unfold State.journal; (repeat' split) <;> first | rfl | (simp; done) | (dsimp only; (repeat' split) <;> first | rfl | (simp; done))
@[simp] theorem State.journal_halt (s : State) (e : LedEntry) (params : List Byte) : (s.journal e params).halt = s.halt := by
  unfold State.journal; (repeat' split) <;> first | rfl | (simp; done) | (dsimp only; (repeat' split) <;> first | rfl | (simp; done))
@[simp] theorem State.journal_mrc (s : State) (e : LedEntry) (params : List Byte) : (s.journal e params).mrc = s.mrc := by
  unfold State.journal; (repeat' split) <;> first | rfl | (simp; done) | (dsimp only; (repeat' split) <;> first | rfl | (simp; done))
@[simp] theorem State.journal_alm (s : State) (e : LedEntry) (params : List Byte) : (s.journal e params).alm = s.alm := by
  unfold State.journal; (repeat' split) <;> first | rfl | (simp; done) | (dsimp only; (repeat' split) <;> first | rfl | (simp; done))
@[simp] theorem State.journal_frames (s : State) (e : LedEntry) (params : List Byte) : (s.journal e params).frames = s.frames := by
  unfold State.journal; (repeat' split) <;> first | rfl | (simp; done) | (dsimp only; (repeat' split) <;> first | rfl | (simp; done))
@[simp] theorem State.journal_areas (s : State) (e : LedEntry) (params : List Byte) : (s.journal e params).areas = s.areas := by
  unfold State.journal; (repeat' split) <;> first | rfl | (simp; done) | (dsimp only; (repeat' split) <;> first | rfl | (simp; done))
@[simp] theorem State.journal_links (s : State) (e : LedEntry) (params : List Byte) : (s.journal e params).links = s.links := by
  unfold State.journal; (repeat' split) <;> first | rfl | (simp; done) | (dsimp only; (repeat' split) <;> first | rfl | (simp; done))
@[simp] theorem State.journal_places (s : State) (e : LedEntry) (params : List Byte) : (s.journal e params).places = s.places := by
  unfold State.journal; (repeat' split) <;> first | rfl | (simp; done) | (dsimp only; (repeat' split) <;> first | rfl | (simp; done))
@[simp] theorem State.journal_eps (s : State) (e : LedEntry) (params : List Byte) : (s.journal e params).eps = s.eps := by
  unfold State.journal; (repeat' split) <;> first | rfl | (simp; done) | (dsimp only; (repeat' split) <;> first | rfl | (simp; done))
@[simp] theorem State.journal_txns (s : State) (e : LedEntry) (params : List Byte) : (s.journal e params).txns = s.txns := by
  unfold State.journal; (repeat' split) <;> first | rfl | (simp; done) | (dsimp only; (repeat' split) <;> first | rfl | (simp; done))
@[simp] theorem State.journal_qps (s : State) (e : LedEntry) (params : List Byte) : (s.journal e params).qps = s.qps := by
  unfold State.journal; (repeat' split) <;> first | rfl | (simp; done) | (dsimp only; (repeat' split) <;> first | rfl | (simp; done))
@[simp] theorem State.journal_dma (s : State) (e : LedEntry) (params : List Byte) : (s.journal e params).dma = s.dma := by
  unfold State.journal; (repeat' split) <;> first | rfl | (simp; done) | (dsimp only; (repeat' split) <;> first | rfl | (simp; done))
@[simp] theorem State.journal_pools (s : State) (e : LedEntry) (params : List Byte) : (s.journal e params).pools = s.pools := by
  unfold State.journal; (repeat' split) <;> first | rfl | (simp; done) | (dsimp only; (repeat' split) <;> first | rfl | (simp; done))
@[simp] theorem State.journal_cmds (s : State) (e : LedEntry) (params : List Byte) : (s.journal e params).cmds = s.cmds := by
  unfold State.journal; (repeat' split) <;> first | rfl | (simp; done) | (dsimp only; (repeat' split) <;> first | rfl | (simp; done))
@[simp] theorem State.journal_cfg (s : State) (e : LedEntry) (params : List Byte) : (s.journal e params).cfg = s.cfg := by
  unfold State.journal; (repeat' split) <;> first | rfl | (simp; done) | (dsimp only; (repeat' split) <;> first | rfl | (simp; done))
@[simp] theorem State.journal_cri (s : State) (e : LedEntry) (params : List Byte) : (s.journal e params).cri = s.cri := by
  unfold State.journal; (repeat' split) <;> first | rfl | (simp; done) | (dsimp only; (repeat' split) <;> first | rfl | (simp; done))
@[simp] theorem State.journal_pcie (s : State) (e : LedEntry) (params : List Byte) : (s.journal e params).pcie = s.pcie := by
  unfold State.journal; (repeat' split) <;> first | rfl | (simp; done) | (dsimp only; (repeat' split) <;> first | rfl | (simp; done))
@[simp] theorem State.journal_pwr (s : State) (e : LedEntry) (params : List Byte) : (s.journal e params).pwr = s.pwr := by
  unfold State.journal; (repeat' split) <;> first | rfl | (simp; done) | (dsimp only; (repeat' split) <;> first | rfl | (simp; done))
@[simp] theorem State.journal_rst (s : State) (e : LedEntry) (params : List Byte) : (s.journal e params).rst = s.rst := by
  unfold State.journal; (repeat' split) <;> first | rfl | (simp; done) | (dsimp only; (repeat' split) <;> first | rfl | (simp; done))
@[simp] theorem State.journal_sec (s : State) (e : LedEntry) (params : List Byte) : (s.journal e params).sec = s.sec := by
  unfold State.journal; (repeat' split) <;> first | rfl | (simp; done) | (dsimp only; (repeat' split) <;> first | rfl | (simp; done))
@[simp] theorem State.journal_pins (s : State) (e : LedEntry) (params : List Byte) : (s.journal e params).pins = s.pins := by
  unfold State.journal; (repeat' split) <;> first | rfl | (simp; done) | (dsimp only; (repeat' split) <;> first | rfl | (simp; done))
@[simp] theorem State.journalInternal_pending (s : State) (op : Half) (result : DWord) : (s.journalInternal op result).pending = s.pending := by
  unfold State.journalInternal; (repeat' split) <;> first | rfl | simp
@[simp] theorem State.journalInternal_free (s : State) (op : Half) (result : DWord) : (s.journalInternal op result).free = s.free := by
  unfold State.journalInternal; (repeat' split) <;> first | rfl | simp
@[simp] theorem State.journalInternal_holds (s : State) (op : Half) (result : DWord) : (s.journalInternal op result).holds = s.holds := by
  unfold State.journalInternal; (repeat' split) <;> first | rfl | simp
@[simp] theorem State.journalInternal_halt (s : State) (op : Half) (result : DWord) : (s.journalInternal op result).halt = s.halt := by
  unfold State.journalInternal; (repeat' split) <;> first | rfl | simp
@[simp] theorem State.journalInternal_mrc (s : State) (op : Half) (result : DWord) : (s.journalInternal op result).mrc = s.mrc := by
  unfold State.journalInternal; (repeat' split) <;> first | rfl | simp
@[simp] theorem State.journalInternal_alm (s : State) (op : Half) (result : DWord) : (s.journalInternal op result).alm = s.alm := by
  unfold State.journalInternal; (repeat' split) <;> first | rfl | simp
@[simp] theorem State.journalInternal_frames (s : State) (op : Half) (result : DWord) : (s.journalInternal op result).frames = s.frames := by
  unfold State.journalInternal; (repeat' split) <;> first | rfl | simp
@[simp] theorem State.journalInternal_areas (s : State) (op : Half) (result : DWord) : (s.journalInternal op result).areas = s.areas := by
  unfold State.journalInternal; (repeat' split) <;> first | rfl | simp
@[simp] theorem State.journalInternal_links (s : State) (op : Half) (result : DWord) : (s.journalInternal op result).links = s.links := by
  unfold State.journalInternal; (repeat' split) <;> first | rfl | simp
@[simp] theorem State.journalInternal_places (s : State) (op : Half) (result : DWord) : (s.journalInternal op result).places = s.places := by
  unfold State.journalInternal; (repeat' split) <;> first | rfl | simp
@[simp] theorem State.journalInternal_eps (s : State) (op : Half) (result : DWord) : (s.journalInternal op result).eps = s.eps := by
  unfold State.journalInternal; (repeat' split) <;> first | rfl | simp
@[simp] theorem State.journalInternal_txns (s : State) (op : Half) (result : DWord) : (s.journalInternal op result).txns = s.txns := by
  unfold State.journalInternal; (repeat' split) <;> first | rfl | simp
@[simp] theorem State.journalInternal_qps (s : State) (op : Half) (result : DWord) : (s.journalInternal op result).qps = s.qps := by
  unfold State.journalInternal; (repeat' split) <;> first | rfl | simp
@[simp] theorem State.journalInternal_dma (s : State) (op : Half) (result : DWord) : (s.journalInternal op result).dma = s.dma := by
  unfold State.journalInternal; (repeat' split) <;> first | rfl | simp
@[simp] theorem State.journalInternal_pools (s : State) (op : Half) (result : DWord) : (s.journalInternal op result).pools = s.pools := by
  unfold State.journalInternal; (repeat' split) <;> first | rfl | simp
@[simp] theorem State.journalInternal_cmds (s : State) (op : Half) (result : DWord) : (s.journalInternal op result).cmds = s.cmds := by
  unfold State.journalInternal; (repeat' split) <;> first | rfl | simp
@[simp] theorem State.journalInternal_cfg (s : State) (op : Half) (result : DWord) : (s.journalInternal op result).cfg = s.cfg := by
  unfold State.journalInternal; (repeat' split) <;> first | rfl | simp
@[simp] theorem State.journalInternal_cri (s : State) (op : Half) (result : DWord) : (s.journalInternal op result).cri = s.cri := by
  unfold State.journalInternal; (repeat' split) <;> first | rfl | simp
@[simp] theorem State.journalInternal_pcie (s : State) (op : Half) (result : DWord) : (s.journalInternal op result).pcie = s.pcie := by
  unfold State.journalInternal; (repeat' split) <;> first | rfl | simp
@[simp] theorem State.journalInternal_pwr (s : State) (op : Half) (result : DWord) : (s.journalInternal op result).pwr = s.pwr := by
  unfold State.journalInternal; (repeat' split) <;> first | rfl | simp
@[simp] theorem State.journalInternal_rst (s : State) (op : Half) (result : DWord) : (s.journalInternal op result).rst = s.rst := by
  unfold State.journalInternal; (repeat' split) <;> first | rfl | simp
@[simp] theorem State.journalInternal_sec (s : State) (op : Half) (result : DWord) : (s.journalInternal op result).sec = s.sec := by
  unfold State.journalInternal; (repeat' split) <;> first | rfl | simp
@[simp] theorem State.journalInternal_pins (s : State) (op : Half) (result : DWord) : (s.journalInternal op result).pins = s.pins := by
  unfold State.journalInternal; (repeat' split) <;> first | rfl | simp
@[simp] theorem State.ledgerStart_pending (s : State) (kind : Nat) : (s.ledgerStart kind).pending = s.pending := by
  unfold State.ledgerStart; (repeat' split) <;> first | rfl | simp
@[simp] theorem State.ledgerStart_free (s : State) (kind : Nat) : (s.ledgerStart kind).free = s.free := by
  unfold State.ledgerStart; (repeat' split) <;> first | rfl | simp
@[simp] theorem State.ledgerStart_holds (s : State) (kind : Nat) : (s.ledgerStart kind).holds = s.holds := by
  unfold State.ledgerStart; (repeat' split) <;> first | rfl | simp
@[simp] theorem State.ledgerStart_halt (s : State) (kind : Nat) : (s.ledgerStart kind).halt = s.halt := by
  unfold State.ledgerStart; (repeat' split) <;> first | rfl | simp
@[simp] theorem State.ledgerStart_mrc (s : State) (kind : Nat) : (s.ledgerStart kind).mrc = s.mrc := by
  unfold State.ledgerStart; (repeat' split) <;> first | rfl | simp
@[simp] theorem State.ledgerStart_alm (s : State) (kind : Nat) : (s.ledgerStart kind).alm = s.alm := by
  unfold State.ledgerStart; (repeat' split) <;> first | rfl | simp
@[simp] theorem State.ledgerStart_frames (s : State) (kind : Nat) : (s.ledgerStart kind).frames = s.frames := by
  unfold State.ledgerStart; (repeat' split) <;> first | rfl | simp
@[simp] theorem State.ledgerStart_areas (s : State) (kind : Nat) : (s.ledgerStart kind).areas = s.areas := by
  unfold State.ledgerStart; (repeat' split) <;> first | rfl | simp
@[simp] theorem State.ledgerStart_links (s : State) (kind : Nat) : (s.ledgerStart kind).links = s.links := by
  unfold State.ledgerStart; (repeat' split) <;> first | rfl | simp
@[simp] theorem State.ledgerStart_places (s : State) (kind : Nat) : (s.ledgerStart kind).places = s.places := by
  unfold State.ledgerStart; (repeat' split) <;> first | rfl | simp
@[simp] theorem State.ledgerStart_eps (s : State) (kind : Nat) : (s.ledgerStart kind).eps = s.eps := by
  unfold State.ledgerStart; (repeat' split) <;> first | rfl | simp
@[simp] theorem State.ledgerStart_txns (s : State) (kind : Nat) : (s.ledgerStart kind).txns = s.txns := by
  unfold State.ledgerStart; (repeat' split) <;> first | rfl | simp
@[simp] theorem State.ledgerStart_qps (s : State) (kind : Nat) : (s.ledgerStart kind).qps = s.qps := by
  unfold State.ledgerStart; (repeat' split) <;> first | rfl | simp
@[simp] theorem State.ledgerStart_dma (s : State) (kind : Nat) : (s.ledgerStart kind).dma = s.dma := by
  unfold State.ledgerStart; (repeat' split) <;> first | rfl | simp
@[simp] theorem State.ledgerStart_pools (s : State) (kind : Nat) : (s.ledgerStart kind).pools = s.pools := by
  unfold State.ledgerStart; (repeat' split) <;> first | rfl | simp
@[simp] theorem State.ledgerStart_cmds (s : State) (kind : Nat) : (s.ledgerStart kind).cmds = s.cmds := by
  unfold State.ledgerStart; (repeat' split) <;> first | rfl | simp
@[simp] theorem State.ledgerStart_cfg (s : State) (kind : Nat) : (s.ledgerStart kind).cfg = s.cfg := by
  unfold State.ledgerStart; (repeat' split) <;> first | rfl | simp
@[simp] theorem State.ledgerStart_cri (s : State) (kind : Nat) : (s.ledgerStart kind).cri = s.cri := by
  unfold State.ledgerStart; (repeat' split) <;> first | rfl | simp
@[simp] theorem State.ledgerStart_pcie (s : State) (kind : Nat) : (s.ledgerStart kind).pcie = s.pcie := by
  unfold State.ledgerStart; (repeat' split) <;> first | rfl | simp
@[simp] theorem State.ledgerStart_pwr (s : State) (kind : Nat) : (s.ledgerStart kind).pwr = s.pwr := by
  unfold State.ledgerStart; (repeat' split) <;> first | rfl | simp
@[simp] theorem State.ledgerStart_rst (s : State) (kind : Nat) : (s.ledgerStart kind).rst = s.rst := by
  unfold State.ledgerStart; (repeat' split) <;> first | rfl | simp
@[simp] theorem State.ledgerStart_sec (s : State) (kind : Nat) : (s.ledgerStart kind).sec = s.sec := by
  unfold State.ledgerStart; (repeat' split) <;> first | rfl | simp
@[simp] theorem State.ledgerStart_pins (s : State) (kind : Nat) : (s.ledgerStart kind).pins = s.pins := by
  unfold State.ledgerStart; (repeat' split) <;> first | rfl | simp
@[simp] theorem State.endRingReset_pending (s : State) (t : Nat) : (s.endRingReset t).pending = s.pending := by
  unfold State.endRingReset; (repeat' split) <;> first | rfl | simp
@[simp] theorem State.endRingReset_out (s : State) (t : Nat) : (s.endRingReset t).out = s.out := by
  unfold State.endRingReset; (repeat' split) <;> first | rfl | simp
@[simp] theorem State.endRingReset_free (s : State) (t : Nat) : (s.endRingReset t).free = s.free := by
  unfold State.endRingReset; (repeat' split) <;> first | rfl | simp
@[simp] theorem State.endRingReset_holds (s : State) (t : Nat) : (s.endRingReset t).holds = s.holds := by
  unfold State.endRingReset; (repeat' split) <;> first | rfl | simp
@[simp] theorem State.endRingReset_time (s : State) (t : Nat) : (s.endRingReset t).time = s.time := by
  unfold State.endRingReset; (repeat' split) <;> first | rfl | simp
@[simp] theorem State.endRingReset_halt (s : State) (t : Nat) : (s.endRingReset t).halt = s.halt := by
  unfold State.endRingReset; (repeat' split) <;> first | rfl | simp
@[simp] theorem State.endRingReset_mrc (s : State) (t : Nat) : (s.endRingReset t).mrc = s.mrc := by
  unfold State.endRingReset; (repeat' split) <;> first | rfl | simp
@[simp] theorem State.endRingReset_alm (s : State) (t : Nat) : (s.endRingReset t).alm = s.alm := by
  unfold State.endRingReset; (repeat' split) <;> first | rfl | simp
@[simp] theorem State.endRingReset_frames (s : State) (t : Nat) : (s.endRingReset t).frames = s.frames := by
  unfold State.endRingReset; (repeat' split) <;> first | rfl | simp
@[simp] theorem State.endRingReset_areas (s : State) (t : Nat) : (s.endRingReset t).areas = s.areas := by
  unfold State.endRingReset; (repeat' split) <;> first | rfl | simp
@[simp] theorem State.endRingReset_links (s : State) (t : Nat) : (s.endRingReset t).links = s.links := by
  unfold State.endRingReset; (repeat' split) <;> first | rfl | simp
@[simp] theorem State.endRingReset_places (s : State) (t : Nat) : (s.endRingReset t).places = s.places := by
  unfold State.endRingReset; (repeat' split) <;> first | rfl | simp
@[simp] theorem State.endRingReset_eps (s : State) (t : Nat) : (s.endRingReset t).eps = s.eps := by
  unfold State.endRingReset; (repeat' split) <;> first | rfl | simp
@[simp] theorem State.endRingReset_txns (s : State) (t : Nat) : (s.endRingReset t).txns = s.txns := by
  unfold State.endRingReset; (repeat' split) <;> first | rfl | simp
@[simp] theorem State.endRingReset_qps (s : State) (t : Nat) : (s.endRingReset t).qps = s.qps := by
  unfold State.endRingReset; (repeat' split) <;> first | rfl | simp
@[simp] theorem State.endRingReset_dma (s : State) (t : Nat) : (s.endRingReset t).dma = s.dma := by
  unfold State.endRingReset; (repeat' split) <;> first | rfl | simp
@[simp] theorem State.endRingReset_pools (s : State) (t : Nat) : (s.endRingReset t).pools = s.pools := by
  unfold State.endRingReset; (repeat' split) <;> first | rfl | simp
@[simp] theorem State.endRingReset_led (s : State) (t : Nat) : (s.endRingReset t).led = s.led := by
  unfold State.endRingReset; (repeat' split) <;> first | rfl | simp
@[simp] theorem State.endRingReset_cfg (s : State) (t : Nat) : (s.endRingReset t).cfg = s.cfg := by
  unfold State.endRingReset; (repeat' split) <;> first | rfl | simp
@[simp] theorem State.endRingReset_cri (s : State) (t : Nat) : (s.endRingReset t).cri = s.cri := by
  unfold State.endRingReset; (repeat' split) <;> first | rfl | simp
@[simp] theorem State.endRingReset_pcie (s : State) (t : Nat) : (s.endRingReset t).pcie = s.pcie := by
  unfold State.endRingReset; (repeat' split) <;> first | rfl | simp
@[simp] theorem State.endRingReset_pwr (s : State) (t : Nat) : (s.endRingReset t).pwr = s.pwr := by
  unfold State.endRingReset; (repeat' split) <;> first | rfl | simp
@[simp] theorem State.endRingReset_rst (s : State) (t : Nat) : (s.endRingReset t).rst = s.rst := by
  unfold State.endRingReset; (repeat' split) <;> first | rfl | simp
@[simp] theorem State.endRingReset_twn (s : State) (t : Nat) : (s.endRingReset t).twn = s.twn := by
  unfold State.endRingReset; (repeat' split) <;> first | rfl | simp
@[simp] theorem State.endRingReset_sec (s : State) (t : Nat) : (s.endRingReset t).sec = s.sec := by
  unfold State.endRingReset; (repeat' split) <;> first | rfl | simp
@[simp] theorem State.endRingReset_pins (s : State) (t : Nat) : (s.endRingReset t).pins = s.pins := by
  unfold State.endRingReset; (repeat' split) <;> first | rfl | simp
@[simp] theorem State.sendReply_pending (s : State) (t : Nat) (rec : List Byte) (irq : Bool) : (s.sendReply t rec irq).pending = s.pending := by
  unfold State.sendReply; (repeat' split) <;> first | rfl | (simp; done) | (dsimp only; (repeat' split) <;> first | rfl | (simp; done))
@[simp] theorem State.sendReply_free (s : State) (t : Nat) (rec : List Byte) (irq : Bool) : (s.sendReply t rec irq).free = s.free := by
  unfold State.sendReply; (repeat' split) <;> first | rfl | (simp; done) | (dsimp only; (repeat' split) <;> first | rfl | (simp; done))
@[simp] theorem State.sendReply_holds (s : State) (t : Nat) (rec : List Byte) (irq : Bool) : (s.sendReply t rec irq).holds = s.holds := by
  unfold State.sendReply; (repeat' split) <;> first | rfl | (simp; done) | (dsimp only; (repeat' split) <;> first | rfl | (simp; done))
@[simp] theorem State.sendReply_time (s : State) (t : Nat) (rec : List Byte) (irq : Bool) : (s.sendReply t rec irq).time = s.time := by
  unfold State.sendReply; (repeat' split) <;> first | rfl | (simp; done) | (dsimp only; (repeat' split) <;> first | rfl | (simp; done))
@[simp] theorem State.sendReply_halt (s : State) (t : Nat) (rec : List Byte) (irq : Bool) : (s.sendReply t rec irq).halt = s.halt := by
  unfold State.sendReply; (repeat' split) <;> first | rfl | (simp; done) | (dsimp only; (repeat' split) <;> first | rfl | (simp; done))
@[simp] theorem State.sendReply_mrc (s : State) (t : Nat) (rec : List Byte) (irq : Bool) : (s.sendReply t rec irq).mrc = s.mrc := by
  unfold State.sendReply; (repeat' split) <;> first | rfl | (simp; done) | (dsimp only; (repeat' split) <;> first | rfl | (simp; done))
@[simp] theorem State.sendReply_alm (s : State) (t : Nat) (rec : List Byte) (irq : Bool) : (s.sendReply t rec irq).alm = s.alm := by
  unfold State.sendReply; (repeat' split) <;> first | rfl | (simp; done) | (dsimp only; (repeat' split) <;> first | rfl | (simp; done))
@[simp] theorem State.sendReply_frames (s : State) (t : Nat) (rec : List Byte) (irq : Bool) : (s.sendReply t rec irq).frames = s.frames := by
  unfold State.sendReply; (repeat' split) <;> first | rfl | (simp; done) | (dsimp only; (repeat' split) <;> first | rfl | (simp; done))
@[simp] theorem State.sendReply_areas (s : State) (t : Nat) (rec : List Byte) (irq : Bool) : (s.sendReply t rec irq).areas = s.areas := by
  unfold State.sendReply; (repeat' split) <;> first | rfl | (simp; done) | (dsimp only; (repeat' split) <;> first | rfl | (simp; done))
@[simp] theorem State.sendReply_links (s : State) (t : Nat) (rec : List Byte) (irq : Bool) : (s.sendReply t rec irq).links = s.links := by
  unfold State.sendReply; (repeat' split) <;> first | rfl | (simp; done) | (dsimp only; (repeat' split) <;> first | rfl | (simp; done))
@[simp] theorem State.sendReply_places (s : State) (t : Nat) (rec : List Byte) (irq : Bool) : (s.sendReply t rec irq).places = s.places := by
  unfold State.sendReply; (repeat' split) <;> first | rfl | (simp; done) | (dsimp only; (repeat' split) <;> first | rfl | (simp; done))
@[simp] theorem State.sendReply_eps (s : State) (t : Nat) (rec : List Byte) (irq : Bool) : (s.sendReply t rec irq).eps = s.eps := by
  unfold State.sendReply; (repeat' split) <;> first | rfl | (simp; done) | (dsimp only; (repeat' split) <;> first | rfl | (simp; done))
@[simp] theorem State.sendReply_txns (s : State) (t : Nat) (rec : List Byte) (irq : Bool) : (s.sendReply t rec irq).txns = s.txns := by
  unfold State.sendReply; (repeat' split) <;> first | rfl | (simp; done) | (dsimp only; (repeat' split) <;> first | rfl | (simp; done))
@[simp] theorem State.sendReply_qps (s : State) (t : Nat) (rec : List Byte) (irq : Bool) : (s.sendReply t rec irq).qps = s.qps := by
  unfold State.sendReply; (repeat' split) <;> first | rfl | (simp; done) | (dsimp only; (repeat' split) <;> first | rfl | (simp; done))
@[simp] theorem State.sendReply_dma (s : State) (t : Nat) (rec : List Byte) (irq : Bool) : (s.sendReply t rec irq).dma = s.dma := by
  unfold State.sendReply; (repeat' split) <;> first | rfl | (simp; done) | (dsimp only; (repeat' split) <;> first | rfl | (simp; done))
@[simp] theorem State.sendReply_pools (s : State) (t : Nat) (rec : List Byte) (irq : Bool) : (s.sendReply t rec irq).pools = s.pools := by
  unfold State.sendReply; (repeat' split) <;> first | rfl | (simp; done) | (dsimp only; (repeat' split) <;> first | rfl | (simp; done))
@[simp] theorem State.sendReply_led (s : State) (t : Nat) (rec : List Byte) (irq : Bool) : (s.sendReply t rec irq).led = s.led := by
  unfold State.sendReply; (repeat' split) <;> first | rfl | (simp; done) | (dsimp only; (repeat' split) <;> first | rfl | (simp; done))
@[simp] theorem State.sendReply_cfg (s : State) (t : Nat) (rec : List Byte) (irq : Bool) : (s.sendReply t rec irq).cfg = s.cfg := by
  unfold State.sendReply; (repeat' split) <;> first | rfl | (simp; done) | (dsimp only; (repeat' split) <;> first | rfl | (simp; done))
@[simp] theorem State.sendReply_cri (s : State) (t : Nat) (rec : List Byte) (irq : Bool) : (s.sendReply t rec irq).cri = s.cri := by
  unfold State.sendReply; (repeat' split) <;> first | rfl | (simp; done) | (dsimp only; (repeat' split) <;> first | rfl | (simp; done))
@[simp] theorem State.sendReply_pwr (s : State) (t : Nat) (rec : List Byte) (irq : Bool) : (s.sendReply t rec irq).pwr = s.pwr := by
  unfold State.sendReply; (repeat' split) <;> first | rfl | (simp; done) | (dsimp only; (repeat' split) <;> first | rfl | (simp; done))
@[simp] theorem State.sendReply_rst (s : State) (t : Nat) (rec : List Byte) (irq : Bool) : (s.sendReply t rec irq).rst = s.rst := by
  unfold State.sendReply; (repeat' split) <;> first | rfl | (simp; done) | (dsimp only; (repeat' split) <;> first | rfl | (simp; done))
@[simp] theorem State.sendReply_twn (s : State) (t : Nat) (rec : List Byte) (irq : Bool) : (s.sendReply t rec irq).twn = s.twn := by
  unfold State.sendReply; (repeat' split) <;> first | rfl | (simp; done) | (dsimp only; (repeat' split) <;> first | rfl | (simp; done))
@[simp] theorem State.sendReply_sec (s : State) (t : Nat) (rec : List Byte) (irq : Bool) : (s.sendReply t rec irq).sec = s.sec := by
  unfold State.sendReply; (repeat' split) <;> first | rfl | (simp; done) | (dsimp only; (repeat' split) <;> first | rfl | (simp; done))
@[simp] theorem State.sendReply_pins (s : State) (t : Nat) (rec : List Byte) (irq : Bool) : (s.sendReply t rec irq).pins = s.pins := by
  unfold State.sendReply; (repeat' split) <;> first | rfl | (simp; done) | (dsimp only; (repeat' split) <;> first | rfl | (simp; done))
@[simp] theorem State.turnedAway_pending (s : State) (g : Gate) (fn off : Nat) (write : Bool) : (s.turnedAway g fn off write).pending = s.pending := by
  unfold State.turnedAway; (repeat' split) <;> first | rfl | simp
@[simp] theorem State.turnedAway_free (s : State) (g : Gate) (fn off : Nat) (write : Bool) : (s.turnedAway g fn off write).free = s.free := by
  unfold State.turnedAway; (repeat' split) <;> first | rfl | simp
@[simp] theorem State.turnedAway_holds (s : State) (g : Gate) (fn off : Nat) (write : Bool) : (s.turnedAway g fn off write).holds = s.holds := by
  unfold State.turnedAway; (repeat' split) <;> first | rfl | simp
@[simp] theorem State.turnedAway_time (s : State) (g : Gate) (fn off : Nat) (write : Bool) : (s.turnedAway g fn off write).time = s.time := by
  unfold State.turnedAway; (repeat' split) <;> first | rfl | simp
@[simp] theorem State.turnedAway_halt (s : State) (g : Gate) (fn off : Nat) (write : Bool) : (s.turnedAway g fn off write).halt = s.halt := by
  unfold State.turnedAway; (repeat' split) <;> first | rfl | simp
@[simp] theorem State.turnedAway_mrc (s : State) (g : Gate) (fn off : Nat) (write : Bool) : (s.turnedAway g fn off write).mrc = s.mrc := by
  unfold State.turnedAway; (repeat' split) <;> first | rfl | simp
@[simp] theorem State.turnedAway_alm (s : State) (g : Gate) (fn off : Nat) (write : Bool) : (s.turnedAway g fn off write).alm = s.alm := by
  unfold State.turnedAway; (repeat' split) <;> first | rfl | simp
@[simp] theorem State.turnedAway_frames (s : State) (g : Gate) (fn off : Nat) (write : Bool) : (s.turnedAway g fn off write).frames = s.frames := by
  unfold State.turnedAway; (repeat' split) <;> first | rfl | simp
@[simp] theorem State.turnedAway_areas (s : State) (g : Gate) (fn off : Nat) (write : Bool) : (s.turnedAway g fn off write).areas = s.areas := by
  unfold State.turnedAway; (repeat' split) <;> first | rfl | simp
@[simp] theorem State.turnedAway_links (s : State) (g : Gate) (fn off : Nat) (write : Bool) : (s.turnedAway g fn off write).links = s.links := by
  unfold State.turnedAway; (repeat' split) <;> first | rfl | simp
@[simp] theorem State.turnedAway_places (s : State) (g : Gate) (fn off : Nat) (write : Bool) : (s.turnedAway g fn off write).places = s.places := by
  unfold State.turnedAway; (repeat' split) <;> first | rfl | simp
@[simp] theorem State.turnedAway_eps (s : State) (g : Gate) (fn off : Nat) (write : Bool) : (s.turnedAway g fn off write).eps = s.eps := by
  unfold State.turnedAway; (repeat' split) <;> first | rfl | simp
@[simp] theorem State.turnedAway_txns (s : State) (g : Gate) (fn off : Nat) (write : Bool) : (s.turnedAway g fn off write).txns = s.txns := by
  unfold State.turnedAway; (repeat' split) <;> first | rfl | simp
@[simp] theorem State.turnedAway_qps (s : State) (g : Gate) (fn off : Nat) (write : Bool) : (s.turnedAway g fn off write).qps = s.qps := by
  unfold State.turnedAway; (repeat' split) <;> first | rfl | simp
@[simp] theorem State.turnedAway_dma (s : State) (g : Gate) (fn off : Nat) (write : Bool) : (s.turnedAway g fn off write).dma = s.dma := by
  unfold State.turnedAway; (repeat' split) <;> first | rfl | simp
@[simp] theorem State.turnedAway_pools (s : State) (g : Gate) (fn off : Nat) (write : Bool) : (s.turnedAway g fn off write).pools = s.pools := by
  unfold State.turnedAway; (repeat' split) <;> first | rfl | simp
@[simp] theorem State.turnedAway_cmds (s : State) (g : Gate) (fn off : Nat) (write : Bool) : (s.turnedAway g fn off write).cmds = s.cmds := by
  unfold State.turnedAway; (repeat' split) <;> first | rfl | simp
@[simp] theorem State.turnedAway_led (s : State) (g : Gate) (fn off : Nat) (write : Bool) : (s.turnedAway g fn off write).led = s.led := by
  unfold State.turnedAway; (repeat' split) <;> first | rfl | simp
@[simp] theorem State.turnedAway_cfg (s : State) (g : Gate) (fn off : Nat) (write : Bool) : (s.turnedAway g fn off write).cfg = s.cfg := by
  unfold State.turnedAway; (repeat' split) <;> first | rfl | simp
@[simp] theorem State.turnedAway_cri (s : State) (g : Gate) (fn off : Nat) (write : Bool) : (s.turnedAway g fn off write).cri = s.cri := by
  unfold State.turnedAway; (repeat' split) <;> first | rfl | simp
@[simp] theorem State.turnedAway_pwr (s : State) (g : Gate) (fn off : Nat) (write : Bool) : (s.turnedAway g fn off write).pwr = s.pwr := by
  unfold State.turnedAway; (repeat' split) <;> first | rfl | simp
@[simp] theorem State.turnedAway_rst (s : State) (g : Gate) (fn off : Nat) (write : Bool) : (s.turnedAway g fn off write).rst = s.rst := by
  unfold State.turnedAway; (repeat' split) <;> first | rfl | simp
@[simp] theorem State.turnedAway_twn (s : State) (g : Gate) (fn off : Nat) (write : Bool) : (s.turnedAway g fn off write).twn = s.twn := by
  unfold State.turnedAway; (repeat' split) <;> first | rfl | simp
@[simp] theorem State.turnedAway_sec (s : State) (g : Gate) (fn off : Nat) (write : Bool) : (s.turnedAway g fn off write).sec = s.sec := by
  unfold State.turnedAway; (repeat' split) <;> first | rfl | simp
@[simp] theorem State.turnedAway_pins (s : State) (g : Gate) (fn off : Nat) (write : Bool) : (s.turnedAway g fn off write).pins = s.pins := by
  unfold State.turnedAway; (repeat' split) <;> first | rfl | simp

end Sys2Proof.Machine
end

