-- ==== Sys2Proof/Laws/Commands.lean ====
section
/-!
SUPPORT. A command that passes every check of Table 10-7 ends with what its own effect gives.
-/
namespace Sys2Proof.Machine

/-- The checks of order 5 add to the outputs and to one tenant's refusals only. -/
theorem State.begun_eq (s : State) (i : CmdInfo) (t : Nat) (k : CmdPkt) (h : s.accepts i t k = true) :
    s.begun i t k = s.taken t ∨ s.begun i t k = (s.taken t).emit (.hostRead t k.blockAddr k.plen.toNat) := by
  simp only [State.accepts, Bool.and_eq_true, Option.isNone_iff_eq_none] at h
  obtain ⟨⟨⟨⟨⟨⟨⟨⟨-, -⟩, -⟩, h⟩, -⟩, -⟩, -⟩, -⟩, -⟩ := h
  revert h
  unfold State.begun State.blockCheck
  dsimp only
  repeat' split
  all_goals simp_all

/-- A command that passes every check of Table 10-7 carries out its own effect on the state in which it was taken. -/
theorem runCmd_accepts {i : CmdInfo} {t : Nat} {k : CmdPkt} {s : State} (body : State → List Byte → CmdRes)
    (h : s.accepts i t k = true) :
    runCmd i t k body s =
      let b := s.begun i t k
      let r := body b k.params
      let r' := if r.status = .ok && amends i.op && r.st.amended != b.cfg.shadow then
        (if r.st.amendFits then { r with st := r.st.amend } else .err b .noResource) else r
      State.conclude i t k r' (i.jrn || r'.status == .notPrimary) := by
  have hb := State.begun_eq s i t k h
  simp only [State.accepts, Bool.and_eq_true, Option.isNone_iff_eq_none] at h
  obtain ⟨⟨⟨⟨⟨⟨⟨⟨h1, h2⟩, h3⟩, h4⟩, h5⟩, h6⟩, h7⟩, h8⟩, h9⟩ := h
  have e : (s.taken t).blockCheck i t k = (s.begun i t k, none) := by rw [← h4]; rfl
  have hr : (s.begun i t k).role = s.role := by rcases hb with hb | hb <;> rw [hb] <;> rfl
  have hy : (s.begun i t k).ready = s.ready := by rcases hb with hb | hb <;> rw [hb] <;> rfl
  have hp : (s.begun i t k).cfg = s.cfg := by rcases hb with hb | hb <;> rw [hb] <;> rfl
  unfold runCmd
  simp only [h1, h2, Bool.not_true, Bool.false_eq_true, if_false]
  rw [show (s.modCmd t fun c => { c with cons := c.cons + 1 }) = s.taken t from rfl, h3, e]
  dsimp only
  have hc : (s.begun i t k).carryOut i k body =
      (let r := body (s.begun i t k) k.params
       if r.status = .ok && amends i.op && r.st.amended != (s.begun i t k).cfg.shadow then
        (if r.st.amendFits then { r with st := r.st.amend } else .err (s.begun i t k) .noResource) else r) := by
    unfold State.carryOut
    rw [hr, hy, hp]
    have a1 : (!i.paramsOk k.params || (i.outLen.isNone && k.outAddr != 0)) = false := by
      simp only [h5, Bool.not_true, Bool.false_or]
      simp only [Bool.or_eq_true] at h6
      rcases h6 with h6 | h6
      · cases ho : i.outLen <;> simp_all
      · simp only [beq_iff_eq] at h6
        simp [h6]
    have a2 : (s.role == 3 && !i.standby) = false := by
      simp only [bne, Bool.or_eq_true, Bool.not_eq_true'] at h7
      rcases h7 with h7 | h7 <;> simp [h7]
    have a3 : ((i.needReady && !s.ready) || (s.cfg.probation && heldInProbation i.op)) = false := by
      simp only [Bool.or_eq_true, Bool.not_eq_true'] at h8 h9
      rcases h8 with h8 | h8 <;> simp [h8, h9]
    simp only [a1, a2, a3, Bool.false_eq_true, if_false]
  rw [hc]

/-- A command without amendment. -/
theorem runCmd_plain {i : CmdInfo} {t : Nat} {k : CmdPkt} {s : State} (body : State → List Byte → CmdRes)
    (h : s.accepts i t k = true) (ha : amends i.op = false)
    (hs : (body (s.begun i t k) k.params).status ≠ .notPrimary) :
    runCmd i t k body s = State.conclude i t k (body (s.begun i t k) k.params) i.jrn := by
  rw [runCmd_accepts body h]
  simp [ha, beq_false_of_ne hs]

/-- A command that amends the running configuration and fits. -/
theorem runCmd_amending {i : CmdInfo} {t : Nat} {k : CmdPkt} {s : State} (body : State → List Byte → CmdRes)
    (h : s.accepts i t k = true) (ha : amends i.op = true) (hs : (body (s.begun i t k) k.params).status = .ok)
    (hf : (body (s.begun i t k) k.params).st.amendFits = true) :
    runCmd i t k body s = State.conclude i t k { body (s.begun i t k) k.params with
      st := (body (s.begun i t k) k.params).st.noted (s.begun i t k) } i.jrn := by
  rw [runCmd_accepts body h]
  unfold State.noted
  dsimp only
  have hn : (CmdStatus.ok == CmdStatus.notPrimary) = false := by decide
  generalize body (s.begun i t k) k.params = r at *
  obtain ⟨st, status, detail, result, out, ledResult, silent, wait⟩ := r
  subst hs
  by_cases e : st.amended = (s.begun i t k).cfg.shadow
  · simp [e, hn]
  · have e' : (st.amended != (s.begun i t k).cfg.shadow) = true := by simpa using e
    simp only [ha, e', e, hf, hn, Bool.and_true, Bool.or_false, if_true, if_false, decide_true]

/-- A command whose own effect is known, without amendment. -/
theorem done_runCmd_plain {i : CmdInfo} {t : Nat} {k : CmdPkt} {s : State} {body : State → List Byte → CmdRes} {r : CmdRes}
    (h : s.accepts i t k = true) (ha : amends i.op = false) (e : body (s.begun i t k) k.params = r)
    (hs : r.status ≠ .notPrimary) : done (runCmd i t k body s) = .next (State.ended i t k r) := by
  rw [runCmd_plain body h ha (by rw [e]; exact hs), e]; rfl

/-- A command whose own effect is known, with its amendment. -/
theorem done_runCmd_amending {i : CmdInfo} {t : Nat} {k : CmdPkt} {s : State} {body : State → List Byte → CmdRes} {r : CmdRes}
    (h : s.accepts i t k = true) (ha : amends i.op = true) (e : body (s.begun i t k) k.params = r) (hs : r.status = .ok)
    (hf : r.st.amendFits = true) :
    done (runCmd i t k body s) = .next (State.ended i t k { r with st := r.st.noted (s.begun i t k) }) := by
  rw [runCmd_amending body h ha (by rw [e]; exact hs) (by rw [e]; exact hf), e]; rfl

/-! ### What the end of a command leaves -/

@[simp] theorem State.conclude_pending (i : CmdInfo) (t : Nat) (k : CmdPkt) (r : CmdRes) (e : Bool) :
    (State.conclude i t k r e).pending = r.st.pending := by
  unfold State.conclude; dsimp only; (repeat' split) <;> simp
@[simp] theorem State.conclude_free (i : CmdInfo) (t : Nat) (k : CmdPkt) (r : CmdRes) (e : Bool) :
    (State.conclude i t k r e).free = r.st.free := by
  unfold State.conclude; dsimp only; (repeat' split) <;> simp
@[simp] theorem State.conclude_holds (i : CmdInfo) (t : Nat) (k : CmdPkt) (r : CmdRes) (e : Bool) :
    (State.conclude i t k r e).holds = r.st.holds := by
  unfold State.conclude; dsimp only; (repeat' split) <;> simp
@[simp] theorem State.conclude_halt (i : CmdInfo) (t : Nat) (k : CmdPkt) (r : CmdRes) (e : Bool) :
    (State.conclude i t k r e).halt = r.st.halt := by
  unfold State.conclude; dsimp only; (repeat' split) <;> simp
@[simp] theorem State.conclude_mrc (i : CmdInfo) (t : Nat) (k : CmdPkt) (r : CmdRes) (e : Bool) :
    (State.conclude i t k r e).mrc = r.st.mrc := by
  unfold State.conclude; dsimp only; (repeat' split) <;> simp
@[simp] theorem State.conclude_alm (i : CmdInfo) (t : Nat) (k : CmdPkt) (r : CmdRes) (e : Bool) :
    (State.conclude i t k r e).alm = r.st.alm := by
  unfold State.conclude; dsimp only; (repeat' split) <;> simp
@[simp] theorem State.conclude_frames (i : CmdInfo) (t : Nat) (k : CmdPkt) (r : CmdRes) (e : Bool) :
    (State.conclude i t k r e).frames = r.st.frames := by
  unfold State.conclude; dsimp only; (repeat' split) <;> simp
@[simp] theorem State.conclude_areas (i : CmdInfo) (t : Nat) (k : CmdPkt) (r : CmdRes) (e : Bool) :
    (State.conclude i t k r e).areas = r.st.areas := by
  unfold State.conclude; dsimp only; (repeat' split) <;> simp
@[simp] theorem State.conclude_links (i : CmdInfo) (t : Nat) (k : CmdPkt) (r : CmdRes) (e : Bool) :
    (State.conclude i t k r e).links = r.st.links := by
  unfold State.conclude; dsimp only; (repeat' split) <;> simp
@[simp] theorem State.conclude_places (i : CmdInfo) (t : Nat) (k : CmdPkt) (r : CmdRes) (e : Bool) :
    (State.conclude i t k r e).places = r.st.places := by
  unfold State.conclude; dsimp only; (repeat' split) <;> simp
@[simp] theorem State.conclude_eps (i : CmdInfo) (t : Nat) (k : CmdPkt) (r : CmdRes) (e : Bool) :
    (State.conclude i t k r e).eps = r.st.eps := by
  unfold State.conclude; dsimp only; (repeat' split) <;> simp
@[simp] theorem State.conclude_txns (i : CmdInfo) (t : Nat) (k : CmdPkt) (r : CmdRes) (e : Bool) :
    (State.conclude i t k r e).txns = r.st.txns := by
  unfold State.conclude; dsimp only; (repeat' split) <;> simp
@[simp] theorem State.conclude_qps (i : CmdInfo) (t : Nat) (k : CmdPkt) (r : CmdRes) (e : Bool) :
    (State.conclude i t k r e).qps = r.st.qps := by
  unfold State.conclude; dsimp only; (repeat' split) <;> simp
@[simp] theorem State.conclude_dma (i : CmdInfo) (t : Nat) (k : CmdPkt) (r : CmdRes) (e : Bool) :
    (State.conclude i t k r e).dma = r.st.dma := by
  unfold State.conclude; dsimp only; (repeat' split) <;> simp
@[simp] theorem State.conclude_pools (i : CmdInfo) (t : Nat) (k : CmdPkt) (r : CmdRes) (e : Bool) :
    (State.conclude i t k r e).pools = r.st.pools := by
  unfold State.conclude; dsimp only; (repeat' split) <;> simp
@[simp] theorem State.conclude_cfg (i : CmdInfo) (t : Nat) (k : CmdPkt) (r : CmdRes) (e : Bool) :
    (State.conclude i t k r e).cfg = r.st.cfg := by
  unfold State.conclude; dsimp only; (repeat' split) <;> simp
@[simp] theorem State.conclude_cri (i : CmdInfo) (t : Nat) (k : CmdPkt) (r : CmdRes) (e : Bool) :
    (State.conclude i t k r e).cri = r.st.cri := by
  unfold State.conclude; dsimp only; (repeat' split) <;> simp
@[simp] theorem State.conclude_pwr (i : CmdInfo) (t : Nat) (k : CmdPkt) (r : CmdRes) (e : Bool) :
    (State.conclude i t k r e).pwr = r.st.pwr := by
  unfold State.conclude; dsimp only; (repeat' split) <;> simp
@[simp] theorem State.conclude_rst (i : CmdInfo) (t : Nat) (k : CmdPkt) (r : CmdRes) (e : Bool) :
    (State.conclude i t k r e).rst = r.st.rst := by
  unfold State.conclude; dsimp only; (repeat' split) <;> simp
@[simp] theorem State.conclude_sec (i : CmdInfo) (t : Nat) (k : CmdPkt) (r : CmdRes) (e : Bool) :
    (State.conclude i t k r e).sec = r.st.sec := by
  unfold State.conclude; dsimp only; (repeat' split) <;> simp
@[simp] theorem State.conclude_pins (i : CmdInfo) (t : Nat) (k : CmdPkt) (r : CmdRes) (e : Bool) :
    (State.conclude i t k r e).pins = r.st.pins := by
  unfold State.conclude; dsimp only; (repeat' split) <;> simp
@[simp] theorem State.ended_pending (i : CmdInfo) (t : Nat) (k : CmdPkt) (r : CmdRes) :
    (State.ended i t k r).pending = r.st.pending := by simp [State.ended]
@[simp] theorem State.ended_free (i : CmdInfo) (t : Nat) (k : CmdPkt) (r : CmdRes) :
    (State.ended i t k r).free = r.st.free := by simp [State.ended]
@[simp] theorem State.ended_holds (i : CmdInfo) (t : Nat) (k : CmdPkt) (r : CmdRes) :
    (State.ended i t k r).holds = r.st.holds := by simp [State.ended]
@[simp] theorem State.ended_halt (i : CmdInfo) (t : Nat) (k : CmdPkt) (r : CmdRes) :
    (State.ended i t k r).halt = r.st.halt := by simp [State.ended]
@[simp] theorem State.ended_mrc (i : CmdInfo) (t : Nat) (k : CmdPkt) (r : CmdRes) :
    (State.ended i t k r).mrc = r.st.mrc := by simp [State.ended]
@[simp] theorem State.ended_alm (i : CmdInfo) (t : Nat) (k : CmdPkt) (r : CmdRes) :
    (State.ended i t k r).alm = r.st.alm := by simp [State.ended]
@[simp] theorem State.ended_frames (i : CmdInfo) (t : Nat) (k : CmdPkt) (r : CmdRes) :
    (State.ended i t k r).frames = r.st.frames := by simp [State.ended]
@[simp] theorem State.ended_areas (i : CmdInfo) (t : Nat) (k : CmdPkt) (r : CmdRes) :
    (State.ended i t k r).areas = r.st.areas := by simp [State.ended]
@[simp] theorem State.ended_links (i : CmdInfo) (t : Nat) (k : CmdPkt) (r : CmdRes) :
    (State.ended i t k r).links = r.st.links := by simp [State.ended]
@[simp] theorem State.ended_places (i : CmdInfo) (t : Nat) (k : CmdPkt) (r : CmdRes) :
    (State.ended i t k r).places = r.st.places := by simp [State.ended]
@[simp] theorem State.ended_eps (i : CmdInfo) (t : Nat) (k : CmdPkt) (r : CmdRes) :
    (State.ended i t k r).eps = r.st.eps := by simp [State.ended]
@[simp] theorem State.ended_txns (i : CmdInfo) (t : Nat) (k : CmdPkt) (r : CmdRes) :
    (State.ended i t k r).txns = r.st.txns := by simp [State.ended]
@[simp] theorem State.ended_dma (i : CmdInfo) (t : Nat) (k : CmdPkt) (r : CmdRes) :
    (State.ended i t k r).dma = r.st.dma := by simp [State.ended]
@[simp] theorem State.ended_pools (i : CmdInfo) (t : Nat) (k : CmdPkt) (r : CmdRes) :
    (State.ended i t k r).pools = r.st.pools := by simp [State.ended]
@[simp] theorem State.ended_cfg (i : CmdInfo) (t : Nat) (k : CmdPkt) (r : CmdRes) :
    (State.ended i t k r).cfg = r.st.cfg := by simp [State.ended]
@[simp] theorem State.ended_cri (i : CmdInfo) (t : Nat) (k : CmdPkt) (r : CmdRes) :
    (State.ended i t k r).cri = r.st.cri := by simp [State.ended]
@[simp] theorem State.ended_pwr (i : CmdInfo) (t : Nat) (k : CmdPkt) (r : CmdRes) :
    (State.ended i t k r).pwr = r.st.pwr := by simp [State.ended]
@[simp] theorem State.ended_rst (i : CmdInfo) (t : Nat) (k : CmdPkt) (r : CmdRes) :
    (State.ended i t k r).rst = r.st.rst := by simp [State.ended]
@[simp] theorem State.ended_sec (i : CmdInfo) (t : Nat) (k : CmdPkt) (r : CmdRes) :
    (State.ended i t k r).sec = r.st.sec := by simp [State.ended]
@[simp] theorem State.ended_pins (i : CmdInfo) (t : Nat) (k : CmdPkt) (r : CmdRes) :
    (State.ended i t k r).pins = r.st.pins := by simp [State.ended]

@[simp] theorem State.journal_time (s : State) (e : LedEntry) (ps : List Byte) : (s.journal e ps).time = s.time := by
  unfold State.journal; dsimp only; (repeat' split) <;> simp
@[simp] theorem State.conclude_time (i : CmdInfo) (t : Nat) (k : CmdPkt) (r : CmdRes) (e : Bool) :
    (State.conclude i t k r e).time = r.st.time := by
  unfold State.conclude; dsimp only; (repeat' split) <;> simp
@[simp] theorem State.ended_time (i : CmdInfo) (t : Nat) (k : CmdPkt) (r : CmdRes) :
    (State.ended i t k r).time = r.st.time := by simp [State.ended]

end Sys2Proof.Machine
end

