-- ==== Sys2Proof/Laws/RunFrames.lean ====
section
/-!
SUPPORT. A command of the command path leaves the queue and the security state as its own effect leaves them.
-/
namespace Sys2Proof.Machine

/-- A fold keeps what each of its steps keeps: pending. -/
@[simp] theorem fold_pending {β : Type} (f : State → β → State) (h : ∀ a b, (f a b).pending = a.pending) (l : List β) (a : State) :
    (l.foldl f a).pending = a.pending := foldl_proj (fun x : State => x.pending) f h l a
@[simp] theorem CmdRes.ok_pending (s : State) (r : DWord) : (CmdRes.ok s r).st.pending = s.pending := rfl
@[simp] theorem CmdRes.block_pending (s : State) (b : List Byte) : (CmdRes.block s b).st.pending = s.pending := rfl
@[simp] theorem CmdRes.err_pending (s : State) (c : CmdStatus) : (CmdRes.err s c).st.pending = s.pending := rfl
@[simp] theorem CmdRes.refuse_pending (s : State) (n : Nat) : (CmdRes.refuse s n).st.pending = s.pending := rfl
@[simp] theorem State.amend_pending (s : State) : (s.amend).pending = s.pending := by unfold State.amend; simp
@[simp] theorem State.blockCheck_pending (s : State) (i : CmdInfo) (t : Nat) (k : CmdPkt) : (s.blockCheck i t k).1.pending = s.pending := by
  unfold State.blockCheck; dsimp only; (repeat' split) <;> simp
@[simp] theorem State.carryOut_pending (s : State) (i : CmdInfo) (k : CmdPkt) (body : State → List Byte → CmdRes)
    (h : ∀ b p, (body b p).st.pending = b.pending) : (s.carryOut i k body).st.pending = s.pending := by
  unfold State.carryOut; dsimp only; (repeat' split) <;> simp [h]
@[simp] theorem runCmd_pending (i : CmdInfo) (t : Nat) (k : CmdPkt) (body : State → List Byte → CmdRes) (s : State)
    (h : ∀ b p, (body b p).st.pending = b.pending) : (runCmd i t k body s).pending = s.pending := by
  unfold runCmd; dsimp only
  split
  · rfl
  · split
    · simp
    · split
      · simp
      · rename_i e
        have hb := State.blockCheck_pending (s.modCmd t fun c => { c with cons := c.cons + 1 }) i t k
        split <;> rename_i e2 <;> rw [e2] at hb <;> simp_all [State.carryOut_pending]
@[simp] theorem runUnlisted_pending (t : Nat) (op : Half) (k : CmdPkt) (s : State) : (runUnlisted t op k s).pending = s.pending := by
  unfold runUnlisted; dsimp only; (repeat' split) <;> first | rfl | simp
@[simp] theorem State.gated_pending (s : State) (fn off : Nat) (f : State → State) (h : ∀ a, (f a).pending = a.pending) :
    (s.gated fn off f).pending = s.pending := by
  unfold State.gated State.turnedAway; dsimp only; (repeat' split) <;> simp [h]

/-- A fold keeps what each of its steps keeps: sec. -/
@[simp] theorem fold_sec {β : Type} (f : State → β → State) (h : ∀ a b, (f a b).sec = a.sec) (l : List β) (a : State) :
    (l.foldl f a).sec = a.sec := foldl_proj (fun x : State => x.sec) f h l a
@[simp] theorem CmdRes.ok_sec (s : State) (r : DWord) : (CmdRes.ok s r).st.sec = s.sec := rfl
@[simp] theorem CmdRes.block_sec (s : State) (b : List Byte) : (CmdRes.block s b).st.sec = s.sec := rfl
@[simp] theorem CmdRes.err_sec (s : State) (c : CmdStatus) : (CmdRes.err s c).st.sec = s.sec := rfl
@[simp] theorem CmdRes.refuse_sec (s : State) (n : Nat) : (CmdRes.refuse s n).st.sec = s.sec := rfl
@[simp] theorem State.amend_sec (s : State) : (s.amend).sec = s.sec := by unfold State.amend; simp
@[simp] theorem State.blockCheck_sec (s : State) (i : CmdInfo) (t : Nat) (k : CmdPkt) : (s.blockCheck i t k).1.sec = s.sec := by
  unfold State.blockCheck; dsimp only; (repeat' split) <;> simp
@[simp] theorem State.carryOut_sec (s : State) (i : CmdInfo) (k : CmdPkt) (body : State → List Byte → CmdRes)
    (h : ∀ b p, (body b p).st.sec = b.sec) : (s.carryOut i k body).st.sec = s.sec := by
  unfold State.carryOut; dsimp only; (repeat' split) <;> simp [h]
@[simp] theorem runCmd_sec (i : CmdInfo) (t : Nat) (k : CmdPkt) (body : State → List Byte → CmdRes) (s : State)
    (h : ∀ b p, (body b p).st.sec = b.sec) : (runCmd i t k body s).sec = s.sec := by
  unfold runCmd; dsimp only
  split
  · rfl
  · split
    · simp
    · split
      · simp
      · rename_i e
        have hb := State.blockCheck_sec (s.modCmd t fun c => { c with cons := c.cons + 1 }) i t k
        split <;> rename_i e2 <;> rw [e2] at hb <;> simp_all [State.carryOut_sec]
@[simp] theorem runUnlisted_sec (t : Nat) (op : Half) (k : CmdPkt) (s : State) : (runUnlisted t op k s).sec = s.sec := by
  unfold runUnlisted; dsimp only; (repeat' split) <;> first | rfl | simp
@[simp] theorem State.gated_sec (s : State) (fn off : Nat) (f : State → State) (h : ∀ a, (f a).sec = a.sec) :
    (s.gated fn off f).sec = s.sec := by
  unfold State.gated State.turnedAway; dsimp only; (repeat' split) <;> simp [h]

end Sys2Proof.Machine
end

