-- ==== Sys2Proof/Laws/FamilyFrames.lean ====
section
/-!
SUPPORT. What the operations of the families leave as it was: the queue and the security state.
-/
namespace Sys2Proof.Machine

@[simp] theorem State.wakeLane_pending (s : State) (l : Nat) : (s.wakeLane l).pending = s.pending := by
  unfold State.wakeLane; (repeat' split) <;> first | rfl | simp
@[simp] theorem State.wakeLane_sec (s : State) (l : Nat) : (s.wakeLane l).sec = s.sec := by
  unfold State.wakeLane; (repeat' split) <;> first | rfl | simp
@[simp] theorem State.takeKreq_pending (s : State) (pick : KReq → Bool) : (s.takeKreq pick).1.pending = s.pending := by
  unfold State.takeKreq; (repeat' split) <;> first | rfl | simp
@[simp] theorem State.takeKreq_sec (s : State) (pick : KReq → Bool) : (s.takeKreq pick).1.sec = s.sec := by
  unfold State.takeKreq; (repeat' split) <;> first | rfl | simp
@[simp] theorem State.closeSession_pending (s : State) (t : Nat) : (s.closeSession t).pending = s.pending := by
  unfold State.closeSession; (repeat' split) <;> first | rfl | simp
@[simp] theorem State.closeSession_sec (s : State) (t : Nat) : (s.closeSession t).sec = s.sec := by
  unfold State.closeSession; (repeat' split) <;> first | rfl | simp
@[simp] theorem bodySessionOpen_pending (t : Nat) (s : State) (p : List Byte) : (bodySessionOpen t s p).st.pending = s.pending := by
  unfold bodySessionOpen; (repeat' split) <;> first | rfl | (simp; done) | (simp [apply_ite State.pending, fold_pending]; done) | (dsimp only; (repeat' split) <;> first | rfl | (simp; done) | (simp [apply_ite State.pending, fold_pending]; done))
@[simp] theorem bodySessionOpen_sec (t : Nat) (s : State) (p : List Byte) : (bodySessionOpen t s p).st.sec = s.sec := by
  unfold bodySessionOpen; (repeat' split) <;> first | rfl | (simp; done) | (simp [apply_ite State.sec, fold_sec]; done) | (dsimp only; (repeat' split) <;> first | rfl | (simp; done) | (simp [apply_ite State.sec, fold_sec]; done))
@[simp] theorem bodyLedRead_pending (t : Nat) (s : State) (p : List Byte) : (bodyLedRead t s p).st.pending = s.pending := by
  unfold bodyLedRead; (repeat' split) <;> first | rfl | (simp; done) | (simp [apply_ite State.pending, fold_pending]; done) | (dsimp only; (repeat' split) <;> first | rfl | (simp; done) | (simp [apply_ite State.pending, fold_pending]; done))
@[simp] theorem bodyLedRead_sec (t : Nat) (s : State) (p : List Byte) : (bodyLedRead t s p).st.sec = s.sec := by
  unfold bodyLedRead; (repeat' split) <;> first | rfl | (simp; done) | (simp [apply_ite State.sec, fold_sec]; done) | (dsimp only; (repeat' split) <;> first | rfl | (simp; done) | (simp [apply_ite State.sec, fold_sec]; done))
@[simp] theorem bodySoftReset_pending (s : State) (p : List Byte) : (bodySoftReset s p).st.pending = s.pending := by
  unfold bodySoftReset; (repeat' split) <;> first | rfl | simp
@[simp] theorem bodySoftReset_sec (s : State) (p : List Byte) : (bodySoftReset s p).st.sec = s.sec := by
  unfold bodySoftReset; (repeat' split) <;> first | rfl | simp
@[simp] theorem State.writeEvent_pending (s : State) (t : Nat) : (s.writeEvent t).pending = s.pending := by
  unfold State.writeEvent; (repeat' split) <;> first | rfl | (simp; done) | (simp [apply_ite State.pending, fold_pending]; done) | (dsimp only; (repeat' split) <;> first | rfl | (simp; done) | (simp [apply_ite State.pending, fold_pending]; done))
@[simp] theorem State.writeEvent_sec (s : State) (t : Nat) : (s.writeEvent t).sec = s.sec := by
  unfold State.writeEvent; (repeat' split) <;> first | rfl | (simp; done) | (simp [apply_ite State.sec, fold_sec]; done) | (dsimp only; (repeat' split) <;> first | rfl | (simp; done) | (simp [apply_ite State.sec, fold_sec]; done))
@[simp] theorem State.finishEntry_pending (s : State) (q : Nat) (idx : Half) (st : XStatus) : (s.finishEntry q idx st).pending = s.pending := by
  unfold State.finishEntry; (repeat' split) <;> first | rfl | simp
@[simp] theorem State.finishEntry_sec (s : State) (q : Nat) (idx : Half) (st : XStatus) : (s.finishEntry q idx st).sec = s.sec := by
  unfold State.finishEntry; (repeat' split) <;> first | rfl | simp
@[simp] theorem State.cisUncorrected_pending (s : State) (region : Nat) (addr : BitVec 24) : (s.cisUncorrected region addr).pending = s.pending := by
  unfold State.cisUncorrected; (repeat' split) <;> first | rfl | simp
@[simp] theorem State.cisUncorrected_sec (s : State) (region : Nat) (addr : BitVec 24) : (s.cisUncorrected region addr).sec = s.sec := by
  unfold State.cisUncorrected; (repeat' split) <;> first | rfl | simp
@[simp] theorem State.readBad_pending (s : State) (b : BadWord) : (s.readBad b).pending = s.pending := by
  unfold State.readBad; (repeat' split) <;> first | rfl | simp
@[simp] theorem State.readBad_sec (s : State) (b : BadWord) : (s.readBad b).sec = s.sec := by
  unfold State.readBad; (repeat' split) <;> first | rfl | simp
@[simp] theorem State.readWords_pending (s : State) (region who : Nat) : (s.readWords region who).1.pending = s.pending := by
  unfold State.readWords; (repeat' split) <;> first | rfl | (simp; done) | (simp [apply_ite State.pending, fold_pending]; done) | (dsimp only; (repeat' split) <;> first | rfl | (simp; done) | (simp [apply_ite State.pending, fold_pending]; done))
@[simp] theorem State.readWords_sec (s : State) (region who : Nat) : (s.readWords region who).1.sec = s.sec := by
  unfold State.readWords; (repeat' split) <;> first | rfl | (simp; done) | (simp [apply_ite State.sec, fold_sec]; done) | (dsimp only; (repeat' split) <;> first | rfl | (simp; done) | (simp [apply_ite State.sec, fold_sec]; done))
@[simp] theorem State.writeWords_pending (s : State) (region who : Nat) : (s.writeWords region who).pending = s.pending := by
  unfold State.writeWords; (repeat' split) <;> first | rfl | simp
@[simp] theorem State.writeWords_sec (s : State) (region who : Nat) : (s.writeWords region who).sec = s.sec := by
  unfold State.writeWords; (repeat' split) <;> first | rfl | simp
@[simp] theorem State.qpFault_pending (s : State) (q kind : Nat) : (s.qpFault q kind).pending = s.pending := by
  unfold State.qpFault; (repeat' split) <;> first | rfl | (simp; done) | (simp [apply_ite State.pending, fold_pending]; done) | (dsimp only; (repeat' split) <;> first | rfl | (simp; done) | (simp [apply_ite State.pending, fold_pending]; done))
@[simp] theorem State.qpFault_sec (s : State) (q kind : Nat) : (s.qpFault q kind).sec = s.sec := by
  unfold State.qpFault; (repeat' split) <;> first | rfl | (simp; done) | (simp [apply_ite State.sec, fold_sec]; done) | (dsimp only; (repeat' split) <;> first | rfl | (simp; done) | (simp [apply_ite State.sec, fold_sec]; done))
@[simp] theorem State.scrubs_pending (s : State) (t bytes : Nat) : (s.scrubs t bytes).pending = s.pending := by
  unfold State.scrubs; (repeat' split) <;> first | rfl | simp
@[simp] theorem State.scrubs_sec (s : State) (t bytes : Nat) : (s.scrubs t bytes).sec = s.sec := by
  unfold State.scrubs; (repeat' split) <;> first | rfl | simp
@[simp] theorem State.writesLeave_pending (s : State) : (s.writesLeave).pending = s.pending := by
  unfold State.writesLeave; exact foldl_proj (fun x : State => x.pending) _ (by intros; (repeat' split) <;> first | rfl | (simp; done) | (simp [apply_ite State.pending, fold_pending]; done)) _ _
@[simp] theorem State.writesLeave_sec (s : State) : (s.writesLeave).sec = s.sec := by
  unfold State.writesLeave; exact foldl_proj (fun x : State => x.sec) _ (by intros; (repeat' split) <;> first | rfl | (simp; done) | (simp [apply_ite State.sec, fold_sec]; done)) _ _
@[simp] theorem State.issueWrite_pending (s : State) (what : ReqWhat) (t : Nat) (addr : DWord) (data : List Byte) : (s.issueWrite what t addr data).pending = s.pending := by
  unfold State.issueWrite; (repeat' split) <;> first | rfl | simp
@[simp] theorem State.issueWrite_sec (s : State) (what : ReqWhat) (t : Nat) (addr : DWord) (data : List Byte) : (s.issueWrite what t addr data).sec = s.sec := by
  unfold State.issueWrite; (repeat' split) <;> first | rfl | simp
@[simp] theorem State.modMessage_pending (s : State) (q : Nat) : (s.modMessage q).pending = s.pending := by
  unfold State.modMessage; (repeat' split) <;> first | rfl | (simp; done) | (simp [apply_ite State.pending, fold_pending]; done) | (dsimp only; (repeat' split) <;> first | rfl | (simp; done) | (simp [apply_ite State.pending, fold_pending]; done))
@[simp] theorem State.modMessage_sec (s : State) (q : Nat) : (s.modMessage q).sec = s.sec := by
  unfold State.modMessage; (repeat' split) <;> first | rfl | (simp; done) | (simp [apply_ite State.sec, fold_sec]; done) | (dsimp only; (repeat' split) <;> first | rfl | (simp; done) | (simp [apply_ite State.sec, fold_sec]; done))
@[simp] theorem State.moderate_pending (s : State) (q k : Nat) : (s.moderate q k).pending = s.pending := by
  unfold State.moderate; (repeat' split) <;> first | rfl | (simp; done) | (simp [apply_ite State.pending, fold_pending]; done) | (dsimp only; (repeat' split) <;> first | rfl | (simp; done) | (simp [apply_ite State.pending, fold_pending]; done))
@[simp] theorem State.moderate_sec (s : State) (q k : Nat) : (s.moderate q k).sec = s.sec := by
  unfold State.moderate; (repeat' split) <;> first | rfl | (simp; done) | (simp [apply_ite State.sec, fold_sec]; done) | (dsimp only; (repeat' split) <;> first | rfl | (simp; done) | (simp [apply_ite State.sec, fold_sec]; done))
@[simp] theorem State.publishHead_pending (s : State) (q k : Nat) : (s.publishHead q k).pending = s.pending := by
  unfold State.publishHead; (repeat' split) <;> first | rfl | (simp; done) | (simp [apply_ite State.pending, fold_pending]; done) | (dsimp only; (repeat' split) <;> first | rfl | (simp; done) | (simp [apply_ite State.pending, fold_pending]; done))
@[simp] theorem State.publishHead_sec (s : State) (q k : Nat) : (s.publishHead q k).sec = s.sec := by
  unfold State.publishHead; (repeat' split) <;> first | rfl | (simp; done) | (simp [apply_ite State.sec, fold_sec]; done) | (dsimp only; (repeat' split) <;> first | rfl | (simp; done) | (simp [apply_ite State.sec, fold_sec]; done))
@[simp] theorem State.putCompletion_pending (s : State) (q : Nat) (rec : List Byte) : (s.putCompletion q rec).pending = s.pending := by
  unfold State.putCompletion; (repeat' split) <;> first | rfl | (simp; done) | (simp [apply_ite State.pending, fold_pending]; done) | (dsimp only; (repeat' split) <;> first | rfl | (simp; done) | (simp [apply_ite State.pending, fold_pending]; done))
@[simp] theorem State.putCompletion_sec (s : State) (q : Nat) (rec : List Byte) : (s.putCompletion q rec).sec = s.sec := by
  unfold State.putCompletion; (repeat' split) <;> first | rfl | (simp; done) | (simp [apply_ite State.sec, fold_sec]; done) | (dsimp only; (repeat' split) <;> first | rfl | (simp; done) | (simp [apply_ite State.sec, fold_sec]; done))
@[simp] theorem State.enterDisabled_pending (s : State) (q : Nat) : (s.enterDisabled q).pending = s.pending := by
  unfold State.enterDisabled; (repeat' split) <;> first | rfl | (simp; done) | (simp [apply_ite State.pending, fold_pending]; done) | (dsimp only; (repeat' split) <;> first | rfl | (simp; done) | (simp [apply_ite State.pending, fold_pending]; done))
@[simp] theorem State.enterDisabled_sec (s : State) (q : Nat) : (s.enterDisabled q).sec = s.sec := by
  unfold State.enterDisabled; (repeat' split) <;> first | rfl | (simp; done) | (simp [apply_ite State.sec, fold_sec]; done) | (dsimp only; (repeat' split) <;> first | rfl | (simp; done) | (simp [apply_ite State.sec, fold_sec]; done))
@[simp] theorem State.drainCheck_pending (s : State) (q : Nat) : (s.drainCheck q).pending = s.pending := by
  unfold State.drainCheck; (repeat' split) <;> first | rfl | (simp; done) | (simp [apply_ite State.pending, fold_pending]; done) | (dsimp only; (repeat' split) <;> first | rfl | (simp; done) | (simp [apply_ite State.pending, fold_pending]; done))
@[simp] theorem State.drainCheck_sec (s : State) (q : Nat) : (s.drainCheck q).sec = s.sec := by
  unfold State.drainCheck; (repeat' split) <;> first | rfl | (simp; done) | (simp [apply_ite State.sec, fold_sec]; done) | (dsimp only; (repeat' split) <;> first | rfl | (simp; done) | (simp [apply_ite State.sec, fold_sec]; done))
@[simp] theorem State.abortEntries_pending (s : State) (q : Nat) : (s.abortEntries q).pending = s.pending := by
  unfold State.abortEntries; (repeat' split) <;> first | rfl | simp
@[simp] theorem State.abortEntries_sec (s : State) (q : Nat) : (s.abortEntries q).sec = s.sec := by
  unfold State.abortEntries; (repeat' split) <;> first | rfl | simp
@[simp] theorem State.qpHalt_pending (s : State) (q cause addr : Nat) : (s.qpHalt q cause addr).pending = s.pending := by
  unfold State.qpHalt; (repeat' split) <;> first | rfl | (simp; done) | (simp [apply_ite State.pending, fold_pending]; done) | (dsimp only; (repeat' split) <;> first | rfl | (simp; done) | (simp [apply_ite State.pending, fold_pending]; done))
@[simp] theorem State.qpHalt_sec (s : State) (q cause addr : Nat) : (s.qpHalt q cause addr).sec = s.sec := by
  unfold State.qpHalt; (repeat' split) <;> first | rfl | (simp; done) | (simp [apply_ite State.sec, fold_sec]; done) | (dsimp only; (repeat' split) <;> first | rfl | (simp; done) | (simp [apply_ite State.sec, fold_sec]; done))
@[simp] theorem State.commitElems_pending (s : State) (e : Entry) : (s.commitElems e).pending = s.pending := by
  unfold State.commitElems; (repeat' split) <;> first | rfl | simp
@[simp] theorem State.commitElems_sec (s : State) (e : Entry) : (s.commitElems e).sec = s.sec := by
  unfold State.commitElems; (repeat' split) <;> first | rfl | simp
@[simp] theorem State.rewindSlot_pending (s : State) (q ch slot : Nat) (p : Prog) : (s.rewindSlot q ch slot p).pending = s.pending := by
  unfold State.rewindSlot; (repeat' split) <;> first | rfl | simp
@[simp] theorem State.rewindSlot_sec (s : State) (q ch slot : Nat) (p : Prog) : (s.rewindSlot q ch slot p).sec = s.sec := by
  unfold State.rewindSlot; (repeat' split) <;> first | rfl | simp
@[simp] theorem State.rewind_pending (s : State) (q : Nat) : (s.rewind q).pending = s.pending := by
  unfold State.rewind; (repeat' split) <;> first | rfl | (simp; done) | (simp [apply_ite State.pending, fold_pending]; done) | (dsimp only; (repeat' split) <;> first | rfl | (simp; done) | (simp [apply_ite State.pending, fold_pending]; done))
@[simp] theorem State.rewind_sec (s : State) (q : Nat) : (s.rewind q).sec = s.sec := by
  unfold State.rewind; (repeat' split) <;> first | rfl | (simp; done) | (simp [apply_ite State.sec, fold_sec]; done) | (dsimp only; (repeat' split) <;> first | rfl | (simp; done) | (simp [apply_ite State.sec, fold_sec]; done))
@[simp] theorem State.dropStarts_pending (s : State) (q : Nat) (idx : Half) : (s.dropStarts q idx).pending = s.pending := by
  unfold State.dropStarts; (repeat' split) <;> first | rfl | simp
@[simp] theorem State.dropStarts_sec (s : State) (q : Nat) (idx : Half) : (s.dropStarts q idx).sec = s.sec := by
  unfold State.dropStarts; (repeat' split) <;> first | rfl | simp
@[simp] theorem State.completeFront_pending (s : State) (q : Nat) : (s.completeFront q).pending = s.pending := by
  unfold State.completeFront; (repeat' split) <;> first | rfl | (simp; done) | (simp [apply_ite State.pending, fold_pending]; done) | (dsimp only; (repeat' split) <;> first | rfl | (simp; done) | (simp [apply_ite State.pending, fold_pending]; done))
@[simp] theorem State.completeFront_sec (s : State) (q : Nat) : (s.completeFront q).sec = s.sec := by
  unfold State.completeFront; (repeat' split) <;> first | rfl | (simp; done) | (simp [apply_ite State.sec, fold_sec]; done) | (dsimp only; (repeat' split) <;> first | rfl | (simp; done) | (simp [apply_ite State.sec, fold_sec]; done))
@[simp] theorem State.drainHolding_pending (s : State) (q : Nat) : (s.drainHolding q).pending = s.pending := by
  unfold State.drainHolding; (repeat' split) <;> first | rfl | (simp; done) | (simp [apply_ite State.pending, fold_pending]; done) | (dsimp only; (repeat' split) <;> first | rfl | (simp; done) | (simp [apply_ite State.pending, fold_pending]; done))
@[simp] theorem State.drainHolding_sec (s : State) (q : Nat) : (s.drainHolding q).sec = s.sec := by
  unfold State.drainHolding; (repeat' split) <;> first | rfl | (simp; done) | (simp [apply_ite State.sec, fold_sec]; done) | (dsimp only; (repeat' split) <;> first | rfl | (simp; done) | (simp [apply_ite State.sec, fold_sec]; done))
@[simp] theorem State.closeEps_pending (s : State) (pick : Ep → Bool) : (s.closeEps pick).pending = s.pending := by
  unfold State.closeEps; (repeat' split) <;> first | rfl | simp
@[simp] theorem State.closeEps_sec (s : State) (pick : Ep → Bool) : (s.closeEps pick).sec = s.sec := by
  unfold State.closeEps; (repeat' split) <;> first | rfl | simp
@[simp] theorem State.sweepEps_pending (s : State) : (s.sweepEps).pending = s.pending := by
  unfold State.sweepEps; (repeat' split) <;> first | rfl | simp
@[simp] theorem State.sweepEps_sec (s : State) : (s.sweepEps).sec = s.sec := by
  unfold State.sweepEps; (repeat' split) <;> first | rfl | simp
@[simp] theorem State.sqDoorbell_pending (s : State) (q : Nat) (v : Half) : (s.sqDoorbell q v).pending = s.pending := by
  unfold State.sqDoorbell; (repeat' split) <;> first | rfl | (simp; done) | (simp [apply_ite State.pending, fold_pending]; done) | (dsimp only; (repeat' split) <;> first | rfl | (simp; done) | (simp [apply_ite State.pending, fold_pending]; done))
@[simp] theorem State.sqDoorbell_sec (s : State) (q : Nat) (v : Half) : (s.sqDoorbell q v).sec = s.sec := by
  unfold State.sqDoorbell; (repeat' split) <;> first | rfl | (simp; done) | (simp [apply_ite State.sec, fold_sec]; done) | (dsimp only; (repeat' split) <;> first | rfl | (simp; done) | (simp [apply_ite State.sec, fold_sec]; done))
@[simp] theorem State.cqDoorbell_pending (s : State) (q : Nat) (v : Half) : (s.cqDoorbell q v).pending = s.pending := by
  unfold State.cqDoorbell; (repeat' split) <;> first | rfl | (simp; done) | (simp [apply_ite State.pending, fold_pending]; done) | (dsimp only; (repeat' split) <;> first | rfl | (simp; done) | (simp [apply_ite State.pending, fold_pending]; done))
@[simp] theorem State.cqDoorbell_sec (s : State) (q : Nat) (v : Half) : (s.cqDoorbell q v).sec = s.sec := by
  unfold State.cqDoorbell; (repeat' split) <;> first | rfl | (simp; done) | (simp [apply_ite State.sec, fold_sec]; done) | (dsimp only; (repeat' split) <;> first | rfl | (simp; done) | (simp [apply_ite State.sec, fold_sec]; done))
@[simp] theorem bodyQpConfigure_pending (t : Nat) (s : State) (p : List Byte) : (bodyQpConfigure t s p).st.pending = s.pending := by
  unfold bodyQpConfigure; (repeat' split) <;> first | rfl | (simp; done) | (simp [apply_ite State.pending, fold_pending]; done) | (dsimp only; (repeat' split) <;> first | rfl | (simp; done) | (simp [apply_ite State.pending, fold_pending]; done))
@[simp] theorem bodyQpConfigure_sec (t : Nat) (s : State) (p : List Byte) : (bodyQpConfigure t s p).st.sec = s.sec := by
  unfold bodyQpConfigure; (repeat' split) <;> first | rfl | (simp; done) | (simp [apply_ite State.sec, fold_sec]; done) | (dsimp only; (repeat' split) <;> first | rfl | (simp; done) | (simp [apply_ite State.sec, fold_sec]; done))
@[simp] theorem State.qpStart_pending (s : State) (q : Nat) : (s.qpStart q).pending = s.pending := by
  unfold State.qpStart; (repeat' split) <;> first | rfl | simp
@[simp] theorem State.qpStart_sec (s : State) (q : Nat) : (s.qpStart q).sec = s.sec := by
  unfold State.qpStart; (repeat' split) <;> first | rfl | simp
@[simp] theorem bodyQpEnable_pending (t : Nat) (s : State) (p : List Byte) : (bodyQpEnable t s p).st.pending = s.pending := by
  unfold bodyQpEnable; (repeat' split) <;> first | rfl | (simp; done) | (simp [apply_ite State.pending, fold_pending]; done) | (dsimp only; (repeat' split) <;> first | rfl | (simp; done) | (simp [apply_ite State.pending, fold_pending]; done))
@[simp] theorem bodyQpEnable_sec (t : Nat) (s : State) (p : List Byte) : (bodyQpEnable t s p).st.sec = s.sec := by
  unfold bodyQpEnable; (repeat' split) <;> first | rfl | (simp; done) | (simp [apply_ite State.sec, fold_sec]; done) | (dsimp only; (repeat' split) <;> first | rfl | (simp; done) | (simp [apply_ite State.sec, fold_sec]; done))
@[simp] theorem bodyQpDisable_pending (t : Nat) (s : State) (p : List Byte) : (bodyQpDisable t s p).st.pending = s.pending := by
  unfold bodyQpDisable; (repeat' split) <;> first | rfl | (simp; done) | (simp [apply_ite State.pending, fold_pending]; done) | (dsimp only; (repeat' split) <;> first | rfl | (simp; done) | (simp [apply_ite State.pending, fold_pending]; done))
@[simp] theorem bodyQpDisable_sec (t : Nat) (s : State) (p : List Byte) : (bodyQpDisable t s p).st.sec = s.sec := by
  unfold bodyQpDisable; (repeat' split) <;> first | rfl | (simp; done) | (simp [apply_ite State.sec, fold_sec]; done) | (dsimp only; (repeat' split) <;> first | rfl | (simp; done) | (simp [apply_ite State.sec, fold_sec]; done))
@[simp] theorem bodyQpQuery_pending (t : Nat) (s : State) (p : List Byte) : (bodyQpQuery t s p).st.pending = s.pending := by
  unfold bodyQpQuery; (repeat' split) <;> first | rfl | (simp; done) | (simp [apply_ite State.pending, fold_pending]; done) | (dsimp only; (repeat' split) <;> first | rfl | (simp; done) | (simp [apply_ite State.pending, fold_pending]; done))
@[simp] theorem bodyQpQuery_sec (t : Nat) (s : State) (p : List Byte) : (bodyQpQuery t s p).st.sec = s.sec := by
  unfold bodyQpQuery; (repeat' split) <;> first | rfl | (simp; done) | (simp [apply_ite State.sec, fold_sec]; done) | (dsimp only; (repeat' split) <;> first | rfl | (simp; done) | (simp [apply_ite State.sec, fold_sec]; done))
@[simp] theorem State.almRegs_pending (s : State) : (s.almRegs).pending = s.pending := by
  unfold State.almRegs; (repeat' split) <;> first | rfl | simp
@[simp] theorem State.almRegs_sec (s : State) : (s.almRegs).sec = s.sec := by
  unfold State.almRegs; (repeat' split) <;> first | rfl | simp
@[simp] theorem State.periodicRes_pending (s : State) : (s.periodicRes).pending = s.pending := by
  unfold State.periodicRes; exact foldl_proj (fun x : State => x.pending) _ (by intros; (repeat' split) <;> first | rfl | (simp; done) | (simp [apply_ite State.pending, fold_pending]; done)) _ _
@[simp] theorem State.periodicRes_sec (s : State) : (s.periodicRes).sec = s.sec := by
  unfold State.periodicRes; exact foldl_proj (fun x : State => x.sec) _ (by intros; (repeat' split) <;> first | rfl | (simp; done) | (simp [apply_ite State.sec, fold_sec]; done)) _ _
@[simp] theorem State.acceptChange_pending (s : State) (cs : List Contract) (floor : Nat) : (s.acceptChange cs floor).pending = s.pending := by
  unfold State.acceptChange; (repeat' split) <;> first | rfl | simp
@[simp] theorem State.acceptChange_sec (s : State) (cs : List Contract) (floor : Nat) : (s.acceptChange cs floor).sec = s.sec := by
  unfold State.acceptChange; (repeat' split) <;> first | rfl | simp
@[simp] theorem State.unbind_pending (s : State) (q : Nat) : (s.unbind q).pending = s.pending := by
  unfold State.unbind; (repeat' split) <;> first | rfl | simp
@[simp] theorem State.unbind_sec (s : State) (q : Nat) : (s.unbind q).sec = s.sec := by
  unfold State.unbind; (repeat' split) <;> first | rfl | simp
@[simp] theorem State.endContract_pending (s : State) (new : List Contract) (c : Contract) : (s.endContract new c).pending = s.pending := by
  unfold State.endContract; (repeat' split) <;> first | rfl | simp
@[simp] theorem State.endContract_sec (s : State) (new : List Contract) (c : Contract) : (s.endContract new c).sec = s.sec := by
  unfold State.endContract; (repeat' split) <;> first | rfl | simp
@[simp] theorem State.bind_pending (s : State) (cs : List Contract) : (s.bind cs).pending = s.pending := by
  unfold State.bind; exact foldl_proj (fun x : State => x.pending) _ (by intros; (repeat' split) <;> first | rfl | (simp; done) | (simp [apply_ite State.pending, fold_pending]; done)) _ _
@[simp] theorem State.bind_sec (s : State) (cs : List Contract) : (s.bind cs).sec = s.sec := by
  unfold State.bind; exact foldl_proj (fun x : State => x.sec) _ (by intros; (repeat' split) <;> first | rfl | (simp; done) | (simp [apply_ite State.sec, fold_sec]; done)) _ _
@[simp] theorem State.switchAlmanac_pending (s : State) (ch : AlmChange) (rest : List AlmChange) : (s.switchAlmanac ch rest).pending = s.pending := by
  unfold State.switchAlmanac; (repeat' split) <;> first | rfl | simp
@[simp] theorem State.switchAlmanac_sec (s : State) (ch : AlmChange) (rest : List AlmChange) : (s.switchAlmanac ch rest).sec = s.sec := by
  unfold State.switchAlmanac; (repeat' split) <;> first | rfl | simp
@[simp] theorem State.conChange_pending (s : State) (t : Nat) (b : List Byte) (closing : Option Nat) : (s.conChange t b closing).st.pending = s.pending := by
  unfold State.conChange; (repeat' split) <;> first | rfl | (simp; done) | (simp [apply_ite State.pending, fold_pending]; done) | (dsimp only; (repeat' split) <;> first | rfl | (simp; done) | (simp [apply_ite State.pending, fold_pending]; done))
@[simp] theorem State.conChange_sec (s : State) (t : Nat) (b : List Byte) (closing : Option Nat) : (s.conChange t b closing).st.sec = s.sec := by
  unfold State.conChange; (repeat' split) <;> first | rfl | (simp; done) | (simp [apply_ite State.sec, fold_sec]; done) | (dsimp only; (repeat' split) <;> first | rfl | (simp; done) | (simp [apply_ite State.sec, fold_sec]; done))
theorem State.conTurn_pending (s : State) (run : State → State) (h : ∀ a, (run a).pending = a.pending) : (s.conTurn run).pending = s.pending := by
  unfold State.conTurn; dsimp only; split
  · rfl
  · exact h s
theorem State.conTurn_sec (s : State) (run : State → State) (h : ∀ a, (run a).sec = a.sec) : (s.conTurn run).sec = s.sec := by
  unfold State.conTurn; dsimp only; split
  · rfl
  · exact h s
@[simp] theorem bodyConClose_pending (t : Nat) (s : State) (p : List Byte) : (bodyConClose t s p).st.pending = s.pending := by
  unfold bodyConClose; (repeat' split) <;> first | rfl | (simp; done) | (simp [apply_ite State.pending, fold_pending]; done) | (dsimp only; (repeat' split) <;> first | rfl | (simp; done) | (simp [apply_ite State.pending, fold_pending]; done))
@[simp] theorem bodyConClose_sec (t : Nat) (s : State) (p : List Byte) : (bodyConClose t s p).st.sec = s.sec := by
  unfold bodyConClose; (repeat' split) <;> first | rfl | (simp; done) | (simp [apply_ite State.sec, fold_sec]; done) | (dsimp only; (repeat' split) <;> first | rfl | (simp; done) | (simp [apply_ite State.sec, fold_sec]; done))
@[simp] theorem bodyConReplace_pending (t : Nat) (s : State) (p : List Byte) : (bodyConReplace t s p).st.pending = s.pending := by
  unfold bodyConReplace; (repeat' split) <;> first | rfl | simp
@[simp] theorem bodyConReplace_sec (t : Nat) (s : State) (p : List Byte) : (bodyConReplace t s p).st.sec = s.sec := by
  unfold bodyConReplace; (repeat' split) <;> first | rfl | simp
@[simp] theorem bodyConQuery_pending (t : Nat) (s : State) (p : List Byte) : (bodyConQuery t s p).st.pending = s.pending := by
  unfold bodyConQuery; (repeat' split) <;> first | rfl | simp
@[simp] theorem bodyConQuery_sec (t : Nat) (s : State) (p : List Byte) : (bodyConQuery t s p).st.sec = s.sec := by
  unfold bodyConQuery; (repeat' split) <;> first | rfl | simp
@[simp] theorem bodyWeirQuota_pending (s : State) (p : List Byte) : (bodyWeirQuota s p).st.pending = s.pending := by
  unfold bodyWeirQuota; (repeat' split) <;> first | rfl | (simp; done) | (simp [apply_ite State.pending, fold_pending]; done) | (dsimp only; (repeat' split) <;> first | rfl | (simp; done) | (simp [apply_ite State.pending, fold_pending]; done))
@[simp] theorem bodyWeirQuota_sec (s : State) (p : List Byte) : (bodyWeirQuota s p).st.sec = s.sec := by
  unfold bodyWeirQuota; (repeat' split) <;> first | rfl | (simp; done) | (simp [apply_ite State.sec, fold_sec]; done) | (dsimp only; (repeat' split) <;> first | rfl | (simp; done) | (simp [apply_ite State.sec, fold_sec]; done))
@[simp] theorem bodyWeirMode_pending (s : State) (p : List Byte) : (bodyWeirMode s p).st.pending = s.pending := by
  unfold bodyWeirMode; (repeat' split) <;> first | rfl | (simp; done) | (simp [apply_ite State.pending, fold_pending]; done) | (dsimp only; (repeat' split) <;> first | rfl | (simp; done) | (simp [apply_ite State.pending, fold_pending]; done))
@[simp] theorem bodyWeirMode_sec (s : State) (p : List Byte) : (bodyWeirMode s p).st.sec = s.sec := by
  unfold bodyWeirMode; (repeat' split) <;> first | rfl | (simp; done) | (simp [apply_ite State.sec, fold_sec]; done) | (dsimp only; (repeat' split) <;> first | rfl | (simp; done) | (simp [apply_ite State.sec, fold_sec]; done))
@[simp] theorem State.weirDue_pending (s : State) : (s.weirDue).pending = s.pending := by
  unfold State.weirDue; simp only []; repeat (first | rfl | (simp [apply_ite State.pending, fold_pending]; done) | split | (rw [fold_pending _ (by intros; (repeat' split) <;> first | rfl | (simp [apply_ite State.pending, fold_pending]; done))]))
@[simp] theorem State.weirDue_sec (s : State) : (s.weirDue).sec = s.sec := by
  unfold State.weirDue; simp only []; repeat (first | rfl | (simp [apply_ite State.sec, fold_sec]; done) | split | (rw [fold_sec _ (by intros; (repeat' split) <;> first | rfl | (simp [apply_ite State.sec, fold_sec]; done))]))
@[simp] theorem bodyAlmanacDump_pending (s : State) (p : List Byte) : (bodyAlmanacDump s p).st.pending = s.pending := by
  unfold bodyAlmanacDump; (repeat' split) <;> first | rfl | (simp; done) | (simp [apply_ite State.pending, fold_pending]; done) | (dsimp only; (repeat' split) <;> first | rfl | (simp; done) | (simp [apply_ite State.pending, fold_pending]; done))
@[simp] theorem bodyAlmanacDump_sec (s : State) (p : List Byte) : (bodyAlmanacDump s p).st.sec = s.sec := by
  unfold bodyAlmanacDump; (repeat' split) <;> first | rfl | (simp; done) | (simp [apply_ite State.sec, fold_sec]; done) | (dsimp only; (repeat' split) <;> first | rfl | (simp; done) | (simp [apply_ite State.sec, fold_sec]; done))
@[simp] theorem State.putPars_pending (s : State) (ws : List Word) : (s.putPars ws).pending = s.pending := by
  unfold State.putPars; (repeat' split) <;> first | rfl | (simp; done) | (simp [apply_ite State.pending, fold_pending]; done) | (dsimp only; (repeat' split) <;> first | rfl | (simp; done) | (simp [apply_ite State.pending, fold_pending]; done))
@[simp] theorem State.putPars_sec (s : State) (ws : List Word) : (s.putPars ws).sec = s.sec := by
  unfold State.putPars; (repeat' split) <;> first | rfl | (simp; done) | (simp [apply_ite State.sec, fold_sec]; done) | (dsimp only; (repeat' split) <;> first | rfl | (simp; done) | (simp [apply_ite State.sec, fold_sec]; done))
@[simp] theorem State.parsDue_pending (s : State) (frame : Word) : (s.parsDue frame).pending = s.pending := by
  unfold State.parsDue; (repeat' split) <;> first | rfl | simp
@[simp] theorem State.parsDue_sec (s : State) (frame : Word) : (s.parsDue frame).sec = s.sec := by
  unfold State.parsDue; (repeat' split) <;> first | rfl | simp
@[simp] theorem State.mrcReport_pending (s : State) : (s.mrcReport).pending = s.pending := by
  unfold State.mrcReport; (repeat' split) <;> first | rfl | (simp; done) | (simp [apply_ite State.pending, fold_pending]; done) | (dsimp only; (repeat' split) <;> first | rfl | (simp; done) | (simp [apply_ite State.pending, fold_pending]; done))
@[simp] theorem State.mrcReport_sec (s : State) : (s.mrcReport).sec = s.sec := by
  unfold State.mrcReport; (repeat' split) <;> first | rfl | (simp; done) | (simp [apply_ite State.sec, fold_sec]; done) | (dsimp only; (repeat' split) <;> first | rfl | (simp; done) | (simp [apply_ite State.sec, fold_sec]; done))
@[simp] theorem State.mrcFrame_pending (s : State) (ticks : Nat) : (s.mrcFrame ticks).pending = s.pending := by
  unfold State.mrcFrame; (repeat' split) <;> first | rfl | (simp; done) | (simp [apply_ite State.pending, fold_pending]; done) | (dsimp only; (repeat' split) <;> first | rfl | (simp; done) | (simp [apply_ite State.pending, fold_pending]; done))
@[simp] theorem State.mrcFrame_sec (s : State) (ticks : Nat) : (s.mrcFrame ticks).sec = s.sec := by
  unfold State.mrcFrame; (repeat' split) <;> first | rfl | (simp; done) | (simp [apply_ite State.sec, fold_sec]; done) | (dsimp only; (repeat' split) <;> first | rfl | (simp; done) | (simp [apply_ite State.sec, fold_sec]; done))
@[simp] theorem State.mrcStart_pending (s : State) : (s.mrcStart).pending = s.pending := by
  unfold State.mrcStart; (repeat' split) <;> first | rfl | simp
@[simp] theorem State.mrcStart_sec (s : State) : (s.mrcStart).sec = s.sec := by
  unfold State.mrcStart; (repeat' split) <;> first | rfl | simp
@[simp] theorem State.loadRefused_pending (s : State) (ch : Nat) : (s.loadRefused ch).pending = s.pending := by
  unfold State.loadRefused; (repeat' split) <;> first | rfl | simp
@[simp] theorem State.loadRefused_sec (s : State) (ch : Nat) : (s.loadRefused ch).sec = s.sec := by
  unfold State.loadRefused; (repeat' split) <;> first | rfl | simp
@[simp] theorem State.dmaLoad_pending (s : State) (fn : Nat) : (s.dmaLoad fn).pending = s.pending := by
  unfold State.dmaLoad; (repeat' split) <;> first | rfl | (simp; done) | (simp [apply_ite State.pending, fold_pending]; done) | (dsimp only; (repeat' split) <;> first | rfl | (simp; done) | (simp [apply_ite State.pending, fold_pending]; done))
@[simp] theorem State.dmaLoad_sec (s : State) (fn : Nat) : (s.dmaLoad fn).sec = s.sec := by
  unfold State.dmaLoad; (repeat' split) <;> first | rfl | (simp; done) | (simp [apply_ite State.sec, fold_sec]; done) | (dsimp only; (repeat' split) <;> first | rfl | (simp; done) | (simp [apply_ite State.sec, fold_sec]; done))
@[simp] theorem State.dmaUnload_pending (s : State) (fn : Nat) : (s.dmaUnload fn).pending = s.pending := by
  unfold State.dmaUnload; (repeat' split) <;> first | rfl | (simp; done) | (simp [apply_ite State.pending, fold_pending]; done) | (dsimp only; (repeat' split) <;> first | rfl | (simp; done) | (simp [apply_ite State.pending, fold_pending]; done))
@[simp] theorem State.dmaUnload_sec (s : State) (fn : Nat) : (s.dmaUnload fn).sec = s.sec := by
  unfold State.dmaUnload; (repeat' split) <;> first | rfl | (simp; done) | (simp [apply_ite State.sec, fold_sec]; done) | (dsimp only; (repeat' split) <;> first | rfl | (simp; done) | (simp [apply_ite State.sec, fold_sec]; done))
@[simp] theorem State.dmaPause_pending (s : State) (ch : Nat) : (s.dmaPause ch).pending = s.pending := by
  unfold State.dmaPause; (repeat' split) <;> first | rfl | simp
@[simp] theorem State.dmaPause_sec (s : State) (ch : Nat) : (s.dmaPause ch).sec = s.sec := by
  unfold State.dmaPause; (repeat' split) <;> first | rfl | simp
@[simp] theorem State.dmaResume_pending (s : State) (ch : Nat) : (s.dmaResume ch).pending = s.pending := by
  unfold State.dmaResume; (repeat' split) <;> first | rfl | simp
@[simp] theorem State.dmaResume_sec (s : State) (ch : Nat) : (s.dmaResume ch).sec = s.sec := by
  unfold State.dmaResume; (repeat' split) <;> first | rfl | simp
@[simp] theorem State.dmaClear_pending (s : State) (ch : Nat) : (s.dmaClear ch).pending = s.pending := by
  unfold State.dmaClear; (repeat' split) <;> first | rfl | simp
@[simp] theorem State.dmaClear_sec (s : State) (ch : Nat) : (s.dmaClear ch).sec = s.sec := by
  unfold State.dmaClear; (repeat' split) <;> first | rfl | simp
@[simp] theorem State.dmaCtrl_pending (s : State) (fn : Nat) (v : Word) : (s.dmaCtrl fn v).pending = s.pending := by
  unfold State.dmaCtrl; (repeat' split) <;> first | rfl | (simp; done) | (simp [apply_ite State.pending, fold_pending]; done) | (dsimp only; (repeat' split) <;> first | rfl | (simp; done) | (simp [apply_ite State.pending, fold_pending]; done))
@[simp] theorem State.dmaCtrl_sec (s : State) (fn : Nat) (v : Word) : (s.dmaCtrl fn v).sec = s.sec := by
  unfold State.dmaCtrl; (repeat' split) <;> first | rfl | (simp; done) | (simp [apply_ite State.sec, fold_sec]; done) | (dsimp only; (repeat' split) <;> first | rfl | (simp; done) | (simp [apply_ite State.sec, fold_sec]; done))
@[simp] theorem State.programFetched_pending (s : State) (ch slot : Nat) (b : List Byte) : (s.programFetched ch slot b).pending = s.pending := by
  unfold State.programFetched; (repeat' split) <;> first | rfl | (simp; done) | (simp [apply_ite State.pending, fold_pending]; done) | (dsimp only; (repeat' split) <;> first | rfl | (simp; done) | (simp [apply_ite State.pending, fold_pending]; done))
@[simp] theorem State.programFetched_sec (s : State) (ch slot : Nat) (b : List Byte) : (s.programFetched ch slot b).sec = s.sec := by
  unfold State.programFetched; (repeat' split) <;> first | rfl | (simp; done) | (simp [apply_ite State.sec, fold_sec]; done) | (dsimp only; (repeat' split) <;> first | rfl | (simp; done) | (simp [apply_ite State.sec, fold_sec]; done))
@[simp] theorem State.fnErr_pending (s : State) (t : Nat) (addr : DWord) (write : Bool) (kind what : Nat) : (s.fnErr t addr write kind what).pending = s.pending := by
  unfold State.fnErr; (repeat' split) <;> first | rfl | simp
@[simp] theorem State.fnErr_sec (s : State) (t : Nat) (addr : DWord) (write : Bool) (kind what : Nat) : (s.fnErr t addr write kind what).sec = s.sec := by
  unfold State.fnErr; (repeat' split) <;> first | rfl | simp
@[simp] theorem State.chanHalt_pending (s : State) (ch kind : Nat) (write after : Bool) (addr : DWord) (fail : Option (Nat × Half)) : (s.chanHalt ch kind write after addr fail).pending = s.pending := by
  unfold State.chanHalt; (repeat' split) <;> first | rfl | (simp; done) | (simp [apply_ite State.pending, fold_pending]; done) | (dsimp only; (repeat' split) <;> first | rfl | (simp; done) | (simp [apply_ite State.pending, fold_pending]; done))
@[simp] theorem State.chanHalt_sec (s : State) (ch kind : Nat) (write after : Bool) (addr : DWord) (fail : Option (Nat × Half)) : (s.chanHalt ch kind write after addr fail).sec = s.sec := by
  unfold State.chanHalt; (repeat' split) <;> first | rfl | (simp; done) | (simp [apply_ite State.sec, fold_sec]; done) | (dsimp only; (repeat' split) <;> first | rfl | (simp; done) | (simp [apply_ite State.sec, fold_sec]; done))
@[simp] theorem State.modEntry_pending (s : State) (q : Nat) (idx : Half) (f : Entry → Entry) : (s.modEntry q idx f).pending = s.pending := by
  unfold State.modEntry; (repeat' split) <;> first | rfl | simp
@[simp] theorem State.modEntry_sec (s : State) (q : Nat) (idx : Half) (f : Entry → Entry) : (s.modEntry q idx f).sec = s.sec := by
  unfold State.modEntry; (repeat' split) <;> first | rfl | simp
@[simp] theorem State.xferFail_pending (s : State) (q : Nat) (idx : Half) (kind : Nat) (write : Bool) (addr : DWord) : (s.xferFail q idx kind write addr).pending = s.pending := by
  unfold State.xferFail; (repeat' split) <;> first | rfl | simp
@[simp] theorem State.xferFail_sec (s : State) (q : Nat) (idx : Half) (kind : Nat) (write : Bool) (addr : DWord) : (s.xferFail q idx kind write addr).sec = s.sec := by
  unfold State.xferFail; (repeat' split) <;> first | rfl | simp
@[simp] theorem State.xferWindow_pending (s : State) (q : Nat) (idx : Half) (t : Nat) (addr : DWord) : (s.xferWindow q idx t addr).pending = s.pending := by
  unfold State.xferWindow; (repeat' split) <;> first | rfl | simp
@[simp] theorem State.xferWindow_sec (s : State) (q : Nat) (idx : Half) (t : Nat) (addr : DWord) : (s.xferWindow q idx t addr).sec = s.sec := by
  unfold State.xferWindow; (repeat' split) <;> first | rfl | simp
@[simp] theorem State.issue_pending (s : State) (c : Cand) : (s.issue c).pending = s.pending := by
  unfold State.issue; (repeat' split) <;> first | rfl | simp
@[simp] theorem State.issue_sec (s : State) (c : Cand) : (s.issue c).sec = s.sec := by
  unfold State.issue; (repeat' split) <;> first | rfl | simp
@[simp] theorem State.issueCand_pending (s : State) (c : Cand) : (s.issueCand c).pending = s.pending := by
  unfold State.issueCand; (repeat' split) <;> first | rfl | (simp; done) | (simp [apply_ite State.pending, fold_pending]; done) | (dsimp only; (repeat' split) <;> first | rfl | (simp; done) | (simp [apply_ite State.pending, fold_pending]; done))
@[simp] theorem State.issueCand_sec (s : State) (c : Cand) : (s.issueCand c).sec = s.sec := by
  unfold State.issueCand; (repeat' split) <;> first | rfl | (simp; done) | (simp [apply_ite State.sec, fold_sec]; done) | (dsimp only; (repeat' split) <;> first | rfl | (simp; done) | (simp [apply_ite State.sec, fold_sec]; done))
@[simp] theorem State.frontEcc_pending (s : State) (q : Nat) (dirIn : Option Bool) (part : Bool) : (s.frontEcc q dirIn part).pending = s.pending := by
  unfold State.frontEcc; (repeat' split) <;> first | rfl | simp
@[simp] theorem State.frontEcc_sec (s : State) (q : Nat) (dirIn : Option Bool) (part : Bool) : (s.frontEcc q dirIn part).sec = s.sec := by
  unfold State.frontEcc; (repeat' split) <;> first | rfl | simp
@[simp] theorem State.readFor_pending (s : State) (q : Nat) (e : Entry) (data : Bool) : (s.readFor q e data).1.pending = s.pending := by
  unfold State.readFor; (repeat' split) <;> first | rfl | (simp; done) | (simp [apply_ite State.pending, fold_pending]; done) | (dsimp only; (repeat' split) <;> first | rfl | (simp; done) | (simp [apply_ite State.pending, fold_pending]; done))
@[simp] theorem State.readFor_sec (s : State) (q : Nat) (e : Entry) (data : Bool) : (s.readFor q e data).1.sec = s.sec := by
  unfold State.readFor; (repeat' split) <;> first | rfl | (simp; done) | (simp [apply_ite State.sec, fold_sec]; done) | (dsimp only; (repeat' split) <;> first | rfl | (simp; done) | (simp [apply_ite State.sec, fold_sec]; done))
@[simp] theorem State.issueRead_pending (s : State) (c : Cand) : (s.issueRead c).pending = s.pending := by
  unfold State.issueRead; (repeat' split) <;> first | rfl | (simp; done) | (simp [apply_ite State.pending, fold_pending]; done) | (dsimp only; (repeat' split) <;> first | rfl | (simp; done) | (simp [apply_ite State.pending, fold_pending]; done))
@[simp] theorem State.issueRead_sec (s : State) (c : Cand) : (s.issueRead c).sec = s.sec := by
  unfold State.issueRead; (repeat' split) <;> first | rfl | (simp; done) | (simp [apply_ite State.sec, fold_sec]; done) | (dsimp only; (repeat' split) <;> first | rfl | (simp; done) | (simp [apply_ite State.sec, fold_sec]; done))
@[simp] theorem State.issueEcc_pending (s : State) (c : Cand) : (s.issueEcc c).pending = s.pending := by
  unfold State.issueEcc; (repeat' split) <;> first | rfl | simp
@[simp] theorem State.issueEcc_sec (s : State) (c : Cand) : (s.issueEcc c).sec = s.sec := by
  unfold State.issueEcc; (repeat' split) <;> first | rfl | simp
@[simp] theorem State.landPayload_pending (s : State) (q : Nat) (idx : Half) (l : List Req) : (s.landPayload q idx l).pending = s.pending := by
  induction l generalizing s with
  | nil => rfl
  | cons n l ih => unfold State.landPayload; dsimp only; (repeat' split) <;> first | rfl | simp [ih]
@[simp] theorem State.landPayload_sec (s : State) (q : Nat) (idx : Half) (l : List Req) : (s.landPayload q idx l).sec = s.sec := by
  induction l generalizing s with
  | nil => rfl
  | cons n l ih => unfold State.landPayload; dsimp only; (repeat' split) <;> first | rfl | simp [ih]
@[simp] theorem State.retryDone_pending (s : State) (q : Nat) (idx : Half) : (s.retryDone q idx).pending = s.pending := by
  unfold State.retryDone; (repeat' split) <;> first | rfl | simp
@[simp] theorem State.retryDone_sec (s : State) (q : Nat) (idx : Half) : (s.retryDone q idx).sec = s.sec := by
  unfold State.retryDone; (repeat' split) <;> first | rfl | simp
@[simp] theorem State.readDone_pending (s : State) (id : Nat) (b : List Byte) : (s.readDone id b).pending = s.pending := by
  unfold State.readDone; (repeat' split) <;> first | rfl | simp
@[simp] theorem State.readDone_sec (s : State) (id : Nat) (b : List Byte) : (s.readDone id b).sec = s.sec := by
  unfold State.readDone; (repeat' split) <;> first | rfl | simp
@[simp] theorem State.flushDone_pending (s : State) (id : Nat) : (s.flushDone id).pending = s.pending := by
  unfold State.flushDone; (repeat' split) <;> first | rfl | simp
@[simp] theorem State.flushDone_sec (s : State) (id : Nat) : (s.flushDone id).sec = s.sec := by
  unfold State.flushDone; (repeat' split) <;> first | rfl | simp
@[simp] theorem State.retry_pending (s : State) (r : Req) : (s.retry r).pending = s.pending := by
  unfold State.retry; dsimp only; (repeat' split) <;> first | rfl | (simp [apply_ite State.pending, fold_pending]; done) | (try simp [apply_ite State.pending, fold_pending]) <;> exact foldl_proj (fun x : State => x.pending) _ (by intros; (repeat' split) <;> first | rfl | (simp [apply_ite State.pending, fold_pending]; done)) _ _ | ((try simp [apply_ite State.pending, fold_pending]); rw [fold_pending _ (by intros; (repeat' split) <;> first | rfl | (simp [apply_ite State.pending, fold_pending]; done))]; (try simp [apply_ite State.pending, fold_pending]))
@[simp] theorem State.retry_sec (s : State) (r : Req) : (s.retry r).sec = s.sec := by
  unfold State.retry; dsimp only; (repeat' split) <;> first | rfl | (simp [apply_ite State.sec, fold_sec]; done) | (try simp [apply_ite State.sec, fold_sec]) <;> exact foldl_proj (fun x : State => x.sec) _ (by intros; (repeat' split) <;> first | rfl | (simp [apply_ite State.sec, fold_sec]; done)) _ _ | ((try simp [apply_ite State.sec, fold_sec]); rw [fold_sec _ (by intros; (repeat' split) <;> first | rfl | (simp [apply_ite State.sec, fold_sec]; done))]; (try simp [apply_ite State.sec, fold_sec]))
@[simp] theorem State.accessFail_pending (s : State) (id : Nat) (k : HostErr) : (s.accessFail id k).pending = s.pending := by
  unfold State.accessFail; (repeat' split) <;> first | rfl | simp
@[simp] theorem State.accessFail_sec (s : State) (id : Nat) (k : HostErr) : (s.accessFail id k).sec = s.sec := by
  unfold State.accessFail; (repeat' split) <;> first | rfl | simp
@[simp] theorem State.skipBeat_pending (s : State) (quad frame beat : Nat) : (s.skipBeat quad frame beat).pending = s.pending := by
  unfold State.skipBeat; (repeat' split) <;> first | rfl | simp
@[simp] theorem State.skipBeat_sec (s : State) (quad frame beat : Nat) : (s.skipBeat quad frame beat).sec = s.sec := by
  unfold State.skipBeat; (repeat' split) <;> first | rfl | simp
@[simp] theorem State.readAlmanac_pending (s : State) (frame : Word) : (s.readAlmanac frame).pending = s.pending := by
  unfold State.readAlmanac; exact foldl_proj (fun x : State => x.pending) _ (by intros; (repeat' split) <;> first | rfl | (simp; done) | (simp [apply_ite State.pending, fold_pending]; done)) _ _
@[simp] theorem State.readAlmanac_sec (s : State) (frame : Word) : (s.readAlmanac frame).sec = s.sec := by
  unfold State.readAlmanac; exact foldl_proj (fun x : State => x.sec) _ (by intros; (repeat' split) <;> first | rfl | (simp; done) | (simp [apply_ite State.sec, fold_sec]; done)) _ _
@[simp] theorem State.readBeatLists_pending (s : State) : (s.readBeatLists).pending = s.pending := by
  unfold State.readBeatLists; (repeat' split) <;> first | rfl | (simp; done) | (simp [apply_ite State.pending, fold_pending]; done) | (dsimp only; (repeat' split) <;> first | rfl | (simp; done) | (simp [apply_ite State.pending, fold_pending]; done))
@[simp] theorem State.readBeatLists_sec (s : State) : (s.readBeatLists).sec = s.sec := by
  unfold State.readBeatLists; (repeat' split) <;> first | rfl | (simp; done) | (simp [apply_ite State.sec, fold_sec]; done) | (dsimp only; (repeat' split) <;> first | rfl | (simp; done) | (simp [apply_ite State.sec, fold_sec]; done))
@[simp] theorem bodyPoolMode_pending (t : Nat) (s : State) (p : List Byte) : (bodyPoolMode t s p).st.pending = s.pending := by
  unfold bodyPoolMode; (repeat' split) <;> first | rfl | (simp; done) | (simp [apply_ite State.pending, fold_pending]; done) | (dsimp only; (repeat' split) <;> first | rfl | (simp; done) | (simp [apply_ite State.pending, fold_pending]; done))
@[simp] theorem bodyPoolMode_sec (t : Nat) (s : State) (p : List Byte) : (bodyPoolMode t s p).st.sec = s.sec := by
  unfold bodyPoolMode; (repeat' split) <;> first | rfl | (simp; done) | (simp [apply_ite State.sec, fold_sec]; done) | (dsimp only; (repeat' split) <;> first | rfl | (simp; done) | (simp [apply_ite State.sec, fold_sec]; done))
@[simp] theorem bodyPoolCreate_pending (t : Nat) (s : State) (p : List Byte) : (bodyPoolCreate t s p).st.pending = s.pending := by
  unfold bodyPoolCreate; (repeat' split) <;> first | rfl | (simp; done) | (simp [apply_ite State.pending, fold_pending]; done) | (dsimp only; (repeat' split) <;> first | rfl | (simp; done) | (simp [apply_ite State.pending, fold_pending]; done))
@[simp] theorem bodyPoolCreate_sec (t : Nat) (s : State) (p : List Byte) : (bodyPoolCreate t s p).st.sec = s.sec := by
  unfold bodyPoolCreate; (repeat' split) <;> first | rfl | (simp; done) | (simp [apply_ite State.sec, fold_sec]; done) | (dsimp only; (repeat' split) <;> first | rfl | (simp; done) | (simp [apply_ite State.sec, fold_sec]; done))
@[simp] theorem bodyPoolDestroy_pending (t : Nat) (s : State) (p : List Byte) : (bodyPoolDestroy t s p).st.pending = s.pending := by
  unfold bodyPoolDestroy; (repeat' split) <;> first | rfl | (simp; done) | (simp [apply_ite State.pending, fold_pending]; done) | (dsimp only; (repeat' split) <;> first | rfl | (simp; done) | (simp [apply_ite State.pending, fold_pending]; done))
@[simp] theorem bodyPoolDestroy_sec (t : Nat) (s : State) (p : List Byte) : (bodyPoolDestroy t s p).st.sec = s.sec := by
  unfold bodyPoolDestroy; (repeat' split) <;> first | rfl | (simp; done) | (simp [apply_ite State.sec, fold_sec]; done) | (dsimp only; (repeat' split) <;> first | rfl | (simp; done) | (simp [apply_ite State.sec, fold_sec]; done))
theorem State.assign_pending {s : State} {q t : Nat} {e : Entry} {r : State × Entry} (h : s.assign q t e = some r) : r.1.pending = s.pending := by
  unfold State.assign at h; dsimp only at h
  (repeat' split at h) <;> first | (simp at h; done) | (injection h with h; subst h; first | rfl | simp)
theorem State.assign_sec {s : State} {q t : Nat} {e : Entry} {r : State × Entry} (h : s.assign q t e = some r) : r.1.sec = s.sec := by
  unfold State.assign at h; dsimp only at h
  (repeat' split at h) <;> first | (simp at h; done) | (injection h with h; subst h; first | rfl | simp)
@[simp] theorem State.enterDone_pending (s : State) (q : Nat) (e : Entry) (st : XStatus) : (s.enterDone q e st).pending = s.pending := by
  unfold State.enterDone; (repeat' split) <;> first | rfl | simp
@[simp] theorem State.enterDone_sec (s : State) (q : Nat) (e : Entry) (st : XStatus) : (s.enterDone q e st).sec = s.sec := by
  unfold State.enterDone; (repeat' split) <;> first | rfl | simp
@[simp] theorem State.deliverStanding_pending (s : State) (q : Nat) (c : Contract) (n : Nat) : (s.deliverStanding q c n).pending = s.pending := by
  induction n generalizing s with
  | zero => rfl
  | succ n ih => unfold State.deliverStanding; dsimp only; (repeat' split) <;> first | rfl | simp [ih]
@[simp] theorem State.deliverStanding_sec (s : State) (q : Nat) (c : Contract) (n : Nat) : (s.deliverStanding q c n).sec = s.sec := by
  induction n generalizing s with
  | zero => rfl
  | succ n ih => unfold State.deliverStanding; dsimp only; (repeat' split) <;> first | rfl | simp [ih]
@[simp] theorem State.deliver_pending (s : State) (q : Nat) : (s.deliver q).pending = s.pending := by
  unfold State.deliver; (repeat' split) <;> first | rfl | (simp; done) | (simp [apply_ite State.pending, fold_pending]; done) | (dsimp only; (repeat' split) <;> first | rfl | (simp; done) | (simp [apply_ite State.pending, fold_pending]; done))
@[simp] theorem State.deliver_sec (s : State) (q : Nat) : (s.deliver q).sec = s.sec := by
  unfold State.deliver; (repeat' split) <;> first | rfl | (simp; done) | (simp [apply_ite State.sec, fold_sec]; done) | (dsimp only; (repeat' split) <;> first | rfl | (simp; done) | (simp [apply_ite State.sec, fold_sec]; done))
@[simp] theorem State.deliverAll_pending (s : State) : (s.deliverAll).pending = s.pending := by
  unfold State.deliverAll; (repeat' split) <;> first | rfl | simp
@[simp] theorem State.deliverAll_sec (s : State) : (s.deliverAll).sec = s.sec := by
  unfold State.deliverAll; (repeat' split) <;> first | rfl | simp
@[simp] theorem State.standPacket_pending (s : State) (c : Contract) (data : List Byte) : (s.standPacket c data).pending = s.pending := by
  unfold State.standPacket; (repeat' split) <;> first | rfl | (simp; done) | (simp [apply_ite State.pending, fold_pending]; done) | (dsimp only; (repeat' split) <;> first | rfl | (simp; done) | (simp [apply_ite State.pending, fold_pending]; done))
@[simp] theorem State.standPacket_sec (s : State) (c : Contract) (data : List Byte) : (s.standPacket c data).sec = s.sec := by
  unfold State.standPacket; (repeat' split) <;> first | rfl | (simp; done) | (simp [apply_ite State.sec, fold_sec]; done) | (dsimp only; (repeat' split) <;> first | rfl | (simp; done) | (simp [apply_ite State.sec, fold_sec]; done))
@[simp] theorem State.dropPlacement_pending (s : State) (q : Nat) (idx : Half) : (s.dropPlacement q idx).pending = s.pending := by
  unfold State.dropPlacement; (repeat' split) <;> first | rfl | simp
@[simp] theorem State.dropPlacement_sec (s : State) (q : Nat) (idx : Half) : (s.dropPlacement q idx).sec = s.sec := by
  unfold State.dropPlacement; (repeat' split) <;> first | rfl | simp
@[simp] theorem State.unplace_pending (s : State) (q : Nat) (idx : Half) : (s.unplace q idx).pending = s.pending := by
  unfold State.unplace; (repeat' split) <;> first | rfl | simp
@[simp] theorem State.unplace_sec (s : State) (q : Nat) (idx : Half) : (s.unplace q idx).sec = s.sec := by
  unfold State.unplace; (repeat' split) <;> first | rfl | simp
@[simp] theorem State.endStrike_pending (s : State) (q : Nat) (idx : Half) (st : XStatus) : (s.endStrike q idx st).pending = s.pending := by
  unfold State.endStrike; (repeat' split) <;> first | rfl | simp
@[simp] theorem State.endStrike_sec (s : State) (q : Nat) (idx : Half) (st : XStatus) : (s.endStrike q idx st).sec = s.sec := by
  unfold State.endStrike; (repeat' split) <;> first | rfl | simp
@[simp] theorem State.withdrawnOk_pending (s : State) (q : Nat) (idx : Half) (e : Entry) : (s.withdrawnOk q idx e).pending = s.pending := by
  unfold State.withdrawnOk; (repeat' split) <;> first | rfl | simp
@[simp] theorem State.withdrawnOk_sec (s : State) (q : Nat) (idx : Half) (e : Entry) : (s.withdrawnOk q idx e).sec = s.sec := by
  unfold State.withdrawnOk; (repeat' split) <;> first | rfl | simp
@[simp] theorem State.cancelLate_pending (s : State) (q : Nat) (idx : Half) (e : Entry) : (s.cancelLate q idx e).pending = s.pending := by
  unfold State.cancelLate; (repeat' split) <;> first | rfl | (simp; done) | (simp [apply_ite State.pending, fold_pending]; done) | (dsimp only; (repeat' split) <;> first | rfl | (simp; done) | (simp [apply_ite State.pending, fold_pending]; done))
@[simp] theorem State.cancelLate_sec (s : State) (q : Nat) (idx : Half) (e : Entry) : (s.cancelLate q idx e).sec = s.sec := by
  unfold State.cancelLate; (repeat' split) <;> first | rfl | (simp; done) | (simp [apply_ite State.sec, fold_sec]; done) | (dsimp only; (repeat' split) <;> first | rfl | (simp; done) | (simp [apply_ite State.sec, fold_sec]; done))
@[simp] theorem State.placeIn_pending (s : State) (q : Nat) (e : Entry) (k i : Nat) : (s.placeIn q e k i).pending = s.pending := by
  unfold State.placeIn; dsimp only; (repeat' split) <;> first | rfl | (simp [apply_ite State.pending, fold_pending]; done) | (try simp [apply_ite State.pending, fold_pending]) <;> exact foldl_proj (fun x : State => x.pending) _ (by intros; (repeat' split) <;> first | rfl | (simp [apply_ite State.pending, fold_pending]; done)) _ _ | ((try simp [apply_ite State.pending, fold_pending]); rw [fold_pending _ (by intros; (repeat' split) <;> first | rfl | (simp [apply_ite State.pending, fold_pending]; done))]; (try simp [apply_ite State.pending, fold_pending]))
@[simp] theorem State.placeIn_sec (s : State) (q : Nat) (e : Entry) (k i : Nat) : (s.placeIn q e k i).sec = s.sec := by
  unfold State.placeIn; dsimp only; (repeat' split) <;> first | rfl | (simp [apply_ite State.sec, fold_sec]; done) | (try simp [apply_ite State.sec, fold_sec]) <;> exact foldl_proj (fun x : State => x.sec) _ (by intros; (repeat' split) <;> first | rfl | (simp [apply_ite State.sec, fold_sec]; done)) _ _ | ((try simp [apply_ite State.sec, fold_sec]); rw [fold_sec _ (by intros; (repeat' split) <;> first | rfl | (simp [apply_ite State.sec, fold_sec]; done))]; (try simp [apply_ite State.sec, fold_sec]))
@[simp] theorem State.reaim_pending (s : State) : (s.reaim).pending = s.pending := by
  unfold State.reaim; (repeat' split) <;> first | rfl | simp
@[simp] theorem State.reaim_sec (s : State) : (s.reaim).sec = s.sec := by
  unfold State.reaim; (repeat' split) <;> first | rfl | simp
@[simp] theorem State.withdraw_pending (s : State) (q : Nat) (idx : Half) (st : XStatus) : (s.withdraw q idx st).pending = s.pending := by
  unfold State.withdraw; (repeat' split) <;> first | rfl | simp
@[simp] theorem State.withdraw_sec (s : State) (q : Nat) (idx : Half) (st : XStatus) : (s.withdraw q idx st).sec = s.sec := by
  unfold State.withdraw; (repeat' split) <;> first | rfl | simp
@[simp] theorem State.withdrawQp_pending (s : State) (q : Nat) (pick : Entry → Bool) (st : XStatus) : (s.withdrawQp q pick st).pending = s.pending := by
  unfold State.withdrawQp; (repeat' split) <;> first | rfl | simp
@[simp] theorem State.withdrawQp_sec (s : State) (q : Nat) (pick : Entry → Bool) (st : XStatus) : (s.withdrawQp q pick st).sec = s.sec := by
  unfold State.withdrawQp; (repeat' split) <;> first | rfl | simp
@[simp] theorem State.withdrawAll_pending (s : State) (pick : Entry → Bool) (st : XStatus) : (s.withdrawAll pick st).pending = s.pending := by
  unfold State.withdrawAll; (repeat' split) <;> first | rfl | simp
@[simp] theorem State.withdrawAll_sec (s : State) (pick : Entry → Bool) (st : XStatus) : (s.withdrawAll pick st).sec = s.sec := by
  unfold State.withdrawAll; (repeat' split) <;> first | rfl | simp
@[simp] theorem State.lockLost_pending (s : State) : (s.lockLost).pending = s.pending := by
  unfold State.lockLost; (repeat' split) <;> first | rfl | simp
@[simp] theorem State.lockLost_sec (s : State) : (s.lockLost).sec = s.sec := by
  unfold State.lockLost; (repeat' split) <;> first | rfl | simp
@[simp] theorem State.slipStrikes_pending (s : State) : (s.slipStrikes).pending = s.pending := by
  unfold State.slipStrikes; (repeat' split) <;> first | rfl | simp
@[simp] theorem State.slipStrikes_sec (s : State) : (s.slipStrikes).sec = s.sec := by
  unfold State.slipStrikes; (repeat' split) <;> first | rfl | simp
@[simp] theorem State.mrcStrikes_pending (s before : State) : (s.mrcStrikes before).pending = s.pending := by
  unfold State.mrcStrikes; (repeat' split) <;> first | rfl | simp
@[simp] theorem State.mrcStrikes_sec (s before : State) : (s.mrcStrikes before).sec = s.sec := by
  unfold State.mrcStrikes; (repeat' split) <;> first | rfl | simp
@[simp] theorem State.haltStrikes_pending (s : State) : (s.haltStrikes).pending = s.pending := by
  unfold State.haltStrikes; exact foldl_proj (fun x : State => x.pending) _ (by intros; (repeat' split) <;> first | rfl | (simp; done) | (simp [apply_ite State.pending, fold_pending]; done)) _ _
@[simp] theorem State.haltStrikes_sec (s : State) : (s.haltStrikes).sec = s.sec := by
  unfold State.haltStrikes; exact foldl_proj (fun x : State => x.sec) _ (by intros; (repeat' split) <;> first | rfl | (simp; done) | (simp [apply_ite State.sec, fold_sec]; done)) _ _
@[simp] theorem State.haltSent_pending (s : State) (link : Nat) : (s.haltSent link).pending = s.pending := by
  unfold State.haltSent; dsimp only; (repeat' split) <;> first | rfl | (simp [apply_ite State.pending, fold_pending]; done) | (try simp [apply_ite State.pending, fold_pending]) <;> exact foldl_proj (fun x : State => x.pending) _ (by intros; (repeat' split) <;> first | rfl | (simp [apply_ite State.pending, fold_pending]; done)) _ _ | ((try simp [apply_ite State.pending, fold_pending]); rw [fold_pending _ (by intros; (repeat' split) <;> first | rfl | (simp [apply_ite State.pending, fold_pending]; done))]; (try simp [apply_ite State.pending, fold_pending]))
@[simp] theorem State.haltSent_sec (s : State) (link : Nat) : (s.haltSent link).sec = s.sec := by
  unfold State.haltSent; dsimp only; (repeat' split) <;> first | rfl | (simp [apply_ite State.sec, fold_sec]; done) | (try simp [apply_ite State.sec, fold_sec]) <;> exact foldl_proj (fun x : State => x.sec) _ (by intros; (repeat' split) <;> first | rfl | (simp [apply_ite State.sec, fold_sec]; done)) _ _ | ((try simp [apply_ite State.sec, fold_sec]); rw [fold_sec _ (by intros; (repeat' split) <;> first | rfl | (simp [apply_ite State.sec, fold_sec]; done))]; (try simp [apply_ite State.sec, fold_sec]))
@[simp] theorem State.commitPoint_pending (s : State) (q : Nat) (idx : Half) : (s.commitPoint q idx).pending = s.pending := by
  unfold State.commitPoint; (repeat' split) <;> first | rfl | (simp; done) | (simp [apply_ite State.pending, fold_pending]; done) | (dsimp only; (repeat' split) <;> first | rfl | (simp; done) | (simp [apply_ite State.pending, fold_pending]; done))
@[simp] theorem State.commitPoint_sec (s : State) (q : Nat) (idx : Half) : (s.commitPoint q idx).sec = s.sec := by
  unfold State.commitPoint; (repeat' split) <;> first | rfl | (simp; done) | (simp [apply_ite State.sec, fold_sec]; done) | (dsimp only; (repeat' split) <;> first | rfl | (simp; done) | (simp [apply_ite State.sec, fold_sec]; done))
@[simp] theorem State.actPassed_pending (s : State) (q : Nat) (idx : Half) : (s.actPassed q idx).pending = s.pending := by
  unfold State.actPassed; dsimp only; (repeat' split) <;> first | rfl | (simp [apply_ite State.pending, fold_pending]; done) | (try simp [apply_ite State.pending, fold_pending]) <;> exact foldl_proj (fun x : State => x.pending) _ (by intros; (repeat' split) <;> first | rfl | (simp [apply_ite State.pending, fold_pending]; done)) _ _ | ((try simp [apply_ite State.pending, fold_pending]); rw [fold_pending _ (by intros; (repeat' split) <;> first | rfl | (simp [apply_ite State.pending, fold_pending]; done))]; (try simp [apply_ite State.pending, fold_pending]))
@[simp] theorem State.actPassed_sec (s : State) (q : Nat) (idx : Half) : (s.actPassed q idx).sec = s.sec := by
  unfold State.actPassed; dsimp only; (repeat' split) <;> first | rfl | (simp [apply_ite State.sec, fold_sec]; done) | (try simp [apply_ite State.sec, fold_sec]) <;> exact foldl_proj (fun x : State => x.sec) _ (by intros; (repeat' split) <;> first | rfl | (simp [apply_ite State.sec, fold_sec]; done)) _ _ | ((try simp [apply_ite State.sec, fold_sec]); rw [fold_sec _ (by intros; (repeat' split) <;> first | rfl | (simp [apply_ite State.sec, fold_sec]; done))]; (try simp [apply_ite State.sec, fold_sec]))
@[simp] theorem State.actsDue_pending (s : State) : (s.actsDue).pending = s.pending := by
  unfold State.actsDue; exact foldl_proj (fun x : State => x.pending) _ (by intros; (repeat' split) <;> first | rfl | (simp; done) | (simp [apply_ite State.pending, fold_pending]; done)) _ _
@[simp] theorem State.actsDue_sec (s : State) : (s.actsDue).sec = s.sec := by
  unfold State.actsDue; exact foldl_proj (fun x : State => x.sec) _ (by intros; (repeat' split) <;> first | rfl | (simp; done) | (simp [apply_ite State.sec, fold_sec]; done)) _ _
@[simp] theorem State.firstStatus_pending (s : State) (e : Entry) (b : List Byte) : (s.firstStatus e b).pending = s.pending := by
  unfold State.firstStatus; dsimp only; (repeat' split) <;> first | rfl | (simp [apply_ite State.pending, fold_pending]; done) | (try simp [apply_ite State.pending, fold_pending]) <;> exact foldl_proj (fun x : State => x.pending) _ (by intros; (repeat' split) <;> first | rfl | (simp [apply_ite State.pending, fold_pending]; done)) _ _ | ((try simp [apply_ite State.pending, fold_pending]); rw [fold_pending _ (by intros; (repeat' split) <;> first | rfl | (simp [apply_ite State.pending, fold_pending]; done))]; (try simp [apply_ite State.pending, fold_pending]))
@[simp] theorem State.firstStatus_sec (s : State) (e : Entry) (b : List Byte) : (s.firstStatus e b).sec = s.sec := by
  unfold State.firstStatus; dsimp only; (repeat' split) <;> first | rfl | (simp [apply_ite State.sec, fold_sec]; done) | (try simp [apply_ite State.sec, fold_sec]) <;> exact foldl_proj (fun x : State => x.sec) _ (by intros; (repeat' split) <;> first | rfl | (simp [apply_ite State.sec, fold_sec]; done)) _ _ | ((try simp [apply_ite State.sec, fold_sec]); rw [fold_sec _ (by intros; (repeat' split) <;> first | rfl | (simp [apply_ite State.sec, fold_sec]; done))]; (try simp [apply_ite State.sec, fold_sec]))
@[simp] theorem State.settleStrike_pending (s : State) (q : Nat) (idx : Half) (reply : Option (List Byte)) : (s.settleStrike q idx reply).pending = s.pending := by
  unfold State.settleStrike; (repeat' split) <;> first | rfl | (simp; done) | (simp [apply_ite State.pending, fold_pending]; done) | (dsimp only; (repeat' split) <;> first | rfl | (simp; done) | (simp [apply_ite State.pending, fold_pending]; done))
@[simp] theorem State.settleStrike_sec (s : State) (q : Nat) (idx : Half) (reply : Option (List Byte)) : (s.settleStrike q idx reply).sec = s.sec := by
  unfold State.settleStrike; (repeat' split) <;> first | rfl | (simp; done) | (simp [apply_ite State.sec, fold_sec]; done) | (dsimp only; (repeat' split) <;> first | rfl | (simp; done) | (simp [apply_ite State.sec, fold_sec]; done))
@[simp] theorem bodyStrikeWithdraw_pending (t : Nat) (s : State) (p : List Byte) : (bodyStrikeWithdraw t s p).st.pending = s.pending := by
  unfold bodyStrikeWithdraw; dsimp only; (repeat' split) <;> first | rfl | (simp [apply_ite State.pending, fold_pending]; done) | (try simp [apply_ite State.pending, fold_pending]) <;> exact foldl_proj (fun x : State => x.pending) _ (by intros; (repeat' split) <;> first | rfl | (simp [apply_ite State.pending, fold_pending]; done)) _ _ | ((try simp [apply_ite State.pending, fold_pending]); rw [fold_pending _ (by intros; (repeat' split) <;> first | rfl | (simp [apply_ite State.pending, fold_pending]; done))]; (try simp [apply_ite State.pending, fold_pending]))
@[simp] theorem bodyStrikeWithdraw_sec (t : Nat) (s : State) (p : List Byte) : (bodyStrikeWithdraw t s p).st.sec = s.sec := by
  unfold bodyStrikeWithdraw; dsimp only; (repeat' split) <;> first | rfl | (simp [apply_ite State.sec, fold_sec]; done) | (try simp [apply_ite State.sec, fold_sec]) <;> exact foldl_proj (fun x : State => x.sec) _ (by intros; (repeat' split) <;> first | rfl | (simp [apply_ite State.sec, fold_sec]; done)) _ _ | ((try simp [apply_ite State.sec, fold_sec]); rw [fold_sec _ (by intros; (repeat' split) <;> first | rfl | (simp [apply_ite State.sec, fold_sec]; done))]; (try simp [apply_ite State.sec, fold_sec]))
@[simp] theorem bodyStrikeResume_pending (t : Nat) (s : State) (p : List Byte) : (bodyStrikeResume t s p).st.pending = s.pending := by
  unfold bodyStrikeResume; dsimp only; (repeat' split) <;> first | rfl | (simp [apply_ite State.pending, fold_pending]; done) | (try simp [apply_ite State.pending, fold_pending]) <;> exact foldl_proj (fun x : State => x.pending) _ (by intros; (repeat' split) <;> first | rfl | (simp [apply_ite State.pending, fold_pending]; done)) _ _ | ((try simp [apply_ite State.pending, fold_pending]); rw [fold_pending _ (by intros; (repeat' split) <;> first | rfl | (simp [apply_ite State.pending, fold_pending]; done))]; (try simp [apply_ite State.pending, fold_pending]))
@[simp] theorem bodyStrikeResume_sec (t : Nat) (s : State) (p : List Byte) : (bodyStrikeResume t s p).st.sec = s.sec := by
  unfold bodyStrikeResume; dsimp only; (repeat' split) <;> first | rfl | (simp [apply_ite State.sec, fold_sec]; done) | (try simp [apply_ite State.sec, fold_sec]) <;> exact foldl_proj (fun x : State => x.sec) _ (by intros; (repeat' split) <;> first | rfl | (simp [apply_ite State.sec, fold_sec]; done)) _ _ | ((try simp [apply_ite State.sec, fold_sec]); rw [fold_sec _ (by intros; (repeat' split) <;> first | rfl | (simp [apply_ite State.sec, fold_sec]; done))]; (try simp [apply_ite State.sec, fold_sec]))
@[simp] theorem State.mergeReg_pending (s : State) (fn off : Nat) (r : Reg) (i : Nat) (v hw : Word) : (s.mergeReg fn off r i v hw).2.pending = s.pending := by
  unfold State.mergeReg; (repeat' split) <;> first | rfl | (simp; done) | (simp [apply_ite State.pending, fold_pending]; done) | (dsimp only; (repeat' split) <;> first | rfl | (simp; done) | (simp [apply_ite State.pending, fold_pending]; done))
@[simp] theorem State.mergeReg_sec (s : State) (fn off : Nat) (r : Reg) (i : Nat) (v hw : Word) : (s.mergeReg fn off r i v hw).2.sec = s.sec := by
  unfold State.mergeReg; (repeat' split) <;> first | rfl | (simp; done) | (simp [apply_ite State.sec, fold_sec]; done) | (dsimp only; (repeat' split) <;> first | rfl | (simp; done) | (simp [apply_ite State.sec, fold_sec]; done))
@[simp] theorem State.loseSource_pending (s : State) : (s.loseSource).pending = s.pending := by
  unfold State.loseSource; (repeat' split) <;> first | rfl | simp
@[simp] theorem State.loseSource_sec (s : State) : (s.loseSource).sec = s.sec := by
  unfold State.loseSource; (repeat' split) <;> first | rfl | simp
@[simp] theorem State.moveCount_pending (s : State) (count : Int) (tick : DWord) : (s.moveCount count tick).pending = s.pending := by
  unfold State.moveCount; (repeat' split) <;> first | rfl | (simp; done) | (simp [apply_ite State.pending, fold_pending]; done) | (dsimp only; (repeat' split) <;> first | rfl | (simp; done) | (simp [apply_ite State.pending, fold_pending]; done))
@[simp] theorem State.moveCount_sec (s : State) (count : Int) (tick : DWord) : (s.moveCount count tick).sec = s.sec := by
  unfold State.moveCount; (repeat' split) <;> first | rfl | (simp; done) | (simp [apply_ite State.sec, fold_sec]; done) | (dsimp only; (repeat' split) <;> first | rfl | (simp; done) | (simp [apply_ite State.sec, fold_sec]; done))
@[simp] theorem State.indexAt_pending (s : State) (count : Int) : (s.indexAt count).pending = s.pending := by
  unfold State.indexAt; dsimp only; (repeat' split) <;> first | rfl | (simp [apply_ite State.pending, fold_pending]; done) | (try simp [apply_ite State.pending, fold_pending]) <;> exact foldl_proj (fun x : State => x.pending) _ (by intros; (repeat' split) <;> first | rfl | (simp [apply_ite State.pending, fold_pending]; done)) _ _ | ((try simp [apply_ite State.pending, fold_pending]); rw [fold_pending _ (by intros; (repeat' split) <;> first | rfl | (simp [apply_ite State.pending, fold_pending]; done))]; (try simp [apply_ite State.pending, fold_pending]))
@[simp] theorem State.indexAt_sec (s : State) (count : Int) : (s.indexAt count).sec = s.sec := by
  unfold State.indexAt; dsimp only; (repeat' split) <;> first | rfl | (simp [apply_ite State.sec, fold_sec]; done) | (try simp [apply_ite State.sec, fold_sec]) <;> exact foldl_proj (fun x : State => x.sec) _ (by intros; (repeat' split) <;> first | rfl | (simp [apply_ite State.sec, fold_sec]; done)) _ _ | ((try simp [apply_ite State.sec, fold_sec]); rw [fold_sec _ (by intros; (repeat' split) <;> first | rfl | (simp [apply_ite State.sec, fold_sec]; done))]; (try simp [apply_ite State.sec, fold_sec]))
@[simp] theorem State.encoderStep_pending (s : State) (step : Option Int) (z : Bool) : (s.encoderStep step z).pending = s.pending := by
  unfold State.encoderStep; (repeat' split) <;> first | rfl | (simp; done) | (simp [apply_ite State.pending, fold_pending]; done) | (dsimp only; (repeat' split) <;> first | rfl | (simp; done) | (simp [apply_ite State.pending, fold_pending]; done))
@[simp] theorem State.encoderStep_sec (s : State) (step : Option Int) (z : Bool) : (s.encoderStep step z).sec = s.sec := by
  unfold State.encoderStep; (repeat' split) <;> first | rfl | (simp; done) | (simp [apply_ite State.sec, fold_sec]; done) | (dsimp only; (repeat' split) <;> first | rfl | (simp; done) | (simp [apply_ite State.sec, fold_sec]; done))
@[simp] theorem State.busReport_pending (s : State) (b : List Byte) : (s.busReport b).pending = s.pending := by
  unfold State.busReport; dsimp only; (repeat' split) <;> first | rfl | (simp [apply_ite State.pending, fold_pending]; done) | (try simp [apply_ite State.pending, fold_pending]) <;> exact foldl_proj (fun x : State => x.pending) _ (by intros; (repeat' split) <;> first | rfl | (simp [apply_ite State.pending, fold_pending]; done)) _ _ | ((try simp [apply_ite State.pending, fold_pending]); rw [fold_pending _ (by intros; (repeat' split) <;> first | rfl | (simp [apply_ite State.pending, fold_pending]; done))]; (try simp [apply_ite State.pending, fold_pending]))
@[simp] theorem State.busReport_sec (s : State) (b : List Byte) : (s.busReport b).sec = s.sec := by
  unfold State.busReport; dsimp only; (repeat' split) <;> first | rfl | (simp [apply_ite State.sec, fold_sec]; done) | (try simp [apply_ite State.sec, fold_sec]) <;> exact foldl_proj (fun x : State => x.sec) _ (by intros; (repeat' split) <;> first | rfl | (simp [apply_ite State.sec, fold_sec]; done)) _ _ | ((try simp [apply_ite State.sec, fold_sec]); rw [fold_sec _ (by intros; (repeat' split) <;> first | rfl | (simp [apply_ite State.sec, fold_sec]; done))]; (try simp [apply_ite State.sec, fold_sec]))
@[simp] theorem State.encoderBeat_pending (s : State) : (s.encoderBeat).pending = s.pending := by
  unfold State.encoderBeat; dsimp only; (repeat' split) <;> first | rfl | (simp [apply_ite State.pending, fold_pending]; done) | (try simp [apply_ite State.pending, fold_pending]) <;> exact foldl_proj (fun x : State => x.pending) _ (by intros; (repeat' split) <;> first | rfl | (simp [apply_ite State.pending, fold_pending]; done)) _ _ | ((try simp [apply_ite State.pending, fold_pending]); rw [fold_pending _ (by intros; (repeat' split) <;> first | rfl | (simp [apply_ite State.pending, fold_pending]; done))]; (try simp [apply_ite State.pending, fold_pending]))
@[simp] theorem State.encoderBeat_sec (s : State) : (s.encoderBeat).sec = s.sec := by
  unfold State.encoderBeat; dsimp only; (repeat' split) <;> first | rfl | (simp [apply_ite State.sec, fold_sec]; done) | (try simp [apply_ite State.sec, fold_sec]) <;> exact foldl_proj (fun x : State => x.sec) _ (by intros; (repeat' split) <;> first | rfl | (simp [apply_ite State.sec, fold_sec]; done)) _ _ | ((try simp [apply_ite State.sec, fold_sec]); rw [fold_sec _ (by intros; (repeat' split) <;> first | rfl | (simp [apply_ite State.sec, fold_sec]; done))]; (try simp [apply_ite State.sec, fold_sec]))
@[simp] theorem State.mrcWrite_pending (s : State) (ws : List Word) : (s.mrcWrite ws).1.pending = s.pending := by
  unfold State.mrcWrite; dsimp only; (repeat' split) <;> first | rfl | (simp [apply_ite State.pending, fold_pending]; done) | (try simp [apply_ite State.pending, fold_pending]) <;> exact foldl_proj (fun x : State => x.pending) _ (by intros; (repeat' split) <;> first | rfl | (simp [apply_ite State.pending, fold_pending]; done)) _ _ | ((try simp [apply_ite State.pending, fold_pending]); rw [fold_pending _ (by intros; (repeat' split) <;> first | rfl | (simp [apply_ite State.pending, fold_pending]; done))]; (try simp [apply_ite State.pending, fold_pending]))
@[simp] theorem State.mrcWrite_sec (s : State) (ws : List Word) : (s.mrcWrite ws).1.sec = s.sec := by
  unfold State.mrcWrite; dsimp only; (repeat' split) <;> first | rfl | (simp [apply_ite State.sec, fold_sec]; done) | (try simp [apply_ite State.sec, fold_sec]) <;> exact foldl_proj (fun x : State => x.sec) _ (by intros; (repeat' split) <;> first | rfl | (simp [apply_ite State.sec, fold_sec]; done)) _ _ | ((try simp [apply_ite State.sec, fold_sec]); rw [fold_sec _ (by intros; (repeat' split) <;> first | rfl | (simp [apply_ite State.sec, fold_sec]; done))]; (try simp [apply_ite State.sec, fold_sec]))
@[simp] theorem State.mrcRegWrite_pending (s : State) (off : Nat) (r : Reg) (v : Word) : (s.mrcRegWrite off r v).pending = s.pending := by
  unfold State.mrcRegWrite; dsimp only; (repeat' split) <;> first | rfl | (simp [apply_ite State.pending, fold_pending]; done) | (try simp [apply_ite State.pending, fold_pending]) <;> exact foldl_proj (fun x : State => x.pending) _ (by intros; (repeat' split) <;> first | rfl | (simp [apply_ite State.pending, fold_pending]; done)) _ _ | ((try simp [apply_ite State.pending, fold_pending]); rw [fold_pending _ (by intros; (repeat' split) <;> first | rfl | (simp [apply_ite State.pending, fold_pending]; done))]; (try simp [apply_ite State.pending, fold_pending]))
@[simp] theorem State.mrcRegWrite_sec (s : State) (off : Nat) (r : Reg) (v : Word) : (s.mrcRegWrite off r v).sec = s.sec := by
  unfold State.mrcRegWrite; dsimp only; (repeat' split) <;> first | rfl | (simp [apply_ite State.sec, fold_sec]; done) | (try simp [apply_ite State.sec, fold_sec]) <;> exact foldl_proj (fun x : State => x.sec) _ (by intros; (repeat' split) <;> first | rfl | (simp [apply_ite State.sec, fold_sec]; done)) _ _ | ((try simp [apply_ite State.sec, fold_sec]); rw [fold_sec _ (by intros; (repeat' split) <;> first | rfl | (simp [apply_ite State.sec, fold_sec]; done))]; (try simp [apply_ite State.sec, fold_sec]))
@[simp] theorem State.mrcAnswer_pending (s : State) (ws : List Word) : (s.mrcAnswer ws).st.pending = s.pending := by
  have h := State.mrcWrite_pending s ws
  unfold State.mrcAnswer; split <;> rename_i e <;> rw [e] at h <;> simpa using h
@[simp] theorem State.mrcAnswer_sec (s : State) (ws : List Word) : (s.mrcAnswer ws).st.sec = s.sec := by
  have h := State.mrcWrite_sec s ws
  unfold State.mrcAnswer; split <;> rename_i e <;> rw [e] at h <;> simpa using h
@[simp] theorem bodyMrcSet_pending (s : State) (p : List Byte) : (bodyMrcSet s p).st.pending = s.pending := by
  unfold bodyMrcSet; (repeat' split) <;> first | rfl | (simp; done) | (simp [apply_ite State.pending, fold_pending]; done) | (dsimp only; (repeat' split) <;> first | rfl | (simp; done) | (simp [apply_ite State.pending, fold_pending]; done))
@[simp] theorem bodyMrcSet_sec (s : State) (p : List Byte) : (bodyMrcSet s p).st.sec = s.sec := by
  unfold bodyMrcSet; (repeat' split) <;> first | rfl | (simp; done) | (simp [apply_ite State.sec, fold_sec]; done) | (dsimp only; (repeat' split) <;> first | rfl | (simp; done) | (simp [apply_ite State.sec, fold_sec]; done))
@[simp] theorem bodyMrcMode_pending (s : State) (p : List Byte) : (bodyMrcMode s p).st.pending = s.pending := by
  unfold bodyMrcMode; (repeat' split) <;> first | rfl | (simp; done) | (simp [apply_ite State.pending, fold_pending]; done) | (dsimp only; (repeat' split) <;> first | rfl | (simp; done) | (simp [apply_ite State.pending, fold_pending]; done))
@[simp] theorem bodyMrcMode_sec (s : State) (p : List Byte) : (bodyMrcMode s p).st.sec = s.sec := by
  unfold bodyMrcMode; (repeat' split) <;> first | rfl | (simp; done) | (simp [apply_ite State.sec, fold_sec]; done) | (dsimp only; (repeat' split) <;> first | rfl | (simp; done) | (simp [apply_ite State.sec, fold_sec]; done))
@[simp] theorem bodyMrcQuery_pending (s : State) (x0 : List Byte) : (bodyMrcQuery s x0).st.pending = s.pending := by
  unfold bodyMrcQuery; (repeat' split) <;> first | rfl | simp
@[simp] theorem bodyMrcQuery_sec (s : State) (x0 : List Byte) : (bodyMrcQuery s x0).st.sec = s.sec := by
  unfold bodyMrcQuery; (repeat' split) <;> first | rfl | simp
@[simp] theorem State.alter_pending (s : State) (r : DWord) (f : Place → Place) : (s.alter r f).pending = s.pending := by
  unfold State.alter; (repeat' split) <;> first | rfl | simp
@[simp] theorem State.alter_sec (s : State) (r : DWord) (f : Place → Place) : (s.alter r f).sec = s.sec := by
  unfold State.alter; (repeat' split) <;> first | rfl | simp
@[simp] theorem State.treeEvent_pending (s : State) (t code : Nat) (r : DWord) (data1 : Nat) (serial : DWord) : (s.treeEvent t code r data1 serial).pending = s.pending := by
  unfold State.treeEvent; (repeat' split) <;> first | rfl | simp
@[simp] theorem State.treeEvent_sec (s : State) (t code : Nat) (r : DWord) (data1 : Nat) (serial : DWord) : (s.treeEvent t code r data1 serial).sec = s.sec := by
  unfold State.treeEvent; (repeat' split) <;> first | rfl | simp
@[simp] theorem State.treeBoth_pending (s : State) (owner code : Nat) (r : DWord) (data1 : Nat) (serial : DWord) : (s.treeBoth owner code r data1 serial).pending = s.pending := by
  unfold State.treeBoth; (repeat' split) <;> first | rfl | simp
@[simp] theorem State.treeBoth_sec (s : State) (owner code : Nat) (r : DWord) (data1 : Nat) (serial : DWord) : (s.treeBoth owner code r data1 serial).sec = s.sec := by
  unfold State.treeBoth; (repeat' split) <;> first | rfl | simp
@[simp] theorem State.connectedEvent_pending (s : State) (p : Place) : (s.connectedEvent p).pending = s.pending := by
  unfold State.connectedEvent; (repeat' split) <;> first | rfl | simp
@[simp] theorem State.connectedEvent_sec (s : State) (p : Place) : (s.connectedEvent p).sec = s.sec := by
  unfold State.connectedEvent; (repeat' split) <;> first | rfl | simp
@[simp] theorem State.endEntry_pending (s : State) (q : Nat) (idx : Half) (st : XStatus) : (s.endEntry q idx st).pending = s.pending := by
  unfold State.endEntry; (repeat' split) <;> first | rfl | simp
@[simp] theorem State.endEntry_sec (s : State) (q : Nat) (idx : Half) (st : XStatus) : (s.endEntry q idx st).sec = s.sec := by
  unfold State.endEntry; (repeat' split) <;> first | rfl | simp
@[simp] theorem State.dropTxns_pending (s : State) (pick : Txn → Bool) : (s.dropTxns pick).pending = s.pending := by
  unfold State.dropTxns; (repeat' split) <;> first | rfl | simp
@[simp] theorem State.dropTxns_sec (s : State) (pick : Txn → Bool) : (s.dropTxns pick).sec = s.sec := by
  unfold State.dropTxns; (repeat' split) <;> first | rfl | simp
@[simp] theorem State.epHalt_pending (s : State) (addr ep : Nat) (dirIn : Bool) (work : Option (Nat × Half)) (qp : Option Nat) (cause : Nat) : (s.epHalt addr ep dirIn work qp cause).pending = s.pending := by
  unfold State.epHalt; (repeat' split) <;> first | rfl | simp
@[simp] theorem State.epHalt_sec (s : State) (addr ep : Nat) (dirIn : Bool) (work : Option (Nat × Half)) (qp : Option Nat) (cause : Nat) : (s.epHalt addr ep dirIn work qp cause).sec = s.sec := by
  unfold State.epHalt; (repeat' split) <;> first | rfl | simp
@[simp] theorem State.resumeQps_pending (s : State) (pick : Qp → Bool) : (s.resumeQps pick).pending = s.pending := by
  unfold State.resumeQps; (repeat' split) <;> first | rfl | (simp; done) | (simp [apply_ite State.pending, fold_pending]; done) | (dsimp only; (repeat' split) <;> first | rfl | (simp; done) | (simp [apply_ite State.pending, fold_pending]; done))
@[simp] theorem State.resumeQps_sec (s : State) (pick : Qp → Bool) : (s.resumeQps pick).sec = s.sec := by
  unfold State.resumeQps; (repeat' split) <;> first | rfl | (simp; done) | (simp [apply_ite State.sec, fold_sec]; done) | (dsimp only; (repeat' split) <;> first | rfl | (simp; done) | (simp [apply_ite State.sec, fold_sec]; done))
@[simp] theorem State.dropSlots_pending (s : State) (addr : Nat) : (s.dropSlots addr).pending = s.pending := by
  unfold State.dropSlots; simp only []; repeat (first | rfl | (simp [apply_ite State.pending, fold_pending]; done) | split | (rw [fold_pending _ (by intros; (repeat' split) <;> first | rfl | (simp [apply_ite State.pending, fold_pending]; done))]))
@[simp] theorem State.dropSlots_sec (s : State) (addr : Nat) : (s.dropSlots addr).sec = s.sec := by
  unfold State.dropSlots; simp only []; repeat (first | rfl | (simp [apply_ite State.sec, fold_sec]; done) | split | (rw [fold_sec _ (by intros; (repeat' split) <;> first | rfl | (simp [apply_ite State.sec, fold_sec]; done))]))
@[simp] theorem State.closeContracts_pending (s : State) (pick : Contract → Bool) : (s.closeContracts pick).pending = s.pending := by
  unfold State.closeContracts; (repeat' split) <;> first | rfl | (simp; done) | (simp [apply_ite State.pending, fold_pending]; done) | (dsimp only; (repeat' split) <;> first | rfl | (simp; done) | (simp [apply_ite State.pending, fold_pending]; done))
@[simp] theorem State.closeContracts_sec (s : State) (pick : Contract → Bool) : (s.closeContracts pick).sec = s.sec := by
  unfold State.closeContracts; (repeat' split) <;> first | rfl | (simp; done) | (simp [apply_ite State.sec, fold_sec]; done) | (dsimp only; (repeat' split) <;> first | rfl | (simp; done) | (simp [apply_ite State.sec, fold_sec]; done))
@[simp] theorem State.dropKeeper_pending (s : State) (r : DWord) : (s.dropKeeper r).pending = s.pending := by
  unfold State.dropKeeper; simp only []; repeat (first | rfl | (simp [apply_ite State.pending, fold_pending]; done) | split | (rw [fold_pending _ (by intros; (repeat' split) <;> first | rfl | (simp [apply_ite State.pending, fold_pending]; done))]))
@[simp] theorem State.dropKeeper_sec (s : State) (r : DWord) : (s.dropKeeper r).sec = s.sec := by
  unfold State.dropKeeper; simp only []; repeat (first | rfl | (simp [apply_ite State.sec, fold_sec]; done) | split | (rw [fold_sec _ (by intros; (repeat' split) <;> first | rfl | (simp [apply_ite State.sec, fold_sec]; done))]))
@[simp] theorem State.goneOne_pending (s : State) (r : DWord) (resetting : Bool) : (s.goneOne r resetting).pending = s.pending := by
  unfold State.goneOne; (repeat' split) <;> first | rfl | (simp; done) | (simp [apply_ite State.pending, fold_pending]; done) | (dsimp only; (repeat' split) <;> first | rfl | (simp; done) | (simp [apply_ite State.pending, fold_pending]; done))
@[simp] theorem State.goneOne_sec (s : State) (r : DWord) (resetting : Bool) : (s.goneOne r resetting).sec = s.sec := by
  unfold State.goneOne; (repeat' split) <;> first | rfl | (simp; done) | (simp [apply_ite State.sec, fold_sec]; done) | (dsimp only; (repeat' split) <;> first | rfl | (simp; done) | (simp [apply_ite State.sec, fold_sec]; done))
@[simp] theorem State.gone_pending (s : State) (r : DWord) : (s.gone r).pending = s.pending := by
  unfold State.gone; (repeat' split) <;> first | rfl | simp
@[simp] theorem State.gone_sec (s : State) (r : DWord) : (s.gone r).sec = s.sec := by
  unfold State.gone; (repeat' split) <;> first | rfl | simp
@[simp] theorem State.abortScan_pending (s : State) (lane : Nat) : (s.abortScan lane).pending = s.pending := by
  unfold State.abortScan; (repeat' split) <;> first | rfl | simp
@[simp] theorem State.abortScan_sec (s : State) (lane : Nat) : (s.abortScan lane).sec = s.sec := by
  unfold State.abortScan; (repeat' split) <;> first | rfl | simp
@[simp] theorem State.linkDown_pending (s : State) (l : Nat) : (s.linkDown l).pending = s.pending := by
  unfold State.linkDown; (repeat' split) <;> first | rfl | simp
@[simp] theorem State.linkDown_sec (s : State) (l : Nat) : (s.linkDown l).sec = s.sec := by
  unfold State.linkDown; (repeat' split) <;> first | rfl | simp
@[simp] theorem State.portOff_pending (s : State) (r : DWord) (cause : Nat) : (s.portOff r cause).pending = s.pending := by
  unfold State.portOff; (repeat' split) <;> first | rfl | simp
@[simp] theorem State.portOff_sec (s : State) (r : DWord) (cause : Nat) : (s.portOff r cause).sec = s.sec := by
  unfold State.portOff; (repeat' split) <;> first | rfl | simp
@[simp] theorem State.disablePort_pending (s : State) (r : DWord) (cause : Nat) : (s.disablePort r cause).pending = s.pending := by
  unfold State.disablePort; (repeat' split) <;> first | rfl | (simp; done) | (simp [apply_ite State.pending, fold_pending]; done) | (dsimp only; (repeat' split) <;> first | rfl | (simp; done) | (simp [apply_ite State.pending, fold_pending]; done))
@[simp] theorem State.disablePort_sec (s : State) (r : DWord) (cause : Nat) : (s.disablePort r cause).sec = s.sec := by
  unfold State.disablePort; (repeat' split) <;> first | rfl | (simp; done) | (simp [apply_ite State.sec, fold_sec]; done) | (dsimp only; (repeat' split) <;> first | rfl | (simp; done) | (simp [apply_ite State.sec, fold_sec]; done))
@[simp] theorem State.learnGone_pending (s : State) (r : DWord) : (s.learnGone r).pending = s.pending := by
  unfold State.learnGone; dsimp only; (repeat' split) <;> first | rfl | (simp [apply_ite State.pending, fold_pending]; done) | (try simp [apply_ite State.pending, fold_pending]) <;> exact foldl_proj (fun x : State => x.pending) _ (by intros; (repeat' split) <;> first | rfl | (simp [apply_ite State.pending, fold_pending]; done)) _ _ | ((try simp [apply_ite State.pending, fold_pending]); rw [fold_pending _ (by intros; (repeat' split) <;> first | rfl | (simp [apply_ite State.pending, fold_pending]; done))]; (try simp [apply_ite State.pending, fold_pending]))
@[simp] theorem State.learnGone_sec (s : State) (r : DWord) : (s.learnGone r).sec = s.sec := by
  unfold State.learnGone; dsimp only; (repeat' split) <;> first | rfl | (simp [apply_ite State.sec, fold_sec]; done) | (try simp [apply_ite State.sec, fold_sec]) <;> exact foldl_proj (fun x : State => x.sec) _ (by intros; (repeat' split) <;> first | rfl | (simp [apply_ite State.sec, fold_sec]; done)) _ _ | ((try simp [apply_ite State.sec, fold_sec]); rw [fold_sec _ (by intros; (repeat' split) <;> first | rfl | (simp [apply_ite State.sec, fold_sec]; done))]; (try simp [apply_ite State.sec, fold_sec]))
@[simp] theorem State.babble_pending (s : State) (r : DWord) : (s.babble r).pending = s.pending := by
  unfold State.babble; dsimp only; (repeat' split) <;> first | rfl | (simp [apply_ite State.pending, fold_pending]; done) | (try simp [apply_ite State.pending, fold_pending]) <;> exact foldl_proj (fun x : State => x.pending) _ (by intros; (repeat' split) <;> first | rfl | (simp [apply_ite State.pending, fold_pending]; done)) _ _ | ((try simp [apply_ite State.pending, fold_pending]); rw [fold_pending _ (by intros; (repeat' split) <;> first | rfl | (simp [apply_ite State.pending, fold_pending]; done))]; (try simp [apply_ite State.pending, fold_pending]))
@[simp] theorem State.babble_sec (s : State) (r : DWord) : (s.babble r).sec = s.sec := by
  unfold State.babble; dsimp only; (repeat' split) <;> first | rfl | (simp [apply_ite State.sec, fold_sec]; done) | (try simp [apply_ite State.sec, fold_sec]) <;> exact foldl_proj (fun x : State => x.sec) _ (by intros; (repeat' split) <;> first | rfl | (simp [apply_ite State.sec, fold_sec]; done)) _ _ | ((try simp [apply_ite State.sec, fold_sec]); rw [fold_sec _ (by intros; (repeat' split) <;> first | rfl | (simp [apply_ite State.sec, fold_sec]; done))]; (try simp [apply_ite State.sec, fold_sec]))
@[simp] theorem State.resetOne_pending (s : State) (r : DWord) (self : Bool) : (s.resetOne r self).pending = s.pending := by
  unfold State.resetOne; (repeat' split) <;> first | rfl | (simp; done) | (simp [apply_ite State.pending, fold_pending]; done) | (dsimp only; (repeat' split) <;> first | rfl | (simp; done) | (simp [apply_ite State.pending, fold_pending]; done))
@[simp] theorem State.resetOne_sec (s : State) (r : DWord) (self : Bool) : (s.resetOne r self).sec = s.sec := by
  unfold State.resetOne; (repeat' split) <;> first | rfl | (simp; done) | (simp [apply_ite State.sec, fold_sec]; done) | (dsimp only; (repeat' split) <;> first | rfl | (simp; done) | (simp [apply_ite State.sec, fold_sec]; done))
@[simp] theorem State.learnReset_pending (s : State) (r : DWord) : (s.learnReset r).pending = s.pending := by
  unfold State.learnReset; (repeat' split) <;> first | rfl | (simp; done) | (simp [apply_ite State.pending, fold_pending]; done) | (dsimp only; (repeat' split) <;> first | rfl | (simp; done) | (simp [apply_ite State.pending, fold_pending]; done))
@[simp] theorem State.learnReset_sec (s : State) (r : DWord) : (s.learnReset r).sec = s.sec := by
  unfold State.learnReset; (repeat' split) <;> first | rfl | (simp; done) | (simp [apply_ite State.sec, fold_sec]; done) | (dsimp only; (repeat' split) <;> first | rfl | (simp; done) | (simp [apply_ite State.sec, fold_sec]; done))
@[simp] theorem State.beginReset_pending (s : State) (r : DWord) : (s.beginReset r).pending = s.pending := by
  unfold State.beginReset; (repeat' split) <;> first | rfl | simp
@[simp] theorem State.beginReset_sec (s : State) (r : DWord) : (s.beginReset r).sec = s.sec := by
  unfold State.beginReset; (repeat' split) <;> first | rfl | simp
@[simp] theorem State.resetRoot_pending (s : State) (r : DWord) : (s.resetRoot r).pending = s.pending := by
  unfold State.resetRoot; (repeat' split) <;> first | rfl | (simp; done) | (simp [apply_ite State.pending, fold_pending]; done) | (dsimp only; (repeat' split) <;> first | rfl | (simp; done) | (simp [apply_ite State.pending, fold_pending]; done))
@[simp] theorem State.resetRoot_sec (s : State) (r : DWord) : (s.resetRoot r).sec = s.sec := by
  unfold State.resetRoot; (repeat' split) <;> first | rfl | (simp; done) | (simp [apply_ite State.sec, fold_sec]; done) | (dsimp only; (repeat' split) <;> first | rfl | (simp; done) | (simp [apply_ite State.sec, fold_sec]; done))
@[simp] theorem State.bringUpStart_pending (s : State) (l : Nat) : (s.bringUpStart l).pending = s.pending := by
  unfold State.bringUpStart; (repeat' split) <;> first | rfl | (simp; done) | (simp [apply_ite State.pending, fold_pending]; done) | (dsimp only; (repeat' split) <;> first | rfl | (simp; done) | (simp [apply_ite State.pending, fold_pending]; done))
@[simp] theorem State.bringUpStart_sec (s : State) (l : Nat) : (s.bringUpStart l).sec = s.sec := by
  unfold State.bringUpStart; (repeat' split) <;> first | rfl | (simp; done) | (simp [apply_ite State.sec, fold_sec]; done) | (dsimp only; (repeat' split) <;> first | rfl | (simp; done) | (simp [apply_ite State.sec, fold_sec]; done))
@[simp] theorem State.undeclared_pending (s : State) (r : DWord) : (s.undeclared r).pending = s.pending := by
  unfold State.undeclared; dsimp only; (repeat' split) <;> first | rfl | (simp [apply_ite State.pending, fold_pending]; done) | (try simp [apply_ite State.pending, fold_pending]) <;> exact foldl_proj (fun x : State => x.pending) _ (by intros; (repeat' split) <;> first | rfl | (simp [apply_ite State.pending, fold_pending]; done)) _ _ | ((try simp [apply_ite State.pending, fold_pending]); rw [fold_pending _ (by intros; (repeat' split) <;> first | rfl | (simp [apply_ite State.pending, fold_pending]; done))]; (try simp [apply_ite State.pending, fold_pending]))
@[simp] theorem State.undeclared_sec (s : State) (r : DWord) : (s.undeclared r).sec = s.sec := by
  unfold State.undeclared; dsimp only; (repeat' split) <;> first | rfl | (simp [apply_ite State.sec, fold_sec]; done) | (try simp [apply_ite State.sec, fold_sec]) <;> exact foldl_proj (fun x : State => x.sec) _ (by intros; (repeat' split) <;> first | rfl | (simp [apply_ite State.sec, fold_sec]; done)) _ _ | ((try simp [apply_ite State.sec, fold_sec]); rw [fold_sec _ (by intros; (repeat' split) <;> first | rfl | (simp [apply_ite State.sec, fold_sec]; done))]; (try simp [apply_ite State.sec, fold_sec]))
@[simp] theorem State.bringUpDone_pending (s : State) (r : DWord) : (s.bringUpDone r).pending = s.pending := by
  unfold State.bringUpDone; (repeat' split) <;> first | rfl | (simp; done) | (simp [apply_ite State.pending, fold_pending]; done) | (dsimp only; (repeat' split) <;> first | rfl | (simp; done) | (simp [apply_ite State.pending, fold_pending]; done))
@[simp] theorem State.bringUpDone_sec (s : State) (r : DWord) : (s.bringUpDone r).sec = s.sec := by
  unfold State.bringUpDone; (repeat' split) <;> first | rfl | (simp; done) | (simp [apply_ite State.sec, fold_sec]; done) | (dsimp only; (repeat' split) <;> first | rfl | (simp; done) | (simp [apply_ite State.sec, fold_sec]; done))
@[simp] theorem State.bringUpDelay_pending (s : State) (r : DWord) : (s.bringUpDelay r).pending = s.pending := by
  unfold State.bringUpDelay; (repeat' split) <;> first | rfl | (simp; done) | (simp [apply_ite State.pending, fold_pending]; done) | (dsimp only; (repeat' split) <;> first | rfl | (simp; done) | (simp [apply_ite State.pending, fold_pending]; done))
@[simp] theorem State.bringUpDelay_sec (s : State) (r : DWord) : (s.bringUpDelay r).sec = s.sec := by
  unfold State.bringUpDelay; (repeat' split) <;> first | rfl | (simp; done) | (simp [apply_ite State.sec, fold_sec]; done) | (dsimp only; (repeat' split) <;> first | rfl | (simp; done) | (simp [apply_ite State.sec, fold_sec]; done))
@[simp] theorem State.waitAtZero_pending (s : State) (r : DWord) (mask : Nat) : (s.waitAtZero r mask).pending = s.pending := by
  unfold State.waitAtZero; (repeat' split) <;> first | rfl | (simp; done) | (simp [apply_ite State.pending, fold_pending]; done) | (dsimp only; (repeat' split) <;> first | rfl | (simp; done) | (simp [apply_ite State.pending, fold_pending]; done))
@[simp] theorem State.waitAtZero_sec (s : State) (r : DWord) (mask : Nat) : (s.waitAtZero r mask).sec = s.sec := by
  unfold State.waitAtZero; (repeat' split) <;> first | rfl | (simp; done) | (simp [apply_ite State.sec, fold_sec]; done) | (dsimp only; (repeat' split) <;> first | rfl | (simp; done) | (simp [apply_ite State.sec, fold_sec]; done))
@[simp] theorem State.giveAddr_pending (s : State) (a : Nat) (r : DWord) : (s.giveAddr a r).pending = s.pending := by
  unfold State.giveAddr; simp only []; repeat (first | rfl | (simp [apply_ite State.pending, fold_pending]; done) | split | (rw [fold_pending _ (by intros; (repeat' split) <;> first | rfl | (simp [apply_ite State.pending, fold_pending]; done))]))
@[simp] theorem State.giveAddr_sec (s : State) (a : Nat) (r : DWord) : (s.giveAddr a r).sec = s.sec := by
  unfold State.giveAddr; simp only []; repeat (first | rfl | (simp [apply_ite State.sec, fold_sec]; done) | split | (rw [fold_sec _ (by intros; (repeat' split) <;> first | rfl | (simp [apply_ite State.sec, fold_sec]; done))]))
@[simp] theorem State.judgeDevice_pending (s : State) (r : DWord) : (s.judgeDevice r).pending = s.pending := by
  unfold State.judgeDevice; (repeat' split) <;> first | rfl | (simp; done) | (simp [apply_ite State.pending, fold_pending]; done) | (dsimp only; (repeat' split) <;> first | rfl | (simp; done) | (simp [apply_ite State.pending, fold_pending]; done))
@[simp] theorem State.judgeDevice_sec (s : State) (r : DWord) : (s.judgeDevice r).sec = s.sec := by
  unfold State.judgeDevice; (repeat' split) <;> first | rfl | (simp; done) | (simp [apply_ite State.sec, fold_sec]; done) | (dsimp only; (repeat' split) <;> first | rfl | (simp; done) | (simp [apply_ite State.sec, fold_sec]; done))
@[simp] theorem State.descriptorsRead_pending (s : State) (r : DWord) : (s.descriptorsRead r).pending = s.pending := by
  unfold State.descriptorsRead; (repeat' split) <;> first | rfl | (simp; done) | (simp [apply_ite State.pending, fold_pending]; done) | (dsimp only; (repeat' split) <;> first | rfl | (simp; done) | (simp [apply_ite State.pending, fold_pending]; done))
@[simp] theorem State.descriptorsRead_sec (s : State) (r : DWord) : (s.descriptorsRead r).sec = s.sec := by
  unfold State.descriptorsRead; (repeat' split) <;> first | rfl | (simp; done) | (simp [apply_ite State.sec, fold_sec]; done) | (dsimp only; (repeat' split) <;> first | rfl | (simp; done) | (simp [apply_ite State.sec, fold_sec]; done))
@[simp] theorem State.unanswered_pending (s : State) (r : DWord) : (s.unanswered r).pending = s.pending := by
  unfold State.unanswered; (repeat' split) <;> first | rfl | (simp; done) | (simp [apply_ite State.pending, fold_pending]; done) | (dsimp only; (repeat' split) <;> first | rfl | (simp; done) | (simp [apply_ite State.pending, fold_pending]; done))
@[simp] theorem State.unanswered_sec (s : State) (r : DWord) : (s.unanswered r).sec = s.sec := by
  unfold State.unanswered; (repeat' split) <;> first | rfl | (simp; done) | (simp [apply_ite State.sec, fold_sec]; done) | (dsimp only; (repeat' split) <;> first | rfl | (simp; done) | (simp [apply_ite State.sec, fold_sec]; done))
@[simp] theorem State.stepFailed_pending (s : State) (r : DWord) : (s.stepFailed r).pending = s.pending := by
  unfold State.stepFailed; (repeat' split) <;> first | rfl | (simp; done) | (simp [apply_ite State.pending, fold_pending]; done) | (dsimp only; (repeat' split) <;> first | rfl | (simp; done) | (simp [apply_ite State.pending, fold_pending]; done))
@[simp] theorem State.stepFailed_sec (s : State) (r : DWord) : (s.stepFailed r).sec = s.sec := by
  unfold State.stepFailed; (repeat' split) <;> first | rfl | (simp; done) | (simp [apply_ite State.sec, fold_sec]; done) | (dsimp only; (repeat' split) <;> first | rfl | (simp; done) | (simp [apply_ite State.sec, fold_sec]; done))
@[simp] theorem State.addressed_pending (s : State) (r : DWord) : (s.addressed r).pending = s.pending := by
  unfold State.addressed; dsimp only; split <;> simp
@[simp] theorem State.addressed_sec (s : State) (r : DWord) : (s.addressed r).sec = s.sec := by
  unfold State.addressed; dsimp only; split <;> simp
@[simp] theorem State.measured_pending (s : State) (r : DWord) (rtts : List Nat) : (s.measured r rtts).pending = s.pending := by
  unfold State.measured; (repeat' split) <;> first | rfl | (simp; done) | (simp [apply_ite State.pending, fold_pending]; done) | (dsimp only; (repeat' split) <;> first | rfl | (simp; done) | (simp [apply_ite State.pending, fold_pending]; done))
@[simp] theorem State.measured_sec (s : State) (r : DWord) (rtts : List Nat) : (s.measured r rtts).sec = s.sec := by
  unfold State.measured; (repeat' split) <;> first | rfl | (simp; done) | (simp [apply_ite State.sec, fold_sec]; done) | (dsimp only; (repeat' split) <;> first | rfl | (simp; done) | (simp [apply_ite State.sec, fold_sec]; done))
@[simp] theorem State.keeperDone_pending (s : State) (r : DWord) (reply : KeeperReply) : (s.keeperDone r reply).pending = s.pending := by
  unfold State.keeperDone; (repeat' split) <;> first | rfl | (simp; done) | (simp [apply_ite State.pending, fold_pending]; done) | (dsimp only; (repeat' split) <;> first | rfl | (simp; done) | (simp [apply_ite State.pending, fold_pending]; done))
@[simp] theorem State.keeperDone_sec (s : State) (r : DWord) (reply : KeeperReply) : (s.keeperDone r reply).sec = s.sec := by
  unfold State.keeperDone; (repeat' split) <;> first | rfl | (simp; done) | (simp [apply_ite State.sec, fold_sec]; done) | (dsimp only; (repeat' split) <;> first | rfl | (simp; done) | (simp [apply_ite State.sec, fold_sec]; done))
@[simp] theorem State.remeasure_pending (s : State) (r : DWord) : (s.remeasure r).pending = s.pending := by
  unfold State.remeasure; (repeat' split) <;> first | rfl | (simp; done) | (simp [apply_ite State.pending, fold_pending]; done) | (dsimp only; (repeat' split) <;> first | rfl | (simp; done) | (simp [apply_ite State.pending, fold_pending]; done))
@[simp] theorem State.remeasure_sec (s : State) (r : DWord) : (s.remeasure r).sec = s.sec := by
  unfold State.remeasure; (repeat' split) <;> first | rfl | (simp; done) | (simp [apply_ite State.sec, fold_sec]; done) | (dsimp only; (repeat' split) <;> first | rfl | (simp; done) | (simp [apply_ite State.sec, fold_sec]; done))
@[simp] theorem State.hubReport_pending (s : State) (r : DWord) (b : List Byte) : (s.hubReport r b).pending = s.pending := by
  unfold State.hubReport; dsimp only; (repeat' split) <;> first | rfl | (simp [apply_ite State.pending, fold_pending]; done) | (try simp [apply_ite State.pending, fold_pending]) <;> exact foldl_proj (fun x : State => x.pending) _ (by intros; (repeat' split) <;> first | rfl | (simp [apply_ite State.pending, fold_pending]; done)) _ _ | ((try simp [apply_ite State.pending, fold_pending]); rw [fold_pending _ (by intros; (repeat' split) <;> first | rfl | (simp [apply_ite State.pending, fold_pending]; done))]; (try simp [apply_ite State.pending, fold_pending]))
@[simp] theorem State.hubReport_sec (s : State) (r : DWord) (b : List Byte) : (s.hubReport r b).sec = s.sec := by
  unfold State.hubReport; dsimp only; (repeat' split) <;> first | rfl | (simp [apply_ite State.sec, fold_sec]; done) | (try simp [apply_ite State.sec, fold_sec]) <;> exact foldl_proj (fun x : State => x.sec) _ (by intros; (repeat' split) <;> first | rfl | (simp [apply_ite State.sec, fold_sec]; done)) _ _ | ((try simp [apply_ite State.sec, fold_sec]); rw [fold_sec _ (by intros; (repeat' split) <;> first | rfl | (simp [apply_ite State.sec, fold_sec]; done))]; (try simp [apply_ite State.sec, fold_sec]))
@[simp] theorem State.remoteWake_pending (s : State) (r : DWord) : (s.remoteWake r).pending = s.pending := by
  unfold State.remoteWake; dsimp only; (repeat' split) <;> first | rfl | (simp [apply_ite State.pending, fold_pending]; done) | (try simp [apply_ite State.pending, fold_pending]) <;> exact foldl_proj (fun x : State => x.pending) _ (by intros; (repeat' split) <;> first | rfl | (simp [apply_ite State.pending, fold_pending]; done)) _ _ | ((try simp [apply_ite State.pending, fold_pending]); rw [fold_pending _ (by intros; (repeat' split) <;> first | rfl | (simp [apply_ite State.pending, fold_pending]; done))]; (try simp [apply_ite State.pending, fold_pending]))
@[simp] theorem State.remoteWake_sec (s : State) (r : DWord) : (s.remoteWake r).sec = s.sec := by
  unfold State.remoteWake; dsimp only; (repeat' split) <;> first | rfl | (simp [apply_ite State.sec, fold_sec]; done) | (try simp [apply_ite State.sec, fold_sec]) <;> exact foldl_proj (fun x : State => x.sec) _ (by intros; (repeat' split) <;> first | rfl | (simp [apply_ite State.sec, fold_sec]; done)) _ _ | ((try simp [apply_ite State.sec, fold_sec]); rw [fold_sec _ (by intros; (repeat' split) <;> first | rfl | (simp [apply_ite State.sec, fold_sec]; done))]; (try simp [apply_ite State.sec, fold_sec]))
@[simp] theorem State.portLives_pending (s : State) (r : DWord) (x : PortRec) : (s.portLives r x).pending = s.pending := by
  unfold State.portLives; (repeat' split) <;> first | rfl | (simp; done) | (simp [apply_ite State.pending, fold_pending]; done) | (dsimp only; (repeat' split) <;> first | rfl | (simp; done) | (simp [apply_ite State.pending, fold_pending]; done))
@[simp] theorem State.portLives_sec (s : State) (r : DWord) (x : PortRec) : (s.portLives r x).sec = s.sec := by
  unfold State.portLives; (repeat' split) <;> first | rfl | (simp; done) | (simp [apply_ite State.sec, fold_sec]; done) | (dsimp only; (repeat' split) <;> first | rfl | (simp; done) | (simp [apply_ite State.sec, fold_sec]; done))
@[simp] theorem State.failChecked_pending (s : State) (p : Place) : (s.failChecked p).pending = s.pending := by
  unfold State.failChecked; exact foldl_proj (fun x : State => x.pending) _ (by intros; (repeat' split) <;> first | rfl | (simp; done) | (simp [apply_ite State.pending, fold_pending]; done)) _ _
@[simp] theorem State.failChecked_sec (s : State) (p : Place) : (s.failChecked p).sec = s.sec := by
  unfold State.failChecked; exact foldl_proj (fun x : State => x.sec) _ (by intros; (repeat' split) <;> first | rfl | (simp; done) | (simp [apply_ite State.sec, fold_sec]; done)) _ _
@[simp] theorem State.portStatus_pending (s : State) (hub : DWord) (port : Nat) (b : List Byte) : (s.portStatus hub port b).pending = s.pending := by
  unfold State.portStatus; dsimp only; (repeat' split) <;> first | rfl | (simp [apply_ite State.pending, fold_pending]; done) | (try simp [apply_ite State.pending, fold_pending]) <;> exact foldl_proj (fun x : State => x.pending) _ (by intros; (repeat' split) <;> first | rfl | (simp [apply_ite State.pending, fold_pending]; done)) _ _ | ((try simp [apply_ite State.pending, fold_pending]); rw [fold_pending _ (by intros; (repeat' split) <;> first | rfl | (simp [apply_ite State.pending, fold_pending]; done))]; (try simp [apply_ite State.pending, fold_pending]))
@[simp] theorem State.portStatus_sec (s : State) (hub : DWord) (port : Nat) (b : List Byte) : (s.portStatus hub port b).sec = s.sec := by
  unfold State.portStatus; dsimp only; (repeat' split) <;> first | rfl | (simp [apply_ite State.sec, fold_sec]; done) | (try simp [apply_ite State.sec, fold_sec]) <;> exact foldl_proj (fun x : State => x.sec) _ (by intros; (repeat' split) <;> first | rfl | (simp [apply_ite State.sec, fold_sec]; done)) _ _ | ((try simp [apply_ite State.sec, fold_sec]); rw [fold_sec _ (by intros; (repeat' split) <;> first | rfl | (simp [apply_ite State.sec, fold_sec]; done))]; (try simp [apply_ite State.sec, fold_sec]))
@[simp] theorem bodyEpOpen_pending (t : Nat) (s : State) (p : List Byte) : (bodyEpOpen t s p).st.pending = s.pending := by
  unfold bodyEpOpen; (repeat' split) <;> first | rfl | (simp; done) | (simp [apply_ite State.pending, fold_pending]; done) | (dsimp only; (repeat' split) <;> first | rfl | (simp; done) | (simp [apply_ite State.pending, fold_pending]; done))
@[simp] theorem bodyEpOpen_sec (t : Nat) (s : State) (p : List Byte) : (bodyEpOpen t s p).st.sec = s.sec := by
  unfold bodyEpOpen; (repeat' split) <;> first | rfl | (simp; done) | (simp [apply_ite State.sec, fold_sec]; done) | (dsimp only; (repeat' split) <;> first | rfl | (simp; done) | (simp [apply_ite State.sec, fold_sec]; done))
@[simp] theorem bodyEpClose_pending (t : Nat) (s : State) (p : List Byte) : (bodyEpClose t s p).st.pending = s.pending := by
  unfold bodyEpClose; (repeat' split) <;> first | rfl | (simp; done) | (simp [apply_ite State.pending, fold_pending]; done) | (dsimp only; (repeat' split) <;> first | rfl | (simp; done) | (simp [apply_ite State.pending, fold_pending]; done))
@[simp] theorem bodyEpClose_sec (t : Nat) (s : State) (p : List Byte) : (bodyEpClose t s p).st.sec = s.sec := by
  unfold bodyEpClose; (repeat' split) <;> first | rfl | (simp; done) | (simp [apply_ite State.sec, fold_sec]; done) | (dsimp only; (repeat' split) <;> first | rfl | (simp; done) | (simp [apply_ite State.sec, fold_sec]; done))
@[simp] theorem bodyEpClearHalt_pending (t : Nat) (s : State) (p : List Byte) : (bodyEpClearHalt t s p).st.pending = s.pending := by
  unfold bodyEpClearHalt; (repeat' split) <;> first | rfl | (simp; done) | (simp [apply_ite State.pending, fold_pending]; done) | (dsimp only; (repeat' split) <;> first | rfl | (simp; done) | (simp [apply_ite State.pending, fold_pending]; done))
@[simp] theorem bodyEpClearHalt_sec (t : Nat) (s : State) (p : List Byte) : (bodyEpClearHalt t s p).st.sec = s.sec := by
  unfold bodyEpClearHalt; (repeat' split) <;> first | rfl | (simp; done) | (simp [apply_ite State.sec, fold_sec]; done) | (dsimp only; (repeat' split) <;> first | rfl | (simp; done) | (simp [apply_ite State.sec, fold_sec]; done))
@[simp] theorem bodyEpQuery_pending (t : Nat) (s : State) (p : List Byte) : (bodyEpQuery t s p).st.pending = s.pending := by
  unfold bodyEpQuery; dsimp only; (repeat' split) <;> first | rfl | (simp [apply_ite State.pending, fold_pending]; done) | (try simp [apply_ite State.pending, fold_pending]) <;> exact foldl_proj (fun x : State => x.pending) _ (by intros; (repeat' split) <;> first | rfl | (simp [apply_ite State.pending, fold_pending]; done)) _ _ | ((try simp [apply_ite State.pending, fold_pending]); rw [fold_pending _ (by intros; (repeat' split) <;> first | rfl | (simp [apply_ite State.pending, fold_pending]; done))]; (try simp [apply_ite State.pending, fold_pending]))
@[simp] theorem bodyEpQuery_sec (t : Nat) (s : State) (p : List Byte) : (bodyEpQuery t s p).st.sec = s.sec := by
  unfold bodyEpQuery; dsimp only; (repeat' split) <;> first | rfl | (simp [apply_ite State.sec, fold_sec]; done) | (try simp [apply_ite State.sec, fold_sec]) <;> exact foldl_proj (fun x : State => x.sec) _ (by intros; (repeat' split) <;> first | rfl | (simp [apply_ite State.sec, fold_sec]; done)) _ _ | ((try simp [apply_ite State.sec, fold_sec]); rw [fold_sec _ (by intros; (repeat' split) <;> first | rfl | (simp [apply_ite State.sec, fold_sec]; done))]; (try simp [apply_ite State.sec, fold_sec]))
@[simp] theorem State.firstDevice_pending (s : State) (t : Nat) : (s.firstDevice t).pending = s.pending := by
  unfold State.firstDevice; (repeat' split) <;> first | rfl | (simp; done) | (simp [apply_ite State.pending, fold_pending]; done) | (dsimp only; (repeat' split) <;> first | rfl | (simp; done) | (simp [apply_ite State.pending, fold_pending]; done))
@[simp] theorem State.firstDevice_sec (s : State) (t : Nat) : (s.firstDevice t).sec = s.sec := by
  unfold State.firstDevice; (repeat' split) <;> first | rfl | (simp; done) | (simp [apply_ite State.sec, fold_sec]; done) | (dsimp only; (repeat' split) <;> first | rfl | (simp; done) | (simp [apply_ite State.sec, fold_sec]; done))
@[simp] theorem State.setOwner_pending (s : State) (r : DWord) (t : Nat) : (s.setOwner r t).pending = s.pending := by
  unfold State.setOwner; (repeat' split) <;> first | rfl | (simp; done) | (simp [apply_ite State.pending, fold_pending]; done) | (dsimp only; (repeat' split) <;> first | rfl | (simp; done) | (simp [apply_ite State.pending, fold_pending]; done))
@[simp] theorem State.setOwner_sec (s : State) (r : DWord) (t : Nat) : (s.setOwner r t).sec = s.sec := by
  unfold State.setOwner; (repeat' split) <;> first | rfl | (simp; done) | (simp [apply_ite State.sec, fold_sec]; done) | (dsimp only; (repeat' split) <;> first | rfl | (simp; done) | (simp [apply_ite State.sec, fold_sec]; done))
@[simp] theorem bodyDevAssign_pending (s : State) (p : List Byte) : (bodyDevAssign s p).st.pending = s.pending := by
  unfold bodyDevAssign; (repeat' split) <;> first | rfl | (simp; done) | (simp [apply_ite State.pending, fold_pending]; done) | (dsimp only; (repeat' split) <;> first | rfl | (simp; done) | (simp [apply_ite State.pending, fold_pending]; done))
@[simp] theorem bodyDevAssign_sec (s : State) (p : List Byte) : (bodyDevAssign s p).st.sec = s.sec := by
  unfold bodyDevAssign; (repeat' split) <;> first | rfl | (simp; done) | (simp [apply_ite State.sec, fold_sec]; done) | (dsimp only; (repeat' split) <;> first | rfl | (simp; done) | (simp [apply_ite State.sec, fold_sec]; done))
@[simp] theorem bodyDevRelease_pending (s : State) (p : List Byte) : (bodyDevRelease s p).st.pending = s.pending := by
  unfold bodyDevRelease; (repeat' split) <;> first | rfl | (simp; done) | (simp [apply_ite State.pending, fold_pending]; done) | (dsimp only; (repeat' split) <;> first | rfl | (simp; done) | (simp [apply_ite State.pending, fold_pending]; done))
@[simp] theorem bodyDevRelease_sec (s : State) (p : List Byte) : (bodyDevRelease s p).st.sec = s.sec := by
  unfold bodyDevRelease; (repeat' split) <;> first | rfl | (simp; done) | (simp [apply_ite State.sec, fold_sec]; done) | (dsimp only; (repeat' split) <;> first | rfl | (simp; done) | (simp [apply_ite State.sec, fold_sec]; done))
@[simp] theorem bodyTreeAdopt_pending (s : State) (p : List Byte) : (bodyTreeAdopt s p).st.pending = s.pending := by
  unfold bodyTreeAdopt; (repeat' split) <;> first | rfl | (simp; done) | (simp [apply_ite State.pending, fold_pending]; done) | (dsimp only; (repeat' split) <;> first | rfl | (simp; done) | (simp [apply_ite State.pending, fold_pending]; done))
@[simp] theorem bodyTreeAdopt_sec (s : State) (p : List Byte) : (bodyTreeAdopt s p).st.sec = s.sec := by
  unfold bodyTreeAdopt; (repeat' split) <;> first | rfl | (simp; done) | (simp [apply_ite State.sec, fold_sec]; done) | (dsimp only; (repeat' split) <;> first | rfl | (simp; done) | (simp [apply_ite State.sec, fold_sec]; done))
@[simp] theorem bodyPortEnable_pending (s : State) (p : List Byte) : (bodyPortEnable s p).st.pending = s.pending := by
  unfold bodyPortEnable; (repeat' split) <;> first | rfl | (simp; done) | (simp [apply_ite State.pending, fold_pending]; done) | (dsimp only; (repeat' split) <;> first | rfl | (simp; done) | (simp [apply_ite State.pending, fold_pending]; done))
@[simp] theorem bodyPortEnable_sec (s : State) (p : List Byte) : (bodyPortEnable s p).st.sec = s.sec := by
  unfold bodyPortEnable; (repeat' split) <;> first | rfl | (simp; done) | (simp [apply_ite State.sec, fold_sec]; done) | (dsimp only; (repeat' split) <;> first | rfl | (simp; done) | (simp [apply_ite State.sec, fold_sec]; done))
@[simp] theorem bodyPortDisable_pending (s : State) (p : List Byte) : (bodyPortDisable s p).st.pending = s.pending := by
  unfold bodyPortDisable; (repeat' split) <;> first | rfl | (simp; done) | (simp [apply_ite State.pending, fold_pending]; done) | (dsimp only; (repeat' split) <;> first | rfl | (simp; done) | (simp [apply_ite State.pending, fold_pending]; done))
@[simp] theorem bodyPortDisable_sec (s : State) (p : List Byte) : (bodyPortDisable s p).st.sec = s.sec := by
  unfold bodyPortDisable; (repeat' split) <;> first | rfl | (simp; done) | (simp [apply_ite State.sec, fold_sec]; done) | (dsimp only; (repeat' split) <;> first | rfl | (simp; done) | (simp [apply_ite State.sec, fold_sec]; done))
@[simp] theorem bodyPortReset_pending (t : Nat) (s : State) (p : List Byte) : (bodyPortReset t s p).st.pending = s.pending := by
  unfold bodyPortReset; (repeat' split) <;> first | rfl | (simp; done) | (simp [apply_ite State.pending, fold_pending]; done) | (dsimp only; (repeat' split) <;> first | rfl | (simp; done) | (simp [apply_ite State.pending, fold_pending]; done))
@[simp] theorem bodyPortReset_sec (t : Nat) (s : State) (p : List Byte) : (bodyPortReset t s p).st.sec = s.sec := by
  unfold bodyPortReset; (repeat' split) <;> first | rfl | (simp; done) | (simp [apply_ite State.sec, fold_sec]; done) | (dsimp only; (repeat' split) <;> first | rfl | (simp; done) | (simp [apply_ite State.sec, fold_sec]; done))
@[simp] theorem bodyPortResetAck_pending (t : Nat) (s : State) (p : List Byte) : (bodyPortResetAck t s p).st.pending = s.pending := by
  unfold bodyPortResetAck; (repeat' split) <;> first | rfl | (simp; done) | (simp [apply_ite State.pending, fold_pending]; done) | (dsimp only; (repeat' split) <;> first | rfl | (simp; done) | (simp [apply_ite State.pending, fold_pending]; done))
@[simp] theorem bodyPortResetAck_sec (t : Nat) (s : State) (p : List Byte) : (bodyPortResetAck t s p).st.sec = s.sec := by
  unfold bodyPortResetAck; (repeat' split) <;> first | rfl | (simp; done) | (simp [apply_ite State.sec, fold_sec]; done) | (dsimp only; (repeat' split) <;> first | rfl | (simp; done) | (simp [apply_ite State.sec, fold_sec]; done))
@[simp] theorem bodyTreeQuery_pending (t : Nat) (s : State) (p : List Byte) : (bodyTreeQuery t s p).st.pending = s.pending := by
  unfold bodyTreeQuery; dsimp only; (repeat' split) <;> first | rfl | (simp [apply_ite State.pending, fold_pending]; done) | (try simp [apply_ite State.pending, fold_pending]) <;> exact foldl_proj (fun x : State => x.pending) _ (by intros; (repeat' split) <;> first | rfl | (simp [apply_ite State.pending, fold_pending]; done)) _ _ | ((try simp [apply_ite State.pending, fold_pending]); rw [fold_pending _ (by intros; (repeat' split) <;> first | rfl | (simp [apply_ite State.pending, fold_pending]; done))]; (try simp [apply_ite State.pending, fold_pending]))
@[simp] theorem bodyTreeQuery_sec (t : Nat) (s : State) (p : List Byte) : (bodyTreeQuery t s p).st.sec = s.sec := by
  unfold bodyTreeQuery; dsimp only; (repeat' split) <;> first | rfl | (simp [apply_ite State.sec, fold_sec]; done) | (try simp [apply_ite State.sec, fold_sec]) <;> exact foldl_proj (fun x : State => x.sec) _ (by intros; (repeat' split) <;> first | rfl | (simp [apply_ite State.sec, fold_sec]; done)) _ _ | ((try simp [apply_ite State.sec, fold_sec]); rw [fold_sec _ (by intros; (repeat' split) <;> first | rfl | (simp [apply_ite State.sec, fold_sec]; done))]; (try simp [apply_ite State.sec, fold_sec]))
@[simp] theorem bodyTreeList_pending (t : Nat) (s : State) (p : List Byte) : (bodyTreeList t s p).st.pending = s.pending := by
  unfold bodyTreeList; (repeat' split) <;> first | rfl | (simp; done) | (simp [apply_ite State.pending, fold_pending]; done) | (dsimp only; (repeat' split) <;> first | rfl | (simp; done) | (simp [apply_ite State.pending, fold_pending]; done))
@[simp] theorem bodyTreeList_sec (t : Nat) (s : State) (p : List Byte) : (bodyTreeList t s p).st.sec = s.sec := by
  unfold bodyTreeList; (repeat' split) <;> first | rfl | (simp; done) | (simp [apply_ite State.sec, fold_sec]; done) | (dsimp only; (repeat' split) <;> first | rfl | (simp; done) | (simp [apply_ite State.sec, fold_sec]; done))
@[simp] theorem State.modTep_pending (s : State) (l addr ep : Nat) (dirIn : Bool) (f : Ep → Ep) : (s.modTep l addr ep dirIn f).pending = s.pending := by
  unfold State.modTep; (repeat' split) <;> first | rfl | simp
@[simp] theorem State.modTep_sec (s : State) (l addr ep : Nat) (dirIn : Bool) (f : Ep → Ep) : (s.modTep l addr ep dirIn f).sec = s.sec := by
  unfold State.modTep; (repeat' split) <;> first | rfl | simp
@[simp] theorem State.took_pending (s : State) (l : Nat) (inbound : Bool) (start chg : Nat) : (s.took l inbound start chg).pending = s.pending := by
  unfold State.took; (repeat' split) <;> first | rfl | (simp; done) | (simp [apply_ite State.pending, fold_pending]; done) | (dsimp only; (repeat' split) <;> first | rfl | (simp; done) | (simp [apply_ite State.pending, fold_pending]; done))
@[simp] theorem State.took_sec (s : State) (l : Nat) (inbound : Bool) (start chg : Nat) : (s.took l inbound start chg).sec = s.sec := by
  unfold State.took; (repeat' split) <;> first | rfl | (simp; done) | (simp [apply_ite State.sec, fold_sec]; done) | (dsimp only; (repeat' split) <;> first | rfl | (simp; done) | (simp [apply_ite State.sec, fold_sec]; done))
@[simp] theorem State.markSent_pending (s : State) (x : Txn) : (s.markSent x).pending = s.pending := by
  unfold State.markSent; (repeat' split) <;> first | rfl | simp
@[simp] theorem State.markSent_sec (s : State) (x : Txn) : (s.markSent x).sec = s.sec := by
  unfold State.markSent; (repeat' split) <;> first | rfl | simp
@[simp] theorem State.sendPackets_pending (s : State) (x : Txn) : (s.sendPackets x).pending = s.pending := by
  unfold State.sendPackets; (repeat' split) <;> first | rfl | (simp; done) | (simp [apply_ite State.pending, fold_pending]; done) | (dsimp only; (repeat' split) <;> first | rfl | (simp; done) | (simp [apply_ite State.pending, fold_pending]; done))
@[simp] theorem State.sendPackets_sec (s : State) (x : Txn) : (s.sendPackets x).sec = s.sec := by
  unfold State.sendPackets; (repeat' split) <;> first | rfl | (simp; done) | (simp [apply_ite State.sec, fold_sec]; done) | (dsimp only; (repeat' split) <;> first | rfl | (simp; done) | (simp [apply_ite State.sec, fold_sec]; done))
@[simp] theorem State.traffic_pending (s : State) (l addr : Nat) : (s.traffic l addr).pending = s.pending := by
  unfold State.traffic; dsimp only; (repeat' split) <;> first | rfl | (simp [apply_ite State.pending, fold_pending]; done) | (try simp [apply_ite State.pending, fold_pending]) <;> exact foldl_proj (fun x : State => x.pending) _ (by intros; (repeat' split) <;> first | rfl | (simp [apply_ite State.pending, fold_pending]; done)) _ _ | ((try simp [apply_ite State.pending, fold_pending]); rw [fold_pending _ (by intros; (repeat' split) <;> first | rfl | (simp [apply_ite State.pending, fold_pending]; done))]; (try simp [apply_ite State.pending, fold_pending]))
@[simp] theorem State.traffic_sec (s : State) (l addr : Nat) : (s.traffic l addr).sec = s.sec := by
  unfold State.traffic; dsimp only; (repeat' split) <;> first | rfl | (simp [apply_ite State.sec, fold_sec]; done) | (try simp [apply_ite State.sec, fold_sec]) <;> exact foldl_proj (fun x : State => x.sec) _ (by intros; (repeat' split) <;> first | rfl | (simp [apply_ite State.sec, fold_sec]; done)) _ _ | ((try simp [apply_ite State.sec, fold_sec]); rw [fold_sec _ (by intros; (repeat' split) <;> first | rfl | (simp [apply_ite State.sec, fold_sec]; done))]; (try simp [apply_ite State.sec, fold_sec]))
@[simp] theorem State.launchOn_pending (s : State) (x : Txn) (start : Nat) : (s.launchOn x start).pending = s.pending := by
  unfold State.launchOn; (repeat' split) <;> first | rfl | (simp; done) | (simp [apply_ite State.pending, fold_pending]; done) | (dsimp only; (repeat' split) <;> first | rfl | (simp; done) | (simp [apply_ite State.pending, fold_pending]; done))
@[simp] theorem State.launchOn_sec (s : State) (x : Txn) (start : Nat) : (s.launchOn x start).sec = s.sec := by
  unfold State.launchOn; (repeat' split) <;> first | rfl | (simp; done) | (simp [apply_ite State.sec, fold_sec]; done) | (dsimp only; (repeat' split) <;> first | rfl | (simp; done) | (simp [apply_ite State.sec, fold_sec]; done))
@[simp] theorem State.readWork_pending (s : State) (x : Txn) : (s.readWork x).1.pending = s.pending := by
  unfold State.readWork; (repeat' split) <;> first | rfl | simp
@[simp] theorem State.readWork_sec (s : State) (x : Txn) : (s.readWork x).1.sec = s.sec := by
  unfold State.readWork; (repeat' split) <;> first | rfl | simp
@[simp] theorem State.launch_pending (s : State) (x : Txn) (start : Nat) : (s.launch x start).pending = s.pending := by
  unfold State.launch; (repeat' split) <;> first | rfl | (simp; done) | (simp [apply_ite State.pending, fold_pending]; done) | (dsimp only; (repeat' split) <;> first | rfl | (simp; done) | (simp [apply_ite State.pending, fold_pending]; done))
@[simp] theorem State.launch_sec (s : State) (x : Txn) (start : Nat) : (s.launch x start).sec = s.sec := by
  unfold State.launch; (repeat' split) <;> first | rfl | (simp; done) | (simp [apply_ite State.sec, fold_sec]; done) | (dsimp only; (repeat' split) <;> first | rfl | (simp; done) | (simp [apply_ite State.sec, fold_sec]; done))
@[simp] theorem State.swapTxn_pending (s : State) (x : Txn) (y : Option Txn) : (s.swapTxn x y).pending = s.pending := by
  unfold State.swapTxn; (repeat' split) <;> first | rfl | (simp; done) | (simp [apply_ite State.pending, fold_pending]; done) | (dsimp only; (repeat' split) <;> first | rfl | (simp; done) | (simp [apply_ite State.pending, fold_pending]; done))
@[simp] theorem State.swapTxn_sec (s : State) (x : Txn) (y : Option Txn) : (s.swapTxn x y).sec = s.sec := by
  unfold State.swapTxn; (repeat' split) <;> first | rfl | (simp; done) | (simp [apply_ite State.sec, fold_sec]; done) | (dsimp only; (repeat' split) <;> first | rfl | (simp; done) | (simp [apply_ite State.sec, fold_sec]; done))
@[simp] theorem State.okTxn_pending (s : State) (x : Txn) : (s.okTxn x).pending = s.pending := by
  unfold State.okTxn; (repeat' split) <;> first | rfl | simp
@[simp] theorem State.okTxn_sec (s : State) (x : Txn) : (s.okTxn x).sec = s.sec := by
  unfold State.okTxn; (repeat' split) <;> first | rfl | simp
@[simp] theorem State.strikeLost_pending (s : State) (q : Nat) (idx : Half) : (s.strikeLost q idx).pending = s.pending := by
  unfold State.strikeLost; (repeat' split) <;> first | rfl | (simp; done) | (simp [apply_ite State.pending, fold_pending]; done) | (dsimp only; (repeat' split) <;> first | rfl | (simp; done) | (simp [apply_ite State.pending, fold_pending]; done))
@[simp] theorem State.strikeLost_sec (s : State) (q : Nat) (idx : Half) : (s.strikeLost q idx).sec = s.sec := by
  unfold State.strikeLost; (repeat' split) <;> first | rfl | (simp; done) | (simp [apply_ite State.sec, fold_sec]; done) | (dsimp only; (repeat' split) <;> first | rfl | (simp; done) | (simp [apply_ite State.sec, fold_sec]; done))
@[simp] theorem State.strikeError_pending (s : State) (x : Txn) : (s.strikeError x).pending = s.pending := by
  unfold State.strikeError; (repeat' split) <;> first | rfl | simp
@[simp] theorem State.strikeError_sec (s : State) (x : Txn) : (s.strikeError x).sec = s.sec := by
  unfold State.strikeError; (repeat' split) <;> first | rfl | simp
@[simp] theorem State.modKreq_pending (s : State) (x : Txn) (f : KReq → KReq) : (s.modKreq x f).pending = s.pending := by
  unfold State.modKreq; (repeat' split) <;> first | rfl | simp
@[simp] theorem State.modKreq_sec (s : State) (x : Txn) (f : KReq → KReq) : (s.modKreq x f).sec = s.sec := by
  unfold State.modKreq; (repeat' split) <;> first | rfl | simp
@[simp] theorem State.kreqOver_pending (s : State) (x : Txn) (ok : Bool) : (s.kreqOver x ok).pending = s.pending := by
  unfold State.kreqOver; (repeat' split) <;> first | rfl | (simp; done) | (simp [apply_ite State.pending, fold_pending]; done) | (dsimp only; (repeat' split) <;> first | rfl | (simp; done) | (simp [apply_ite State.pending, fold_pending]; done))
@[simp] theorem State.kreqOver_sec (s : State) (x : Txn) (ok : Bool) : (s.kreqOver x ok).sec = s.sec := by
  unfold State.kreqOver; (repeat' split) <;> first | rfl | (simp; done) | (simp [apply_ite State.sec, fold_sec]; done) | (dsimp only; (repeat' split) <;> first | rfl | (simp; done) | (simp [apply_ite State.sec, fold_sec]; done))
@[simp] theorem State.kreqNext_pending (s : State) (x : Txn) : (s.kreqNext x).pending = s.pending := by
  unfold State.kreqNext; (repeat' split) <;> first | rfl | simp
@[simp] theorem State.kreqNext_sec (s : State) (x : Txn) : (s.kreqNext x).sec = s.sec := by
  unfold State.kreqNext; (repeat' split) <;> first | rfl | simp
@[simp] theorem State.txError_pending (s : State) (x : Txn) : (s.txError x).pending = s.pending := by
  unfold State.txError; (repeat' split) <;> first | rfl | (simp; done) | (simp [apply_ite State.pending, fold_pending]; done) | (dsimp only; (repeat' split) <;> first | rfl | (simp; done) | (simp [apply_ite State.pending, fold_pending]; done))
@[simp] theorem State.txError_sec (s : State) (x : Txn) : (s.txError x).sec = s.sec := by
  unfold State.txError; (repeat' split) <;> first | rfl | (simp; done) | (simp [apply_ite State.sec, fold_sec]; done) | (dsimp only; (repeat' split) <;> first | rfl | (simp; done) | (simp [apply_ite State.sec, fold_sec]; done))
@[simp] theorem State.toStatus_pending (s : State) (x : Txn) (q : Nat) (e : Entry) : (s.toStatus x q e).pending = s.pending := by
  unfold State.toStatus; (repeat' split) <;> first | rfl | (simp; done) | (simp [apply_ite State.pending, fold_pending]; done) | (dsimp only; (repeat' split) <;> first | rfl | (simp; done) | (simp [apply_ite State.pending, fold_pending]; done))
@[simp] theorem State.toStatus_sec (s : State) (x : Txn) (q : Nat) (e : Entry) : (s.toStatus x q e).sec = s.sec := by
  unfold State.toStatus; (repeat' split) <;> first | rfl | (simp; done) | (simp [apply_ite State.sec, fold_sec]; done) | (dsimp only; (repeat' split) <;> first | rfl | (simp; done) | (simp [apply_ite State.sec, fold_sec]; done))
@[simp] theorem State.endAt_pending (s : State) (q : Nat) (idx : Half) (st : XStatus) (short : Bool) : (s.endAt q idx st short).pending = s.pending := by
  unfold State.endAt; (repeat' split) <;> first | rfl | simp
@[simp] theorem State.endAt_sec (s : State) (q : Nat) (idx : Half) (st : XStatus) (short : Bool) : (s.endAt q idx st short).sec = s.sec := by
  unfold State.endAt; (repeat' split) <;> first | rfl | simp
@[simp] theorem State.delivered_pending (s : State) (x : Txn) (q : Nat) (e : Entry) : (s.delivered x q e).pending = s.pending := by
  unfold State.delivered; (repeat' split) <;> first | rfl | (simp; done) | (simp [apply_ite State.pending, fold_pending]; done) | (dsimp only; (repeat' split) <;> first | rfl | (simp; done) | (simp [apply_ite State.pending, fold_pending]; done))
@[simp] theorem State.delivered_sec (s : State) (x : Txn) (q : Nat) (e : Entry) : (s.delivered x q e).sec = s.sec := by
  unfold State.delivered; (repeat' split) <;> first | rfl | (simp; done) | (simp [apply_ite State.sec, fold_sec]; done) | (dsimp only; (repeat' split) <;> first | rfl | (simp; done) | (simp [apply_ite State.sec, fold_sec]; done))
@[simp] theorem State.naked_pending (s : State) (x : Txn) (q : Nat) (e : Entry) : (s.naked x q e).pending = s.pending := by
  unfold State.naked; (repeat' split) <;> first | rfl | simp
@[simp] theorem State.naked_sec (s : State) (x : Txn) (q : Nat) (e : Entry) : (s.naked x q e).sec = s.sec := by
  unfold State.naked; (repeat' split) <;> first | rfl | simp
@[simp] theorem State.stalled_pending (s : State) (x : Txn) : (s.stalled x).pending = s.pending := by
  unfold State.stalled; (repeat' split) <;> first | rfl | simp
@[simp] theorem State.stalled_sec (s : State) (x : Txn) : (s.stalled x).sec = s.sec := by
  unfold State.stalled; (repeat' split) <;> first | rfl | simp
@[simp] theorem State.received_pending (s : State) (x : Txn) (q : Nat) (e : Entry) (b : List Byte) : (s.received x q e b).pending = s.pending := by
  unfold State.received; (repeat' split) <;> first | rfl | (simp; done) | (simp [apply_ite State.pending, fold_pending]; done) | (dsimp only; (repeat' split) <;> first | rfl | (simp; done) | (simp [apply_ite State.pending, fold_pending]; done))
@[simp] theorem State.received_sec (s : State) (x : Txn) (q : Nat) (e : Entry) (b : List Byte) : (s.received x q e b).sec = s.sec := by
  unfold State.received; (repeat' split) <;> first | rfl | (simp; done) | (simp [apply_ite State.sec, fold_sec]; done) | (dsimp only; (repeat' split) <;> first | rfl | (simp; done) | (simp [apply_ite State.sec, fold_sec]; done))
@[simp] theorem State.polled_pending (s : State) (x : Txn) (c : Contract) (b : List Byte) : (s.polled x c b).pending = s.pending := by
  unfold State.polled; (repeat' split) <;> first | rfl | (simp; done) | (simp [apply_ite State.pending, fold_pending]; done) | (dsimp only; (repeat' split) <;> first | rfl | (simp; done) | (simp [apply_ite State.pending, fold_pending]; done))
@[simp] theorem State.polled_sec (s : State) (x : Txn) (c : Contract) (b : List Byte) : (s.polled x c b).sec = s.sec := by
  unfold State.polled; (repeat' split) <;> first | rfl | (simp; done) | (simp [apply_ite State.sec, fold_sec]; done) | (dsimp only; (repeat' split) <;> first | rfl | (simp; done) | (simp [apply_ite State.sec, fold_sec]; done))
@[simp] theorem State.keeperGot_pending (s : State) (x : Txn) (b : List Byte) : (s.keeperGot x b).pending = s.pending := by
  unfold State.keeperGot; (repeat' split) <;> first | rfl | simp
@[simp] theorem State.keeperGot_sec (s : State) (x : Txn) (b : List Byte) : (s.keeperGot x b).sec = s.sec := by
  unfold State.keeperGot; (repeat' split) <;> first | rfl | simp
@[simp] theorem State.shaken_pending (s : State) (x : Txn) : (s.shaken x).pending = s.pending := by
  unfold State.shaken; (repeat' split) <;> first | rfl | simp
@[simp] theorem State.shaken_sec (s : State) (x : Txn) : (s.shaken x).sec = s.sec := by
  unfold State.shaken; (repeat' split) <;> first | rfl | simp
@[simp] theorem State.endTxn_pending (s : State) (x : Txn) : (s.endTxn x).pending = s.pending := by
  unfold State.endTxn; (repeat' split) <;> first | rfl | simp
@[simp] theorem State.endTxn_sec (s : State) (x : Txn) : (s.endTxn x).sec = s.sec := by
  unfold State.endTxn; (repeat' split) <;> first | rfl | simp
@[simp] theorem State.babbled_pending (s : State) (x : Txn) : (s.babbled x).pending = s.pending := by
  unfold State.babbled; dsimp only; (repeat' split) <;> first | rfl | (simp [apply_ite State.pending, fold_pending]; done) | (try simp [apply_ite State.pending, fold_pending]) <;> exact foldl_proj (fun x : State => x.pending) _ (by intros; (repeat' split) <;> first | rfl | (simp [apply_ite State.pending, fold_pending]; done)) _ _ | ((try simp [apply_ite State.pending, fold_pending]); rw [fold_pending _ (by intros; (repeat' split) <;> first | rfl | (simp [apply_ite State.pending, fold_pending]; done))]; (try simp [apply_ite State.pending, fold_pending]))
@[simp] theorem State.babbled_sec (s : State) (x : Txn) : (s.babbled x).sec = s.sec := by
  unfold State.babbled; dsimp only; (repeat' split) <;> first | rfl | (simp [apply_ite State.sec, fold_sec]; done) | (try simp [apply_ite State.sec, fold_sec]) <;> exact foldl_proj (fun x : State => x.sec) _ (by intros; (repeat' split) <;> first | rfl | (simp [apply_ite State.sec, fold_sec]; done)) _ _ | ((try simp [apply_ite State.sec, fold_sec]); rw [fold_sec _ (by intros; (repeat' split) <;> first | rfl | (simp [apply_ite State.sec, fold_sec]; done))]; (try simp [apply_ite State.sec, fold_sec]))
@[simp] theorem State.inData_pending (s : State) (x : Txn) (toggle : Bool) (b : List Byte) : (s.inData x toggle b).pending = s.pending := by
  unfold State.inData; (repeat' split) <;> first | rfl | (simp; done) | (simp [apply_ite State.pending, fold_pending]; done) | (dsimp only; (repeat' split) <;> first | rfl | (simp; done) | (simp [apply_ite State.pending, fold_pending]; done))
@[simp] theorem State.inData_sec (s : State) (x : Txn) (toggle : Bool) (b : List Byte) : (s.inData x toggle b).sec = s.sec := by
  unfold State.inData; (repeat' split) <;> first | rfl | (simp; done) | (simp [apply_ite State.sec, fold_sec]; done) | (dsimp only; (repeat' split) <;> first | rfl | (simp; done) | (simp [apply_ite State.sec, fold_sec]; done))
@[simp] theorem State.inShake_pending (s : State) (x : Txn) (p : Pid) : (s.inShake x p).pending = s.pending := by
  unfold State.inShake; (repeat' split) <;> first | rfl | simp
@[simp] theorem State.inShake_sec (s : State) (x : Txn) (p : Pid) : (s.inShake x p).sec = s.sec := by
  unfold State.inShake; (repeat' split) <;> first | rfl | simp
@[simp] theorem State.outShake_pending (s : State) (x : Txn) (p : Pid) : (s.outShake x p).pending = s.pending := by
  unfold State.outShake; (repeat' split) <;> first | rfl | (simp; done) | (simp [apply_ite State.pending, fold_pending]; done) | (dsimp only; (repeat' split) <;> first | rfl | (simp; done) | (simp [apply_ite State.pending, fold_pending]; done))
@[simp] theorem State.outShake_sec (s : State) (x : Txn) (p : Pid) : (s.outShake x p).sec = s.sec := by
  unfold State.outShake; (repeat' split) <;> first | rfl | (simp; done) | (simp [apply_ite State.sec, fold_sec]; done) | (dsimp only; (repeat' split) <;> first | rfl | (simp; done) | (simp [apply_ite State.sec, fold_sec]; done))
@[simp] theorem State.withdrawnTx_pending (s : State) (x : Txn) : (s.withdrawnTx x).pending = s.pending := by
  unfold State.withdrawnTx; (repeat' split) <;> first | rfl | simp
@[simp] theorem State.withdrawnTx_sec (s : State) (x : Txn) : (s.withdrawnTx x).sec = s.sec := by
  unfold State.withdrawnTx; (repeat' split) <;> first | rfl | simp
@[simp] theorem State.disarmShake_pending (s : State) (x : Txn) (p : Pid) : (s.disarmShake x p).pending = s.pending := by
  unfold State.disarmShake; (repeat' split) <;> first | rfl | simp
@[simp] theorem State.disarmShake_sec (s : State) (x : Txn) (p : Pid) : (s.disarmShake x p).sec = s.sec := by
  unfold State.disarmShake; (repeat' split) <;> first | rfl | simp
@[simp] theorem State.retractShake_pending (s : State) (x : Txn) (p : Pid) : (s.retractShake x p).pending = s.pending := by
  unfold State.retractShake; (repeat' split) <;> first | rfl | simp
@[simp] theorem State.retractShake_sec (s : State) (x : Txn) (p : Pid) : (s.retractShake x p).sec = s.sec := by
  unfold State.retractShake; (repeat' split) <;> first | rfl | simp
@[simp] theorem State.splitShake_pending (s : State) (x : Txn) (p : Pid) : (s.splitShake x p).pending = s.pending := by
  unfold State.splitShake; (repeat' split) <;> first | rfl | simp
@[simp] theorem State.splitShake_sec (s : State) (x : Txn) (p : Pid) : (s.splitShake x p).sec = s.sec := by
  unfold State.splitShake; (repeat' split) <;> first | rfl | simp
@[simp] theorem State.startEntry_pending (s : State) (x : Txn) : (s.startEntry x).pending = s.pending := by
  unfold State.startEntry; (repeat' split) <;> first | rfl | simp
@[simp] theorem State.startEntry_sec (s : State) (x : Txn) : (s.startEntry x).sec = s.sec := by
  unfold State.startEntry; (repeat' split) <;> first | rfl | simp
theorem State.tryStart_pending {s u : State} {t : Nat} {x : Txn} (h : s.tryStart t x = some u) : u.pending = s.pending := by
  unfold State.tryStart at h; dsimp only at h
  split at h
  · injection h with h; subst h; simp
  · simp at h
@[simp] theorem State.tryStart_getD_pending (s : State) (t : Nat) (x : Txn) : ((s.tryStart t x).getD s).pending = s.pending := by
  cases h : s.tryStart t x with
  | none => rfl
  | some u => simpa using State.tryStart_pending h
theorem State.tryStart_sec {s u : State} {t : Nat} {x : Txn} (h : s.tryStart t x = some u) : u.sec = s.sec := by
  unfold State.tryStart at h; dsimp only at h
  split at h
  · injection h with h; subst h; simp
  · simp at h
@[simp] theorem State.tryStart_getD_sec (s : State) (t : Nat) (x : Txn) : ((s.tryStart t x).getD s).sec = s.sec := by
  cases h : s.tryStart t x with
  | none => rfl
  | some u => simpa using State.tryStart_sec h
@[simp] theorem State.resumeTxn_pending (s : State) (x : Txn) (start : Nat) : (s.resumeTxn x start).pending = s.pending := by
  unfold State.resumeTxn; (repeat' split) <;> first | rfl | simp
@[simp] theorem State.resumeTxn_sec (s : State) (x : Txn) (start : Nat) : (s.resumeTxn x start).sec = s.sec := by
  unfold State.resumeTxn; (repeat' split) <;> first | rfl | simp
@[simp] theorem State.dropStrike_pending (s : State) (q : Nat) (idx : Half) : (s.dropStrike q idx).pending = s.pending := by
  unfold State.dropStrike; (repeat' split) <;> first | rfl | simp
@[simp] theorem State.dropStrike_sec (s : State) (q : Nat) (idx : Half) : (s.dropStrike q idx).sec = s.sec := by
  unfold State.dropStrike; (repeat' split) <;> first | rfl | simp
@[simp] theorem State.sendWithdrawal_pending (s : State) (q : Nat) (e : Entry) (start : Nat) : (s.sendWithdrawal q e start).pending = s.pending := by
  unfold State.sendWithdrawal; (repeat' split) <;> first | rfl | simp
@[simp] theorem State.sendWithdrawal_sec (s : State) (q : Nat) (e : Entry) (start : Nat) : (s.sendWithdrawal q e start).sec = s.sec := by
  unfold State.sendWithdrawal; (repeat' split) <;> first | rfl | simp
@[simp] theorem State.retryStart_pending (s : State) (addr ep : Nat) (dirIn : Bool) : (s.retryStart addr ep dirIn).pending = s.pending := by
  unfold State.retryStart; (repeat' split) <;> first | rfl | (simp; done) | (simp [apply_ite State.pending, fold_pending]; done) | (dsimp only; (repeat' split) <;> first | rfl | (simp; done) | (simp [apply_ite State.pending, fold_pending]; done))
@[simp] theorem State.retryStart_sec (s : State) (addr ep : Nat) (dirIn : Bool) : (s.retryStart addr ep dirIn).sec = s.sec := by
  unfold State.retryStart; (repeat' split) <;> first | rfl | (simp; done) | (simp [apply_ite State.sec, fold_sec]; done) | (dsimp only; (repeat' split) <;> first | rfl | (simp; done) | (simp [apply_ite State.sec, fold_sec]; done))
@[simp] theorem State.withdrawalSend_pending (s : State) (q : Nat) (idx : Half) : (s.withdrawalSend q idx).pending = s.pending := by
  unfold State.withdrawalSend; (repeat' split) <;> first | rfl | (simp; done) | (simp [apply_ite State.pending, fold_pending]; done) | (dsimp only; (repeat' split) <;> first | rfl | (simp; done) | (simp [apply_ite State.pending, fold_pending]; done))
@[simp] theorem State.withdrawalSend_sec (s : State) (q : Nat) (idx : Half) : (s.withdrawalSend q idx).sec = s.sec := by
  unfold State.withdrawalSend; (repeat' split) <;> first | rfl | (simp; done) | (simp [apply_ite State.sec, fold_sec]; done) | (dsimp only; (repeat' split) <;> first | rfl | (simp; done) | (simp [apply_ite State.sec, fold_sec]; done))
@[simp] theorem State.keeperStart_pending (s : State) (l : Nat) : (s.keeperStart l).pending = s.pending := by
  unfold State.keeperStart; (repeat' split) <;> first | rfl | simp
@[simp] theorem State.keeperStart_sec (s : State) (l : Nat) : (s.keeperStart l).sec = s.sec := by
  unfold State.keeperStart; (repeat' split) <;> first | rfl | simp
@[simp] theorem State.controlStart_pending (s : State) (l : Nat) : (s.controlStart l).pending = s.pending := by
  unfold State.controlStart; dsimp only
  split
  · rfl
  · split
    · rfl
    · rename_i xu h
      obtain ⟨x, hx, hy⟩ := Option.bind_eq_some_iff.1 h
      obtain ⟨u, hu, rfl⟩ := Option.map_eq_some_iff.1 hy
      simpa using State.tryStart_pending hu
@[simp] theorem State.controlStart_sec (s : State) (l : Nat) : (s.controlStart l).sec = s.sec := by
  unfold State.controlStart; dsimp only
  split
  · rfl
  · split
    · rfl
    · rename_i xu h
      obtain ⟨x, hx, hy⟩ := Option.bind_eq_some_iff.1 h
      obtain ⟨u, hu, rfl⟩ := Option.map_eq_some_iff.1 hy
      simpa using State.tryStart_sec hu
@[simp] theorem State.weirVisit_pending (s : State) (port t : Nat) : (s.weirVisit port t).pending = s.pending := by
  unfold State.weirVisit; (repeat' split) <;> first | rfl | (simp; done) | (simp [apply_ite State.pending, fold_pending]; done) | (dsimp only; (repeat' split) <;> first | rfl | (simp; done) | (simp [apply_ite State.pending, fold_pending]; done))
@[simp] theorem State.weirVisit_sec (s : State) (port t : Nat) : (s.weirVisit port t).sec = s.sec := by
  unfold State.weirVisit; (repeat' split) <;> first | rfl | (simp; done) | (simp [apply_ite State.sec, fold_sec]; done) | (dsimp only; (repeat' split) <;> first | rfl | (simp; done) | (simp [apply_ite State.sec, fold_sec]; done))
@[simp] theorem State.weirNext_pending (s : State) (port t : Nat) (ts : List Nat) : (s.weirNext port t ts).pending = s.pending := by
  unfold State.weirNext; simp only []; repeat (first | rfl | (simp [apply_ite State.pending, fold_pending]; done) | split | (rw [fold_pending _ (by intros; (repeat' split) <;> first | rfl | (simp [apply_ite State.pending, fold_pending]; done))]))
@[simp] theorem State.weirNext_sec (s : State) (port t : Nat) (ts : List Nat) : (s.weirNext port t ts).sec = s.sec := by
  unfold State.weirNext; simp only []; repeat (first | rfl | (simp [apply_ite State.sec, fold_sec]; done) | split | (rw [fold_sec _ (by intros; (repeat' split) <;> first | rfl | (simp [apply_ite State.sec, fold_sec]; done))]))
@[simp] theorem State.weirRound_pending (s : State) (l : Nat) (ts : List Nat) (n : Nat) : (s.weirRound l ts n).pending = s.pending := by
  induction n generalizing s with
  | zero => rfl
  | succ n ih =>
    unfold State.weirRound; dsimp only
    split
    · rfl
    · split
      · simp [ih]
      · split
        · rename_i u e
          have hu : u.pending = s.pending := by
            split at e
            · obtain ⟨x, hx, hy⟩ := Option.bind_eq_some_iff.1 e
              rw [State.tryStart_pending hy]; simp
            · cases e
          simpa using hu
        · simp [ih]
@[simp] theorem State.weirRound_sec (s : State) (l : Nat) (ts : List Nat) (n : Nat) : (s.weirRound l ts n).sec = s.sec := by
  induction n generalizing s with
  | zero => rfl
  | succ n ih =>
    unfold State.weirRound; dsimp only
    split
    · rfl
    · split
      · simp [ih]
      · split
        · rename_i u e
          have hu : u.sec = s.sec := by
            split at e
            · obtain ⟨x, hx, hy⟩ := Option.bind_eq_some_iff.1 e
              rw [State.tryStart_sec hy]; simp
            · cases e
          simpa using hu
        · simp [ih]
@[simp] theorem State.weirTurn_pending (s : State) (port : Nat) (ts : List Nat) : (s.weirTurn port ts).pending = s.pending := by
  unfold State.weirTurn; (repeat' split) <;> first | rfl | simp
@[simp] theorem State.weirTurn_sec (s : State) (port : Nat) (ts : List Nat) : (s.weirTurn port ts).sec = s.sec := by
  unfold State.weirTurn; (repeat' split) <;> first | rfl | simp
@[simp] theorem State.weirStart_pending (s : State) (l : Nat) : (s.weirStart l).pending = s.pending := by
  unfold State.weirStart; dsimp only
  split
  · rfl
  · split
    · split
      · rename_i u h
        obtain ⟨t, ht, h⟩ := List.exists_of_findSome?_eq_some h
        obtain ⟨x, hx, hy⟩ := Option.bind_eq_some_iff.1 h
        exact State.tryStart_pending hy
      · rfl
    · simp
@[simp] theorem State.weirStart_sec (s : State) (l : Nat) : (s.weirStart l).sec = s.sec := by
  unfold State.weirStart; dsimp only
  split
  · rfl
  · split
    · split
      · rename_i u h
        obtain ⟨t, ht, h⟩ := List.exists_of_findSome?_eq_some h
        obtain ⟨x, hx, hy⟩ := Option.bind_eq_some_iff.1 h
        exact State.tryStart_sec hy
      · rfl
    · simp
@[simp] theorem State.slotGone_pending (s : State) (i : Nat) : (s.slotGone i).pending = s.pending := by
  unfold State.slotGone; dsimp only; (repeat' split) <;> first | rfl | (simp [apply_ite State.pending, fold_pending]; done) | (try simp [apply_ite State.pending, fold_pending]) <;> exact foldl_proj (fun x : State => x.pending) _ (by intros; (repeat' split) <;> first | rfl | (simp [apply_ite State.pending, fold_pending]; done)) _ _ | ((try simp [apply_ite State.pending, fold_pending]); rw [fold_pending _ (by intros; (repeat' split) <;> first | rfl | (simp [apply_ite State.pending, fold_pending]; done))]; (try simp [apply_ite State.pending, fold_pending]))
@[simp] theorem State.slotGone_sec (s : State) (i : Nat) : (s.slotGone i).sec = s.sec := by
  unfold State.slotGone; dsimp only; (repeat' split) <;> first | rfl | (simp [apply_ite State.sec, fold_sec]; done) | (try simp [apply_ite State.sec, fold_sec]) <;> exact foldl_proj (fun x : State => x.sec) _ (by intros; (repeat' split) <;> first | rfl | (simp [apply_ite State.sec, fold_sec]; done)) _ _ | ((try simp [apply_ite State.sec, fold_sec]); rw [fold_sec _ (by intros; (repeat' split) <;> first | rfl | (simp [apply_ite State.sec, fold_sec]; done))]; (try simp [apply_ite State.sec, fold_sec]))
@[simp] theorem State.slotMissed_pending (s : State) (q : Nat) (idx : Half) : (s.slotMissed q idx).pending = s.pending := by
  unfold State.slotMissed; (repeat' split) <;> first | rfl | (simp; done) | (simp [apply_ite State.pending, fold_pending]; done) | (dsimp only; (repeat' split) <;> first | rfl | (simp; done) | (simp [apply_ite State.pending, fold_pending]; done))
@[simp] theorem State.slotMissed_sec (s : State) (q : Nat) (idx : Half) : (s.slotMissed q idx).sec = s.sec := by
  unfold State.slotMissed; (repeat' split) <;> first | rfl | (simp; done) | (simp [apply_ite State.sec, fold_sec]; done) | (dsimp only; (repeat' split) <;> first | rfl | (simp; done) | (simp [apply_ite State.sec, fold_sec]; done))
@[simp] theorem State.slotLaunch_pending (s : State) (x : Txn) (tick : Nat) : (s.slotLaunch x tick).pending = s.pending := by
  unfold State.slotLaunch; (repeat' split) <;> first | rfl | simp
@[simp] theorem State.slotLaunch_sec (s : State) (x : Txn) (tick : Nat) : (s.slotLaunch x tick).sec = s.sec := by
  unfold State.slotLaunch; (repeat' split) <;> first | rfl | simp
@[simp] theorem State.ownPassed_pending (s : State) (x : Slot) : (s.ownPassed x).pending = s.pending := by
  unfold State.ownPassed; (repeat' split) <;> first | rfl | (simp; done) | (simp [apply_ite State.pending, fold_pending]; done) | (dsimp only; (repeat' split) <;> first | rfl | (simp; done) | (simp [apply_ite State.pending, fold_pending]; done))
@[simp] theorem State.ownPassed_sec (s : State) (x : Slot) : (s.ownPassed x).sec = s.sec := by
  unfold State.ownPassed; (repeat' split) <;> first | rfl | (simp; done) | (simp [apply_ite State.sec, fold_sec]; done) | (dsimp only; (repeat' split) <;> first | rfl | (simp; done) | (simp [apply_ite State.sec, fold_sec]; done))
@[simp] theorem State.slotComplete_pending (s : State) (x : Slot) (tick : Nat) : (s.slotComplete x tick).pending = s.pending := by
  unfold State.slotComplete; (repeat' split) <;> first | rfl | simp
@[simp] theorem State.slotComplete_sec (s : State) (x : Slot) (tick : Nat) : (s.slotComplete x tick).sec = s.sec := by
  unfold State.slotComplete; (repeat' split) <;> first | rfl | simp
@[simp] theorem State.slotStrike_pending (s : State) (x : FSlot) (p : Place) (tick : Nat) : (s.slotStrike x p tick).pending = s.pending := by
  unfold State.slotStrike; (repeat' split) <;> first | rfl | (simp; done) | (simp [apply_ite State.pending, fold_pending]; done) | (dsimp only; (repeat' split) <;> first | rfl | (simp; done) | (simp [apply_ite State.pending, fold_pending]; done))
@[simp] theorem State.slotStrike_sec (s : State) (x : FSlot) (p : Place) (tick : Nat) : (s.slotStrike x p tick).sec = s.sec := by
  unfold State.slotStrike; (repeat' split) <;> first | rfl | (simp; done) | (simp [apply_ite State.sec, fold_sec]; done) | (dsimp only; (repeat' split) <;> first | rfl | (simp; done) | (simp [apply_ite State.sec, fold_sec]; done))
@[simp] theorem State.slotReserve_pending (s : State) (x : Slot) (tick : Nat) : (s.slotReserve x tick).pending = s.pending := by
  unfold State.slotReserve; (repeat' split) <;> first | rfl | simp
@[simp] theorem State.slotReserve_sec (s : State) (x : Slot) (tick : Nat) : (s.slotReserve x tick).sec = s.sec := by
  unfold State.slotReserve; (repeat' split) <;> first | rfl | simp
@[simp] theorem State.resumeFor_pending (s : State) (p : Place) : (s.resumeFor p).pending = s.pending := by
  unfold State.resumeFor; dsimp only; (repeat' split) <;> first | rfl | (simp [apply_ite State.pending, fold_pending]; done) | (try simp [apply_ite State.pending, fold_pending]) <;> exact foldl_proj (fun x : State => x.pending) _ (by intros; (repeat' split) <;> first | rfl | (simp [apply_ite State.pending, fold_pending]; done)) _ _ | ((try simp [apply_ite State.pending, fold_pending]); rw [fold_pending _ (by intros; (repeat' split) <;> first | rfl | (simp [apply_ite State.pending, fold_pending]; done))]; (try simp [apply_ite State.pending, fold_pending]))
@[simp] theorem State.resumeFor_sec (s : State) (p : Place) : (s.resumeFor p).sec = s.sec := by
  unfold State.resumeFor; dsimp only; (repeat' split) <;> first | rfl | (simp [apply_ite State.sec, fold_sec]; done) | (try simp [apply_ite State.sec, fold_sec]) <;> exact foldl_proj (fun x : State => x.sec) _ (by intros; (repeat' split) <;> first | rfl | (simp [apply_ite State.sec, fold_sec]; done)) _ _ | ((try simp [apply_ite State.sec, fold_sec]); rw [fold_sec _ (by intros; (repeat' split) <;> first | rfl | (simp [apply_ite State.sec, fold_sec]; done))]; (try simp [apply_ite State.sec, fold_sec]))

end Sys2Proof.Machine
end

