-- ==== Sys2Proof/Laws/FamilyFrames2.lean ====
section
/-!
SUPPORT. What the operations of the later families leave as it was: the queue.
-/
namespace Sys2Proof.Machine

@[simp] theorem State.haltOut_pending (s : State) : (s.haltOut).pending = s.pending := by
  unfold State.haltOut; (repeat' split) <;> first | rfl | simp
@[simp] theorem State.haltRelease_pending (s : State) : (s.haltRelease).pending = s.pending := by
  unfold State.haltRelease; (repeat' split) <;> first | rfl | simp
@[simp] theorem State.beginHalt_pending (s : State) (cause : Byte) : (s.beginHalt cause).pending = s.pending := by
  unfold State.beginHalt; (repeat' split) <;> first | rfl | simp
@[simp] theorem State.endHalt_pending (s : State) : (s.endHalt).pending = s.pending := by
  unfold State.endHalt; (repeat' split) <;> first | rfl | simp
@[simp] theorem bodyHaltBegin_pending (s : State) (x0 : List Byte) : (bodyHaltBegin s x0).st.pending = s.pending := by
  unfold bodyHaltBegin; (repeat' split) <;> first | rfl | simp
@[simp] theorem bodyHaltEnd_pending (s : State) (x0 : List Byte) : (bodyHaltEnd s x0).st.pending = s.pending := by
  unfold bodyHaltEnd; (repeat' split) <;> first | rfl | simp
@[simp] theorem State.sendHalt_pending (s : State) (l : Nat) : (s.sendHalt l).pending = s.pending := by
  unfold State.sendHalt; (repeat' split) <;> first | rfl | simp
@[simp] theorem State.trainStart_pending (s : State) (lane : Nat) : (s.trainStart lane).pending = s.pending := by
  unfold State.trainStart; (repeat' split) <;> first | rfl | simp
@[simp] theorem State.bringUpSide_pending (s : State) (p : Nat) (sd : Side) : (s.bringUpSide p sd).pending = s.pending := by
  unfold State.bringUpSide; (repeat' split) <;> first | rfl | simp
@[simp] theorem State.connect_pending (s : State) (p : Nat) (sd : Side) (speedF : Bool) : (s.connect p sd speedF).pending = s.pending := by
  unfold State.connect; (repeat' split) <;> first | rfl | (simp; done) | (simp [apply_ite State.pending, fold_pending]; done) | (dsimp only; (repeat' split) <;> first | rfl | (simp; done) | (simp [apply_ite State.pending, fold_pending]; done))
@[simp] theorem State.linkActive_pending (s : State) (p : Nat) (sd : Side) : (s.linkActive p sd).pending = s.pending := by
  unfold State.linkActive; (repeat' split) <;> first | rfl | simp
@[simp] theorem State.trainFail_pending (s : State) (p : Nat) (sd : Side) : (s.trainFail p sd).pending = s.pending := by
  unfold State.trainFail; (repeat' split) <;> first | rfl | (simp; done) | (simp [apply_ite State.pending, fold_pending]; done) | (dsimp only; (repeat' split) <;> first | rfl | (simp; done) | (simp [apply_ite State.pending, fold_pending]; done))
@[simp] theorem State.agree_pending (s : State) (p : Nat) (sd : Side) (w : Word) : (s.agree p sd w).1.pending = s.pending := by
  unfold State.agree; (repeat' split) <;> first | rfl | simp
@[simp] theorem State.trained_pending (s : State) (lane : Nat) : (s.trained lane).pending = s.pending := by
  unfold State.trained; (repeat' split) <;> first | rfl | (simp; done) | (simp [apply_ite State.pending, fold_pending]; done) | (dsimp only; (repeat' split) <;> first | rfl | (simp; done) | (simp [apply_ite State.pending, fold_pending]; done))
@[simp] theorem State.retrainStart_pending (s : State) (p : Nat) : (s.retrainStart p).pending = s.pending := by
  unfold State.retrainStart; (repeat' split) <;> first | rfl | simp
@[simp] theorem State.trainingSet_pending (s : State) (lane : Nat) (ts2 fast loopback : Bool) (n : Nat) : (s.trainingSet lane ts2 fast loopback n).pending = s.pending := by
  unfold State.trainingSet; (repeat' split) <;> first | rfl | (simp; done) | (simp [apply_ite State.pending, fold_pending]; done) | (dsimp only; (repeat' split) <;> first | rfl | (simp; done) | (simp [apply_ite State.pending, fold_pending]; done))
@[simp] theorem State.pairOffer_pending (s : State) (p : Nat) : (s.pairOffer p).pending = s.pending := by
  unfold State.pairOffer; (repeat' split) <;> first | rfl | simp
@[simp] theorem State.pullUpShown_pending (s : State) (p : Nat) (speedF : Bool) : (s.pullUpShown p speedF).pending = s.pending := by
  unfold State.pullUpShown; (repeat' split) <;> first | rfl | simp
@[simp] theorem State.pairAttempt_pending (s : State) (p : Nat) : (s.pairAttempt p).pending = s.pending := by
  unfold State.pairAttempt; (repeat' split) <;> first | rfl | simp
@[simp] theorem State.parkH_pending (s : State) (p : Nat) : (s.parkH p).pending = s.pending := by
  unfold State.parkH; (repeat' split) <;> first | rfl | simp
@[simp] theorem State.sendWaiting_pending (s : State) (l : Nat) : (s.sendWaiting l).pending = s.pending := by
  unfold State.sendWaiting; (repeat' split) <;> first | rfl | simp
@[simp] theorem State.scanDone_pending (s : State) (lane : Nat) : (s.scanDone lane).pending = s.pending := by
  unfold State.scanDone; (repeat' split) <;> first | rfl | simp
@[simp] theorem State.scanStart_pending (s : State) (lane : Nat) : (s.scanStart lane).pending = s.pending := by
  unfold State.scanStart; (repeat' split) <;> first | rfl | (simp; done) | (simp [apply_ite State.pending, fold_pending]; done) | (dsimp only; (repeat' split) <;> first | rfl | (simp; done) | (simp [apply_ite State.pending, fold_pending]; done))
@[simp] theorem State.marginWrite_pending (s : State) (lane : Nat) (v hw : Word) : (s.marginWrite lane v hw).pending = s.pending := by
  unfold State.marginWrite; (repeat' split) <;> first | rfl | simp
@[simp] theorem State.scanTurn_pending (s : State) (lane clean : Nat) : (s.scanTurn lane clean).pending = s.pending := by
  unfold State.scanTurn; (repeat' split) <;> first | rfl | (simp; done) | (simp [apply_ite State.pending, fold_pending]; done) | (dsimp only; (repeat' split) <;> first | rfl | (simp; done) | (simp [apply_ite State.pending, fold_pending]; done))
@[simp] theorem State.checkerStop_pending (s : State) (lane : Nat) : (s.checkerStop lane).pending = s.pending := by
  unfold State.checkerStop; (repeat' split) <;> first | rfl | simp
@[simp] theorem State.testLeave_pending (s : State) (lane : Nat) (pair : Bool) : (s.testLeave lane pair).pending = s.pending := by
  unfold State.testLeave; (repeat' split) <;> first | rfl | (simp; done) | (simp [apply_ite State.pending, fold_pending]; done) | (dsimp only; (repeat' split) <;> first | rfl | (simp; done) | (simp [apply_ite State.pending, fold_pending]; done))
@[simp] theorem State.testEnter_pending (s : State) (lane : Nat) (pair : Bool) (mode : Nat) : (s.testEnter lane pair mode).pending = s.pending := by
  unfold State.testEnter; (repeat' split) <;> first | rfl | simp
@[simp] theorem State.injectNow_pending (s : State) (lane : Nat) : (s.injectNow lane).pending = s.pending := by
  unfold State.injectNow; (repeat' split) <;> first | rfl | (simp; done) | (simp [apply_ite State.pending, fold_pending]; done) | (dsimp only; (repeat' split) <;> first | rfl | (simp; done) | (simp [apply_ite State.pending, fold_pending]; done))
@[simp] theorem State.testWrite_pending (s : State) (lane : Nat) (v : Word) (peerTrains : Bool) (hw : Word) : (s.testWrite lane v peerTrains hw).pending = s.pending := by
  unfold State.testWrite; (repeat' split) <;> first | rfl | (simp; done) | (simp [apply_ite State.pending, fold_pending]; done) | (dsimp only; (repeat' split) <;> first | rfl | (simp; done) | (simp [apply_ite State.pending, fold_pending]; done))
@[simp] theorem State.idleSide_pending (s : State) (lane : Nat) (pair : Bool) : (s.idleSide lane pair).pending = s.pending := by
  unfold State.idleSide; (repeat' split) <;> first | rfl | (simp; done) | (simp [apply_ite State.pending, fold_pending]; done) | (dsimp only; (repeat' split) <;> first | rfl | (simp; done) | (simp [apply_ite State.pending, fold_pending]; done))
@[simp] theorem State.modSrc_pending (s : State) (i : Nat) (f : Src → Src) : (s.modSrc i f).pending = s.pending := by
  unfold State.modSrc; (repeat' split) <;> first | rfl | simp
@[simp] theorem State.modEng_pending (s : State) (e : Nat) (f : Eng → Eng) : (s.modEng e f).pending = s.pending := by
  unfold State.modEng; (repeat' split) <;> first | rfl | simp
@[simp] theorem State.modShim_pending (s : State) (i : Nat) (f : Shim → Shim) : (s.modShim i f).pending = s.pending := by
  unfold State.modShim; (repeat' split) <;> first | rfl | simp
@[simp] theorem State.crierSet_pending (s : State) : (s.crierSet).pending = s.pending := by
  unfold State.crierSet; (repeat' split) <;> first | rfl | simp
@[simp] theorem State.signalEng_pending (s : State) (e : Nat) : (s.signalEng e).pending = s.pending := by
  unfold State.signalEng; (repeat' split) <;> first | rfl | simp
@[simp] theorem State.gpioEvents_pending (s before : State) : (s.gpioEvents before).pending = s.pending := by
  unfold State.gpioEvents; (repeat' split) <;> first | rfl | (simp; done) | (simp [apply_ite State.pending, fold_pending]; done) | (dsimp only; (repeat' split) <;> first | rfl | (simp; done) | (simp [apply_ite State.pending, fold_pending]; done))
@[simp] theorem State.enableCauses_pending (s : State) (t : Nat) (old new : Word) : (s.enableCauses t old new).pending = s.pending := by
  unfold State.enableCauses; (repeat' split) <;> first | rfl | simp
@[simp] theorem State.causeEnWrite_pending (s : State) (t : Nat) (v hw : Word) : (s.causeEnWrite t v hw).pending = s.pending := by
  unfold State.causeEnWrite; (repeat' split) <;> first | rfl | simp
@[simp] theorem State.vecRelease_pending (s : State) (t vec : Nat) : (s.vecRelease t vec).pending = s.pending := by
  unfold State.vecRelease; (repeat' split) <;> first | rfl | (simp; done) | (simp [apply_ite State.pending, fold_pending]; done) | (dsimp only; (repeat' split) <;> first | rfl | (simp; done) | (simp [apply_ite State.pending, fold_pending]; done))
@[simp] theorem State.unmask_pending (s : State) (t vec : Nat) : (s.unmask t vec).pending = s.pending := by
  unfold State.unmask; (repeat' split) <;> first | rfl | simp
@[simp] theorem State.domainRegs_pending (s : State) (mask : Nat) (f : Reg → Word → Word) : (s.domainRegs mask f).pending = s.pending := by
  unfold State.domainRegs; (repeat' split) <;> first | rfl | simp
@[simp] theorem State.setDomains_pending (s : State) (mask : Nat) : (s.setDomains mask).pending = s.pending := by
  unfold State.setDomains; (repeat' split) <;> first | rfl | simp
@[simp] theorem State.domainOff_pending (s : State) (d : Nat) : (s.domainOff d).pending = s.pending := by
  unfold State.domainOff; (repeat' split) <;> first | rfl | simp
@[simp] theorem State.domainUp_pending (s : State) (d : Nat) : (s.domainUp d).pending = s.pending := by
  unfold State.domainUp; (repeat' split) <;> first | rfl | simp
@[simp] theorem State.votesChanged_pending (s before : State) : (s.votesChanged before).pending = s.pending := by
  unfold State.votesChanged; (repeat' split) <;> first | rfl | (simp; done) | (simp [apply_ite State.pending, fold_pending]; done) | (dsimp only; (repeat' split) <;> first | rfl | (simp; done) | (simp [apply_ite State.pending, fold_pending]; done))
@[simp] theorem State.wantDomain_pending (s : State) (d : Nat) : (s.wantDomain d).pending = s.pending := by
  unfold State.wantDomain; (repeat' split) <;> first | rfl | simp
@[simp] theorem State.relock_pending (s : State) (p : Nat) : (s.relock p).pending = s.pending := by
  unfold State.relock; (repeat' split) <;> first | rfl | (simp; done) | (simp [apply_ite State.pending, fold_pending]; done) | (dsimp only; (repeat' split) <;> first | rfl | (simp; done) | (simp [apply_ite State.pending, fold_pending]; done))
@[simp] theorem State.resumePair_pending (s : State) (p : Nat) : (s.resumePair p).pending = s.pending := by
  unfold State.resumePair; (repeat' split) <;> first | rfl | simp
@[simp] theorem State.resumeLinks_pending (s : State) : (s.resumeLinks).pending = s.pending := by
  unfold State.resumeLinks; (repeat' split) <;> first | rfl | simp
@[simp] theorem State.unpark_pending (s : State) (p : Nat) : (s.unpark p).pending = s.pending := by
  unfold State.unpark; (repeat' split) <;> first | rfl | simp
@[simp] theorem State.twinDrowse_pending (s : State) (on : Bool) : (s.twinDrowse on).pending = s.pending := by
  unfold State.twinDrowse; (repeat' split) <;> first | rfl | (simp; done) | (simp [apply_ite State.pending, fold_pending]; done) | (dsimp only; (repeat' split) <;> first | rfl | (simp; done) | (simp [apply_ite State.pending, fold_pending]; done))
@[simp] theorem State.returnFrom_pending (s : State) (frm : Nat) : (s.returnFrom frm).pending = s.pending := by
  unfold State.returnFrom; (repeat' split) <;> first | rfl | simp
@[simp] theorem State.wakePin_pending (s : State) (low : Bool) : (s.wakePin low).pending = s.pending := by
  unfold State.wakePin; (repeat' split) <;> first | rfl | simp
@[simp] theorem State.wake_pending (s : State) (code : Nat) : (s.wake code).pending = s.pending := by
  unfold State.wake; (repeat' split) <;> first | rfl | (simp; done) | (simp [apply_ite State.pending, fold_pending]; done) | (dsimp only; (repeat' split) <;> first | rfl | (simp; done) | (simp [apply_ite State.pending, fold_pending]; done))
@[simp] theorem State.alarmFires_pending (s : State) : (s.alarmFires).pending = s.pending := by
  unfold State.alarmFires; (repeat' split) <;> first | rfl | simp
@[simp] theorem State.setTemp_pending (s : State) (temp : BitVec 12) : (s.setTemp temp).pending = s.pending := by
  unfold State.setTemp; (repeat' split) <;> first | rfl | simp
@[simp] theorem State.thermEvent_pending (s : State) (code : Nat) : (s.thermEvent code).pending = s.pending := by
  unfold State.thermEvent; (repeat' split) <;> first | rfl | simp
@[simp] theorem bodyPwrVote_pending (t : Nat) (s : State) (p : List Byte) : (bodyPwrVote t s p).st.pending = s.pending := by
  unfold bodyPwrVote; (repeat' split) <;> first | rfl | (simp; done) | (simp [apply_ite State.pending, fold_pending]; done) | (dsimp only; (repeat' split) <;> first | rfl | (simp; done) | (simp [apply_ite State.pending, fold_pending]; done))
@[simp] theorem bodyPwrState_pending (s : State) (p : List Byte) : (bodyPwrState s p).st.pending = s.pending := by
  unfold bodyPwrState; (repeat' split) <;> first | rfl | (simp; done) | (simp [apply_ite State.pending, fold_pending]; done) | (dsimp only; (repeat' split) <;> first | rfl | (simp; done) | (simp [apply_ite State.pending, fold_pending]; done))
@[simp] theorem bodyAlarmSet_pending (s : State) (p : List Byte) : (bodyAlarmSet s p).st.pending = s.pending := by
  unfold bodyAlarmSet; (repeat' split) <;> first | rfl | (simp; done) | (simp [apply_ite State.pending, fold_pending]; done) | (dsimp only; (repeat' split) <;> first | rfl | (simp; done) | (simp [apply_ite State.pending, fold_pending]; done))
@[simp] theorem State.dozeLinks_pending (s : State) (p : Nat) (sd : Side) : (s.dozeLinks p sd).pending = s.pending := by
  unfold State.dozeLinks; (repeat' split) <;> first | rfl | (simp; done) | (simp [apply_ite State.pending, fold_pending]; done) | (dsimp only; (repeat' split) <;> first | rfl | (simp; done) | (simp [apply_ite State.pending, fold_pending]; done))
@[simp] theorem State.seeWake_pending (s : State) (l : Nat) (r : DWord) : (s.seeWake l r).pending = s.pending := by
  unfold State.seeWake; (repeat' split) <;> first | rfl | simp
@[simp] theorem State.entryBegin_pending (s : State) (auto : Bool) : (s.entryBegin auto).pending = s.pending := by
  unfold State.entryBegin; (repeat' split) <;> first | rfl | simp
@[simp] theorem State.parkLanes_pending (s : State) : (s.parkLanes).pending = s.pending := by
  unfold State.parkLanes; (repeat' split) <;> first | rfl | (simp; done) | (simp [apply_ite State.pending, fold_pending]; done) | (dsimp only; (repeat' split) <;> first | rfl | (simp; done) | (simp [apply_ite State.pending, fold_pending]; done))
@[simp] theorem State.dropDomains_pending (s : State) (pick : Nat → Bool) : (s.dropDomains pick).pending = s.pending := by
  unfold State.dropDomains; (repeat' split) <;> first | rfl | simp
@[simp] theorem State.leaveTime_pending (s : State) : (s.leaveTime).pending = s.pending := by
  unfold State.leaveTime; (repeat' split) <;> first | rfl | simp
@[simp] theorem State.enterSleep_pending (s : State) (prev : Nat) : (s.enterSleep prev).pending = s.pending := by
  unfold State.enterSleep; (repeat' split) <;> first | rfl | simp
@[simp] theorem State.pcieDefaults_pending (s : State) : (s.pcieDefaults).pending = s.pending := by
  unfold State.pcieDefaults; (repeat' split) <;> first | rfl | simp
@[simp] theorem State.enterDeep_pending (s : State) (off : Bool) : (s.enterDeep off).pending = s.pending := by
  unfold State.enterDeep; (repeat' split) <;> first | rfl | simp
@[simp] theorem State.retentionCheck_pending (s : State) (temp : BitVec 12) : (s.retentionCheck temp).pending = s.pending := by
  unfold State.retentionCheck; (repeat' split) <;> first | rfl | simp
@[simp] theorem State.entryDone_pending (s : State) (temp : BitVec 12) : (s.entryDone temp).pending = s.pending := by
  unfold State.entryDone; (repeat' split) <;> first | rfl | (simp; done) | (simp [apply_ite State.pending, fold_pending]; done) | (dsimp only; (repeat' split) <;> first | rfl | (simp; done) | (simp [apply_ite State.pending, fold_pending]; done))
@[simp] theorem State.resumeTime_pending (s : State) (cause : Nat) (from_ gap : DWord) (base ppm : Nat) : (s.resumeTime cause from_ gap base ppm).pending = s.pending := by
  unfold State.resumeTime; (repeat' split) <;> first | rfl | simp
@[simp] theorem State.raiseDomains_pending (s : State) : (s.raiseDomains).pending = s.pending := by
  unfold State.raiseDomains; (repeat' split) <;> first | rfl | (simp; done) | (simp [apply_ite State.pending, fold_pending]; done) | (dsimp only; (repeat' split) <;> first | rfl | (simp; done) | (simp [apply_ite State.pending, fold_pending]; done))
@[simp] theorem State.reload_pending (s : State) : (s.reload).pending = s.pending := by
  unfold State.reload; (repeat' split) <;> first | rfl | (simp; done) | (simp [apply_ite State.pending, fold_pending]; done) | (dsimp only; (repeat' split) <;> first | rfl | (simp; done) | (simp [apply_ite State.pending, fold_pending]; done))
@[simp] theorem State.reportWakes_pending (s : State) (l : Nat) : (s.reportWakes l).pending = s.pending := by
  unfold State.reportWakes; (repeat' split) <;> first | rfl | simp
@[simp] theorem State.carryTime_pending (s : State) (counts : DWord) : (s.carryTime counts).pending = s.pending := by
  unfold State.carryTime; (repeat' split) <;> first | rfl | simp
@[simp] theorem State.runAgain_pending (s : State) (counts : DWord) : (s.runAgain counts).pending = s.pending := by
  unfold State.runAgain; (repeat' split) <;> first | rfl | (simp; done) | (simp [apply_ite State.pending, fold_pending]; done) | (dsimp only; (repeat' split) <;> first | rfl | (simp; done) | (simp [apply_ite State.pending, fold_pending]; done))
@[simp] theorem State.returnDone_pending (s : State) (counts : DWord) : (s.returnDone counts).pending = s.pending := by
  unfold State.returnDone; (repeat' split) <;> first | rfl | (simp; done) | (simp [apply_ite State.pending, fold_pending]; done) | (dsimp only; (repeat' split) <;> first | rfl | (simp; done) | (simp [apply_ite State.pending, fold_pending]; done))
@[simp] theorem State.putDir_pending (s : State) (d : Dir) : (s.putDir d).pending = s.pending := by
  unfold State.putDir; (repeat' split) <;> first | rfl | simp
@[simp] theorem State.writeDir_pending (s : State) (d : Dir) : (s.writeDir d).pending = s.pending := by
  unfold State.writeDir; (repeat' split) <;> first | rfl | simp
@[simp] theorem State.writeEpoch_pending (s : State) (epoch lstart : Word) : (s.writeEpoch epoch lstart).pending = s.pending := by
  unfold State.writeEpoch; (repeat' split) <;> first | rfl | simp
@[simp] theorem State.putSlot_pending (s : State) (k : Nat) (b : List Byte) : (s.putSlot k b).pending = s.pending := by
  unfold State.putSlot; (repeat' split) <;> first | rfl | simp
@[simp] theorem State.putFw_pending (s : State) (k : Nat) (b : List Byte) : (s.putFw k b).pending = s.pending := by
  unfold State.putFw; (repeat' split) <;> first | rfl | simp
@[simp] theorem State.tearQp_pending (s : State) (q : Nat) : (s.tearQp q).pending = s.pending := by
  unfold State.tearQp; (repeat' split) <;> first | rfl | (simp; done) | (simp [apply_ite State.pending, fold_pending]; done) | (dsimp only; (repeat' split) <;> first | rfl | (simp; done) | (simp [apply_ite State.pending, fold_pending]; done))
@[simp] theorem State.tearChan_pending (s : State) (ch : Nat) : (s.tearChan ch).pending = s.pending := by
  unfold State.tearChan; (repeat' split) <;> first | rfl | simp
@[simp] theorem State.tearPath_pending (s : State) (t : Nat) : (s.tearPath t).pending = s.pending := by
  unfold State.tearPath; (repeat' split) <;> first | rfl | simp
@[simp] theorem State.dropVotes_pending (s : State) (t : Nat) : (s.dropVotes t).pending = s.pending := by
  unfold State.dropVotes; (repeat' split) <;> first | rfl | simp
@[simp] theorem State.functionDefaults_pending (s : State) (t : Nat) : (s.functionDefaults t).pending = s.pending := by
  unfold State.functionDefaults; (repeat' split) <;> first | rfl | simp
@[simp] theorem State.tearDown_pending (s : State) (t : Nat) : (s.tearDown t).pending = s.pending := by
  unfold State.tearDown; dsimp only; (repeat' split) <;> first | rfl | (simp [apply_ite State.pending, fold_pending]; done) | (try simp [apply_ite State.pending, fold_pending]) <;> exact foldl_proj (fun x : State => x.pending) _ (by intros; (repeat' split) <;> first | rfl | (simp [apply_ite State.pending, fold_pending]; done)) _ _ | ((try simp [apply_ite State.pending, fold_pending]); rw [fold_pending _ (by intros; (repeat' split) <;> first | rfl | (simp [apply_ite State.pending, fold_pending]; done))]; (try simp [apply_ite State.pending, fold_pending]))
@[simp] theorem State.flrBegin_pending (s : State) (t : Nat) : (s.flrBegin t).pending = s.pending := by
  unfold State.flrBegin; (repeat' split) <;> first | rfl | simp
@[simp] theorem State.heldFlrs_pending (s : State) : (s.heldFlrs).pending = s.pending := by
  unfold State.heldFlrs; (repeat' split) <;> first | rfl | (simp; done) | (simp [apply_ite State.pending, fold_pending]; done) | (dsimp only; (repeat' split) <;> first | rfl | (simp; done) | (simp [apply_ite State.pending, fold_pending]; done))
@[simp] theorem State.flrRange_pending (s : State) (lo n : Nat) : (s.flrRange lo n).pending = s.pending := by
  unfold State.flrRange; (repeat' split) <;> first | rfl | simp
@[simp] theorem State.flr_pending (s : State) (t : Nat) : (s.flr t).pending = s.pending := by
  unfold State.flr; (repeat' split) <;> first | rfl | simp
@[simp] theorem State.vfWrite_pending (s : State) (en : Bool) (n : Nat) : (s.vfWrite en n).pending = s.pending := by
  unfold State.vfWrite; (repeat' split) <;> first | rfl | simp
@[simp] theorem State.stripTenant_pending (s : State) (t : Nat) : (s.stripTenant t).pending = s.pending := by
  unfold State.stripTenant; simp only []; repeat (first | rfl | (simp [apply_ite State.pending, fold_pending]; done) | split | (rw [fold_pending _ (by intros; (repeat' split) <;> first | rfl | (simp [apply_ite State.pending, fold_pending]; done))]))
@[simp] theorem State.flrEnd_pending (s : State) (t : Nat) : (s.flrEnd t).pending = s.pending := by
  unfold State.flrEnd; dsimp only; (repeat' split) <;> first | rfl | (simp [apply_ite State.pending, fold_pending]; done) | (try simp [apply_ite State.pending, fold_pending]) <;> exact foldl_proj (fun x : State => x.pending) _ (by intros; (repeat' split) <;> first | rfl | (simp [apply_ite State.pending, fold_pending]; done)) _ _ | ((try simp [apply_ite State.pending, fold_pending]); rw [fold_pending _ (by intros; (repeat' split) <;> first | rfl | (simp [apply_ite State.pending, fold_pending]; done))]; (try simp [apply_ite State.pending, fold_pending]))
@[simp] theorem State.takeQp_pending (s : State) (q : Nat) : (s.takeQp q).pending = s.pending := by
  unfold State.takeQp; (repeat' split) <;> first | rfl | simp
@[simp] theorem State.takeDevice_pending (s : State) (addr : Nat) : (s.takeDevice addr).pending = s.pending := by
  unfold State.takeDevice; (repeat' split) <;> first | rfl | simp
@[simp] theorem State.takeChan_pending (s : State) (ch : Nat) : (s.takeChan ch).pending = s.pending := by
  unfold State.takeChan; (repeat' split) <;> first | rfl | simp
@[simp] theorem State.scrubsOut_pending (s : State) (t units : Nat) : (s.scrubsOut t units).pending = s.pending := by
  unfold State.scrubsOut; (repeat' split) <;> first | rfl | simp
@[simp] theorem State.settleShare_pending (s : State) (t : Nat) : (s.settleShare t).pending = s.pending := by
  unfold State.settleShare; (repeat' split) <;> first | rfl | (simp; done) | (simp [apply_ite State.pending, fold_pending]; done) | (dsimp only; (repeat' split) <;> first | rfl | (simp; done) | (simp [apply_ite State.pending, fold_pending]; done))
@[simp] theorem State.settleShares_pending (s : State) : (s.settleShares).pending = s.pending := by
  unfold State.settleShares; (repeat' split) <;> first | rfl | simp
@[simp] theorem State.removeTenant_pending (s : State) (t : Nat) : (s.removeTenant t).pending = s.pending := by
  unfold State.removeTenant; (repeat' split) <;> first | rfl | simp
@[simp] theorem bodyQpAssign_pending (s : State) (p : List Byte) : (bodyQpAssign s p).st.pending = s.pending := by
  unfold bodyQpAssign; dsimp only; (repeat' split) <;> first | rfl | (simp [apply_ite State.pending, fold_pending]; done) | (try simp [apply_ite State.pending, fold_pending]) <;> exact foldl_proj (fun x : State => x.pending) _ (by intros; (repeat' split) <;> first | rfl | (simp [apply_ite State.pending, fold_pending]; done)) _ _ | ((try simp [apply_ite State.pending, fold_pending]); rw [fold_pending _ (by intros; (repeat' split) <;> first | rfl | (simp [apply_ite State.pending, fold_pending]; done))]; (try simp [apply_ite State.pending, fold_pending]))
@[simp] theorem bodyQpUnassign_pending (s : State) (p : List Byte) : (bodyQpUnassign s p).st.pending = s.pending := by
  unfold bodyQpUnassign; dsimp only; (repeat' split) <;> first | rfl | (simp [apply_ite State.pending, fold_pending]; done) | (try simp [apply_ite State.pending, fold_pending]) <;> exact foldl_proj (fun x : State => x.pending) _ (by intros; (repeat' split) <;> first | rfl | (simp [apply_ite State.pending, fold_pending]; done)) _ _ | ((try simp [apply_ite State.pending, fold_pending]); rw [fold_pending _ (by intros; (repeat' split) <;> first | rfl | (simp [apply_ite State.pending, fold_pending]; done))]; (try simp [apply_ite State.pending, fold_pending]))
@[simp] theorem bodyShareSet_pending (s : State) (p : List Byte) : (bodyShareSet s p).st.pending = s.pending := by
  unfold bodyShareSet; (repeat' split) <;> first | rfl | (simp; done) | (simp [apply_ite State.pending, fold_pending]; done) | (dsimp only; (repeat' split) <;> first | rfl | (simp; done) | (simp [apply_ite State.pending, fold_pending]; done))
@[simp] theorem bodyChannelAssign_pending (s : State) (p : List Byte) : (bodyChannelAssign s p).st.pending = s.pending := by
  unfold bodyChannelAssign; (repeat' split) <;> first | rfl | (simp; done) | (simp [apply_ite State.pending, fold_pending]; done) | (dsimp only; (repeat' split) <;> first | rfl | (simp; done) | (simp [apply_ite State.pending, fold_pending]; done))
@[simp] theorem State.cfgRegs_pending (s : State) : (s.cfgRegs).pending = s.pending := by
  unfold State.cfgRegs; (repeat' split) <;> first | rfl | simp
@[simp] theorem State.applyQp_pending (s : State) (c : RunCfg) (q : Nat) : (s.applyQp c q).pending = s.pending := by
  unfold State.applyQp; (repeat' split) <;> first | rfl | (simp; done) | (simp [apply_ite State.pending, fold_pending]; done) | (dsimp only; (repeat' split) <;> first | rfl | (simp; done) | (simp [apply_ite State.pending, fold_pending]; done))
@[simp] theorem State.applyQps_pending (s : State) (c : RunCfg) : (s.applyQps c).pending = s.pending := by
  unfold State.applyQps; (repeat' split) <;> first | rfl | simp
@[simp] theorem State.applyPlace_pending (s : State) (c : RunCfg) (p : Place) : (s.applyPlace c p).pending = s.pending := by
  unfold State.applyPlace; (repeat' split) <;> first | rfl | simp
@[simp] theorem State.applyPlaces_pending (s : State) (c : RunCfg) : (s.applyPlaces c).pending = s.pending := by
  unfold State.applyPlaces; (repeat' split) <;> first | rfl | (simp; done) | (simp [apply_ite State.pending, fold_pending]; done) | (dsimp only; (repeat' split) <;> first | rfl | (simp; done) | (simp [apply_ite State.pending, fold_pending]; done))
@[simp] theorem State.applyChans_pending (s : State) (c : RunCfg) : (s.applyChans c).pending = s.pending := by
  unfold State.applyChans; exact foldl_proj (fun x : State => x.pending) _ (by intros; (repeat' split) <;> first | rfl | (simp; done) | (simp [apply_ite State.pending, fold_pending]; done)) _ _
@[simp] theorem State.applyShares_pending (s : State) (c : RunCfg) : (s.applyShares c).pending = s.pending := by
  unfold State.applyShares; (repeat' split) <;> first | rfl | simp
@[simp] theorem State.applyTenants_pending (s : State) (c : RunCfg) : (s.applyTenants c).pending = s.pending := by
  unfold State.applyTenants; (repeat' split) <;> first | rfl | (simp; done) | (simp [apply_ite State.pending, fold_pending]; done) | (dsimp only; (repeat' split) <;> first | rfl | (simp; done) | (simp [apply_ite State.pending, fold_pending]; done))
@[simp] theorem State.applyWeir_pending (s : State) (c : RunCfg) (frame : Word) : (s.applyWeir c frame).pending = s.pending := by
  unfold State.applyWeir; (repeat' split) <;> first | rfl | simp
@[simp] theorem State.applyCfg_pending (s : State) (c : RunCfg) (placed : List Contract) (floor : Nat) : (s.applyCfg c placed floor).pending = s.pending := by
  unfold State.applyCfg; (repeat' split) <;> first | rfl | (simp; done) | (simp [apply_ite State.pending, fold_pending]; done) | (dsimp only; (repeat' split) <;> first | rfl | (simp; done) | (simp [apply_ite State.pending, fold_pending]; done))
@[simp] theorem State.awaits_pending (s : State) (t op : Nat) (k : CmdPkt) (flash : Bool) : (s.awaits t op k flash).st.pending = s.pending := by
  unfold State.awaits; (repeat' split) <;> first | rfl | simp
@[simp] theorem State.lateReply_pending (s : State) (c : ChipCmd) (lseq : DWord) (r : CmdRes) : (s.lateReply c lseq r).pending = s.pending := by
  unfold State.lateReply; (repeat' split) <;> first | rfl | (simp; done) | (simp [apply_ite State.pending, fold_pending]; done) | (dsimp only; (repeat' split) <;> first | rfl | (simp; done) | (simp [apply_ite State.pending, fold_pending]; done))
@[simp] theorem State.cfgEvent_pending (s : State) (code d0 d1 : Nat) : (s.cfgEvent code d0 d1).pending = s.pending := by
  unfold State.cfgEvent; (repeat' split) <;> first | rfl | simp
@[simp] theorem State.sendImage_pending (s : State) (type kind b : Nat) (img : List Byte) : (s.sendImage type kind b img).pending = s.pending := by
  unfold State.sendImage; (repeat' split) <;> first | rfl | simp
@[simp] theorem bodyCfgStage_pending (t : Nat) (k : CmdPkt) (s : State) (p : List Byte) : (bodyCfgStage t k s p).st.pending = s.pending := by
  unfold bodyCfgStage; (repeat' split) <;> first | rfl | (simp; done) | (simp [apply_ite State.pending, fold_pending]; done) | (dsimp only; (repeat' split) <;> first | rfl | (simp; done) | (simp [apply_ite State.pending, fold_pending]; done))
@[simp] theorem State.leaveRoles_pending (s : State) (before : Dir) : (s.leaveRoles before).pending = s.pending := by
  unfold State.leaveRoles; (repeat' split) <;> first | rfl | simp
@[simp] theorem State.validate_pending (s : State) : (s.validate).1.pending = s.pending := by
  unfold State.validate; (repeat' split) <;> first | rfl | (simp; done) | (simp [apply_ite State.pending, fold_pending]; done) | (dsimp only; (repeat' split) <;> first | rfl | (simp; done) | (simp [apply_ite State.pending, fold_pending]; done))
@[simp] theorem State.validated_pending (s : State) (r : Option ImgFail) : (s.validated r).st.pending = s.pending := by
  unfold State.validated; (repeat' split) <;> first | rfl | simp
@[simp] theorem State.burnNow_pending (s : State) (kind v : Nat) : (s.burnNow kind v).pending = s.pending := by
  unfold State.burnNow; (repeat' split) <;> first | rfl | simp
@[simp] theorem State.burn_pending (s : State) (kind v : Nat) : (s.burn kind v).pending = s.pending := by
  unfold State.burn; (repeat' split) <;> first | rfl | simp
@[simp] theorem bodyCfgConfirm_pending (t : Nat) (k : CmdPkt) (s : State) (p : List Byte) : (bodyCfgConfirm t k s p).st.pending = s.pending := by
  unfold bodyCfgConfirm; (repeat' split) <;> first | rfl | simp
@[simp] theorem State.finConfirm_pending (s : State) : (s.finConfirm).st.pending = s.pending := by
  unfold State.finConfirm; (repeat' split) <;> first | rfl | (simp; done) | (simp [apply_ite State.pending, fold_pending]; done) | (dsimp only; (repeat' split) <;> first | rfl | (simp; done) | (simp [apply_ite State.pending, fold_pending]; done))
@[simp] theorem State.rollBack_pending (s : State) : (s.rollBack).pending = s.pending := by
  unfold State.rollBack; (repeat' split) <;> first | rfl | simp
@[simp] theorem State.rolledBack_pending (s : State) (left : Word) (cause : Nat) : (s.rolledBack left cause).pending = s.pending := by
  unfold State.rolledBack; (repeat' split) <;> first | rfl | simp
@[simp] theorem bodyCfgRollback_pending (t : Nat) (k : CmdPkt) (s : State) (x0 : List Byte) : (bodyCfgRollback t k s x0).st.pending = s.pending := by
  unfold bodyCfgRollback; (repeat' split) <;> first | rfl | simp
@[simp] theorem bodyFwStage_pending (t : Nat) (k : CmdPkt) (s : State) (p : List Byte) : (bodyFwStage t k s p).st.pending = s.pending := by
  unfold bodyFwStage; (repeat' split) <;> first | rfl | (simp; done) | (simp [apply_ite State.pending, fold_pending]; done) | (dsimp only; (repeat' split) <;> first | rfl | (simp; done) | (simp [apply_ite State.pending, fold_pending]; done))
@[simp] theorem State.finFwStage_pending (s : State) (b : List Byte) : (s.finFwStage b).st.pending = s.pending := by
  unfold State.finFwStage; (repeat' split) <;> first | rfl | simp
@[simp] theorem bodyFwSwitch_pending (op t : Nat) (k : CmdPkt) (s : State) (x0 : List Byte) : (bodyFwSwitch op t k s x0).st.pending = s.pending := by
  unfold bodyFwSwitch; (repeat' split) <;> first | rfl | simp
@[simp] theorem State.finFwSwitch_pending (s : State) (trial : Bool) : (s.finFwSwitch trial).st.pending = s.pending := by
  unfold State.finFwSwitch; simp only []; repeat (first | rfl | (simp [apply_ite State.pending, fold_pending]; done) | split | (rw [fold_pending _ (by intros; (repeat' split) <;> first | rfl | (simp [apply_ite State.pending, fold_pending]; done))]))
@[simp] theorem bodyFwConfirm_pending (t : Nat) (k : CmdPkt) (s : State) (x0 : List Byte) : (bodyFwConfirm t k s x0).st.pending = s.pending := by
  unfold bodyFwConfirm; (repeat' split) <;> first | rfl | simp
@[simp] theorem State.finFwConfirm_pending (s : State) : (s.finFwConfirm).st.pending = s.pending := by
  unfold State.finFwConfirm; (repeat' split) <;> first | rfl | (simp; done) | (simp [apply_ite State.pending, fold_pending]; done) | (dsimp only; (repeat' split) <;> first | rfl | (simp; done) | (simp [apply_ite State.pending, fold_pending]; done))
@[simp] theorem State.compileNow_pending (s : State) : (s.compileNow).pending = s.pending := by
  unfold State.compileNow; simp only []; repeat (first | rfl | (simp [apply_ite State.pending, fold_pending]; done) | split | (rw [fold_pending _ (by intros; (repeat' split) <;> first | rfl | (simp [apply_ite State.pending, fold_pending]; done))]))
@[simp] theorem State.timeStart_pending (s : State) : (s.timeStart).pending = s.pending := by
  unfold State.timeStart; (repeat' split) <;> first | rfl | simp
@[simp] theorem State.busUp_pending (s : State) : (s.busUp).pending = s.pending := by
  unfold State.busUp; (repeat' split) <;> first | rfl | simp
@[simp] theorem State.setSync_pending (s : State) (v : Nat) : (s.setSync v).pending = s.pending := by
  unfold State.setSync; (repeat' split) <;> first | rfl | simp
@[simp] theorem State.setRole_pending (s : State) (r : Nat) : (s.setRole r).pending = s.pending := by
  unfold State.setRole; (repeat' split) <;> first | rfl | simp
@[simp] theorem State.mirrorPlace_pending (s : State) (b : List Byte) : (s.mirrorPlace b).pending = s.pending := by
  unfold State.mirrorPlace; (repeat' split) <;> first | rfl | simp
@[simp] theorem State.sendCopy_pending (s : State) : (s.sendCopy).pending = s.pending := by
  unfold State.sendCopy; (repeat' split) <;> first | rfl | simp
@[simp] theorem State.addChunk_pending (s : State) (k off : Nat) (data : List Byte) : (s.addChunk k off data).pending = s.pending := by
  unfold State.addChunk; (repeat' split) <;> first | rfl | simp
@[simp] theorem State.inherit_pending (s : State) : (s.inherit).pending = s.pending := by
  unfold State.inherit; (repeat' split) <;> first | rfl | simp
@[simp] theorem State.stepDown_pending (s : State) : (s.stepDown).pending = s.pending := by
  unfold State.stepDown; (repeat' split) <;> first | rfl | simp
@[simp] theorem State.acked_pending (s : State) (ack : Word) : (s.acked ack).pending = s.pending := by
  unfold State.acked; (repeat' split) <;> first | rfl | simp
@[simp] theorem State.twinFrame_pending (s : State) (type : Nat) (f : TwinRx) (act : State → List Byte → State)
    (h : ∀ a b, (act a b).pending = a.pending) : (s.twinFrame type f act).pending = s.pending := by
  unfold State.twinFrame; dsimp only; (repeat' split) <;> first | rfl | simp [h]
@[simp] theorem State.linkUpWith_pending (s : State) (h : TwinHello) : (s.linkUpWith h).pending = s.pending := by
  unfold State.linkUpWith; (repeat' split) <;> first | rfl | (simp; done) | (simp [apply_ite State.pending, fold_pending]; done) | (dsimp only; (repeat' split) <;> first | rfl | (simp; done) | (simp [apply_ite State.pending, fold_pending]; done))
@[simp] theorem State.helloIn_pending (s : State) (h : TwinHello) : (s.helloIn h).pending = s.pending := by
  unfold State.helloIn; (repeat' split) <;> first | rfl | (simp; done) | (simp [apply_ite State.pending, fold_pending]; done) | (dsimp only; (repeat' split) <;> first | rfl | (simp; done) | (simp [apply_ite State.pending, fold_pending]; done))
@[simp] theorem State.timeIn_pending (s : State) (offset trim : Half) (p : List Byte) : (s.timeIn offset trim p).pending = s.pending := by
  unfold State.timeIn; (repeat' split) <;> first | rfl | (simp; done) | (simp [apply_ite State.pending, fold_pending]; done) | (dsimp only; (repeat' split) <;> first | rfl | (simp; done) | (simp [apply_ite State.pending, fold_pending]; done))
@[simp] theorem State.roleSettle_pending (s : State) : (s.roleSettle).pending = s.pending := by
  unfold State.roleSettle; (repeat' split) <;> first | rfl | (simp; done) | (simp [apply_ite State.pending, fold_pending]; done) | (dsimp only; (repeat' split) <;> first | rfl | (simp; done) | (simp [apply_ite State.pending, fold_pending]; done))
@[simp] theorem State.aliveOut_pending (s : State) (high : Bool) : (s.aliveOut high).pending = s.pending := by
  unfold State.aliveOut; (repeat' split) <;> first | rfl | simp
@[simp] theorem bodyTwinSwitchover_pending (s : State) (x0 : List Byte) : (bodyTwinSwitchover s x0).st.pending = s.pending := by
  unfold bodyTwinSwitchover; (repeat' split) <;> first | rfl | (simp; done) | (simp [apply_ite State.pending, fold_pending]; done) | (dsimp only; (repeat' split) <;> first | rfl | (simp; done) | (simp [apply_ite State.pending, fold_pending]; done))
@[simp] theorem bodyTwinResync_pending (s : State) (x0 : List Byte) : (bodyTwinResync s x0).st.pending = s.pending := by
  unfold bodyTwinResync; (repeat' split) <;> first | rfl | simp
@[simp] theorem State.resetPins_pending (s : State) : (s.resetPins).pending = s.pending := by
  unfold State.resetPins; (repeat' split) <;> first | rfl | (simp; done) | (simp [apply_ite State.pending, fold_pending]; done) | (dsimp only; (repeat' split) <;> first | rfl | (simp; done) | (simp [apply_ite State.pending, fold_pending]; done))
@[simp] theorem State.blankChip_pending (s : State) : (s.blankChip).pending = s.pending := by
  unfold State.blankChip; (repeat' split) <;> first | rfl | simp
@[simp] theorem State.resetKind_pending (s : State) (kind engine : Nat) : (s.resetKind kind engine).pending = s.pending := by
  unfold State.resetKind; (repeat' split) <;> first | rfl | simp
@[simp] theorem State.warmReset_pending (s : State) (kind engine : Nat) : (s.warmReset kind engine).pending = s.pending := by
  unfold State.warmReset; (repeat' split) <;> first | rfl | simp
@[simp] theorem State.coldReset_pending (s : State) (kind strap : Nat) : (s.coldReset kind strap).pending = s.pending := by
  unfold State.coldReset; (repeat' split) <;> first | rfl | simp
@[simp] theorem State.softReset_pending (s : State) : (s.softReset).pending = s.pending := by
  unfold State.softReset; (repeat' split) <;> first | rfl | simp
@[simp] theorem State.stage0_pending (s : State) : (s.stage0).pending = s.pending := by
  unfold State.stage0; (repeat' split) <;> first | rfl | simp
@[simp] theorem State.hold_pending (s : State) : (s.hold).pending = s.pending := by
  unfold State.hold; (repeat' split) <;> first | rfl | simp
@[simp] theorem State.bootFw_pending (s : State) (k : Nat) (fallback : Bool) : (s.bootFw k fallback).pending = s.pending := by
  unfold State.bootFw; (repeat' split) <;> first | rfl | simp
@[simp] theorem State.fwReturn_pending (s : State) (cause : Nat) : (s.fwReturn cause).pending = s.pending := by
  unfold State.fwReturn; (repeat' split) <;> first | rfl | simp
@[simp] theorem State.stage1_pending (s : State) : (s.stage1).pending = s.pending := by
  unfold State.stage1; (repeat' split) <;> first | rfl | (simp; done) | (simp [apply_ite State.pending, fold_pending]; done) | (dsimp only; (repeat' split) <;> first | rfl | (simp; done) | (simp [apply_ite State.pending, fold_pending]; done))
@[simp] theorem State.retFault_pending (s : State) : (s.retFault).pending = s.pending := by
  unfold State.retFault; (repeat' split) <;> first | rfl | simp
@[simp] theorem State.stateArea_pending (s : State) (warm ok : Bool) : (s.stateArea warm ok).pending = s.pending := by
  unfold State.stateArea; (repeat' split) <;> first | rfl | simp
@[simp] theorem State.loadImage_pending (s : State) : (s.loadImage).pending = s.pending := by
  unfold State.loadImage; (repeat' split) <;> first | rfl | (simp; done) | (simp [apply_ite State.pending, fold_pending]; done) | (dsimp only; (repeat' split) <;> first | rfl | (simp; done) | (simp [apply_ite State.pending, fold_pending]; done))
@[simp] theorem State.startRollback_pending (s : State) : (s.startRollback).pending = s.pending := by
  unfold State.startRollback; (repeat' split) <;> first | rfl | simp
@[simp] theorem State.saveEpoch_pending (s : State) (epoch start : Word) (saved : Bool) : (s.saveEpoch epoch start saved).pending = s.pending := by
  unfold State.saveEpoch; (repeat' split) <;> first | rfl | simp
@[simp] theorem State.firstEntry_pending (s : State) (warm ledger saved : Bool) : (s.firstEntry warm ledger saved).pending = s.pending := by
  unfold State.firstEntry; (repeat' split) <;> first | rfl | simp
@[simp] theorem State.stage4_pending (s : State) : (s.stage4).pending = s.pending := by
  unfold State.stage4; (repeat' split) <;> first | rfl | (simp; done) | (simp [apply_ite State.pending, fold_pending]; done) | (dsimp only; (repeat' split) <;> first | rfl | (simp; done) | (simp [apply_ite State.pending, fold_pending]; done))
@[simp] theorem State.stage5_pending (s : State) (ms : Half) : (s.stage5 ms).pending = s.pending := by
  unfold State.stage5; (repeat' split) <;> first | rfl | (simp; done) | (simp [apply_ite State.pending, fold_pending]; done) | (dsimp only; (repeat' split) <;> first | rfl | (simp; done) | (simp [apply_ite State.pending, fold_pending]; done))
@[simp] theorem State.eraseKey_pending (s : State) (t : Nat) : (s.eraseKey t).pending = s.pending := by
  unfold State.eraseKey; (repeat' split) <;> first | rfl | simp
@[simp] theorem State.eraseKeys_pending (s : State) : (s.eraseKeys).pending = s.pending := by
  unfold State.eraseKeys; (repeat' split) <;> first | rfl | simp
@[simp] theorem bodySecKeyLoad_pending (t : Nat) (s : State) (p : List Byte) : (bodySecKeyLoad t s p).st.pending = s.pending := by
  unfold bodySecKeyLoad; (repeat' split) <;> first | rfl | (simp; done) | (simp [apply_ite State.pending, fold_pending]; done) | (dsimp only; (repeat' split) <;> first | rfl | (simp; done) | (simp [apply_ite State.pending, fold_pending]; done))
@[simp] theorem State.withSec_pending (s : State) (f : State → State) (h : ∀ a, (f a).pending = a.pending) : (s.withSec f).pending = s.pending := by
  unfold State.withSec; split <;> simp [h]
@[simp] theorem bodySecKeyErase_pending (t : Nat) (s : State) (x0 : List Byte) : (bodySecKeyErase t s x0).st.pending = s.pending := by
  unfold bodySecKeyErase; (repeat' split) <;> first | rfl | simp
@[simp] theorem bodySecLifecycle_pending (s : State) (x0 : List Byte) : (bodySecLifecycle s x0).st.pending = s.pending := by
  unfold bodySecLifecycle; (repeat' split) <;> first | rfl | simp
@[simp] theorem bodySecAttest_pending (t : Nat) (s : State) (p : List Byte) : (bodySecAttest t s p).st.pending = s.pending := by
  unfold bodySecAttest; (repeat' split) <;> first | rfl | simp
@[simp] theorem State.openDebug_pending (s : State) : (s.openDebug).pending = s.pending := by
  unfold State.openDebug; (repeat' split) <;> first | rfl | simp
@[simp] theorem State.burnHeld_pending (s : State) (kind v : Nat) : (s.burnHeld kind v).pending = s.pending := by
  unfold State.burnHeld; (repeat' split) <;> first | rfl | simp
@[simp] theorem State.smbRead_pending (s : State) (n v : Nat) : (s.smbRead n v).pending = s.pending := by
  unfold State.smbRead; (repeat' split) <;> first | rfl | simp
@[simp] theorem State.standingAlerts_pending (s : State) : (s.standingAlerts).pending = s.pending := by
  unfold State.standingAlerts; (repeat' split) <;> first | rfl | (simp; done) | (simp [apply_ite State.pending, fold_pending]; done) | (dsimp only; (repeat' split) <;> first | rfl | (simp; done) | (simp [apply_ite State.pending, fold_pending]; done))
@[simp] theorem State.sendSof_pending (s : State) (l : Nat) (disc : Bool) : (s.sendSof l disc).pending = s.pending := by
  unfold State.sendSof; (repeat' split) <;> first | rfl | simp
@[simp] theorem State.sofLink_pending (s : State) (rx : BitVec 16) (disc : Bool) (l : Nat) : (s.sofLink rx disc l).pending = s.pending := by
  unfold State.sofLink; (repeat' split) <;> first | rfl | (simp; done) | (simp [apply_ite State.pending, fold_pending]; done) | (dsimp only; (repeat' split) <;> first | rfl | (simp; done) | (simp [apply_ite State.pending, fold_pending]; done))
@[simp] theorem State.releaseAfterSof_pending (s : State) : (s.releaseAfterSof).pending = s.pending := by
  unfold State.releaseAfterSof; (repeat' split) <;> first | rfl | simp
@[simp] theorem State.sofs_pending (s : State) (rx : BitVec 16) : (s.sofs rx).pending = s.pending := by
  unfold State.sofs; (repeat' split) <;> first | rfl | (simp; done) | (simp [apply_ite State.pending, fold_pending]; done) | (dsimp only; (repeat' split) <;> first | rfl | (simp; done) | (simp [apply_ite State.pending, fold_pending]; done))
@[simp] theorem State.beatWork_pending (s : State) : (s.beatWork).pending = s.pending := by
  unfold State.beatWork; (repeat' split) <;> first | rfl | (simp; done) | (simp [apply_ite State.pending, fold_pending]; done) | (dsimp only; (repeat' split) <;> first | rfl | (simp; done) | (simp [apply_ite State.pending, fold_pending]; done))
@[simp] theorem State.beatLink_pending (s : State) (k p : Nat) : (s.beatLink k p).pending = s.pending := by
  unfold State.beatLink; (repeat' split) <;> first | rfl | (simp; done) | (simp [apply_ite State.pending, fold_pending]; done) | (dsimp only; (repeat' split) <;> first | rfl | (simp; done) | (simp [apply_ite State.pending, fold_pending]; done))
@[simp] theorem State.nextFrame_pending (s : State) : (s.nextFrame).pending = s.pending := by
  unfold State.nextFrame; (repeat' split) <;> first | rfl | (simp; done) | (simp [apply_ite State.pending, fold_pending]; done) | (dsimp only; (repeat' split) <;> first | rfl | (simp; done) | (simp [apply_ite State.pending, fold_pending]; done))
@[simp] theorem State.emptyFrame_pending (s : State) : (s.emptyFrame).pending = s.pending := by
  unfold State.emptyFrame; (repeat' split) <;> first | rfl | simp
@[simp] theorem State.epochBump_pending (s : State) : (s.epochBump).pending = s.pending := by
  unfold State.epochBump; (repeat' split) <;> first | rfl | simp
@[simp] theorem State.mrcFollow_pending (s : State) : (s.mrcFollow).pending = s.pending := by
  unfold State.mrcFollow; (repeat' split) <;> first | rfl | (simp; done) | (simp [apply_ite State.pending, fold_pending]; done) | (dsimp only; (repeat' split) <;> first | rfl | (simp; done) | (simp [apply_ite State.pending, fold_pending]; done))
@[simp] theorem State.mrcAtFrame_pending (s : State) (ticks : Nat) : (s.mrcAtFrame ticks).pending = s.pending := by
  unfold State.mrcAtFrame; (repeat' split) <;> first | rfl | simp
@[simp] theorem State.twinAtFrame_pending (s : State) : (s.twinAtFrame).pending = s.pending := by
  unfold State.twinAtFrame; (repeat' split) <;> first | rfl | (simp; done) | (simp [apply_ite State.pending, fold_pending]; done) | (dsimp only; (repeat' split) <;> first | rfl | (simp; done) | (simp [apply_ite State.pending, fold_pending]; done))
@[simp] theorem State.holdRead_pending (s : State) (fn : Nat) (r : Reg) (i : Nat) (w hi : Word) : (s.holdRead fn r i w hi).2.pending = s.pending := by
  unfold State.holdRead; (repeat' split) <;> first | rfl | simp
@[simp] theorem State.clearOnRead_pending (s : State) (fn : Nat) (r : Reg) (i : Nat) (add : Word) : (s.clearOnRead fn r i add).pending = s.pending := by
  unfold State.clearOnRead; (repeat' split) <;> first | rfl | (simp; done) | (simp [apply_ite State.pending, fold_pending]; done) | (dsimp only; (repeat' split) <;> first | rfl | (simp; done) | (simp [apply_ite State.pending, fold_pending]; done))
@[simp] theorem State.countRc_pending (s : State) (fn : Nat) (r : Reg) (i : Nat) (add : Word) : (s.countRc fn r i add).pending = s.pending := by
  unfold State.countRc; (repeat' split) <;> first | rfl | (simp; done) | (simp [apply_ite State.pending, fold_pending]; done) | (dsimp only; (repeat' split) <;> first | rfl | (simp; done) | (simp [apply_ite State.pending, fold_pending]; done))
@[simp] theorem State.countAt_pending (s : State) (fn off : Nat) (add : Word) : (s.countAt fn off add).pending = s.pending := by
  unfold State.countAt; (repeat' split) <;> first | rfl | simp
@[simp] theorem State.readWord_pending (s : State) (fn off : Nat) (add : Word) : (s.readWord fn off add).2.pending = s.pending := by
  unfold State.readWord; (repeat' split) <;> first | rfl | (simp; done) | (simp [apply_ite State.pending, fold_pending]; done) | (dsimp only; (repeat' split) <;> first | rfl | (simp; done) | (simp [apply_ite State.pending, fold_pending]; done))
@[simp] theorem State.read32_pending (s : State) (fn off : Nat) (add : Word) : (s.read32 fn off add).2.pending = s.pending := by
  unfold State.read32; (repeat' split) <;> first | rfl | simp
@[simp] theorem State.answerRead_pending (s : State) (fn off : Nat) (w : Option DWord) : (s.answerRead fn off w).pending = s.pending := by
  unfold State.answerRead; (repeat' split) <;> first | rfl | simp
@[simp] theorem State.narrowRead_pending (s : State) (fn off size : Nat) : (s.narrowRead fn off size).pending = s.pending := by
  unfold State.narrowRead; (repeat' split) <;> first | rfl | simp
@[simp] theorem State.readAcc_pending (s : State) (fn off size : Nat) (add : DWord) : (s.readAcc fn off size add).pending = s.pending := by
  unfold State.readAcc; (repeat' split) <;> first | rfl | simp
@[simp] theorem State.ringFault_pending (s : State) (t : Nat) : (s.ringFault t).pending = s.pending := by
  unfold State.ringFault; (repeat' split) <;> first | rfl | simp
@[simp] theorem State.cmdDoorbell_pending (s : State) (t : Nat) (v : Half) : (s.cmdDoorbell t v).pending = s.pending := by
  unfold State.cmdDoorbell; (repeat' split) <;> first | rfl | (simp; done) | (simp [apply_ite State.pending, fold_pending]; done) | (dsimp only; (repeat' split) <;> first | rfl | (simp; done) | (simp [apply_ite State.pending, fold_pending]; done))
@[simp] theorem State.rplDoorbell_pending (s : State) (t : Nat) (v : Half) : (s.rplDoorbell t v).pending = s.pending := by
  unfold State.rplDoorbell; (repeat' split) <;> first | rfl | (simp; done) | (simp [apply_ite State.pending, fold_pending]; done) | (dsimp only; (repeat' split) <;> first | rfl | (simp; done) | (simp [apply_ite State.pending, fold_pending]; done))
@[simp] theorem State.resetRing_pending (s : State) (t : Nat) : (s.resetRing t).pending = s.pending := by
  unfold State.resetRing; (repeat' split) <;> first | rfl | simp
@[simp] theorem State.pathEnable_pending (s : State) (t : Nat) : (s.pathEnable t).pending = s.pending := by
  unfold State.pathEnable; (repeat' split) <;> first | rfl | simp
@[simp] theorem State.cmdCtrl_pending (s : State) (t : Nat) (v hw : Word) : (s.cmdCtrl t v hw).pending = s.pending := by
  unfold State.cmdCtrl; (repeat' split) <;> first | rfl | (simp; done) | (simp [apply_ite State.pending, fold_pending]; done) | (dsimp only; (repeat' split) <;> first | rfl | (simp; done) | (simp [apply_ite State.pending, fold_pending]; done))
@[simp] theorem State.store_pending (s : State) (fn off : Nat) (r : Reg) (i : Nat) (v hw : Word) : (s.store fn off r i v hw).pending = s.pending := by
  unfold State.store; (repeat' split) <;> first | rfl | (simp; done) | (simp [apply_ite State.pending, fold_pending]; done) | (dsimp only; (repeat' split) <;> first | rfl | (simp; done) | (simp [apply_ite State.pending, fold_pending]; done))
@[simp] theorem State.modWrite_pending (s : State) (fn off : Nat) (v : Word) : (s.modWrite fn off v).pending = s.pending := by
  unfold State.modWrite; (repeat' split) <;> first | rfl | (simp; done) | (simp [apply_ite State.pending, fold_pending]; done) | (dsimp only; (repeat' split) <;> first | rfl | (simp; done) | (simp [apply_ite State.pending, fold_pending]; done))
@[simp] theorem State.writeReg_pending (s : State) (fn off : Nat) (r : Reg) (i : Nat) (v hw : Word) : (s.writeReg fn off r i v hw).pending = s.pending := by
  unfold State.writeReg; (repeat' split) <;> first | rfl | simp
@[simp] theorem State.vecWrite_pending (s : State) (fn v k : Nat) (w : Word) : (s.vecWrite fn v k w).pending = s.pending := by
  unfold State.vecWrite; (repeat' split) <;> first | rfl | simp
@[simp] theorem State.dropHold_pending (s : State) (fn : Nat) (r : Reg) (i : Nat) : (s.dropHold fn r i).pending = s.pending := by
  unfold State.dropHold; (repeat' split) <;> first | rfl | simp
@[simp] theorem State.writeSpot_pending (s : State) (fn off : Nat) (v hw : Word) : (s.writeSpot fn off v hw).pending = s.pending := by
  unfold State.writeSpot; (repeat' split) <;> first | rfl | simp
@[simp] theorem State.write32_pending (s : State) (fn off : Nat) (v hw : Word) : (s.write32 fn off v hw).pending = s.pending := by
  unfold State.write32; (repeat' split) <;> first | rfl | simp
@[simp] theorem State.narrowWrite_pending (s : State) (fn off : Nat) : (s.narrowWrite fn off).pending = s.pending := by
  unfold State.narrowWrite; (repeat' split) <;> first | rfl | simp
@[simp] theorem State.writeAcc_pending (s : State) (fn off size : Nat) (v : DWord) (hw : Word) : (s.writeAcc fn off size v hw).pending = s.pending := by
  unfold State.writeAcc; (repeat' split) <;> first | rfl | simp

end Sys2Proof.Machine
end

