-- ==== Sys2Proof/Laws/FamilyFrames3.lean ====
section
/-!
SUPPORT. The queue is left alone by operations whose frames take an induction or a case split of their own: placing strikes,
completing the entries of a frame, losing the twin link, and ending a flash operation.
-/
namespace Sys2Proof.Machine

@[simp] theorem State.shimGoes_pending (s : State) (i : Nat) (h : Shim) (st : ShimState) :
    (s.shimGoes i h st).pending = s.pending := by
  unfold State.shimGoes; (repeat' split) <;> rfl

@[simp] theorem State.discarded_pending (s : State) (l : Nat) : (s.discarded l).pending = s.pending := by
  unfold State.discarded; split <;> simp

@[simp] theorem State.switchDue_pending (s : State) (n : Nat) : (s.switchDue n).pending = s.pending := by
  induction n generalizing s with
  | zero => rfl
  | succ n ih => unfold State.switchDue; (repeat' split) <;> first | rfl | simp [ih]

@[simp] theorem State.slotOut_pending (s : State) (q maxp n : Nat) : (s.slotOut q maxp n).1.pending = s.pending := by
  induction n generalizing s with
  | zero => rfl
  | succ n ih => unfold State.slotOut; (repeat' split) <;> first | rfl | simp [ih]

@[simp] theorem State.attemptOne_pending (s : State) (q : Nat) : (s.attemptOne q).1.pending = s.pending := by
  unfold State.attemptOne
  extract_lets v
  split
  · rfl
  · extract_lets fin
    have hf : ∀ st, (fin st).1.pending = s.pending := by intro st; simp [fin]
    clear_value fin
    split
    · exact hf _
    split
    · rfl
    split
    · exact hf _
    split
    · exact hf _
    split
    · exact hf _
    split
    · rfl
    split
    · exact hf _
    split
    · rfl
    split
    · rfl
    · simp

@[simp] theorem State.attempt_pending (s : State) (q n : Nat) : (s.attempt q n).pending = s.pending := by
  induction n generalizing s with
  | zero => rfl
  | succ n ih => unfold State.attempt; dsimp only; split <;> simp [ih]

@[simp] theorem State.enterEntry_pending (s : State) (q t : Nat) (e : Entry) : (s.enterEntry q t e).pending = s.pending := by
  unfold State.enterEntry
  split
  · simp
  split
  · simp
  have h : ∀ x, (if e.prog then s.assign q t e else some (s, e)) = some x → x.1.pending = s.pending := by
    intro x hx
    split at hx
    · exact State.assign_pending hx
    · cases hx; rfl
  revert h
  generalize (if e.prog then s.assign q t e else some (s, e)) = o
  intro h
  cases o with
  | none => simp
  | some x => obtain ⟨a, b⟩ := x; have := h _ rfl; simp only at this ⊢; split <;> simp [this]

@[simp] theorem State.landEntry_pending (s : State) (q : Nat) (b : List Byte) : (s.landEntry q b).pending = s.pending := by
  unfold State.landEntry
  extract_lets b v t s1 sa src s2
  have h2 : s2.pending = s.pending := by
    show (if v.entries = [] then s1.writeWords 2 q else s1).pending = s.pending
    split <;> simp [s1]
  clear_value s2
  split
  · simp [h2]
  · extract_lets e
    split
    · split
      · rename_i h
        split at h
        · simp only [enterDone_pending]; exact (State.assign_pending h).trans h2
        · cases h
      · simp [h2]
    · split <;> simp [h2]
    · simp [h2]

@[simp] theorem State.attemptAll_pending (s : State) : s.attemptAll.pending = s.pending := by
  unfold State.attemptAll
  refine foldl_proj (fun x : State => x.pending) _ ?_ _ _
  intro a b; show (if _ then _ else _ : State).pending = a.pending; split <;> simp

theorem State.answer_pending {s : State} {l : Nat} {rx : LineRx} {pick : Txn → Bool} {data : State → Txn → Bool → List Byte → State}
    {shake : State → Txn → Pid → State} (hd : ∀ s x t b, (data s x t b).pending = s.pending)
    (hs : ∀ s x p, (shake s x p).pending = s.pending) : (s.answer l rx pick data shake).pending = s.pending := by
  unfold State.answer
  extract_lets find
  split
  · rfl
  · (repeat' split) <;> first
      | rfl
      | (simp [hd, hs]; done)
      | exact discarded_pending _ _
      | exact (txError_pending _ _).trans (discarded_pending _ _)

@[simp] theorem State.strikesAtFrame_pending (s : State) : s.strikesAtFrame.pending = s.pending := by
  unfold State.strikesAtFrame
  simp only [attemptAll_pending]
  refine (foldl_proj (fun x : State => x.pending) _ ?_ _ _).trans ?_
  · intros; simp
  · simp

@[simp] theorem State.loadGrants_pending (s : State) : s.loadGrants.pending = s.pending := by
  unfold State.loadGrants
  extract_lets c s1 s2 s3
  have h1 : s1.pending = s.pending := by
    refine foldl_proj (fun x : State => x.pending) _ ?_ _ _
    intros; simp
  have h3 : s3.pending = s2.pending := by
    refine (foldl_proj (fun x : State => x.pending) _ ?_ _ _).trans ?_
    · intros; simp
    · simp
  simp [h3, s2, h1]

@[simp] theorem State.endBusy_pending (s : State) (c : ChipCmd) (r : CmdRes) : (s.endBusy c r).pending = r.st.pending := by
  unfold State.endBusy
  split
  · rfl
  · split <;> simp

@[simp] theorem State.twinDown_pending (s : State) : s.twinDown.pending = s.pending := by
  unfold State.twinDown
  extract_lets a b s1 s2 held c s3 s4
  have h2 : s2.pending = s.pending := by
    refine (foldl_proj (fun x : State => x.pending) _ ?_ _ _).trans ?_
    · intros; simp
    · simp [s1, a]
  have h4 : s4.pending = s.pending := by
    simp only [s4, setLag_pending]
    refine (foldl_proj (fun x : State => x.pending) _ ?_ _ _).trans ?_
    · intros; simp
    · exact h2
  clear_value s4
  (repeat' split) <;> simp [h4]

@[simp] theorem State.becomePrimary_pending (s : State) : s.becomePrimary.pending = s.pending := by
  unfold State.becomePrimary
  extract_lets e sy s1 a s2 s3 lseq s4 b s5 s6 s7 s8 c
  have h2 : s2.pending = s.pending := by simp only [s2]; split <;> simp [s1]
  have h6 : s6.pending = s.pending := by
    refine (foldl_proj (fun x : State => x.pending) _ ?_ _ _).trans ?_
    · intro a b; show (if _ then _ else _ : State).pending = a.pending; split <;> simp
    · simp [s5, s4, s3, h2]
  have h8 : s8.pending = s.pending := by simp only [s8]; split <;> simp [s7, h6]
  exact h8

@[simp] theorem State.finStage_pending (s : State) (img : List Byte) : (s.finStage img).pending = s.pending := by
  unfold State.finStage; simp

@[simp] theorem State.flashFail_pending (s : State) (c : ChipCmd) : (s.flashFail c).pending = s.pending := by
  unfold State.flashFail
  dsimp only
  rw [endBusy_pending]
  dsimp only [CmdRes.err]
  (repeat' split) <;> simp

theorem State.commitCheck_pending {s : State} {p : List Byte} {r : CmdRes} (h : s.commitCheck p = some r) :
    r.st.pending = s.pending := by
  unfold State.commitCheck at h
  extract_lets at h
  (repeat' split at h) <;> first
    | (cases h; done)
    | (cases h; rfl)

@[simp] theorem State.finCommit_pending (s : State) (p : List Byte) : (s.finCommit p).st.pending = s.pending := by
  unfold State.finCommit
  split
  · rename_i h; exact State.commitCheck_pending h
  · extract_lets b c
    split
    · simp
    · simp +zetaDelta [CmdRes.ok]

@[simp] theorem State.flashEnd_pending (s : State) (c : ChipCmd) : (s.flashEnd c).pending = s.pending := by
  unfold State.flashEnd
  extract_lets a free
  have h : free.pending = s.pending := rfl
  clear_value free
  split <;> (repeat' split) <;> first | exact h | simp +zetaDelta [h, CmdRes.ok]

@[simp] theorem bodyCfgValidate_pending (t : Nat) (k : CmdPkt) (s : State) (p : List Byte) :
    (bodyCfgValidate t k s p).st.pending = s.pending := by
  unfold bodyCfgValidate
  have h := State.validate_pending s
  split
  · simp
  · split
    · rename_i e; rw [e] at h; simpa using h
    · rename_i e; rw [e] at h; split <;> simpa using h

@[simp] theorem bodyCfgCommit_pending (t : Nat) (k : CmdPkt) (s : State) (p : List Byte) :
    (bodyCfgCommit t k s p).st.pending = s.pending := by
  unfold bodyCfgCommit
  split
  · rename_i h; exact State.commitCheck_pending h
  · (repeat' split) <;> simp

@[simp] theorem State.configAnswer_pending (s : State) (p : List Byte) : (s.configAnswer p).pending = s.pending := by
  unfold State.configAnswer
  extract_lets code detail
  split
  · rfl
  · (repeat' split) <;> simp +zetaDelta [apply_ite CmdRes.st]

@[simp] theorem State.configIn_pending (s : State) (p : List Byte) : (s.configIn p).pending = s.pending := by
  unfold State.configIn
  have h := State.validate_pending s
  extract_lets w
  split
  · split <;> simp +zetaDelta
  · split
    · simp
    · split
      · rename_i e; rw [e] at h; simpa using h
      · rename_i e; rw [e] at h; simpa using h
  · split <;> simp
  · rfl
end Sys2Proof.Machine
end

