-- ==== Sys2Proof/Laws/Tab.lean ====
section
/-!
SUPPORT. Laws of the sparse tables: what a read gives after an update, and that every update keeps the keys rising.
-/
namespace Sys2Proof.Machine

variable {α : Type}

@[simp] theorem Tab.find_nil (k : Nat) : Tab.find ([] : Tab α) k = none := rfl

theorem Tab.find_cons (a : Nat) (v : α) (r : Tab α) (k : Nat) :
    Tab.find ((a, v) :: r) k = if a = k then some v else Tab.find r k := rfl

/-- A read of the key that was set gives the value set. -/
@[simp] theorem Tab.find_set_same (t : Tab α) (k : Nat) (v : α) : Tab.find (Tab.set t k v) k = some v := by
  induction t with
  | nil => simp [Tab.set, Tab.find]
  | cons e r ih =>
    obtain ⟨a, w⟩ := e
    unfold Tab.set
    split
    · simp [Tab.find]
    · split
      · simp [Tab.find]
      · rename_i h _
        rw [Tab.find_cons, if_neg (fun h' => h h'.symm), ih]

/-- A read of another key gives what it gave before. -/
@[simp] theorem Tab.find_set_other (t : Tab α) (k j : Nat) (v : α) (h : j ≠ k) :
    Tab.find (Tab.set t k v) j = Tab.find t j := by
  induction t with
  | nil => simp [Tab.set, Tab.find, Ne.symm h]
  | cons e r ih =>
    obtain ⟨a, w⟩ := e
    unfold Tab.set
    split
    · rename_i hk
      subst hk
      simp [Tab.find, Ne.symm h]
    · split
      · rw [Tab.find_cons, if_neg (Ne.symm h)]
      · rw [Tab.find_cons, Tab.find_cons, ih]

@[simp] theorem Tab.getD_set_same (t : Tab α) (k : Nat) (v d : α) : Tab.getD (Tab.set t k v) k d = v := by
  simp [Tab.getD]

@[simp] theorem Tab.getD_set_other (t : Tab α) (k j : Nat) (v d : α) (h : j ≠ k) :
    Tab.getD (Tab.set t k v) j d = Tab.getD t j d := by
  simp [Tab.getD, h]

/-- A change of every value changes what a read gives. -/
theorem Tab.find_mapVal (t : Tab α) (f : Nat → α → α) (k : Nat) :
    Tab.find (Tab.mapVal t f) k = (Tab.find t k).map (f k) := by
  induction t with
  | nil => rfl
  | cons e r ih =>
    obtain ⟨a, w⟩ := e
    show Tab.find ((a, f a w) :: Tab.mapVal r f) k = _
    rw [Tab.find_cons, Tab.find_cons]
    split
    · rename_i h
      subst h
      rfl
    · exact ih

/-- Whatever a set table lists was listed before or is the new value. -/
theorem Tab.mem_set {t : Tab α} {k : Nat} {v : α} {e : Nat × α} (h : e ∈ Tab.set t k v) : e ∈ t ∨ e = (k, v) := by
  induction t with
  | nil => simp [Tab.set] at h; exact .inr h
  | cons x r ih =>
    obtain ⟨a, w⟩ := x
    unfold Tab.set at h
    split at h
    · rcases List.mem_cons.1 h with h | h
      · exact .inr h
      · exact .inl (List.mem_cons_of_mem _ h)
    · split at h
      · rcases List.mem_cons.1 h with h | h
        · exact .inr h
        · exact .inl h
      · rcases List.mem_cons.1 h with h | h
        · exact .inl (h ▸ List.mem_cons_self)
        · rcases ih h with h | h
          · exact .inl (List.mem_cons_of_mem _ h)
          · exact .inr h

/-- Setting a key keeps the keys rising. -/
theorem Tab.wf_set {t : Tab α} (h : t.Wf) (k : Nat) (v : α) : (Tab.set t k v).Wf := by
  induction t with
  | nil => simp [Tab.set, Tab.Wf]
  | cons x r ih =>
    obtain ⟨a, w⟩ := x
    simp only [Tab.Wf, List.map_cons, List.pairwise_cons] at h
    unfold Tab.set
    split
    · rename_i hk
      subst hk
      simpa [Tab.Wf] using h
    · split
      · rename_i hlt
        simp only [Tab.Wf, List.map_cons, List.pairwise_cons]
        refine ⟨fun b hb => ?_, h⟩
        rcases List.mem_cons.1 hb with rfl | hb
        · exact hlt
        · exact Nat.lt_trans hlt (h.1 b hb)
      · rename_i hne hlt
        simp only [Tab.Wf, List.map_cons, List.pairwise_cons]
        refine ⟨fun b hb => ?_, ih h.2⟩
        obtain ⟨e, he, rfl⟩ := List.mem_map.1 hb
        rcases Tab.mem_set he with he | rfl
        · exact h.1 _ (List.mem_map_of_mem he)
        · omega

/-- Removing a key keeps the keys rising. -/
theorem Tab.wf_del {t : Tab α} (h : t.Wf) (k : Nat) : (Tab.del t k).Wf :=
  List.Pairwise.sublist (List.Sublist.map _ List.filter_sublist) h

/-- Changing values keeps the keys. -/
theorem Tab.wf_mapVal {t : Tab α} (h : t.Wf) (f : Nat → α → α) : (Tab.mapVal t f).Wf := by
  simpa [Tab.Wf, Tab.mapVal, Function.comp_def] using h

/-- Keeping some entries keeps the keys rising. -/
theorem Tab.wf_keep {t : Tab α} (h : t.Wf) (p : Nat → α → Bool) : (Tab.keep t p).Wf :=
  List.Pairwise.sublist (List.Sublist.map _ List.filter_sublist) h

end Sys2Proof.Machine
end

