-- ==== Sys2Proof/Laws/Regs.lean ====
section
/-!
SUPPORT. Reading registers and fields after they are written.
-/
namespace Sys2Proof.Machine

/-- The list of registers gives each register at its own number. -/
theorem allRegs_ctorIdx (r : Reg) : allRegs.getD r.ctorIdx .gblChipId = r := by cases r <;> rfl

/-- Registers have different numbers. -/
theorem Reg.ctorIdx_inj {a b : Reg} (h : a.ctorIdx = b.ctorIdx) : a = b := by
  rw [← allRegs_ctorIdx a, h, allRegs_ctorIdx b]

/-- Instances of registers have different keys. -/
theorem regKey_ne {r r' : Reg} {i j : Nat} (hi : i < 4096) (hj : j < 4096) (h : (r', j) ≠ (r, i)) :
    r'.ctorIdx * 4096 + j ≠ r.ctorIdx * 4096 + i := by
  intro e
  have h1 : r'.ctorIdx = r.ctorIdx := by omega
  have h2 : j = i := by omega
  exact h (by rw [Reg.ctorIdx_inj h1, h2])

@[simp] theorem State.reg_setReg_same (s : State) (r : Reg) (i : Nat) (w : Word) : (s.setReg r i w).reg r i = w := by
  simp [State.reg]

theorem State.reg_setReg_other (s : State) {r r' : Reg} {i j : Nat} (w : Word) (hi : i < 4096) (hj : j < 4096)
    (h : (r', j) ≠ (r, i)) : (s.setReg r i w).reg r' j = s.reg r' j := by
  simp [State.reg, Tab.getD_set_other _ _ _ _ _ (regKey_ne hi hj h)]

/-- A register depends on the register words only. -/
theorem State.reg_congr {s t : State} (h : t.regs = s.regs) (r : Reg) (i : Nat) : t.reg r i = s.reg r i := by
  simp [State.reg, h]

@[simp] theorem settle_reg (s : State) (r : Reg) (i : Nat) : (settle s).reg r i = s.reg r i :=
  State.reg_congr (settle_regs s) r i

@[simp] theorem settle_getF (s : State) (f : Fld) (i : Nat) : (settle s).getF f i = s.getF f i := by simp [State.getF]

@[simp] theorem settle_bit (s : State) (f : Fld) (i : Nat) : (settle s).bit f i = s.bit f i := by simp [State.bit]

end Sys2Proof.Machine
end

