-- ==== Sys2Proof/Machine/Wire.lean ====
section
/-!
DEFINITION. What packets and ordered sets are on the wire: the symbols of an H lane and the bits of an F/L pair (02 R26, R27, 09
R230, R231). The 8b/10b code of a symbol and the electrical levels are outside the model (log entry 136).
-/
namespace Sys2Proof.Machine

/-! ### The H lane (R26, R231) -/

/-- A symbol of an H lane: a data byte D x.y, a control symbol K x.y by the byte of its name, or what the receiver makes of a
code violation or disparity error (R26). -/
inductive Sym where
  | d (b : Byte)
  | k (b : Byte)
  | bad
  deriving DecidableEq, Repr

/-- The byte that a symbol name x.y stands for. -/
def symByte (x y : Nat) : Byte := BitVec.ofNat 8 (32 * y + x)

/-- COM, K28.5 (Table 2-3). -/
def symCom : Sym := .k (symByte 28 5)
/-- STP, K27.7: starts a token or handshake (Table 2-3). -/
def symStp : Sym := .k (symByte 27 7)
/-- SDP, K28.2: starts a data packet (Table 2-3). -/
def symSdp : Sym := .k (symByte 28 2)
/-- END, K29.7: ends a good packet (Table 2-3). -/
def symEnd : Sym := .k (symByte 29 7)
/-- EDB, K30.7: ends a packet that the sender has nullified (Table 2-3). -/
def symEdb : Sym := .k (symByte 30 7)
/-- SKP, K28.0 (Table 2-3). -/
def symSkp : Sym := .k (symByte 28 0)

/-- A packet is a data packet: its type is DATA0 or DATA1 (Table 2-4). -/
def isDataPkt (b : List Byte) : Bool :=
  let t := (b.getD 0 0).toNat % 16
  t == Pid.data0.code || t == Pid.data1.code

/-- A packet on an H lane (R26, Table 2-3). -/
def pktSyms (b : List Byte) : List Sym := (if isDataPkt b then symSdp else symStp) :: b.map Sym.d ++ [symEnd]

/-- What an idle lane sends: COM and D0.0, repeated (R26). -/
def idleSyms : List Sym := [symCom, .d 0]

/-- The symbols of one ordered set that carries some bytes (Table 2-3, Table 9-1). TS1 and TS2 carry FLAGS, CAP the word and its
CRC8, MARGIN_REQ and MARGIN_RPT all that follows K28.3. -/
def setSyms (name : String) (b : List Byte) : List Sym :=
  let three := fun x y : Nat => [symCom, .k (symByte x y), .k (symByte x y), .k (symByte x y)]
  let data := b.map Sym.d
  match name with
  | "SKP" => [symCom, symSkp, symSkp, symSkp]
  | "TS1" => symCom :: data ++ List.replicate 14 (.d (symByte 10 2))
  | "TS2" => symCom :: data ++ List.replicate 14 (.d (symByte 5 2))
  | "CAP" => symCom :: .k (symByte 28 6) :: data
  | "RESET" => three 28 1
  | "DROWSE" => three 23 7
  | "WAKE_REQ" => three 28 4
  | "MARGIN_REQ" | "MARGIN_RPT" => symCom :: .k (symByte 28 3) :: data
  | _ => idleSyms

/-- The data bytes of symbols, none where one of them is no data symbol. -/
def dataBytes : List Sym → Option (List Byte)
  | [] => some []
  | .d b :: l => (dataBytes l).map (b :: ·)
  | _ :: _ => none

/-- A packet as received from an H lane: a packet that ends in EDB, contains a code violation or has no end is not good (R26). -/
def pktOfSyms (l : List Sym) : LineRx :=
  match l with
  | [] => ⟨[], false⟩
  | start :: rest =>
    match dataBytes rest.dropLast with
    | some b => ⟨b, decide (rest.getLast? = some symEnd) && decide (start = if isDataPkt b then symSdp else symStp)⟩
    | none => ⟨[], false⟩

/-! ### The F/L pair (R27, R234, R236) -/

/-- The line states of a pair (R234). -/
inductive Line where
  | j | k | se0
  deriving DecidableEq, Repr

/-- The bits of bytes, least significant first (R27). -/
def bitsLsb (b : List Byte) : List Bool := b.flatMap fun x => (List.range 8).map fun i => x.getLsbD i

/-- Insert a 0 bit after every six consecutive 1 bits; `n` counts the ones before (R27). -/
def stuff : Nat → List Bool → List Bool
  | _, [] => []
  | n, true :: l => if n = 5 then true :: false :: stuff 0 l else true :: stuff (n + 1) l
  | _, false :: l => false :: stuff 0 l

/-- Take the inserted bits out again; none on a stuffing violation (R27). -/
def unstuff : Nat → List Bool → Option (List Bool)
  | 6, false :: l => unstuff 0 l
  | 6, _ => none
  | _, [] => some []
  | n, true :: l => (unstuff (n + 1) l).map (true :: ·)
  | _, false :: l => (unstuff 0 l).map (false :: ·)

/-- NRZI from a line state: a 0 changes the line, a 1 keeps it (R27; log entry 137). -/
def nrzi : Line → List Bool → List Line
  | _, [] => []
  | a, true :: l => a :: nrzi a l
  | a, false :: l =>
    let b := if a = .j then Line.k else Line.j
    b :: nrzi b l

/-- Bytes on a pair that rests in J: the sync byte 0x80, the bytes, and both lines low for two bit times before the pair is
released to J (R27, R234). -/
def pairLine (b : List Byte) : List Line := nrzi .j (stuff 0 (bitsLsb (0x80 :: b))) ++ [.se0, .se0, .j]

/-- The NRZI bits of line states after another; none where a line is SE0. -/
def unNrzi : Line → List Line → Option (List Bool)
  | _, [] => some []
  | _, .se0 :: _ => none
  | a, x :: l => (unNrzi x l).map (decide (x = a) :: ·)

/-- Whole bytes from bits, least significant first; none where bits are left over. -/
def bytesLsb : Nat → List Bool → Option (List Byte)
  | 0, l => if l.isEmpty then some [] else none
  | n + 1, l =>
    if l.isEmpty then some []
    else if l.length < 8 then none
    else
      let v := ((l.take 8).zipIdx.map fun x => if x.1 then 2 ^ x.2 else 0).sum
      (bytesLsb n (l.drop 8)).map (BitVec.ofNat 8 v :: ·)

/-- A packet as received from a pair: the sync byte, no stuffing violation, whole bytes, and the ending of R27. -/
def pairRx (l : List Line) : LineRx :=
  let body := l.take (l.length - 3)
  let ended := decide (l.drop (l.length - 3) = [.se0, .se0, .j])
  match (unNrzi .j body).bind (unstuff 0) |>.bind fun bits => bytesLsb bits.length bits with
  | some (s :: b) => ⟨b, ended && s == 0x80⟩
  | _ => ⟨[], false⟩

end Sys2Proof.Machine
end

