-- ==== Sys2Proof/Tests/Slice0.lean ====
section
/-!
SUPPORT. Small tests: each check of well-formedness refuses a command, single steps with what the spec says they do, and for every
statement the concrete states and operands that meet the hypotheses of its clauses.
-/
set_option Elab.async false

namespace Sys2Proof.Tests
open Sys2Proof Sys2Proof.Machine

/-- A chip in Run that is ready, every domain on; tenant 0 has one window over all of host memory, a command path with one command
posted and session 1 open. -/
def up : State :=
  let s := (State.reset.setF Fld.gblBootStatusStage 0 5).setF Fld.gblBootStatusReady 0 1
  let s := s.setF Fld.pwrVotersDomainsOn 0 0x7FF
  let s := ((s.setReg .gblWinAttr 0 7).setReg .gblWinLimitLo 0 0xFFFFFFFF).setReg .gblWinLimitHi 0 0xFFFFFFFF
  let s := s.setReg .tenCmdCtrl 0 0x4401
  let s := s.setReg .tenCmdStatus 0 0x00010004
  { s with cmds := [(0, { CmdPath.blank with prod := 1, ifVer := 0x0101 })] }

/-- A command packet of session 1 with the parameters inline. -/
def pkt (p : List Byte) : CmdPkt := ⟨0, 0, 1, 0, 7, 0, p, 0, none, none⟩

/-- `up` with register r of number i at w. -/
def upReg (r : Reg) (i : Nat) (w : Word) : State := up.setReg r i w

/-- A running queue pair of tenant 0 with rings of 16 entries. -/
def qp0 : Qp :=
  { Qp.blank with owner := some 0, state := .running, configured := true, sqSize := 16, cqSize := 16 }

/-- `up` with queue pair 1. -/
def upQp (v : Qp) : State := { up with qps := [(1, v)] }

/-- A bulk OUT entry of no bytes. -/
def entry0 : Entry := Entry.ofBytes (padTo 64 [2]) 0 .bulk 0

/-- A place on root port 0's H link, enumerated at address 5 for tenant 0. -/
def place0 : Place :=
  { Place.blank (rootRoute 0 .h) with addr := 5, present := true, connected := true, enabled := true, speed := 3, version := 0x32 }

/-- `up` with that place. -/
def upPlace (p : Place) : State := { up with places := [(p.route.toNat, p)] }

/-- `up` with link l. -/
def upLink (l : Nat) (k : Link) : State := { up with links := [(l, k)] }

/-- A configuration image that passes the header check: 148 bytes, generation 1. -/
def image1 : List Byte :=
  padTo 148 (leBytes 4 0x47435856 ++ [0, 1] ++ leBytes 2 1 ++ leBytes 4 1 ++ leBytes 4 148 ++ leBytes 4 0x4840)

/-- `up` with slots of configuration and firmware as given. -/
def upCfg (f : CfgSt → CfgSt) : State := { up with cfg := f up.cfg }

/-- Device 5 on root port 0, with a queue pair of the same tenant and quad. -/
def upTree : State := { up with places := [((rootRoute 0 .h).toNat, place0)], qps := [(1, { qp0 with state := .disabled })] }

/-- A periodic OUT contract of 64 bytes on endpoint 1 of device 5, one slot in 1,024 frames, placed by its phases, on queue pair 1. -/
def contract0 : List Byte :=
  leBytes 2 0x1005 ++ [0, 10] ++ leBytes 2 64 ++ [0, 0] ++ leBytes 2 0 ++ [0, 0] ++ leBytes 2 1


theorem insertBy_length {α : Type} (lt : α → α → Bool) (x : α) (l : List α) : (insertBy lt x l).length = l.length + 1 := by
  induction l with
  | nil => rfl
  | cons y ys ih => unfold insertBy; split <;> simp_all

theorem orderBy_length {α : Type} (lt : α → α → Bool) (l : List α) : (orderBy lt l).length = l.length := by
  have h : ∀ (l acc : List α), (l.foldl (fun acc x => insertBy lt x acc) acc).length = acc.length + l.length := by
    intro l
    induction l with
    | nil => simp
    | cons y ys ih => intro acc; simp [ih, insertBy_length]; omega
  simpa [orderBy] using h l []

theorem eraseDups_length {α : Type} [BEq α] : ∀ (n : Nat) (l : List α), l.length ≤ n → l.eraseDups.length ≤ l.length := by
  intro n
  induction n with
  | zero => intro l h; have : l = [] := List.length_eq_zero_iff.mp (Nat.le_zero.mp h); subst this; simp
  | succ n ih =>
    intro l h
    cases l with
    | nil => simp
    | cons y ys =>
      rw [List.eraseDups_cons]
      have h1 := List.length_filter_le (fun b => !b == y) ys
      have h2 := ih (ys.filter fun b => !b == y) (by simp at h; omega)
      simp; omega

theorem mem_eraseDups {α : Type} [BEq α] : ∀ (n : Nat) (l : List α) (x : α), l.length ≤ n → x ∈ l.eraseDups → x ∈ l := by
  intro n
  induction n with
  | zero => intro l x h; have : l = [] := List.length_eq_zero_iff.mp (Nat.le_zero.mp h); subst this; simp
  | succ n ih =>
    intro l x h
    cases l with
    | nil => simp
    | cons y ys =>
      rw [List.eraseDups_cons]
      intro hx
      rcases List.mem_cons.mp hx with e | hx
      · simp [e]
      · have h1 := List.length_filter_le (fun b => !b == y) ys
        have := ih _ x (by simp at h; omega) hx
        exact List.mem_cons_of_mem _ (List.mem_of_mem_filter this)

theorem sum_le_length : ∀ l : List Nat, (∀ x ∈ l, x ≤ 1) → l.sum ≤ l.length := by
  intro l
  induction l with
  | nil => simp
  | cons y ys ih =>
    intro h
    have h1 := h y (by simp)
    have h2 := ih fun x hx => h x (by simp [hx])
    simp; omega

/-- One slot in all does not fill a quad's slot array. -/
theorem almanacFull_of_one (cs : List Contract) (h : (cs.flatMap (·.slots)).length ≤ 1) : almanacFull cs = false := by
  unfold almanacFull
  rw [List.any_eq_false]
  intro q _
  have hq : ∀ r ∈ quadRuns cs q, r.length ≤ 1 := by
    intro r hr
    obtain ⟨k, _, rfl⟩ := List.mem_map.mp (mem_eraseDups _ _ r (Nat.le_refl _) hr)
    unfold quadBeat
    rw [orderBy_length]
    exact Nat.le_trans (List.length_filter_le _ _) h
  have h8 : (quadRuns cs q).length ≤ 8192 := by
    refine Nat.le_trans (eraseDups_length _ _ (Nat.le_refl _)) ?_
    simp
  have hs : ((quadRuns cs q).map List.length).sum ≤ 8192 := by
    refine Nat.le_trans (sum_le_length _ ?_) (by simpa using h8)
    intro x hx
    obtain ⟨r, hr, rfl⟩ := List.mem_map.mp hx
    exact hq r hr
  have hr : ((quadRuns cs q).any fun r => decide (4095 < r.length)) = false := by
    rw [List.any_eq_false]
    intro r hr
    have := hq r hr
    simp; omega
  simp only [hr, Bool.or_false, decide_eq_true_eq]
  omega

theorem worst_le (M : Nat) : ∀ (ts : List (Nat × Nat)) (m : Nat × Nat), m.1 ≤ M → (∀ t ∈ ts, t.1 ≤ M) →
    (ts.foldl (fun m t => if m.1 < t.1 then t else m) m).1 ≤ M := by
  intro ts
  induction ts with
  | nil => intro m h _; exact h
  | cons t ts ih =>
    intro m h ht
    rw [List.foldl_cons]
    refine ih _ ?_ fun x hx => ht x (by simp [hx])
    split
    · exact ht t (by simp)
    · exact h

theorem need_mono (x : Resource) (a b : Nat) (h : a ≤ b) : x.need a ≤ x.need b := by
  unfold Resource.need ceilDiv
  split <;> omega

theorem at_le (c : Contract) (x : Resource) (cell : Nat) : ∀ ls : List Load,
    Charged.at_ (c, ls) x cell ≤ (ls.map (·.amt)).sum := by
  intro ls
  induction ls with
  | nil => simp [Charged.at_]
  | cons l ls ih =>
    have h : ∀ v w : Nat, v ≤ w → v + ((ls.map fun l => if l.res = x && c.inCell ((cell + 8192 - l.off) % 8192) then l.amt
        else 0).sum) ≤ w + (ls.map (·.amt)).sum := by
      intro v w hv; exact Nat.add_le_add hv ih
    show (if l.res = x && c.inCell ((cell + 8192 - l.off) % 8192) then l.amt else 0) + _ ≤ _
    rw [List.map_cons, List.sum_cons]
    exact h _ _ (by split <;> simp)

/-- Admission of no contract where no device is attached to a pair or to a translator. -/
theorem admission_nil (s : State) (limit : Nat) (h : s.controlRoom = []) (hl : 250000 ≤ limit) :
    s.admission [] limit = .ok 250000 := by
  have h1 : s.charged [] = [] := rfl
  have h2 : resourcesOf [] = [] := rfl
  have h3 : s.needTerms [] = [] := by
    unfold State.needTerms
    rw [h, h2]
    simp
  unfold State.admission
  simp only [h1, h3, State.buffersFull, h2]
  simp [worstNeed]
  omega

/-- Admission of one contract that no resource needs more than the shortest beat for. -/
theorem admission_one (s : State) (c : Contract) (limit : Nat) (h : s.controlRoom = []) (hl : 250000 ≤ limit)
    (hb : ((s.loadsOf c).all fun l => (match l.res with | .buf _ => false | _ => true) &&
      decide (8 * l.res.need (((s.loadsOf c).map (·.amt)).sum) ≤ 250000)) = true) :
    s.admission [c] limit = .ok 250000 := by
  have hr : ∀ x ∈ resourcesOf (s.charged [c]), ∃ l ∈ s.loadsOf c, l.res = x := by
    intro x hx
    have := mem_eraseDups _ _ x (Nat.le_refl _) hx
    simpa [State.charged] using this
  have hf : s.buffersFull (s.charged [c]) = false := by
    unfold State.buffersFull
    rw [List.any_eq_false]
    intro x hx
    obtain ⟨l, hl, rfl⟩ := hr x hx
    have := List.all_eq_true.mp hb l hl
    split
    · next e => simp [e] at this
    · simp
  have hw : (worstNeed (s.needTerms (s.charged [c]))).1 ≤ 31250 := by
    unfold worstNeed
    refine worst_le _ _ _ (by simp) ?_
    intro t ht
    unfold State.needTerms at ht
    rw [h] at ht
    simp only [List.flatMap_nil, List.append_nil, List.mem_flatMap, List.mem_map] at ht
    obtain ⟨cell, _, x, hx, rfl⟩ := ht
    obtain ⟨l, hl, rfl⟩ := hr x hx
    have hq := List.all_eq_true.mp hb l hl
    simp only [Bool.and_eq_true, decide_eq_true_eq] at hq
    have := need_mono l.res _ _ (at_le c l.res cell (s.loadsOf c))
    have e : resAt (s.charged [c]) l.res cell = Charged.at_ (c, s.loadsOf c) l.res cell := by simp [resAt, State.charged]
    simp only [e]
    omega
  unfold State.admission
  simp only [hf]
  have : max 250000 (8 * (worstNeed (s.needTerms (s.charged [c]))).1) = 250000 := by omega
  simp only [this]
  simp
  omega

/-- A contract that is placed by its own phases, alone. -/
theorem placeOne_one (s : State) (c : Contract) (limit : Nat) (sl : List Slot) (h : s.admission [c] limit = .ok 250000)
    (hp : c.place = 0) (hs : s.slotsOf [] c (plannedBeat 250000) = some sl) :
    s.placeOne [] c limit false = .ok ({ c with slots := sl }, 250000) := by
  unfold State.placeOne
  simp only [hp, if_true]
  unfold State.tryAt
  simp only [List.nil_append, List.flatMap_nil]
  rw [h]
  simp only []
  rw [hs]
  simp
  exact hp

theorem freeContract_zero (s : State) (h : (s.allContracts.any fun c => c.id == 0) = false) : s.freeContract = some 0 := by
  unfold State.freeContract
  rw [List.range_eq_range']
  show (List.range' 0 (16383 + 1)).find? _ = _
  rw [List.range'_succ, List.find?_cons_of_pos]
  simpa using h

/-- What CON_OPEN and CON_REPLACE ask of the state in which their effect begins, where contract 0 is free and no other contract
stands; the checks that the kernel can evaluate. -/
def conAdmits (b : State) (p : List Byte) (closing : Option Nat) : Bool :=
  match Contract.parse p 0 0 with
  | none => false
  | some c0 =>
    let c : Contract := { c0 with id := 0 }
    match b.slotsOf [] c (plannedBeat 250000) with
    | none => false
    | some sl =>
      let c1 : Contract := { c with slots := sl }
      (b.allContracts.any fun c => c.id == 0) == false && (b.latestContracts.filter fun d => some d.id != closing) == [] &&
        b.conCheck [] closing c0 == none && decide (sl.length ≤ 1) && b.shareFits 0 c1.areaBytes &&
        ((b.acceptChange [c1] 250000).bind (if (b.qp c1.qp).contract.isNone then [c1] else [])).amendFits && b.controlRoom == [] && decide (250000 ≤ b.floorLimit) &&
        b.strictNext == false && decide (c.place = 0) && ((b.loadsOf c).all fun l =>
          (match l.res with | .buf _ => false | _ => true) &&
            decide (8 * l.res.need (((b.loadsOf c).map (·.amt)).sum) ≤ 250000))

/-- The hypotheses of the CON_OPEN and CON_REPLACE clauses beside acceptance. -/
def ConMeets (b : State) (p : List Byte) (closing : Option Nat) : Prop :=
  ∃ id c c1 floor,
    let keep := b.latestContracts.filter fun d => some d.id != closing
    b.freeContract = some id ∧ Contract.parse p 0 0 = some c ∧ b.conCheck keep closing c = none ∧
    b.placeOne keep { c with id := id } b.floorLimit b.strictNext = .ok (c1, floor) ∧ almanacFull (keep ++ [c1]) = false ∧
    b.shareFits 0 c1.areaBytes = true ∧ ((b.acceptChange (keep ++ [c1]) floor).bind (if (b.qp c1.qp).contract.isNone then [c1] else [])).amendFits = true

theorem conAdmits_spec (b : State) (p : List Byte) (closing : Option Nat) (h : conAdmits b p closing = true) :
    ConMeets b p closing := by
  unfold conAdmits at h
  split at h
  · cases h
  · next c hc =>
    dsimp only at h
    split at h
    · cases h
    · next sl hs =>
      simp only [Bool.and_eq_true, beq_iff_eq, decide_eq_true_eq] at h
      obtain ⟨⟨⟨⟨⟨⟨⟨⟨⟨⟨h1, h2⟩, h3⟩, h4⟩, h5⟩, h6⟩, h7⟩, h8⟩, h9⟩, h10⟩, h11⟩ := h
      refine ⟨0, c, { { c with id := 0 } with slots := sl }, 250000, freeContract_zero b h1, hc, ?_, ?_, ?_, h5, ?_⟩
      · rw [h2]; exact h3
      · rw [h2, h9]; exact placeOne_one b _ _ sl (admission_one b _ _ h7 h8 h11) h10 hs
      · rw [h2]; exact almanacFull_of_one _ (by simpa using h4)
      · rw [h2]; exact h6

/-- `upTree` with the largest share. -/
def upShare : State := upTree.setF Fld.tenCisShareUnits 0 2240

theorem conOpens : conAdmits (upShare.begun rowConOpen 0 (pkt contract0)) contract0 none = true := by decide +kernel

/-- `upShare` with contract 5 standing, of the same endpoint and queue pair. -/
def upCon : State :=
  let c : Contract := ((Contract.parse contract0 0 5).getD ⟨5, 0, false, false, 0, 0, 0, false, false, 0, 0, 0, 0, 0, 0, []⟩)
  { upShare with alm := { upShare.alm with contracts := [c] }, qps := [(1, { qp0 with state := .disabled, contract := some 5 })] }

theorem conReplaces : conAdmits (upCon.begun rowConReplace 0 (pkt (leBytes 8 5 ++ contract0))) contract0 (some 5) = true := by
  decide +kernel

theorem witness_conOpen : upShare.accepts rowConOpen 0 (pkt contract0) = true ∧ upShare.alm.pend = [] := by decide +kernel

theorem witness_conOpen_meets : ConMeets (upShare.begun rowConOpen 0 (pkt contract0)) contract0 none :=
  conAdmits_spec _ _ none conOpens

theorem witness_conReplace :
    let k := pkt (leBytes 8 5 ++ contract0)
    upCon.accepts rowConReplace 0 k = true ∧ upCon.alm.pend = [] ∧ (match (upCon.begun rowConReplace 0 k).namedContract 0 (fieldAt k.params 0 2) with
      | .ok c => c.id == 5
      | .error _ => false) = true := by decide +kernel

theorem witness_conReplace_meets : ConMeets (upCon.begun rowConReplace 0 (pkt (leBytes 8 5 ++ contract0))) contract0 (some 5) :=
  conAdmits_spec _ _ (some 5) conReplaces

theorem witness_conClose :
    let k := pkt (leBytes 2 5)
    upCon.accepts rowConClose 0 k = true ∧
    let b := upCon.begun rowConClose 0 k
    let keep := b.latestContracts.filter fun d => d.id != 5
    (match b.namedContract 0 (fieldAt k.params 0 2) with | .ok c => c.id == 5 | .error _ => false) = true ∧
    b.strictNext = false ∧ (b.acceptChange keep 250000).amendFits = true := by decide +kernel

theorem witness_conClose_meets (b : State) (hb : b = upCon.begun rowConClose 0 (pkt (leBytes 2 5))) :
    b.admission (b.latestContracts.filter fun d => d.id != 5) b.floorLimit = .ok 250000 := by
  have h : (b.latestContracts.filter fun d => d.id != 5) = [] := by rw [hb]; decide +kernel
  have h1 : b.controlRoom = [] := by rw [hb]; decide +kernel
  have h2 : 250000 ≤ b.floorLimit := by rw [hb]; decide +kernel
  rw [h]
  exact admission_nil _ _ h1 h2

/-- `up` with frame 10 running, root port 0 active on both links, version 3.2, and device 5 with endpoint 1 open in both
directions. -/
def run : State :=
  let s := (up.setF Fld.prtLaneStatusHState 0 3).setF Fld.prtLaneStatusPState 0 3
  { s with
    time := { s.time with frame := 10, start := 1000000, bus := 1000100, len := 500000, beat := 0, running := true }
    frames := [⟨10, []⟩, ⟨11, []⟩, ⟨12, []⟩]
    links := [(0, { Link.blank with ver := 0x32, marked := true }), (1, { Link.blank with marked := true })]
    places := [(place0.route.toNat, place0)]
    eps := [(epKey 5 1 false, { Ep.blank 5 1 false with isOpen := true, mps := 64, kind := .bulk }),
      (epKey 5 1 true, { Ep.blank 5 1 true with isOpen := true, mps := 64, kind := .bulk })] }

/-- A transaction of endpoint 1 of device 5 for entry 0 of queue pair 1. -/
def txn (k : TxKind) (p : TxPhase) : Txn := ⟨0, 0, 5, 1, k == .inTok, k, p, .entry 1 0, [], 0, 0, 0, false, 0, 0, true, false⟩

/-- An entry of 64 bytes on endpoint 1 of device 5. -/
def entry1 : Entry := { entry0 with addr := 5, ep := 1, len := 64, phase := .started, begun := true }

/-- `run` with that entry, changed, and a transaction for it. -/
def runTx (f : Entry → Entry) (x : List Txn) : State := { run with qps := [(1, { qp0 with entries := [f entry1] })], txns := x }

/-- A handshake packet of format E with tag 0. -/
def shake (p : Pid) : LineRx := ⟨handshakePkt true p 0, true⟩

/-- A slot of endpoint 1 of device 5 on root port 0's pair that has departed and waits for the end of a packet. -/
def heldSlot : FSlot := ⟨⟨1, 0, 0, 10, 0, 0x1005, 0, true, false, 0, 1, 64, 0, 4000⟩, none, true⟩

/-- `run` with device 5 on the pair, that slot waiting, and queue pair 1 with the entries given. -/
def heldRun (es : List Entry) (x : List Txn) : State :=
  let p : Place := { place0 with route := rootRoute 0 .p, speed := 2 }
  ({ run with
    frames := [⟨10, [heldSlot]⟩], places := [(p.route.toNat, p)]
    qps := [(1, { qp0 with entries := es })], txns := x } : State).modLink 1 fun k => { k with slotHeld := [0] }

/-- `run` with a control transfer of endpoint 0 of device 5 posted. -/
def controlRun : State :=
  { (run.modEp 5 0 false fun e => { e with isOpen := true, kind := .control, mps := 64 }) with
    qps := [(1, { qp0 with entries := [{ entry1 with
      ep := 0, kind := .control, phase := .queued, begun := false, setup := List.replicate 8 0, len := 0 }] })] }

/-- `run` with a bulk OUT transfer of endpoint 1 of device 5 whose data is in the Cistern. -/
def bulkRun : State := runTx (fun e => { e with phase := .queued, begun := false, data := List.replicate 64 1 }) []

/-- A word of the holding areas of queue pair q that the patrol found with an uncorrected error. -/
def badQp (q : Nat) : BadWord := ⟨0x2A1000, true, true, q⟩

/-- An issued host request of tenant 0. -/
def req0 (w : ReqWhat) : Req := ⟨7, 0, w, 0x1000, 64, 0, 0, none⟩

/-- `run` without posted commands, with queue pair 1 as given and requests issued. -/
def runQp (v : Qp) (rs : List Req) : State :=
  { run with qps := [(1, v)], cmds := [(0, { CmdPath.blank with ifVer := 0x0101 })], dma := { run.dma with reqs := rs } }

/-- A queue pair with its rings at 0x2000 and 0x3000 and the entries given. -/
def qpRings (es : List Entry) : Qp := { qp0 with sqBase := 0x2000, cqBase := 0x3000, headAddr := 0x4000, entries := es }

/-- A bulk OUT entry of 64 bytes for endpoint 1 of device 5, as in host memory. -/
def entryBytes : List Byte := padTo 64 ([2, 0] ++ leBytes 2 0x1005 ++ leBytes 4 64 ++ leBytes 8 0x1000)

/-- The place of `run` changed. -/
def runPlace (f : Place → Place) : State := run.alter place0.route f

/-- A hub with four ports. -/
def hub4 : HubInfo := ⟨4, true, false, 4, 1, 0, 0⟩

/-- `up` as a member of a pair with a role, its twin link up. -/
def twin (role : Nat) : State := (((up.setF Fld.twnStatusStrap 0 2).setF Fld.twnStatusRole 0 role).setF Fld.twnStatusLinkUp 0 1)

/-- A twin frame that opens or does not. -/
def frame0 : TwinRx := ⟨0, 1, 0, [], []⟩

/-- A greeting of a chip with the same strap. -/
def hello2 : TwinHello := ⟨2, 1, 1, 0, 0, [], [], [], none⟩

/-- The effect of the first acknowledgement and number of a frame, as in TwinEvents. -/
def tookOf (s : State) (f : TwinRx) : State :=
  let u := s.acked f.ack
  { u with twn := { u.twn with rxSeq := f.seq, rxKey := keyFor u.twn.pendingKey f.seq false u.twn.rxKey } }

/-- `up` with power state p and entry step e. -/
def upPower (p e : Nat) : State := (up.setF Fld.pwrStateState 0 p).setF Fld.pwrStateEntryStep 0 e

/-- `up` with the configuration commands' record as given. -/
def chipCmd (op : Nat) (f : Bool) : ChipCmd := ⟨0, op, pkt [], f, none⟩

/-- `upCon` with a change pending in which contract 5 still stands. -/
def upPend : State := { upCon with alm := { upCon.alm with pend := [⟨upCon.alm.contracts, 9, 250000⟩] } }

/-- While a change pends a CON_CLOSE would make another, so it waits, as ContractCommands says. -/
theorem witness_conClose_waits :
    let k := pkt (leBytes 2 5)
    upPend.alm.pend ≠ [] ∧
    upPend.alm.pend.length < (runCmd rowConClose 0 k (bodyConClose 0) upPend).alm.pend.length := by
  refine ⟨by decide, ?_⟩
  have ha : upPend.accepts rowConClose 0 (pkt (leBytes 2 5)) = true := by decide +kernel
  generalize hb : upPend.begun rowConClose 0 (pkt (leBytes 2 5)) = b
  have hk : (b.latestContracts.filter fun d => d.id != 5) = [] := by rw [← hb]; decide +kernel
  have h1 : b.controlRoom = [] := by rw [← hb]; decide +kernel
  have h2 : 250000 ≤ b.floorLimit := by rw [← hb]; decide +kernel
  have hn : (match b.namedContract 0 (fieldAt (pkt (leBytes 2 5)).params 0 2) with | .ok c => c.id == 5 | .error _ => false) =
      true := by rw [← hb]; decide +kernel
  have hs : b.strictNext = false := by rw [← hb]; decide +kernel
  have hf : (b.acceptChange [] 250000).amendFits = true := by rw [← hb]; decide +kernel
  have hp : upPend.alm.pend.length < (b.acceptChange [] 250000).alm.pend.length := by rw [← hb]; decide +kernel
  have hbody : bodyConClose 0 b (pkt (leBytes 2 5)).params =
      .ok (b.acceptChange [] 250000) (BitVec.ofNat 64 (b.nextSwitch.toNat * 65536)) := by
    unfold bodyConClose
    split at hn
    · next c hc =>
      have hid : c.id = 5 := by simpa using hn
      rw [hc]
      simp only [hid, hk, admission_nil b _ h1 h2, hs, Bool.false_and]
      rfl
    · cases hn
  rw [runCmd_amending (bodyConClose 0) ha rfl (by rw [hb, hbody]; rfl) (by rw [hb, hbody]; exact hf), State.conclude_alm, hb, hbody]
  have hno : ∀ u v : State, (u.noted v).alm = u.alm := by
    intro u v
    unfold State.noted
    split <;> rfl
  rw [hno]
  exact hp

/-- The word that a write of a register forms, as RegisterWriteByAccessCode describes it bit by bit. -/
theorem raw_exists (rw w1c w1s old v hw : Word) : ∃ raw : Word, ∀ b, raw.getLsbD b =
    if rw.getLsbD b then v.getLsbD b
    else if w1c.getLsbD b then old.getLsbD b && (!v.getLsbD b || hw.getLsbD b)
    else if w1s.getLsbD b then old.getLsbD b || v.getLsbD b
    else old.getLsbD b := by
  refine ⟨(rw &&& v) ||| (~~~rw &&& ((w1c &&& (old &&& (~~~v ||| hw))) ||| (~~~w1c &&& ((w1s &&& (old ||| v)) |||
    (~~~w1s &&& old))))), fun b => ?_⟩
  by_cases h : b < 32
  · simp only [BitVec.getLsbD_or, BitVec.getLsbD_and, BitVec.getLsbD_not, h, decide_true, Bool.true_and]
    cases rw.getLsbD b <;> cases w1c.getLsbD b <;> cases w1s.getLsbD b <;> simp
  · have h32 : 32 ≤ b := Nat.le_of_not_lt h
    have e : ∀ w : Word, w.getLsbD b = false := fun w => BitVec.getLsbD_of_ge w b h32
    simp [e]

theorem witness_EmptyQueueTicks : up.pending = [] ∧ BpAgrees (upQp qp0) :=
  ⟨rfl, fun e he => by cases he with | head => decide +kernel | tail _ h => cases h⟩

theorem witness_BackpressureAgreesAfterEveryStep_QueueIsLeftAlone :
    ∃ u, step { up with pending := [.echo 0 (pkt [])] } = .next u := ⟨_, rfl⟩

theorem witness_StepTakesTheFront : ({ up with pending := [.echo 0 (pkt [])] } : State).pending = .echo 0 (pkt []) :: [] := rfl

/-! ### Ill-formed commands -/

theorem test_access_of_no_bytes : (Instr.registerWrite 0 0 0 0 0).wf = false := by decide
theorem test_access_of_nine_bytes : (Instr.registerWrite 0 0 9 0 0).wf = false := by decide
theorem test_access_past_bar0 : (Instr.rcFieldRead 1 0x10000 4 0).wf = false := by decide
theorem test_access_across_the_end : (Instr.rcFieldRead 1 0xFFFE 4 0).wf = false := by decide
theorem test_low_half_misaligned : (Instr.pairLowHalfRead 0 0x12).wf = false := by decide
theorem test_high_half_misaligned : (Instr.pairHighHalfRead 0 0x16).wf = false := by decide
theorem test_pair64_misaligned : (Instr.pair64bitAccess 0 0x14 none).wf = false := by decide
theorem test_window_other_register : (Instr.windowWrite 0x10040 0).wf = false := by decide
theorem test_millrace_other_register : (Instr.millraceParameterWrite 0x11018 0).wf = false := by decide
theorem test_beat_zero : (Instr.beatStart 0).wf = false := by decide
theorem test_beat_eight : (Instr.beatStart 8).wf = false := by decide
theorem test_listed_opcode_as_unlisted : (Instr.unlistedOpcode 0 0x0E01 (pkt [])).wf = false := by decide

/-- A command that no rule gives an effect changes nothing (log entry 1). -/
theorem test_ill_formed_does_nothing : exec (.beatStart 8) up = .next (settle up) := by rfl

/-! ### Small steps, with what the spec's worked examples say -/

/-- The fields of a next state that a test looks at. -/
def after (o : Host.Outcome State Fault Refusal) (f : State → Bool) : Bool := match o with | .next s => f s | _ => false

/-- Chapter 19, worked example: a 16-bit store to QP_SQ_DB of Q2,050 by VF 2. -/
theorem test_narrow_store : after (exec (.registerWrite 2 0xC010 2 5 0)
    { up with pcie := { up.pcie with vfEnable := true, numVfs := 255 } })
      (fun s => s.reg .gblBusFault 2 == 0x00C01001) = true := by decide +kernel

/-- R5: a write of three bytes is narrow: discarded, with ACCESS. -/
theorem test_three_byte_store : after (exec (.registerWrite 0 0x14 3 5 0) up)
    (fun s => s.reg .gblBusFault 0 == 0x1401) = true := by decide +kernel

/-- Chapter 19, worked example: PRT_RIDE of P1 and T1's LED_LAST in the tenant summary. -/
theorem test_addresses : spotAt 0 0x21058 = .reg .prtRide 1 ∧ spotAt 0 0x18068 = .sum .ledLastLo 1 ∧
    spotAt 2 0xC010 = .reg .qpSqDb 2050 ∧ spotAt 2 0xC014 = .reg .qpCqDb 2050 := by decide +kernel

/-- Chapter 19, worked example: reading PRT_RIDE clears it. -/
theorem test_read_clears : after (exec (.rcFieldRead 0 0x21058 4 0) (upReg .prtRide 1 0x01020003))
    (fun s => s.reg .prtRide 1 == 0 && s.out.getLast? == some (.readData 0 0x21058 0x01020003)) = true := by decide +kernel

/-- Chapter 7, worked example: the program for module 37 and its reverse. -/
theorem test_elements :
    let b : List Byte := leBytes 8 0x240000240 ++ leBytes 8 0 ++ leBytes 2 16 ++ [0, 0] ++ leBytes 2 1 ++ leBytes 2 0 ++
      leBytes 2 480 ++ leBytes 2 100 ++ leBytes 2 1 ++ leBytes 2 0 ++ leBytes 4 1536
    let r : List Byte := leBytes 8 0x24002EA40 ++ leBytes 8 0 ++ leBytes 2 16 ++ [0, 0] ++ leBytes 2 1 ++ leBytes 2 0 ++
      leBytes 2 125 ++ leBytes 2 1 ++ leBytes 2 1 ++ leBytes 2 0 ++ leBytes 4 0xFFFFFA00
    (Prog.parse b).map (fun p => (p.elemAddr 125, p.elemAddr 480)) = some (0x24002F040, 0x240000240) ∧
    (Prog.parse r).map (fun p => (p.elemAddr 0, p.elemAddr 124)) = some (0x24002EA40, 0x240000240) := by decide +kernel

/-- Chapter 5, worked example: the frame and phase of pick 125's act, and its tick. -/
theorem test_act_of_pick_125 :
    let s : State := { up.setF Fld.mrcPhaseRevFrame 0 79 with
      time := { up.time with frame := 9999 }, mrc := { up.mrc with pars := up.mrc.pars.set 0 (80 * 256) } }
    let u : State := { up with time := { up.time with frame := 10065, start := 33854166, len := 520834 } }
    s.angleFrame 10000 13981013 false = (10066, 11184784) ∧ u.phaseTick 10066 11184784 = 34722221 := by decide +kernel

/-- Chapter 3, worked example (Table 3-5): a phase error of 0.30 reads 19,661. -/
theorem test_phase_error : phase16 (3 / 10) = 19661 := by decide +kernel

/-- R299: FW_ROLLBACK is held in probation as FW_ACTIVATE is. -/
theorem test_held_in_probation : heldInProbation 0x020A = true ∧ heldInProbation 0x0206 = false := by decide

/-- R26: an ACK is STP, its bytes and END on an H lane, and is good only with that END; with EDB it is not. -/
theorem test_wire_h :
    pktSyms [0xD2] = [.k 0xFB, .d 0xD2, .k 0xFD] ∧ pktOfSyms [.k 0xFB, .d 0xD2, .k 0xFD] = ⟨[0xD2], true⟩ ∧
    (pktOfSyms [.k 0xFB, .d 0xD2, symEdb]).lineOk = false := by decide +kernel

/-- R27: a 0 follows six ones in a row, the sync byte and least significant bit come first, and what a pair receives from this
is the packet. -/
theorem test_wire_pair :
    stuff 0 [true, true, true, true, true, true, true] = [true, true, true, true, true, true, false, true] ∧
    (pairLine [0xD2]).take 8 = [.k, .j, .k, .j, .k, .j, .k, .k] ∧ pairRx (pairLine [0xD2, 0xFF, 0x3F]) = ⟨[0xD2, 0xFF, 0x3F], true⟩ ∧
    (pairRx ((pairLine [0xD2]).dropLast ++ [.se0])).lineOk = false := by decide +kernel

/-- Table 2-3: an SKP set is COM and three SKP symbols. -/
theorem test_wire_sets : setSyms "SKP" [] = [.k 0xBC, .k 0x1C, .k 0x1C, .k 0x1C] := by decide +kernel

/-! ### States and operands that meet the hypotheses of the clauses of the statements -/

/-- Each clause of WellFormedCommandsRun has a state and operands that meet what it assumes, in the order of the clauses. -/
theorem witness_WellFormedCommandsRun :
    ((Instr.beatStart 8).wf = false ∧ (Instr.beatStart 7).wf = true) := by
  decide +kernel

/-- Each clause of RegisterWriteByAccessCode has a state and operands that meet what it assumes, in the order of the clauses. -/
theorem witness_RegisterWriteByAccessCode :
    (Reg.plainWrite .dmaFnErrInfo = true ∧ accessWf 0 0x438 4 = true ∧ up.reaches 0 0x438 .dmaFnErrInfo 0 true = true) ∧
    (Reg.plainWrite .dmaCfg = true ∧ accessWf 0 0x16000 4 = true ∧ up.reaches 0 0x16000 .dmaCfg 0 true = true ∧
      Reg.reservedMask .dmaCfg false false 0x300 ≠ 0) ∧
    (Reg.plainWrite .pwrAlarmLo = true ∧ up.reaches 0 0x12018 .pwrAlarmLo 0 true = true ∧ Reg.hiOf .pwrAlarmLo ≠ none) ∧
    (Reg.plainWrite .pwrAlarmHi = true ∧ up.reaches 0 0x1201C .pwrAlarmHi 0 true = true ∧
      Reg.loOf .pwrAlarmHi = some .pwrAlarmLo) ∧
    (let s := ({ up with pcie := { up.pcie with vfEnable := true, numVfs := 255 } } : State);
    s.reaches 255 0x208 .criEvtCtrl 255 true = true ∧ Reg.reservedMask .criEvtCtrl true false 8 ≠ 0) := by
  refine ⟨?_, ?_, ?_, ?_, ?_⟩ <;> decide +kernel

/-- Each clause of NarrowAccesses has a state and operands that meet what it assumes, in the order of the clauses. -/
theorem witness_NarrowAccesses :
    (accessWf 0 0x307FF 1 = true ∧ up.fnGate 0 = .serve ∧ up.gate 0 (0x307FF / 4 * 4) true ≠ .dark) ∧
    (accessWf 0 4 8 = true ∧ 4 % 8 ≠ 0 ∧ up.fnGate 0 = .serve ∧ up.gate 0 4 true ≠ .dark) := by
  refine ⟨?_, ?_⟩ <;> decide +kernel

/-- Each clause of ReadClears has a state and operands that meet what it assumes, in the order of the clauses. -/
theorem witness_ReadClears :
    (let s := upReg .secGlitch 0 0xFFFF;
    accessWf 0 0x14000 4 = true ∧ s.reaches 0 0x14000 .secGlitch 0 false = true ∧ Reg.hiOf .secGlitch = none ∧
      Reg.loOf .secGlitch = none ∧ Reg.secGlitch ≠ .tenQpCount) ∧
    (let s := (upQp qp0).setReg .tenQpSel 0 1;
    s.reaches 0 0x188 .tenQpCount 0 false = true ∧ Reg.hiOf .tenQpCount = none ∧ Reg.loOf .tenQpCount = none ∧
      s.shownQp 0 = some (1, qp0)) := by
  refine ⟨?_, ?_⟩ <;> decide +kernel

/-- Each clause of RegisterPairs has a state and operands that meet what it assumes, in the order of the clauses. -/
theorem witness_RegisterPairs :
    (accessWf 0 0x12018 4 = true ∧ Reg.hiOf .pwrAlarmLo = some .pwrAlarmHi ∧ up.reaches 0 0x12018 .pwrAlarmLo 0 false = true) ∧
    (let s : State := { up with holds := Tab.set up.holds (holdKey 0 .pwrAlarmLo 0) 9 };
    accessWf 0 0x1201C 4 = true ∧ s.reaches 0 0x1201C .pwrAlarmHi 0 false = true ∧
      Tab.find s.holds (holdKey 0 .pwrAlarmLo 0) = some 9) ∧
    (up.reaches 0 0x1201C .pwrAlarmHi 0 false = true ∧ Tab.find up.holds (holdKey 0 .pwrAlarmLo 0) = none) ∧
    (accessWf 0 0x12018 8 = true ∧ 0x12018 % 8 = 0 ∧ Reg.hiOf .pwrAlarmLo = some .pwrAlarmHi ∧
      up.reaches 0 0x12018 .pwrAlarmLo 0 false = true) ∧
    (accessWf 0 0 8 = true ∧ up.gate 0 0 true ≠ .unsupported) := by
  refine ⟨?_, ?_, ?_, ?_, ?_⟩ <;> decide +kernel

/-- Each clause of AccessesTurnedAway has a state and operands that meet what it assumes, in the order of the clauses. -/
theorem witness_AccessesTurnedAway :
    (accessWf 255 0 4 = true ∧ up.exists_ 255 = false) ∧
    (Tab.getD ({ up with pcie := { up.pcie with d3 := [(0, true)] } } : State).pcie.d3 0 false = true) ∧
    (let s := up.setF Fld.gblBootStatusStage 0 6;
    accessWf 0 4 4 = true ∧ s.exists_ 0 = true ∧ Tab.getD s.pcie.d3 0 false = false ∧ s.inHold = true) ∧
    (let s : State := { up.setF Fld.gblBootStatusStage 0 2 with rst := { up.rst with keepLink := true } };
    s.exists_ 0 = true ∧ Tab.getD s.pcie.d3 0 false = false ∧ s.inHold = false ∧ s.stage < 3 ∧ s.rst.keepLink = true) ∧
    (let s := up.setF Fld.gblBootStatusStage 0 0;
    s.exists_ 0 = true ∧ s.inHold = false ∧ s.stage < 3 ∧ s.rst.keepLink = false) ∧
    (let s := up.setF Fld.gblTenStateFlrBusy 0 1;
    s.exists_ 0 = true ∧ s.inHold = false ∧ 3 ≤ s.stage ∧ s.flrBusy 0 = true) ∧
    (let s := up.setF Fld.pwrVotersDomainsOn 0 3;
    s.exists_ 0 = true ∧ s.inHold = false ∧ 3 ≤ s.stage ∧ s.flrBusy 0 = false ∧ s.serving 0 0x13000 = some 4 ∧
      s.domainOn 4 = false) ∧
    (up.exists_ 0 = true ∧ up.inHold = false ∧ 3 ≤ up.stage ∧ up.flrBusy 0 = false ∧ up.serving 0 0x17000 = none) := by
  refine ⟨?_, ?_, ?_, ?_, ?_, ?_, ?_, ?_⟩ <;> decide +kernel

/-- Each clause of SubmissionDoorbell has a state and operands that meet what it assumes, in the order of the clauses. -/
theorem witness_SubmissionDoorbell :
    (let s := upQp { qp0 with owner := none };
    s.gate 0 (0x8000 + 8 * 1) true = .serve ∧ (s.qp 1).owner ≠ some 0) ∧
    (let s := upQp qp0;
    s.gate 0 (0x8000 + 8 * 1) true = .serve ∧ (s.qp 1).owner = some 0 ∧ (s.qp 1).state = .running ∧ 16 ≤ (s.qp 1).sqSize ∧
      (16 : Half) ≠ (s.qp 1).sqProd) ∧
    (let s : State := { up with qps := [(4095, { qp0 with state := .halted })] };
    s.gate 0 (0x8000 + 8 * 4095) true = .serve ∧ (s.qp 4095).owner = some 0 ∧ (s.qp 4095).state = .halted ∧
      (s.qp 4095).aborting = false ∧ (0 : Half) = (s.qp 4095).sqProd) ∧
    (let s := upQp qp0;
    ¬(17 ≤ (s.qp 1).sqSize) ∧ (s.qp 1).owner = some 0) ∧
    (let s := upQp { qp0 with sqProd := 1 };
    (s.qp 1).owner = some 0 ∧ ((s.qp 1).sqProd.toNat + 65536 - (s.qp 1).sqCons.toNat) % 65536 = 1) := by
  refine ⟨?_, ?_, ?_, ?_, ?_⟩ <;> decide +kernel

/-- Each clause of CompletionDoorbell has a state and operands that meet what it assumes, in the order of the clauses. -/
theorem witness_CompletionDoorbell :
    (let s := upQp { qp0 with owner := none };
    s.gate 0 (0x8004 + 8 * 1) true = .serve ∧ (s.qp 1).owner ≠ some 0) ∧
    (let s := upQp { qp0 with cqProd := 1, headIdx := 1 };
    s.gate 0 (0x8004 + 8 * 1) true = .serve ∧ (s.qp 1).owner = some 0 ∧ (s.qp 1).state = .running ∧ (s.qp 1).aborting = false ∧
      (s.qp 1).holding = [] ∧ (s.qp 1).headIdx = 1) ∧
    (let s := upQp { qp0 with state := .halted, holding := [(true, List.replicate 32 0)], cqProd := 16, headIdx := 16 };
    s.gate 0 (0x8004 + 8 * 1) true = .serve ∧ (s.qp 1).owner = some 0 ∧ (s.qp 1).holding ≠ []) ∧
    (let s := upQp { qp0 with state := .disabled };
    s.gate 0 (0x8004 + 8 * 1) true = .serve ∧ (s.qp 1).owner = some 0) ∧
    (let s := upQp qp0;
    ¬(1 ≤ ((s.qp 1).headIdx.toNat + 65536 - (s.qp 1).cqCons.toNat) % 65536) ∧ (s.qp 1).owner = some 0) := by
  refine ⟨?_, ?_, ?_, ?_, ?_⟩ <;> decide +kernel

/-- Each clause of CommandPath has a state and operands that meet what it assumes, in the order of the clauses. -/
theorem witness_CommandPath :
    (up.gate 0 0x120 true = .serve ∧ up.bit Fld.tenCmdCtrlEnable 0 = true ∧ 2 ^ up.getF Fld.tenCmdCtrlCmdSize 0 = 16 ∧
      (up.cmd 0).prod = 1 ∧ (up.cmd 0).cons = 0) ∧
    (let s := up.setF Fld.tenCmdCtrlEnable 0 0;
    s.gate 0 0x120 true = .serve ∧ s.bit Fld.tenCmdCtrlEnable 0 = false) ∧
    (let s := up.modCmd 0 fun c => { c with rplProd := 1, headIdx := 1 };
    s.gate 0 0x124 true = .serve ∧ s.bit Fld.tenCmdCtrlEnable 0 = true ∧
      ((s.cmd 0).headIdx.toNat + 65536 - (s.cmd 0).rplCons.toNat) % 65536 = 1) ∧
    (up.gate 0 0x118 true = .serve) := by
  refine ⟨?_, ?_, ?_, ?_⟩ <;> decide +kernel

/-- Each clause of DmaChannelControl has a state and operands that meet what it assumes, in the order of the clauses. -/
theorem witness_DmaChannelControl :
    (up.gate 0 0x404 true = .serve ∧ (up.chan (up.getF Fld.dmaSelChannel 0)).owner ≠ some 0) ∧
    (let s := (up.modChan 63 fun c => { c with owner := some 0, state := .running }).setF Fld.dmaSelChannel 0 63;
    s.gate 0 0x404 true = .serve ∧ (s.chan (s.getF Fld.dmaSelChannel 0)).owner = some 0 ∧ (s.chan 63).state ≠ .halted ∧
      s.slotBusy 63 0 = false ∧ (s.reg64 .dmaPrgLoadLo .dmaPrgLoadHi 0).toNat % 64 = 0) ∧
    (let s := ((up.modChan 63 fun c => { c with owner := some 0, state := .halted }).setF Fld.dmaSelChannel 0 63).setReg .dmaPrgLoadLo 0 63;
    s.gate 0 0x404 true = .serve ∧ (s.chan (s.getF Fld.dmaSelChannel 0)).owner = some 0 ∧ (s.chan 63).state = .halted ∧
      s.slotBusy 63 0 = false ∧ (s.reg64 .dmaPrgLoadLo .dmaPrgLoadHi 0).toNat % 64 = 63) ∧
    (let s := ((upQp { qp0 with entries := [{ entry0 with prog := true, chan := 63, slot := 0, elems := 1 }] }).modChan 63 fun c => { c with owner := some 0 }).setF Fld.dmaSelChannel 0 63;
    s.gate 0 0x404 true = .serve ∧ (s.chan (s.getF Fld.dmaSelChannel 0)).owner = some 0 ∧ s.slotBusy 63 0 = true) := by
  refine ⟨?_, ?_, ?_, ?_⟩ <;> decide +kernel

/-- Each clause of FrameStart has a state and operands that meet what it assumes, in the order of the clauses. -/
theorem witness_FrameStart :
    (run.time.running = true ∧ 4 ≤ run.stage ∧ run.inHold = false ∧ run.time.len ≠ 0 ∧ run.dma.bad = []) := by
  decide +kernel

/-- Each clause of BeatsAndMarks has a state and operands that meet what it assumes, in the order of the clauses. -/
theorem witness_BeatsAndMarks :
    (run.time.running = true ∧ run.time.beat + 1 = 1) ∧
    (let s : State := { run with time := { run.time with beat := 6 } };
    s.time.running = true ∧ s.time.beat + 1 = 7) ∧
    (¬(run.time.running = true ∧ run.time.beat + 1 = 2)) ∧
    (let s := run.modLink 31 fun k => { k with sofHeld := true };
    (s.link (2 * 15 + 1)).sofHeld = true) ∧
    (run.getF Fld.prtLaneStatusHState 0 = 3 ∧ (run.link (laneLink 0)).parked = false ∧
      run.bit Fld.prtLaneStatusHTxDrowse 0 = false ∧ run.skpTick (laneLink 0) < run.nextMark.toNat) ∧
    (let s := run.setF Fld.prtLaneStatusHState 19 3;
    s.getF Fld.prtLaneStatusHState 19 = 3 ∧ (s.link (laneLink 19)).parked = false ∧
      s.bit Fld.prtLaneStatusHTxDrowse 19 = false ∧ up.time.running = false) ∧
    (let s := run.modLink (laneLink 0) fun k => { k with skp := 1061320 };
    s.time.running = true ∧ s.skpTick (laneLink 0) = s.nextMark.toNat ∧ s.getF Fld.prtLaneStatusHState 0 = 3 ∧
      (s.link (laneLink 0)).parked = false ∧ s.bit Fld.prtLaneStatusHTxDrowse 0 = false) := by
  refine ⟨?_, ?_, ?_, ?_, ?_, ?_, ?_⟩ <;> decide +kernel

/-- Each clause of SlotStart has a state and operands that meet what it assumes, in the order of the clauses. -/
theorem witness_SlotStart :
    (let x : FSlot := ⟨⟨1, 0, 0, 10, 0, 0x1005, 0, true, false, 0, 1, 64, 0, 4000⟩, none, false⟩;
    let s : State := { run with frames := [⟨10, [x]⟩] };
    (s.frames.headD ⟨0, []⟩).slots[0]? = some x ∧ x.gone = false ∧ x.slot.beat = s.time.beat ∧ s.time.running = true ∧
      s.role ≠ 3 ∧ x.slot.pair = true) ∧
    (let x : FSlot := ⟨⟨1, 0, 0, 10, 0, 0x1005, 0, false, false, 0, 1, 64, 0, 4000⟩, none, false⟩;
    let s : State := { run with frames := [⟨10, [x]⟩] };
    (s.frames.headD ⟨0, []⟩).slots[0]? = some x ∧ x.gone = false ∧ x.slot.beat = s.time.beat ∧ s.role ≠ 3 ∧
      x.slot.pair = false ∧ s.linkUp (2 * x.slot.port + (if x.slot.pair then 1 else 0)) = true) ∧
    (let x : FSlot := ⟨⟨1, 0, 0, 10, 3, 0x1005, 15, false, false, 0, 1, 64, 0, 4000⟩, some (1, 0), false⟩;
    let s : State := { run with frames := [⟨10, [x]⟩] };
    (s.frames.headD ⟨0, []⟩).slots[0]? = some x ∧ x.slot.beat = s.time.beat ∧
      s.linkUp (2 * x.slot.port + (if x.slot.pair then 1 else 0)) = false ∧ x.strike = some (1, 0)) ∧
    (let x := heldSlot;
    let s := heldRun [] [{ txn .outTok .direct with link := 1 }];
    (s.frames.headD ⟨0, []⟩).slots[0]? = some x ∧
      (s.link (2 * x.slot.port + (if x.slot.pair then 1 else 0))).slotHeld.contains 0 = true ∧
      s.linkUp (2 * x.slot.port + (if x.slot.pair then 1 else 0)) = true ∧
      s.freeTag (2 * x.slot.port + (if x.slot.pair then 1 else 0)) = none ∧ x.gone = true ∧
      (run.link 1).slotHeld.contains 0 = false) ∧
    (let x := heldSlot;
    let s := heldRun [{ entry1 with kind := .periodic, phase := .queued, begun := false, data := List.replicate 64 1 }] [];
    let l := 2 * x.slot.port + (if x.slot.pair then 1 else 0);
    let due := (s.modLink l fun k => { k with arriving := false }).modLink l fun k => { k with slotHeld := k.slotHeld.filter (· != 0) };
    (s.link l).slotHeld.contains 0 = true ∧ s.freeTag l ≠ none ∧
      due.out.length < (due.serveSlot x (max s.now.toNat (Tab.getD s.alm.starts (quadOf x.slot.port) 0))).out.length) ∧
    (let x := heldSlot;
    let s := heldRun [] [];
    let l := 2 * x.slot.port + (if x.slot.pair then 1 else 0);
    let due := (s.modLink l fun k => { k with arriving := false }).modLink l fun k => { k with slotHeld := k.slotHeld.filter (· != 0) };
    (s.link l).slotHeld.contains 0 = true ∧ s.freeTag l ≠ none ∧
      (due.serveSlot x (max s.now.toNat (Tab.getD s.alm.starts (quadOf x.slot.port) 0))).out.length ≤ due.out.length) := by
  refine ⟨?_, ?_, ?_, ?_, ?_, ?_⟩ <;> decide +kernel

/-- Each clause of TransactionAnswers has a state and operands that meet what it assumes, in the order of the clauses. -/
theorem witness_TransactionAnswers :
    (let x := txn .inTok .direct;
    let s := runTx (fun e => { e with dirIn := true }) [x];
    s.linkUp (linkOf 0 .h) = true ∧ receive (s.fmtE (linkOf 0 .h)) (shake .nak) = .shake .nak 0 ∧
      s.answered (linkOf 0 .h) 0 = some x ∧ x.kind = .inTok ∧ x.phase = .direct) ∧
    (let x := txn .outTok .direct;
    let s := runTx id [x];
    s.linkUp (linkOf 0 .h) = true ∧ receive (s.fmtE (linkOf 0 .h)) (shake .ack) = .shake .ack 0 ∧
      s.answered (linkOf 0 .h) 0 = some x ∧ x.kind = .outTok ∧ x.phase = .direct) ∧
    (let x := txn .outTok .complete;
    let s := runTx id [x];
    s.linkUp (linkOf 0 .h) = true ∧ receive (s.fmtE (linkOf 0 .h)) (shake .nyet) = .shake .nyet 0 ∧
      s.answered (linkOf 0 .h) 0 = some x ∧ x.kind ≠ .retract ∧ x.phase ≠ .direct) ∧
    (let x := txn .disarm .direct;
    let s := runTx id [x];
    s.linkUp (linkOf 0 .h) = true ∧ receive (s.fmtE (linkOf 0 .h)) (shake .ack) = .shake .ack 0 ∧
      s.answered (linkOf 0 .h) 0 = some x ∧ x.kind = .disarm ∧ x.phase ≠ .start) ∧
    (let x := txn .disarm .direct;
    let s := runTx id [x];
    s.linkUp (linkOf 0 .h) = true ∧ receive (s.fmtE (linkOf 0 .h)) (shake .stall) = .shake .stall 0 ∧
      s.answered (linkOf 0 .h) 0 = some x ∧ Pid.stall ≠ .ack ∧ Pid.stall ≠ .nyet) ∧
    (let x := txn .retract .start;
    let s := runTx id [x];
    s.linkUp (linkOf 0 .h) = true ∧ receive (s.fmtE (linkOf 0 .h)) (shake .nyet) = .shake .nyet 0 ∧
      receive (s.fmtE (linkOf 0 .h)) (shake .ack) = .shake .ack 0 ∧
      receive (s.fmtE (linkOf 0 .h)) (shake .nak) = .shake .nak 0 ∧ s.answered (linkOf 0 .h) 0 = some x ∧ x.kind = .retract) ∧
    (let x := txn .inTok .direct;
    let s := runTx (fun e => { e with dirIn := true }) [x];
    let rx : LineRx := ⟨dataPkt true false 0 (List.replicate 64 7), true⟩;
    receive (s.fmtE (linkOf 0 .h)) rx = .data false 0 (List.replicate 64 7) ∧ s.answered (linkOf 0 .h) 0 = some x ∧
      s.inLimit x = 64 ∧ false = (s.tep (linkOf 0 .h) x.addr x.ep x.dirIn).toggle ∧ x.link = linkOf 0 .h ∧
      x.work = .entry 1 0 ∧ ((s.qp 1).entry 0).isSome = true ∧ (((s.qp 1).entry 0).map (·.phase)) = some .started) ∧
    (let x := txn .inTok .direct;
    let s := runTx (fun e => { e with dirIn := true }) [x];
    let rx : LineRx := ⟨dataPkt true true 0 [7], true⟩;
    receive (s.fmtE (linkOf 0 .h)) rx = .data true 0 [7] ∧ s.answered (linkOf 0 .h) 0 = some x ∧
      true ≠ (s.tep (linkOf 0 .h) x.addr x.ep x.dirIn).toggle ∧ x.link = linkOf 0 .h) ∧
    (let x := txn .inTok .direct;
    let s := runTx (fun e => { e with dirIn := true, len := 0 }) [x];
    let rx : LineRx := ⟨dataPkt true false 0 [7], true⟩;
    receive (s.fmtE (linkOf 0 .h)) rx = .data false 0 [7] ∧ s.answered (linkOf 0 .h) 0 = some x ∧ s.inLimit x = 0) ∧
    (let x := txn .inTok .direct;
    let s := runTx (fun e => { e with dirIn := true }) [x];
    let rx : LineRx := ⟨dataPkt true false 0 [7] ++ [1], true⟩;
    receive (s.fmtE (linkOf 0 .h)) rx = .dataBad 0 ∧ s.answered (linkOf 0 .h) 0 = some x) ∧
    (let x := txn .outTok .direct;
    let s := runTx id [x];
    (match receive (s.fmtE (linkOf 0 .h)) ⟨withCrc8 [Pid.inTok.byte, 0, 0, 0], true⟩ with | .other _ t => t == 0 | _ => false) = true ∧
      s.answered (linkOf 0 .h) 0 = some x ∧ x.kind = .outTok) ∧
    (let x := txn .inTok .direct;
    let s := runTx (fun e => { e with dirIn := true }) [x];
    (match receive (s.fmtE (linkOf 0 .h)) ⟨withCrc8 [Pid.inTok.byte, 0, 0, 0], true⟩ with | .other _ t => t == 0 | _ => false) = true ∧
      s.answered (linkOf 0 .h) 0 = some x ∧ x.kind = .inTok) := by
  refine ⟨?_, ?_, ?_, ?_, ?_, ?_, ?_, ?_, ?_, ?_, ?_, ?_⟩ <;> decide +kernel

/-- Each clause of TimeoutsAndErrors has a state and operands that meet what it assumes, in the order of the clauses. -/
theorem witness_TimeoutsAndErrors :
    (let x := { txn .outTok .direct with tag := 7 };
    let s := runTx id [x];
    ((s.outstanding (linkOf 0 .h)).find? fun x => x.tag == 7 && !x.unsent) = some x) ∧
    (let s := run.modEp 4095 15 true fun e => { e with waiting := true };
    (s.ep 4095 15 true).waiting = true) ∧
    (let x := txn .outTok .direct;
    let s := (runTx id [x]).modEp 5 1 false fun e => { e with errs := 2 };
    x.work = .entry 1 0 ∧ (s.ep (txAddr x.link x.addr) x.ep x.dirIn).errs = 2) := by
  refine ⟨?_, ?_, ?_⟩ <;> decide +kernel

/-- Each clause of UnreservedStarts has a state and operands that meet what it assumes, in the order of the clauses. -/
theorem witness_UnreservedStarts :
    (let x := { txn .outTok .wait with outstanding := false };
    let s := runTx id [x];
    let y := { x with phase := .complete };
    let t := s.startTick x.link y.inward;
    (s.txns.find? fun x => x.addr == 5 && x.ep == 1 && x.dirIn == false && s.stepDue x && !x.slotted) = some x ∧
      (s.linkFree x.link && s.stepAllowed x t && !s.withdrawWaits x.link (s.txTenant x) && s.fits x.link (s.txTenant x) t (s.txCharge y (s.txMps x.link 5 1 false))) = true) ∧
    (let x := { txn .outTok .wait with outstanding := false };
    let s := (runTx id [x]).setF Fld.prtLaneStatusHState 0 0;
    s.time.running = true ∧
      (s.txns.find? fun x => x.addr == 5 && x.ep == 1 && x.dirIn == false && s.stepDue x && !x.slotted) = some x ∧
      s.linkFree x.link = false) ∧
    (let e := { entry1 with kind := .strike, strike := .withdrawing, commitAt := 2000000 };
    let s := runTx (fun _ => e) [];
    let t := s.startTick 0 false;
    s.time.running = true ∧ (s.qp 1).entry 0 = some e ∧ (s.strikePlace e).isSome = true ∧ s.withdrawDue 1 e t = true ∧
      (match s.strikePlace e with | some p => routeLink p.route == 0 && s.fits 0 0 t (s.withdrawCharge p) | none => false) = true) ∧
    (let e := { entry1 with kind := .strike, strike := .withdrawing, commitAt := 1000000 };
    let s := runTx (fun _ => e) [];
    (s.qp 1).entry 0 = some e ∧ s.withdrawDue 1 e (s.startTick 0 false) = false) ∧
    (run.keeperNext (linkOf 0 .h) = none) ∧
    (let s := run.alter place0.route fun p => { p with step := .desc8 0 };
    (s.keeperNext (linkOf 0 .h)).isSome = true ∧ s.order3 (linkOf 0 .h) 0 = false) ∧
    (let x := { txn .outTok .wait with outstanding := false };
    let s := (runTx id [x]).alter place0.route fun p => { p with step := .desc8 0 };
    s.order3 (linkOf 0 .h) 0 = true) ∧
    (nextFrom (Tab.getD run.alm.ctlTurn 0 0) (run.qpOwners.filter fun t => (run.controlHead 0 t).isSome) = none) ∧
    (let s := controlRun;
    nextFrom (Tab.getD s.alm.ctlTurn 0 0) (s.qpOwners.filter fun t => (s.controlHead 0 t).isSome) = some 0 ∧
      (s.portReady 0 0 true).length = 1 ∧ (((s.portReady 0 0 true).head?.bind fun a => s.tryStart 0 a.2).isSome = true)) := by
  refine ⟨?_, ?_, ?_, ?_, ?_, ?_, ?_, ?_, ?_⟩ <;> decide +kernel

/-- Each clause of WeirBulk has a state and operands that meet what it assumes, in the order of the clauses. -/
theorem witness_WeirBulk :
    (let s := run;
    ((s.qpOwners.filter fun t => !(s.portReady 15 t false).isEmpty).filter fun t => (s.weirHead 15 t).isSome) = []) ∧
    (controlRun.strict = false ∧ (controlRun.qpOwners.any fun t => (controlRun.controlHead 0 t).isSome) = true) ∧
    (let s := (bulkRun.setF Fld.gblWeirCtrlMode 0 1).setF Fld.tenWeirQuotaQuantum 0 4096;
    ((s.qpOwners.filter fun t => !(s.portReady 0 t false).isEmpty).filter fun t => (s.weirHead 0 t).isSome) = [0] ∧
      s.strict = true ∧ (((s.weirHead 0 0).bind fun x => s.tryStart 0 x).isSome = true)) ∧
    (let s := bulkRun;
    ((s.qpOwners.filter fun t => !(s.portReady 0 t false).isEmpty).filter fun t => (s.weirHead 0 t).isSome) = [0] ∧
      s.strict = false) ∧
    (let s := run;
    Tab.getD s.alm.visited (defKey 15 255) false = false ∧ s.portReady 15 255 false = []) ∧
    (let s : State := { run with alm := { run.alm with visited := [(defKey 15 255, true)] } };
    Tab.getD s.alm.visited (defKey 15 255) false = true) := by
  refine ⟨?_, ?_, ?_, ?_, ?_, ?_⟩ <;> decide +kernel

/-- Each clause of SessionCommands has a state and operands that meet what it assumes, in the order of the clauses. -/
theorem witness_SessionCommands :
    (up.accepts rowSessionOpen 0 (pkt [0, 1, 1, 1]) = true ∧
      max (fieldAt (pkt [0, 1, 1, 1]).params 0 2) 0x0100 ≤ min (fieldAt (pkt [0, 1, 1, 1]).params 2 2) 0x0101) ∧
    (up.accepts rowSessionClose 0 (pkt []) = true) ∧
    (up.accepts rowGetInterface 0 (pkt []) = true) ∧
    (up.accepts rowSoftReset 0 (pkt (leBytes 4 0x52534554)) = true ∧
      fieldAt (pkt (leBytes 4 0x52534554)).params 0 4 = 0x52534554) := by
  refine ⟨?_, ?_, ?_, ?_⟩ <;> decide +kernel

/-- Each clause of LedgerAndDiagnostics has a state and operands that meet what it assumes, in the order of the clauses. -/
theorem witness_LedgerAndDiagnostics :
    (up.accepts rowLedRead 0 (pkt (leBytes 8 0 ++ leBytes 2 1)) = true ∧
      fieldAt (pkt (leBytes 8 0 ++ leBytes 2 1)).params 8 2 = 1) ∧
    (up.accepts rowLedRead 0 (pkt (leBytes 8 0 ++ leBytes 2 512)) = true ∧
      fieldAt (pkt (leBytes 8 0 ++ leBytes 2 512)).params 8 2 = 512) ∧
    (up.accepts rowLedMark 0 (pkt (leBytes 8 9)) = true) ∧
    (up.accepts rowEcho 0 (pkt (leBytes 8 9)) = true) ∧
    (up.accepts rowChipEventsRead 0 (pkt (leBytes 2 1)) = true) ∧
    (up.accepts rowAlmanacDump 0 (pkt [3, 0]) = true ∧ fieldAt (pkt [3, 0]).params 0 1 = 3 ∧
      fieldAt (pkt [3, 0]).params 1 1 = 0) ∧
    (let s : State := { up with alm := { up.alm with pend := [⟨[], 9, 250000⟩] } };
    s.accepts rowAlmanacDump 0 (pkt [0, 1]) = true ∧ fieldAt (pkt [0, 1]).params 1 1 = 1 ∧
      (s.begun rowAlmanacDump 0 (pkt [0, 1])).alm.pend = [⟨[], 9, 250000⟩]) := by
  refine ⟨?_, ?_, ?_, ?_, ?_, ?_, ?_⟩ <;> decide +kernel

/-- Each clause of UnlistedAndEvents has a state and operands that meet what it assumes, in the order of the clauses. -/
theorem witness_UnlistedAndEvents :
    (listedOpcode 0x0F01 = false ∧ up.takes { op := 0x0F01, jrn := false } 0 = true ∧
      up.windowOk 0 (up.cmdSlot 0) 64 false = true ∧ (up.taken 0).earlyCheck { op := 0x0F01, jrn := false } 0 (pkt []) = none) ∧
    (let g := [eventRecord 0 0 1 5 0 0 0];
    let s := up.modCmd 0 fun c => { c with held := [g] };
    (s.cmd 0).dropped = 0 ∧ (s.cmd 0).held = [g] ∧ s.eventFits 0 g = true) ∧
    (let s := up.modCmd 0 fun c => { c with dropped := 3 };
    (s.cmd 0).dropped ≠ 0 ∧ s.eventFits 0 [eventRecord 0 0 1 5 (s.cmd 0).dropped 0 0] = true) := by
  refine ⟨?_, ?_, ?_⟩ <;> decide +kernel

/-- Each clause of QueuePairCommands has a state and operands that meet what it assumes, in the order of the clauses. -/
theorem witness_QueuePairCommands :
    (let k := pkt (leBytes 2 1 ++ leBytes 1 63 ++ [0] ++ leBytes 2 16 ++ leBytes 2 32768 ++ leBytes 8 0x10000 ++ leBytes 8 0x200000 ++ leBytes 8 0x20000);
    let s := upQp { qp0 with state := .disabled };
    let b := s.begun rowQpConfigure 0 k;
    s.accepts rowQpConfigure 0 k = true ∧ fieldAt k.params 0 2 < 4096 ∧ b.ownsQp 0 1 = true ∧ (b.qp 1).state = .disabled ∧
      powerOfTwoIn (fieldAt k.params 4 2) 16 32768 = true ∧ powerOfTwoIn (fieldAt k.params 6 2) 16 32768 = true ∧
      ringAligned (BitVec.ofNat 64 (fieldAt k.params 8 8)) (fieldAt k.params 4 2 * 64) = true ∧
      ringAligned (BitVec.ofNat 64 (fieldAt k.params 16 8)) (fieldAt k.params 6 2 * 32) = true ∧
      fieldAt k.params 24 8 % 4 = 0 ∧
      inRing (BitVec.ofNat 64 (fieldAt k.params 24 8)) (BitVec.ofNat 64 (fieldAt k.params 8 8)) (fieldAt k.params 4 2 * 64) = false ∧
      inRing (BitVec.ofNat 64 (fieldAt k.params 24 8)) (BitVec.ofNat 64 (fieldAt k.params 16 8)) (fieldAt k.params 6 2 * 32) = false ∧
      fieldAt k.params 2 1 = 63) ∧
    (let k := pkt (leBytes 2 1);
    let s := (upQp { qp0 with state := .disabled }).setF Fld.tenCisShareUnits 0 1;
    let b := s.begun rowQpEnable 0 k;
    s.accepts rowQpEnable 0 k = true ∧ b.ownsQp 0 1 = true ∧ (b.qp 1).state = .disabled ∧ (b.qp 1).configured = true ∧
      b.shareFits 0 2048 = true) ∧
    (let k := pkt (leBytes 2 1);
    let s := upQp qp0;
    let b := s.begun rowQpDisable 0 k;
    s.accepts rowQpDisable 0 k = true ∧ fieldAt k.params 0 2 = 1 ∧ b.ownsQp 0 1 = true ∧ (b.qp 1).state = .running) ∧
    (let k := pkt (leBytes 2 1);
    let s := upQp { qp0 with state := .halted };
    let b := s.begun rowQpDisable 0 k;
    s.accepts rowQpDisable 0 k = true ∧ b.ownsQp 0 1 = true ∧ (b.qp 1).state = .halted ∧ (b.qp 1).aborting = false) ∧
    (let k := pkt (leBytes 2 1);
    let s := upQp { qp0 with state := .faulted };
    let b := s.begun rowQpDisable 0 k;
    s.accepts rowQpDisable 0 k = true ∧ b.ownsQp 0 1 = true ∧ (b.qp 1).state = .faulted) ∧
    (let k := pkt (leBytes 2 4095);
    let s : State := { up with qps := [(4095, qp0)] };
    let b := s.begun rowQpQuery 0 k;
    s.accepts rowQpQuery 0 k = true ∧ fieldAt k.params 0 2 = 4095 ∧ b.ownsQp 0 4095 = true) := by
  refine ⟨?_, ?_, ?_, ?_, ?_, ?_⟩ <;> decide +kernel

/-- Each clause of GrantCommands has a state and operands that meet what it assumes, in the order of the clauses. -/
theorem witness_GrantCommands :
    (let k := pkt (leBytes 2 4095 ++ leBytes 2 1 ++ [0, 3]);
    let b := up.begun rowQpAssign 0 k;
    let u := [4095].foldl (fun s q => s.setQp q { Qp.blank with owner := some 0, homeQuad := 3, epoch := (s.qp q).epoch }) b;
    up.accepts rowQpAssign 0 k = true ∧ fieldAt k.params 0 2 + fieldAt k.params 2 2 = 4096 ∧ fieldAt k.params 5 1 = 3 ∧
      ([4095].any fun q => (b.qp q).owner.isSome) = false ∧ u.amendFits = true) ∧
    (let k := pkt (leBytes 2 1 ++ leBytes 2 1);
    let s := upQp { qp0 with state := .disabled };
    let b := s.begun rowQpUnassign 0 k;
    let u := [1].foldl (fun s q => s.setQp q { Qp.blank with epoch := (s.qp q).epoch }) b;
    s.accepts rowQpUnassign 0 k = true ∧ fieldAt k.params 0 2 = 1 ∧ fieldAt k.params 2 2 = 1 ∧ (b.qp 1).owner ≠ none ∧
      (∀ x ∈ [1], (b.qp x).owner = (b.qp 1).owner ∧ (b.qp x).state = .disabled ∧ (b.qp x).contract = none) ∧
      u.amendFits = true) ∧
    (let k := pkt ([0, 0] ++ leBytes 2 2240);
    let b := up.begun rowShareSet 0 k;
    up.accepts rowShareSet 0 k = true ∧ b.getF Fld.tenCisShareUnits 0 < fieldAt k.params 2 2 ∧
      b.unitsOut + b.unitsDirty + (fieldAt k.params 2 2 - b.getF Fld.tenCisShareUnits 0) = 2240 ∧
      (b.setF Fld.tenCisShareUnits 0 2240).amendFits = true) ∧
    (let k := pkt ([0, 0] ++ leBytes 2 0);
    let s := up.setF Fld.tenCisShareUnits 0 1;
    let b := s.begun rowShareSet 0 k;
    s.accepts rowShareSet 0 k = true ∧ fieldAt k.params 2 2 < b.getF Fld.tenCisShareUnits 0 ∧
      b.unitsUsed 0 ≤ fieldAt k.params 2 2 ∧ ((b.setF Fld.tenCisShareUnits 0 0).scrubsOut 0 1).amendFits = true) ∧
    (let k := pkt [63, 255, 0];
    let b := up.begun rowChannelAssign 0 k;
    up.accepts rowChannelAssign 0 k = true ∧ fieldAt k.params 0 1 = 63 ∧ fieldAt k.params 2 1 = 0 ∧ (b.chan 63).owner = none ∧
      (b.modChan 63 fun _ => { Chan.blank with owner := some 255 }).amendFits = true) ∧
    (let k := pkt [63, 0, 1];
    let s := up.modChan 63 fun c => { c with owner := some 0 };
    let b := s.begun rowChannelAssign 0 k;
    s.accepts rowChannelAssign 0 k = true ∧ fieldAt k.params 2 1 = 1 ∧ (b.chan 63).owner = some (fieldAt k.params 1 1) ∧
      (b.chan 63).slots = [] ∧ (b.modChan 63 fun _ => Chan.blank).amendFits = true) := by
  refine ⟨?_, ?_, ?_, ?_, ?_, ?_⟩ <;> decide +kernel

/-- Each clause of PoolCommands has a state and operands that meet what it assumes, in the order of the clauses. -/
theorem witness_PoolCommands :
    (let k := pkt [1];
    up.accepts rowPoolMode 0 k = true ∧ fieldAt k.params 0 1 = 1 ∧ (up.begun rowPoolMode 0 k).hasOpenEp 0 = false) ∧
    (let k := pkt (leBytes 2 64 ++ leBytes 2 4096 ++ [15]);
    let s := (up.setF Fld.tenCisSharePoolMode 0 1).setF Fld.tenCisShareUnits 0 64;
    let b := s.begun rowPoolCreate 0 k;
    s.accepts rowPoolCreate 0 k = true ∧ powerOfTwoIn (fieldAt k.params 0 2) 64 16384 = true ∧ fieldAt k.params 2 2 = 4096 ∧
      fieldAt k.params 4 1 = 15 ∧ b.bit Fld.tenCisSharePoolMode 0 = true ∧
      ((List.range 16).find? fun k => (Tab.find b.pools (0 * 16 + k)).isNone) = some 0 ∧ b.shareFits 0 (64 * 4096) = true) ∧
    (let k := pkt [15];
    let s : State := { up with pools := [(15, ⟨64, 4, 0⟩)] };
    let b := s.begun rowPoolDestroy 0 k;
    s.accepts rowPoolDestroy 0 k = true ∧ fieldAt k.params 0 1 = 15 ∧ (Tab.find b.pools (0 * 16 + 15)).isSome = true ∧
      (b.eps.any fun e => e.2.isOpen && e.2.owner == 0 && e.2.pool == some 15) = false) := by
  refine ⟨?_, ?_, ?_⟩ <;> decide +kernel

/-- Each clause of ConfigurationCommands has a state and operands that meet what it assumes, in the order of the clauses. -/
theorem witness_ConfigurationCommands :
    (let k := { pkt (leBytes 8 0x1000 ++ leBytes 4 148) with image := some image1 };
    let b := up.begun rowCfgStage 0 k;
    up.accepts rowCfgStage 0 k = true ∧ fieldAt k.params 8 4 = 148 ∧ b.windowOk 0 0x1000 148 false = true ∧
      k.image = some image1 ∧ (b.emit (.hostRead 0 0x1000 148)).headCheck (padTo 148 image1) = none) ∧
    (let k := pkt (leBytes 4 0);
    let s := upCfg fun c => { c with staged := 0 };
    let b := s.begun rowCfgValidate 0 k;
    s.accepts rowCfgValidate 0 k = true ∧ b.namesStaged (fieldAt k.params 0 4) = true ∧ b.validate.1.mirrors = false) ∧
    (let k := pkt (leBytes 4 0 ++ leBytes 2 10);
    let s := upCfg fun c => { c with staged := 0, valid := true };
    let b := s.begun rowCfgCommit 0 k;
    s.accepts rowCfgCommit 0 k = true ∧ s.alm.pend = [] ∧ b.mirrors = false) ∧
    (let k := pkt (leBytes 4 0);
    let s := upCfg fun c => { c with active := 0, probation := true, deadline := 1 };
    let b := s.begun rowCfgConfirm 0 k;
    s.accepts rowCfgConfirm 0 k = true ∧ b.cfg.probation = true ∧ (b.slotGen b.cfg.active).toNat = fieldAt k.params 0 4 ∧
      b.now.toNat < b.cfg.deadline.toNat) ∧
    (let k := pkt [];
    let s := upCfg fun c => { c with previous := 2 };
    let b := s.begun rowCfgRollback 0 k;
    s.accepts rowCfgRollback 0 k = true ∧ s.anyFlr = false ∧ b.cfg.previous = 2) ∧
    (up.accepts rowCfgStatus 0 (pkt []) = true) := by
  refine ⟨?_, ?_, ?_, ?_, ?_, ?_⟩ <;> decide +kernel

/-- Each clause of FirmwareCommands has a state and operands that meet what it assumes, in the order of the clauses. -/
theorem witness_FirmwareCommands :
    (let k := { pkt (leBytes 8 0x1000 ++ leBytes 4 2097152) with image := some [1] };
    let b := up.begun rowFwStage 0 k;
    up.accepts rowFwStage 0 k = true ∧ fieldAt k.params 8 4 = 2097152 ∧ b.windowOk 0 0x1000 2097152 false = true) ∧
    (let k := { pkt (leBytes 8 0x1000 ++ leBytes 4 1) with image := some [1] };
    up.accepts rowFwStage 0 k = true ∧ fieldAt k.params 8 4 = 1) ∧
    (let b := up.begun rowFwActivate 0 (pkt []);
    up.accepts rowFwActivate 0 (pkt []) = true ∧ b.fwHeld = false ∧ b.cfg.restart = .none) ∧
    (let b := up.begun rowFwRollback 0 (pkt []);
    up.accepts rowFwRollback 0 (pkt []) = true ∧ b.fwHeld = false ∧ b.cfg.restart = .none) ∧
    (let s := upCfg fun c => { c with trial := true };
    s.accepts rowFwConfirm 0 (pkt []) = true ∧ (s.begun rowFwConfirm 0 (pkt [])).trialRuns = true) := by
  refine ⟨?_, ?_, ?_, ?_, ?_⟩ <;> decide +kernel

/-- Each clause of DeviceCommands has a state and operands that meet what it assumes, in the order of the clauses. -/
theorem witness_DeviceCommands :
    (let k := pkt (leBytes 2 5 ++ [0]);
    let s := upPlace place0;
    let b := s.begun rowDevAssign 0 k;
    s.accepts rowDevAssign 0 k = true ∧ b.placeOf (fieldAt k.params 0 2) = some place0 ∧ place0.isHub = false ∧
      place0.owner = 0 ∧ b.devInUse 5 = false ∧ (b.setOwner place0.route 0).amendFits = true) ∧
    (let k := pkt (leBytes 2 5);
    let s := upPlace place0;
    let b := s.begun rowDevRelease 0 k;
    s.accepts rowDevRelease 0 k = true ∧ b.placeOf (fieldAt k.params 0 2) = some place0 ∧ b.devInUse 5 = false ∧
      (b.setOwner place0.route 0).amendFits = true) ∧
    (let k := pkt (leBytes 8 (rootRoute 0 .h).toNat ++ leBytes 2 4095 ++ [0]);
    let s := upPlace { place0 with step := .waiting, addr := 0 };
    let b := s.begun rowTreeAdopt 0 k;
    s.accepts rowTreeAdopt 0 k = true ∧ routeOk (BitVec.ofNat 64 (fieldAt k.params 0 8)) = true ∧ fieldAt k.params 8 2 = 4095 ∧
      (b.placeAt (rootRoute 0 .h)).isWaiting = true ∧ b.addrTaken 4095 (rootRoute 0 .h) = false ∧
      b.topoAt (rootRoute 0 .h) = none) ∧
    (let e : TopoEntry := ⟨rootRoute 0 .h, 4095, 0, 0, 0, 0, 0, 0, 0, 0⟩;
    let k := pkt (leBytes 8 (rootRoute 0 .h).toNat ++ leBytes 2 4095 ++ [1]);
    let s := upPlace { place0 with step := .waiting, addr := 0 };
    let s : State := { s with cfg := { s.cfg with shadow := { s.cfg.shadow with topo := [e] } } };
    let b := s.begun rowTreeAdopt 0 k;
    s.accepts rowTreeAdopt 0 k = true ∧ (b.placeAt (rootRoute 0 .h)).isWaiting = true ∧
      b.addrTaken 4095 (rootRoute 0 .h) = false ∧ b.topoAt (rootRoute 0 .h) = some e ∧ fieldAt k.params 10 1 = 1 ∧
      e.addr = 4095) ∧
    (let k := pkt (leBytes 8 (rootRoute 0 .h).toNat);
    let s := upPlace { place0 with cause := 1, connected := false };
    let b := s.begun rowPortEnable 0 k;
    s.accepts rowPortEnable 0 k = true ∧ routeOk (BitVec.ofNat 64 (fieldAt k.params 0 8)) = true ∧
      (b.placeAt (rootRoute 0 .h)).cause ≠ 0 ∧ (b.placeAt (rootRoute 0 .h)).disabling = false ∧
      (b.placeAt (rootRoute 0 .h)).connected = false) ∧
    (let k := pkt (leBytes 8 (rootRoute 0 .h).toNat);
    let s := upPlace { place0 with cause := 1 };
    let b := s.begun rowPortEnable 0 k;
    s.accepts rowPortEnable 0 k = true ∧ (b.placeAt (rootRoute 0 .h)).cause ≠ 0 ∧
      (b.placeAt (rootRoute 0 .h)).disabling = false ∧ (b.placeAt (rootRoute 0 .h)).connected = true ∧
      parentOf (rootRoute 0 .h) = none) ∧
    (let r := childOf (rootRoute 0 .h) 1;
    let k := pkt (leBytes 8 r.toNat);
    let s := upPlace { place0 with route := r, cause := 1 };
    let b := s.begun rowPortEnable 0 k;
    s.accepts rowPortEnable 0 k = true ∧ routeOk r = true ∧ (b.placeAt r).cause ≠ 0 ∧ (b.placeAt r).disabling = false ∧
      (b.placeAt r).connected = true ∧ parentOf r = some (rootRoute 0 .h)) ∧
    (let k := pkt (leBytes 8 (rootRoute 0 .h).toNat);
    let s := upPlace place0;
    let b := s.begun rowPortDisable 0 k;
    s.accepts rowPortDisable 0 k = true ∧ routeOk (BitVec.ofNat 64 (fieldAt k.params 0 8)) = true ∧
      (b.placeAt (rootRoute 0 .h)).cause = 0) ∧
    (let k := pkt (leBytes 2 5);
    let s := upPlace place0;
    let b := s.begun rowPortReset 0 k;
    s.accepts rowPortReset 0 k = true ∧ b.placeOf 5 = some place0 ∧ place0.owner = 0 ∧ place0.present = true ∧
      place0.keptByReset = false ∧ place0.resetAsked = false ∧ place0.disabling = false ∧ parentOf place0.route = none ∧
      ¬(routeLink place0.route % 2 = 0 ∧ b.hState (routeLink place0.route / 2) = 4)) ∧
    (let k := pkt (leBytes 2 5);
    let s := (upPlace place0).setF Fld.prtLaneStatusHState 0 4;
    let b := s.begun rowPortReset 0 k;
    s.accepts rowPortReset 0 k = true ∧ b.placeOf 5 = some place0 ∧ routeLink place0.route % 2 = 0 ∧
      b.hState (routeLink place0.route / 2) = 4) ∧
    (let r := childOf (rootRoute 0 .h) 1;
    let d := { place0 with route := r, addr := 6 };
    let k := pkt (leBytes 2 6);
    let s : State := { up with places := [((rootRoute 0 .h).toNat, place0), (r.toNat, d)] };
    let b := s.begun rowPortReset 0 k;
    s.accepts rowPortReset 0 k = true ∧ b.placeOf 6 = some d ∧ parentOf d.route = some (rootRoute 0 .h) ∧
      (b.placeAt (rootRoute 0 .h)).served = true) ∧
    (let k := pkt (leBytes 2 5);
    let s : State := { upPlace place0 with qps := [(1, { qp0 with state := .halted, haltCause := 3, haltAddr := epKey 5 0 false })] };
    let b := s.begun rowPortResetAck 0 k;
    s.accepts rowPortResetAck 0 k = true ∧ b.placeOf 5 = some place0 ∧ place0.owner = 0 ∧
      b.resumable (fun v : Qp => v.resetHalt 5 && v.owner == some 0) ≠ []) := by
  refine ⟨?_, ?_, ?_, ?_, ?_, ?_, ?_, ?_, ?_, ?_, ?_, ?_⟩ <;> decide +kernel

/-- Each clause of EndpointCommands has a state and operands that meet what it assumes, in the order of the clauses. -/
theorem witness_EndpointCommands :
    (let n : EpName := ⟨5, 1, false⟩;
    let k := pkt (leBytes 2 0x1005 ++ [2, 0] ++ leBytes 2 1024 ++ leBytes 2 2048 ++ [0, 0] ++ leBytes 2 0);
    let s := (upPlace place0).setF Fld.tenCisShareUnits 0 1;
    let b := s.begun rowEpOpen 0 k;
    s.accepts rowEpOpen 0 k = true ∧
      (match b.namedEp 0 k.params with | .ok n => n.addr == 5 && n.ep == 1 && n.dirIn == false | .error _ => false) = true ∧
      fieldAt k.params 2 1 = 2 ∧ epKind (bitsOf 2 1 2) = .bulk ∧
      fieldAt k.params 4 2 = speedMps (((b.placeOf 5).map (·.speed)).getD 3) ∧ b.epContracts n = [] ∧
      (b.eps.filter fun e => e.2.isOpen).length < 16384 ∧ (b.ep 5 1 false).isOpen = false ∧
      b.bit Fld.tenCisSharePoolMode 0 = false ∧ fieldAt k.params 8 1 = 0 ∧
      powerOfTwoIn (fieldAt k.params 6 2) 64 16384 = true ∧ max 64 (2 * 1024) ≤ fieldAt k.params 6 2 ∧
      b.shareFits 0 2048 = true) ∧
    (let k := pkt (leBytes 2 0x1005 ++ [2, 0] ++ leBytes 2 64 ++ leBytes 2 0 ++ [15, 0] ++ leBytes 2 0);
    let s := ({ upPlace place0 with pools := [(15, ⟨64, 4, 4⟩)] } : State).setF Fld.tenCisSharePoolMode 0 1;
    let b := s.begun rowEpOpen 0 k;
    s.accepts rowEpOpen 0 k = true ∧ b.bit Fld.tenCisSharePoolMode 0 = true ∧ fieldAt k.params 6 2 = 0 ∧
      fieldAt k.params 8 1 = 15 ∧ Tab.find b.pools (0 * 16 + 15) = some ⟨64, 4, 4⟩ ∧ b.epContracts ⟨5, 1, false⟩ = [] ∧
      b.poolReserved 0 15 + 4 = 4) ∧
    (let n : EpName := ⟨5, 1, false⟩;
    let k := pkt (leBytes 2 0x1005 ++ [0]);
    let s : State := { upPlace place0 with eps := [(epKey 5 1 false, { Ep.blank 5 1 false with isOpen := true })] };
    let b := s.begun rowEpClose 0 k;
    s.accepts rowEpClose 0 k = true ∧
      (match b.namedEp 0 k.params with | .ok n => n.addr == 5 && n.ep == 1 && n.dirIn == false | .error _ => false) = true ∧
      fieldAt k.params 2 1 = 0 ∧ (b.ep 5 1 false).isOpen = true ∧ b.epContracts n = [] ∧ b.epNamed n = false) ∧
    (let k := pkt (leBytes 2 0x0005 ++ [1]);
    let s : State := { upPlace place0 with eps := [(epKey 5 0 true, { Ep.blank 5 0 true with halted := true })] };
    let b := s.begun rowEpClearHalt 0 k;
    s.accepts rowEpClearHalt 0 k = true ∧
      (match b.namedEp 0 k.params with | .ok n => n.addr == 5 && n.ep == 0 && n.dirIn == true | .error _ => false) = true ∧
      fieldAt k.params 2 1 = 1 ∧ (b.ep 5 0 true).halted = true) ∧
    (let k := pkt (leBytes 2 0x1005 ++ [0]);
    let s : State := { upPlace place0 with eps := [(epKey 5 1 false, { Ep.blank 5 1 false with isOpen := true })] };
    let b := s.begun rowEpQuery 0 k;
    s.accepts rowEpQuery 0 k = true ∧
      (match b.namedEp 0 k.params with | .ok n => n.addr == 5 && n.ep == 1 && n.dirIn == false | .error _ => false) = true ∧
      (b.ep 5 1 false).isOpen = true) ∧
    (let k := pkt (leBytes 8 0 ++ leBytes 2 5);
    let s := upPlace place0;
    let b := s.begun rowTreeQuery 0 k;
    s.accepts rowTreeQuery 0 k = true ∧ fieldAt k.params 0 8 = 0 ∧ b.placeOf (fieldAt k.params 8 2) = some place0) ∧
    (let k := pkt (leBytes 8 (rootRoute 15 .h).toNat ++ leBytes 2 0);
    let s := upPlace { place0 with route := rootRoute 15 .h };
    let b := s.begun rowTreeQuery 0 k;
    s.accepts rowTreeQuery 0 k = true ∧ routeOk (rootRoute 15 .h) = true ∧
      BitVec.ofNat 64 (fieldAt k.params 0 8) = rootRoute 15 .h ∧ rootRoute 15 .h ≠ 0 ∧
      b.known (b.placeAt (rootRoute 15 .h)) = true) ∧
    (let k := pkt [15, 1, 1, 0];
    up.accepts rowTreeList 0 k = true ∧ fieldAt k.params 0 1 = 15 ∧ fieldAt k.params 1 1 = 1) := by
  refine ⟨?_, ?_, ?_, ?_, ?_, ?_, ?_, ?_⟩ <;> decide +kernel

/-- Each clause of ContractCommands has a state and operands that meet what it assumes, in the order of the clauses. -/
theorem witness_ContractCommands :
    (let k := pkt (leBytes 2 5);
    upCon.accepts rowConQuery 0 k = true ∧
      ((((upCon.begun rowConQuery 0 k).allContracts.find? fun c => c.id == fieldAt k.params 0 2).map (·.tenant)) = some 0)) ∧
    (let k := pkt [255, 0, 0, 1];
    let b := up.begun rowWeirQuota 0 k;
    up.accepts rowWeirQuota 0 k = true ∧ b.quantumOk (fieldAt k.params 0 1) (fieldAt k.params 2 2) = true ∧
      b.strictNext = false ∧
      ({ b with alm := { b.alm with quanta := b.alm.quanta ++ [(b.time.frame + 3, 255, 256)] } } : State).amendFits = true) ∧
    (let k := pkt [1];
    let b := up.begun rowWeirMode 0 k;
    up.accepts rowWeirMode 0 k = true ∧ fieldAt k.params 0 1 = 1 ∧
      b.windowShort b.latestContracts b.floorNow b.quantum = false ∧
      ({ b with alm := { b.alm with mode := b.alm.mode ++ [(b.time.frame + 3, 1)] } } : State).amendFits = true) := by
  refine ⟨?_, ?_, ?_⟩ <;> decide +kernel

/-- Each clause of StrikeAndHaltCommands has a state and operands that meet what it assumes, in the order of the clauses. -/
theorem witness_StrikeAndHaltCommands :
    (let k := pkt (leBytes 2 1);
    let e := { entry0 with kind := .strike, strike := .staged };
    let s : State := { upCon with alm := { upCon.alm with contracts := upCon.alm.contracts.map fun c => { c with strike := true } }, qps := [(1, { qp0 with contract := some 5, entries := [e] })] };
    let b := s.begun rowStrikeWithdraw 0 k;
    s.accepts rowStrikeWithdraw 0 k = true ∧
      (match b.strikeQps 0 (fieldAt k.params 0 2) with | .ok qs => qs == [1] | .error _ => false) = true ∧
      ((b.qp 1).entries.filter Entry.uncommitted) ≠ []) ∧
    (let k := pkt (leBytes 2 65535);
    let s : State := { upCon with alm := { upCon.alm with contracts := upCon.alm.contracts.map fun c => { c with strike := true } }, qps := [(1, { qp0 with contract := some 5, held := true })] };
    let b := s.begun rowStrikeResume 0 k;
    s.accepts rowStrikeResume 0 k = true ∧
      (match b.strikeQps 0 (fieldAt k.params 0 2) with | .ok qs => qs == [1] | .error _ => false) = true ∧
      (b.qp 1).held = true) ∧
    (up.accepts rowHaltBegin 0 (pkt []) = true ∧ (up.begun rowHaltBegin 0 (pkt [])).halt.stands = false) ∧
    (let s : State := { up with halt := { up.halt with stands := true } };
    s.accepts rowHaltBegin 0 (pkt []) = true ∧ (s.begun rowHaltBegin 0 (pkt [])).halt.stands = true) ∧
    (let s : State := { up with halt := { up.halt with stands := true } };
    let b := s.begun rowHaltEnd 0 (pkt []);
    s.accepts rowHaltEnd 0 (pkt []) = true ∧ b.halt.stands = true ∧ b.halt.pinLow = false) := by
  refine ⟨?_, ?_, ?_, ?_, ?_⟩ <;> decide +kernel

/-- Each clause of MillraceCommands has a state and operands that meet what it assumes, in the order of the clauses. -/
theorem witness_MillraceCommands :
    (let k := pkt (leBytes 4 0x7F ++ leBytes 4 0x100 ++ leBytes 4 0x9C43D090 ++ leBytes 4 1000000 ++ leBytes 4 250000 ++ leBytes 4 0 ++ leBytes 4 4 ++ leBytes 4 0);
    let b := up.begun rowMrcSet 0 k;
    let ws := b.mrcSelect k.params;
    let u := (b.mrcWrite ws).1;
    up.accepts rowMrcSet 0 k = true ∧ fieldAt k.params 0 2 < 128 ∧ (∀ x ∈ mrcRegs.zip ws, x.1.cleanWord x.2 = true) ∧
      b.mrcOk ws = true ∧
      ({ u with cfg := { u.cfg with shadow := { u.cfg.shadow with mrc := ws } } } : State).amendFits = true) ∧
    (let k := pkt [3];
    let b := up.begun rowMrcMode 0 k;
    let ws := putBits (b.reg .mrcCtrl 0) 0 2 3 :: b.mrcWords.drop 1;
    let u := (b.mrcWrite ws).1;
    up.accepts rowMrcMode 0 k = true ∧ fieldAt k.params 0 1 = 3 ∧ b.mrcOk ws = true ∧
      ({ u with cfg := { u.cfg with shadow := { u.cfg.shadow with mrc := ws } } } : State).amendFits = true) ∧
    (up.accepts rowMrcQuery 0 (pkt []) = true) := by
  refine ⟨?_, ?_, ?_⟩ <;> decide +kernel

/-- Each clause of PowerCommands has a state and operands that meet what it assumes, in the order of the clauses. -/
theorem witness_PowerCommands :
    (let k := pkt (leBytes 2 4 ++ leBytes 2 0x400);
    let b := up.begun rowPwrVote 0 k;
    up.accepts rowPwrVote 0 k = true ∧ fieldAt k.params 0 2 = 4 ∧ fieldAt k.params 2 2 = 0x400 ∧
      (∀ d < 16, ¬(bitsOf 4 d 1 = 1 ∧ bitsOf 0x400 d 1 = 1)) ∧
      (∀ d < 16, bitsOf 4 d 1 = 1 ∨ bitsOf 0x400 d 1 = 1 → bitsOf 0x7FC d 1 = 1 ∧ bitsOf (b.allowedMask 0) d 1 = 1)) ∧
    (let k := pkt [4];
    let b := up.begun rowPwrState 0 k;
    up.accepts rowPwrState 0 k = true ∧ fieldAt k.params 0 1 = 4 ∧ b.entryStep = 0) ∧
    (let k := pkt (leBytes 8 0);
    up.accepts rowAlarmSet 0 k = true ∧ fieldAt k.params 0 8 = 0) ∧
    (let k := pkt (leBytes 8 1);
    let s : State := { up with pwr := { up.pwr with rtcBase := 1 } };
    let b := s.begun rowAlarmSet 0 k;
    s.accepts rowAlarmSet 0 k = true ∧ fieldAt k.params 0 8 = 1 ∧ b.rtc.toNat = 1) ∧
    (up.accepts rowAlarmClear 0 (pkt []) = true) ∧
    (up.accepts rowPwrQuery 0 (pkt []) = true) := by
  refine ⟨?_, ?_, ?_, ?_, ?_, ?_⟩ <;> decide +kernel

/-- Each clause of SecurityCommands has a state and operands that meet what it assumes, in the order of the clauses. -/
theorem witness_SecurityCommands :
    (let k : CmdPkt := { pkt (leBytes 8 0x1000) with flags := 1, plen := 144, block := some (leBytes 2 1 ++ [0, 0] ++ leBytes 4 9 ++ List.replicate 136 0) };
    let s : State := { up.setF Fld.secStatusLifecycle 0 1 with sec := { up.sec with cert := List.replicate 256 0 } };
    let b := s.begun rowSecKeyLoad 0 k;
    s.domainOn 5 = true ∧ s.accepts rowSecKeyLoad 0 k = true ∧ k.params.length = 144 ∧ fieldAt k.params 0 2 = 1 ∧
      b.lifecycle = 1 ∧ b.lockdown = false ∧ b.cfg.shadow.seals 0 = true ∧ b.sealedSlot 0 = false ∧ fieldAt k.params 2 1 = 0 ∧
      fieldAt k.params 8 8 = b.serial.toNat) ∧
    (let s := up.setF Fld.secStatusLifecycle 0 1;
    let b := s.begun rowSecKeyErase 0 (pkt []);
    s.domainOn 5 = true ∧ s.accepts rowSecKeyErase 0 (pkt []) = true ∧ b.lifecycle = 1 ∧ b.lockdown = false ∧
      b.sealedSlot 0 = false) ∧
    (up.domainOn 5 = true ∧ up.accepts rowSecLifecycle 0 (pkt []) = true) ∧
    (let s : State := { up with sec := { up.sec with identity := true } };
    let k := pkt (List.replicate 32 255);
    let b := s.begun rowSecAttest 0 k;
    s.domainOn 5 = true ∧ s.accepts rowSecAttest 0 k = true ∧ b.lifecycle ≠ 2 ∧ b.lockdown = false ∧ b.sec.identity = true) ∧
    (let k := pkt (leBytes 4 0x4445434D);
    let b := up.begun rowSecDecommission 0 k;
    up.accepts rowSecDecommission 0 k = true ∧ up.domainOn 5 = true ∧ fieldAt k.params 0 4 = 0x4445434D ∧
      b.cfg.probation = false ∧ b.cfg.trial = false) := by
  refine ⟨?_, ?_, ?_, ?_, ?_⟩ <;> decide +kernel

/-- Each clause of TwinCommands has a state and operands that meet what it assumes, in the order of the clauses. -/
theorem witness_TwinCommands :
    (up.accepts rowTwinQuery 0 (pkt []) = true) ∧
    (let s := ((up.setF Fld.twnStatusRole 0 2).setF Fld.twnStatusSync 0 2);
    let b := s.begun rowTwinSwitchover 0 (pkt []);
    s.accepts rowTwinSwitchover 0 (pkt []) = true ∧ b.role = 2 ∧ b.sync = 2 ∧ b.getF Fld.ledStatusMirrorLag 0 = 0 ∧
      (b.qps.all fun v => v.2.owner.isNone || v.2.state = .disabled) = true ∧
      (b.qps.any fun v => v.2.entries.any fun e => e.strikeOut) = false ∧ b.cfg.probation = false ∧ b.cfg.trial = false) ∧
    (let s := ((up.setF Fld.twnStatusRole 0 2).setF Fld.twnStatusLinkUp 0 1);
    let b := s.begun rowTwinResync 0 (pkt []);
    s.accepts rowTwinResync 0 (pkt []) = true ∧ b.role = 2 ∧ b.twinUp = true) := by
  refine ⟨?_, ?_, ?_⟩ <;> decide +kernel

/-- Each clause of TransferEvents has a state and operands that meet what it assumes, in the order of the clauses. -/
theorem witness_TransferEvents :
    (let e := { entry1 with dirIn := true, data := List.replicate 64 1, buf := 0x1000 };
    (runQp (qpRings [e]) []).writesLeave.payloadWrite ≠ none) ∧
    (let e := { entry1 with phase := .finished };
    let v := qpRings [e];
    let s := runQp v [];
    let w := s.writesLeave;
    let a := ((w.setQp 1 { v with entries := [] }).dropStarts 1 e.idx).commitElems e;
    w.payloadWrite = none ∧ (w.qp 1).entries = [e] ∧ w.mayComplete 1 e = true ∧ (w.qp 1).state ≠ .faulted ∧
      (w.qp 1).state ≠ .disabled ∧ (w.qp 1).ringFree ≠ 0 ∧ (w.qp 1).holding = [] ∧
      ((a.putCompletion 1 e.completion).qp 1).state ≠ .faulted) ∧
    (let e := { entry1 with phase := .finished };
    let v := qpRings [e];
    let s := (runQp v []).setReg .gblWinAttr 0 0;
    let w := s.writesLeave;
    let a := ((w.setQp 1 { v with entries := [] }).dropStarts 1 e.idx).commitElems e;
    w.payloadWrite = none ∧ (w.qp 1).ringFree ≠ 0 ∧ (w.qp 1).holding = [] ∧
      ((a.putCompletion 1 e.completion).qp 1).state = .faulted) ∧
    (let v := { qpRings [{ entry1 with phase := .finished }] with cqProd := 16 };
    v.ringFree = 0 ∧ v.holding.length < 64 ∧ v.state = .running ∧ (runQp v []).writesLeave.payloadWrite = none) ∧
    (let v := { qpRings [{ entry1 with phase := .finished }] with holding := List.replicate 63 (true, []) };
    v.holding ≠ [] ∧ v.holding.length < 64) ∧
    (let v := { qpRings [{ entry1 with phase := .finished }] with holding := List.replicate 64 (true, []) };
    v.holding ≠ [] ∧ 64 ≤ v.holding.length) ∧
    (let s := runQp (qpRings [entry1]) [];
    s.writesLeave.payloadWrite = none ∧ s.writesLeave.mayComplete 1 entry1 = false) ∧
    (let v := { qp0 with timer := true, modCount := 2, unsignalled := 1 };
    v.owner = some 0 ∧ v.timer = true ∧ 2 ≤ v.modCount ∧ v.unsignalled ≠ 0) ∧
    (let s := runQp { qp0 with state := .faulted } [req0 (.subEntry 1)];
    let rest : State := { s with dma := { s.dma with reqs := [] } };
    (s.dma.reqs.find? fun r => decide (r.what = .subEntry 1)) = some (req0 (.subEntry 1)) ∧ (s.qp 1).state = .faulted ∧
      (s.qp 1).contract = none ∧ rest.landed 1 = none) ∧
    (let s := runQp (qpRings []) [req0 (.subEntry 1)];
    let rest : State := { s with dma := { s.dma with reqs := [] } };
    let v := s.qp 1;
    let e := Entry.ofBytes (padTo 64 entryBytes) v.sqCons .bulk s.alm.order;
    let s1 := (rest.setQp 1 { v with sqCons := v.sqCons + 1 }).writeWords 2 1;
    let u := State.enterEntry { s1 with alm := { s1.alm with order := s1.alm.order + 1 } } 1 0 e;
    (s.dma.reqs.find? fun r => decide (r.what = .subEntry 1)) = some (req0 (.subEntry 1)) ∧ v.entries = [] ∧
      v.state = .running ∧ v.contract = none ∧ XKind.ofCode (fieldAt (padTo 64 entryBytes) 0 1 % 16) = some .bulk ∧
      rest.entryCheck 1 0 (padTo 64 entryBytes) e = none ∧ (u.qp 1).contract = none ∧ ((u.landed 1).map (·.addr)) = some 5 ∧
      ((u.landed 1).bind fun e' => u.entryPlace e').isSome = true) ∧
    (let s := runQp { qpRings [] with aborting := true, state := .halted } [req0 (.subEntry 1)];
    let rest : State := { s with dma := { s.dma with reqs := [] } };
    let v := s.qp 1;
    let e := Entry.ofBytes (padTo 64 entryBytes) v.sqCons .bulk s.alm.order;
    let s1 := (rest.setQp 1 { v with sqCons := v.sqCons + 1 }).writeWords 2 1;
    let u := State.enterEntry { s1 with alm := { s1.alm with order := s1.alm.order + 1 } } 1 0 e;
    rest.entryCheck 1 0 (padTo 64 entryBytes) e = none ∧ u.landed 1 = none ∧ (u.qp 1).contract = none) ∧
    (let s := runQp (qpRings []) [req0 (.subEntry 1)];
    let b := padTo 64 ([0] : List Byte);
    (s.qp 1).state = .running ∧ (s.qp 1).contract = none ∧ XKind.ofCode (fieldAt b 0 1 % 16) = none) ∧
    (let s := run.modChan 63 fun c => { c with state := .pausing };
    (s.writesLeave.chan 63).state = .pausing ∧ s.writesLeave.chanBusy 63 = false ∧ s.writesLeave.chanUnproved 63 = false) ∧
    ((run.writesLeave.chan 63).state ≠ .pausing) := by
  refine ⟨?_, ?_, ?_, ?_, ?_, ?_, ?_, ?_, ?_, ?_, ?_, ?_, ?_, ?_⟩ <;> decide +kernel

/-- Each clause of HostRequests has a state and operands that meet what it assumes, in the order of the clauses. -/
theorem witness_HostRequests :
    ((runQp qp0 []).readChoice = none ∧ (runQp qp0 []).writesLeave.writeChoice = none) ∧
    (let s := runQp { qpRings [] with sqProd := 1, doorbells := [(1, 0)] } [];
    (s.readChoice.map (·.what)) = some (.subEntry 1) ∧
      (s.readChoice.map fun c => s.windowOk c.tenant c.addr 64 false) = some true) ∧
    (let s := (runQp { qpRings [] with sqProd := 1, doorbells := [(1, 0)] } []).setReg .gblWinAttr 0 0;
    (s.readChoice.map (·.what)) = some (.subEntry 1) ∧
      (s.readChoice.map fun c => s.windowOk c.tenant c.addr 64 false) = some false) ∧
    ((run.readChoice.map (·.what)) = some (.command 0)) ∧
    (let e := { entry1 with dirIn := true, data := [], xfer := 0, phase := .flushing, unflushed := [(0x1000, [1])] };
    let w := (runQp (qpRings [e]) []).writesLeave;
    (w.writeChoice.map (·.what)) = some (.flush 1 0) ∧ (w.qp 1).entry 0 = some e ∧ (w.readFor 1 e false).2 = false) ∧
    (let e := { entry1 with dirIn := true, data := [], xfer := 0, phase := .flushing, unflushed := [(0x1000, [1])] };
    let s := runQp (qpRings [e]) [];
    let w : State := { s.writesLeave with dma := { s.writesLeave.dma with bad := [badQp 1] } };
    (w.writeChoice.map (·.what)) = some (.flush 1 0) ∧ (w.readFor 1 e false).2 = true) ∧
    (let e := { entry1 with dirIn := true, data := List.replicate 64 1, buf := 0x1000 };
    let w := (runQp (qpRings [e]) []).writesLeave;
    (w.writeChoice.map (·.what)) = some (.inWrite 1 0) ∧ (w.qp 1).entry 0 = some e ∧ e.prog = false ∧
      (w.readFor 1 e true).2 = false) ∧
    (let e := { entry1 with dirIn := true, data := List.replicate 64 1, buf := 0x1000 };
    let s := runQp (qpRings [e]) [];
    let w : State := { s.writesLeave with dma := { s.writesLeave.dma with bad := [badQp 1] } };
    (w.writeChoice.map (·.what)) = some (.inWrite 1 0) ∧ (w.readFor 1 e true).2 = true) ∧
    (let e := { entry1 with xfer := 64, buf := 0x1000 };
    let s := (runQp (qpRings [e]) []).modEp 5 1 false fun e => { e with basin := 64 };
    (s.readChoice.map (·.what)) = some (.payload 1 0) ∧ (s.qp 1).entry 0 = some e ∧ e.prog = false ∧
      (s.readFor 1 e false).2 = false) ∧
    (let e := { entry1 with xfer := 64, buf := 0x1000 };
    let s := (runQp (qpRings [e]) []).modEp 5 1 false fun e => { e with basin := 64 };
    let s : State := { s with dma := { s.dma with bad := [badQp 1] } };
    (s.readChoice.map (·.what)) = some (.payload 1 0) ∧ (s.qp 1).entry 0 = some e ∧ (s.readFor 1 e false).2 = true) ∧
    (let s := (runQp (qpRings []) []).modChan 63 fun c => { c with owner := some 0, loading := [(15, 0x1000, 0)] };
    (s.readChoice.map (·.what)) = some (.program 63 15) ∧
      (s.readChoice.map fun c => s.windowOk c.tenant c.addr 64 false) = some true) := by
  refine ⟨?_, ?_, ?_, ?_, ?_, ?_, ?_, ?_, ?_, ?_, ?_⟩ <;> decide +kernel

/-- Each clause of HostAnswers has a state and operands that meet what it assumes, in the order of the clauses. -/
theorem witness_HostAnswers :
    (let s := runQp (qpRings [entry1]) [req0 (.payload 1 0)];
    s.req 7 = some (req0 (.payload 1 0)) ∧ (req0 (.payload 1 0)).tries < (s.setF Fld.dmaCfgRetry 0 1).retryLimit) ∧
    (let s := runQp (qpRings [entry1]) [req0 (.command 0)];
    s.req 7 = some (req0 (.command 0)) ∧ (s.setF Fld.dmaCfgRetry 0 0).retryLimit ≤ 0) ∧
    (let s := (runQp (qpRings [entry1]) [req0 (.flush 1 0)]).setF Fld.dmaCfgRetry 0 0;
    s.req 7 = some (req0 (.flush 1 0)) ∧ s.retryLimit ≤ (req0 (.flush 1 0)).tries) ∧
    (let s := (runQp (qpRings [entry1]) [req0 (.subEntry 1)]).setF Fld.dmaCfgRetry 0 0;
    s.req 7 = some (req0 (.subEntry 1)) ∧ s.retryLimit ≤ (req0 (.subEntry 1)).tries) ∧
    (let s := (runQp (qpRings [entry1]) [req0 (.inWrite 1 0)]).setF Fld.dmaCfgRetry 0 0;
    s.req 7 = some (req0 (.inWrite 1 0)) ∧ (req0 (.inWrite 1 0)).what.isWrite = true ∧ HostErr.abort ≠ .staging ∧
      s.retryLimit ≤ (req0 (.inWrite 1 0)).tries) ∧
    (let s := (runQp (qpRings [entry1]) [req0 (.completion 1)]).setF Fld.dmaCfgRetry 0 0;
    s.req 7 = some (req0 (.completion 1)) ∧ (req0 (.completion 1)).what.isWrite = true ∧
      s.retryLimit ≤ (req0 (.completion 1)).tries) ∧
    (let s := (runQp (qpRings [entry1]) [req0 (.head 1)]).setF Fld.dmaCfgRetry 0 0;
    s.req 7 = some (req0 (.head 1)) ∧ s.retryLimit ≤ (req0 (.head 1)).tries) ∧
    (let s := (runQp (qpRings [entry1]) [req0 (.program 63 15)]).setF Fld.dmaCfgRetry 0 0;
    s.req 7 = some (req0 (.program 63 15)) ∧ s.retryLimit ≤ (req0 (.program 63 15)).tries) ∧
    (let e := { entry1 with prog := true, chan := 63 };
    let s := (runQp (qpRings [e]) [req0 (.payload 1 0)]).setF Fld.dmaCfgRetry 0 0;
    s.req 7 = some (req0 (.payload 1 0)) ∧ s.retryLimit ≤ 0 ∧ (s.qp 1).entry 0 = some e ∧ e.prog = true) ∧
    (let b : List Byte := leBytes 16 0 ++ leBytes 2 4096 ++ [0, 0] ++ leBytes 2 1 ++ leBytes 2 0 ++ leBytes 2 1 ++ leBytes 2 1 ++ leBytes 2 1;
    let s := (runQp (qpRings []) [req0 (.program 63 15)]).modChan 63 fun c => { c with owner := some 0 };
    (s.dma.reqs.find? fun r => decide (r.what = .program 63 15)) = some (req0 (.program 63 15)) ∧ (s.chan 63).owner = some 0 ∧
      (s.chan 63).refetch = [] ∧ ((Prog.parse b).map (·.qp)) = some 1 ∧ s.slotBusy 63 15 = false ∧ (s.qp 1).owner = some 0 ∧
      ((s.chan 63).slots.any fun e => e.1 != 15 && e.2.qp == 1) = false) ∧
    (Prog.parse [] = none) := by
  refine ⟨?_, ?_, ?_, ?_, ?_, ?_, ?_, ?_, ?_, ?_, ?_⟩ <;> decide +kernel

/-- Each clause of ScrubsAndSpecialWrites has a state and operands that meet what it assumes, in the order of the clauses. -/
theorem witness_ScrubsAndSpecialWrites :
    ((true && (run.setF Fld.gblCisScrubPatrolEn 0 1).bit Fld.gblCisScrubPatrolEn 0) = true ∧
      (true && (run.setF Fld.gblCisScrubPatrolEn 0 0).bit Fld.gblCisScrubPatrolEn 0) = false) ∧
    (let s : State := { run with dma := { run.dma with bad := [badQp 1] } };
    s.dma.bad = [badQp 1] ∧ (badQp 1).isOf 2 1 = true ∧ (badQp 1).double = true ∧ (badQp 1).found = true) ∧
    (({ badQp 4095 with double := false } : BadWord).isOf 2 4095 = true ∧
      ({ badQp 1 with found := false } : BadWord).isOf 2 1 = true) ∧
    (up.cfg.shares = []) ∧
    (let s := up.setF Fld.gblBootStatusStage 0 6;
    barOk 0 0x10058 4 = true ∧ s.gate 0 0x10058 true ≠ .serve) ∧
    (barOk 0 0x10048 4 = true ∧ up.gate 0 0x10048 true = .serve) ∧
    (up.gate 0 0x204 true = .serve) ∧
    (up.gate 0 (0x1000 + 16 * 63 + 12) true = .serve) ∧
    (let s : State := { up with pcie := { up.pcie with vfEnable := true, numVfs := 255 } };
    s.gate 255 (0x1000 + 16 * 7 + 12) true = .serve) ∧
    (blockReg 0x11020 = some .mrcBusSrc ∧ mrcRegs.contains .mrcBusSrc = true ∧ up.gate 0 0x11020 true = .serve) ∧
    (let m := up.mergeReg 0 0x11008 .mrcLenMax 0 0 0;
    blockReg 0x11008 = some .mrcLenMax ∧ mrcRegs.contains .mrcLenMax = true ∧ up.gate 0 0x11008 true = .serve ∧
      m.2.mrcOk (mrcRegs.map fun x => if x = .mrcLenMax then m.1 else m.2.reg x 0) = false) := by
  refine ⟨?_, ?_, ?_, ?_, ?_, ?_, ?_, ?_, ?_, ?_, ?_⟩ <;> decide +kernel

/-- Each clause of StrikeEvents has a state and operands that meet what it assumes, in the order of the clauses. -/
theorem witness_StrikeEvents :
    (let e := { entry1 with kind := .strike, strike := .acked };
    let s := runTx (fun _ => e) [];
    (s.qp 1).entry 0 = some e ∧ e.kind = .strike ∧ e.phase = .started) ∧
    (let e := { entry1 with kind := .strike, strike := .staged, maybeHeld := true };
    let s := runTx (fun _ => e) [];
    (s.qp 1).entry 0 = some e ∧ e.kind = .strike ∧ e.phase = .started) ∧
    (let e := { entry1 with kind := .strike, strike := .staged, maybeHeld := false };
    let s := runTx (fun _ => e) [{ txn .strikeTok .direct with outstanding := true }];
    (s.qp 1).entry 0 = some e ∧
      (s.txns.any fun x => decide (x.work = .entry 1 0) && decide (x.kind = .strikeTok) && (x.outstanding || decide (x.phase ≠ .start))) = true) ∧
    (let e := { entry1 with kind := .strike, strike := .staged, maybeHeld := false };
    let s := runTx (fun _ => e) [];
    (s.qp 1).entry 0 = some e ∧ s.txns = [] ∧ e.maybeHeld = false) ∧
    (let e := { entry1 with kind := .strike, strike := .withdrawing, wSent := true };
    let s := runTx (fun _ => e) [];
    (s.qp 1).entry 0 = some e) ∧
    (let e := { entry1 with kind := .strike, strike := .withdrawing, wSent := false, stage := 1 };
    let s := runTx (fun _ => e) [];
    (s.qp 1).entry 0 = some e) ∧
    (let e := { entry1 with kind := .strike, strike := .withdrawing, wSent := false, stage := 0, flags := 0 };
    let s := runTx (fun _ => e) [];
    (s.qp 1).entry 0 = some e ∧ e.flags.getLsbD 2 = false) ∧
    (let e := { entry1 with kind := .strike, strike := .settling };
    let s := runTx (fun _ => e) [];
    (s.qp 1).entry 0 = some e) ∧
    (let e := { entry1 with kind := .strike, strike := .readStatus, seq := 255, wStatus := 0 };
    let s := runTx (fun _ => e) [];
    let b : List Byte := [3, 0, 255] ++ List.replicate 13 0;
    (s.qp 1).entry 0 = some e ∧ b.length = 16 ∧ fieldAt b 0 1 % 4 = 3 ∧ fieldAt b 2 1 = e.seq ∧
      (s.strikePlace e).isSome = true) ∧
    (let b : List Byte := [1, 255] ++ List.replicate 14 0;
    b.length = 16 ∧ fieldAt b 0 1 % 4 = 1 ∧ fieldAt b 1 1 = 255) ∧
    (let b : List Byte := [2] ++ List.replicate 15 0;
    b.length = 16 ∧ fieldAt b 0 1 % 4 = 2) ∧
    (let e := { entry1 with kind := .strike, strike := .readStatus, seq := 255, wStatus := 0x25, tAct := 1000101, commitAt := 1000101 };
    let s := runTx (fun _ => e) [];
    (s.qp 1).entry 0 = some e ∧ e.wStatus ≠ 0 ∧ s.now.toNat < e.tAct.toNat ∧ s.now.toNat < e.commitAt.toNat) ∧
    (let e := { entry1 with kind := .strike, strike := .readStatus, seq := 255, wStatus := 0x25, tAct := 1000101, commitAt := 1000100 };
    let s := runTx (fun _ => e) [];
    (s.qp 1).entry 0 = some e ∧ e.wStatus ≠ 0 ∧ s.now.toNat < e.tAct.toNat ∧ e.commitAt.toNat ≤ s.now.toNat) ∧
    (let e := { entry1 with kind := .strike, strike := .readStatus, seq := 255, wStatus := 0x26, tAct := 1000100, wSent := true };
    let s := runTx (fun _ => e) [];
    (s.qp 1).entry 0 = some e ∧ e.wStatus ≠ 0 ∧ e.tAct.toNat ≤ s.now.toNat) := by
  refine ⟨?_, ?_, ?_, ?_, ?_, ?_, ?_, ?_, ?_, ?_, ?_, ?_, ?_, ?_⟩ <;> decide +kernel

/-- Each clause of HaltEvents has a state and operands that meet what it assumes, in the order of the clauses. -/
theorem witness_HaltEvents :
    (4 ≤ up.stage ∧ up.inHold = false ∧ up.getF Fld.pwrStateState 0 = 0 ∧ up.halt.stands = false) ∧
    ((up.setF Fld.gblBootStatusStage 0 3).stage < 4) ∧
    (let s : State := { run with halt := { run.halt with stands := true, due := [0, 1] } };
    s.halt.stands = true ∧ s.halt.due.contains (linkOf 0 .h) = true ∧ s.linkUp (linkOf 0 .h) = true ∧
      s.halt.due.contains (linkOf 0 .p) = true ∧ s.linkUp (linkOf 0 .p) = true ∧
      (∀ x ∈ s.txns, x.link = linkOf 0 .p → x.outstanding = false)) ∧
    (run.halt.due.contains (linkOf 15 .p) = false ∧ run.linkUp (linkOf 15 .p) = false) := by
  refine ⟨?_, ?_, ?_, ?_⟩ <;> decide +kernel

/-- Each clause of MillraceInputs has a state and operands that meet what it assumes, in the order of the clauses. -/
theorem witness_MillraceInputs :
    (up.samples = false ∧ up.reversed = false) ∧
    (let s : State := { up with mrc := { up.mrc with pars := 1 :: up.mrc.pars.drop 1 } };
    s.samples = true ∧ s.par.source ≠ 3) ∧
    (let s : State := { up with mrc := { up.mrc with pars := 13 :: up.mrc.pars.drop 1, speed := 1, lastTick := 0 } };
    s.samples = true ∧ s.par.source = 3 ∧ ({ s with time := { s.time with bus := 2 } } : State).syncSilent = true ∧
      ({ s with time := { s.time with bus := 1 } } : State).syncSilent = false) ∧
    (let s : State := { up with mrc := { up.mrc with pars := (1 :: up.mrc.pars.drop 1).set 5 0x00000010, furthest := 1000000 } };
    s.samples = true ∧ (s.setF Fld.mrcStatusDir 0 0).reversed = true) ∧
    ((up.setF Fld.mrcStatusSrcLost 0 1).bit Fld.mrcStatusSrcLost 0 = true ∧ up.bit Fld.mrcStatusSrcLost 0 = false) ∧
    (up.par.source = 0 ∧ quadStep (Tab.getD up.mrc.levels 0 (false, false)) (true, false) = some 1 ∧
      quadStep (Tab.getD up.mrc.levels 0 (false, false)) (true, true) = none ∧ up.par.source ≠ 1) ∧
    (let s := up.setF Fld.mrcStatusZSeen 0 1;
    let s : State := { s with mrc := { s.mrc with count := 5, index := 0, pars := s.mrc.pars.set 5 0x01000010 } };
    s.par.source = 0 ∧ s.par.zEn = true ∧ s.bit Fld.mrcStatusZSeen 0 = true ∧
      4 < offMultiple (5 + 1 - s.mrc.index) s.par.cprEff) ∧
    (let s : State := { up with mrc := { up.mrc with count := 20, index := 0, pars := up.mrc.pars.set 5 0x01000010 } };
    s.par.zEn = true ∧ 5 * s.par.cprEff < 4 * (20 + 1 - s.mrc.index).natAbs ∧
      ¬(5 * s.par.cprEff < 4 * (19 + 1 - s.mrc.index).natAbs)) ∧
    (up.pins.syncEdge = none ∧ up.par.source ≠ 3 ∧ (up.setF Fld.gblSyncCtrlInMode 0 3).getF Fld.gblSyncCtrlInMode 0 = 3 ∧
      up.getF Fld.gblSyncCtrlInMode 0 = 0) ∧
    (let s : State := { up with mrc := { up.mrc with pars := 12 :: up.mrc.pars.drop 1 } };
    s.pins.syncEdge = none ∧ s.par.source = 3 ∧ s.getF Fld.gblSyncCtrlInMode 0 = 0) ∧
    (let s : State := { (run.setF Fld.gblSyncCtrlOutMode 0 3).setF Fld.gblSyncCtrlDiv 0 1 with time := { run.time with bus := 1000002 } };
    s.syncBoundary = some 1000000 ∧ s.time.running = true ∧ s.pins.syncOut ≠ some 1000000 ∧
      s.now.toNat ≤ (BitVec.ofInt 64 (((1000000 : DWord).toNat : Int) + s.syncShift)).toNat + 2) ∧
    (run.getF Fld.gblSyncCtrlOutMode 0 = 0 ∧ up.time.running = false) := by
  refine ⟨?_, ?_, ?_, ?_, ?_, ?_, ?_, ?_, ?_, ?_, ?_, ?_⟩ <;> decide +kernel

/-- Each clause of KeeperEvents has a state and operands that meet what it assumes, in the order of the clauses. -/
theorem witness_KeeperEvents :
    (let s := run.setF Fld.gblTimeCtrlRemeasureS 0 1;
    s.getF Fld.gblTimeCtrlRemeasureS 0 ≠ 0 ∧ s.busRuns = true) ∧
    ((run.setF Fld.gblTimeCtrlRemeasureS 0 0).getF Fld.gblTimeCtrlRemeasureS 0 = 0) ∧
    (let s := (runPlace fun p => { p with hub := some hub4 }).setF Fld.gblHpCtrlPollFrames 0 10;
    let p := s.placeAt place0.route;
    let n := s.getF Fld.gblHpCtrlPollFrames 0;
    p.hubUp = true ∧ n ≠ 0 ∧ (p.hub.map (·.statusEp)).getD 0 ≠ 0 ∧ (s.ready = false ∨ s.hubContract p = false) ∧
      n ≤ (s.time.frame - p.pollAt).toNat ∧ (s.keeper.any fun k => k.route == place0.route && k.ep != 0) = false) ∧
    ((run.placeAt place0.route).hubUp = false ∧ 4 ≤ (List.replicate 4 (0 : Byte)).length) ∧
    (let s := runPlace fun p => { p with hub := some hub4, reads := [31] };
    let h := s.placeAt place0.route;
    h.hubUp = true ∧ h.reads.contains 31 = true ∧ s.keeper = [] ∧ (List.replicate 15 (0 : Byte)).length < 16) ∧
    (let s := run.setF Fld.gblBootStatusStage 0 3;
    s.busRuns = false) ∧
    (run.busRuns = true ∧ run.nextBringUp (linkOf 15 .p) = none) ∧
    (let s := runPlace fun p => { p with step := .queued };
    s.busRuns = true ∧ s.nextBringUp (linkOf 0 .h) = some place0.route ∧ parentOf place0.route = none) ∧
    (let r := childOf place0.route 1;
    let s := (runPlace fun p => { p with hub := some hub4 }).alter r fun p => { p with step := .queued, connected := true, cause := 0 };
    s.busRuns = true ∧ s.nextBringUp (linkOf 0 .h) = some r ∧ parentOf r = some place0.route) ∧
    (let s := run;
    (s.place place0.route) = some place0 ∧ place0.disabling = false ∧ place0.dozeExit = false ∧ place0.dozeAsked = false ∧
      place0.step = .none) ∧
    (let s := runPlace fun p => { p with step := .desc8 0 };
    ((s.place place0.route).map fun q => (q.disabling, q.dozeExit, q.dozeAsked, decide (q.step = .desc8 0))) = some (false, false, false, true) ∧
      s.keeper = [] ∧ KReq.answer none (.data (List.replicate 8 0)) = .data (List.replicate 8 0) ∧
      8 ≤ (List.replicate 8 (0 : Byte)).length) ∧
    (let s := runPlace fun p => { p with step := .setAddr 0 };
    ((s.place place0.route).map fun q => (q.disabling, q.dozeExit, q.dozeAsked, decide (q.step = .setAddr 0))) = some (false, false, false, true) ∧
      KReq.answer none .failed = .failed) ∧
    (let s := (runPlace fun p => { p with step := .waiting }).setF Fld.gblHpCtrlAdoptWait 0 1;
    (s.placeAt place0.route).isWaiting = true ∧ s.getF Fld.gblHpCtrlAdoptWait 0 ≠ 0) ∧
    ((run.placeAt place0.route).isWaiting = false) ∧
    (run.linkUp (2 * 15 + 1) = false ∧ run.linkUp 1 = true ∧ (∀ x ∈ run.txns, x.link = 1 → x.outstanding = false)) ∧
    (let r := childOf place0.route 1;
    let s := (runPlace fun p => { p with hub := some hub4 }).alter r fun p => { p with disabling := true };
    (s.placeAt r).disabling = true ∧ parentOf r = some place0.route) ∧
    ((run.placeAt place0.route).disabling = false) := by
  refine ⟨?_, ?_, ?_, ?_, ?_, ?_, ?_, ?_, ?_, ?_, ?_, ?_, ?_, ?_, ?_, ?_, ?_⟩ <;> decide +kernel

/-- Each clause of LaneEvents has a state and operands that meet what it assumes, in the order of the clauses. -/
theorem witness_LaneEvents :
    (run.getF Fld.prtLaneStatusHState 15 = 0 ∧ 4 ≤ run.stage ∧ run.inHold = false) ∧
    (run.getF Fld.prtLaneStatusHState 19 = 0 ∧ run.domainOn 10 = true ∧
      ((run.emit (.signal (laneLink 19) "detect")).link (laneLink 19)).attempts < 100) ∧
    (let s := run.modLink (laneLink 16) fun k => { k with attempts := 100 };
    s.getF Fld.prtLaneStatusHState 16 = 0 ∧ 100 ≤ ((s.emit (.signal (laneLink 16) "detect")).link (laneLink 16)).attempts) ∧
    ((run.setF Fld.prtLaneStatusHState 3 2).getF Fld.prtLaneStatusHState 3 = 2) ∧
    (let s := (run.setF Fld.prtLaneStatusHState 3 1).modLink (laneLink 3) fun k => { k with lock := 8, ts2 := 6 };
    s.getF Fld.prtLaneStatusHState 3 = 1 ∧ (s.link (laneLink 3)).resume = false ∧ (s.link (laneLink 3)).ts2 + 1 < 8 ∧
      (s.link (laneLink 3)).lock = 8) ∧
    (let s := (run.setF Fld.prtLaneStatusHState 3 1).modLink (laneLink 3) fun k => { k with lock := 7, ts2 := 0 };
    s.getF Fld.prtLaneStatusHState 3 = 1 ∧ (s.link (laneLink 3)).resume = false ∧ (s.link (laneLink 3)).ts2 = 0 ∧
      (s.link (laneLink 3)).lock < 8 ∧ 8 ≤ (s.link (laneLink 3)).lock + 1) ∧
    (let s := run.setF Fld.prtLaneStatusHState 3 2;
    let b := leBytes 4 0x32000000;
    s.hState 3 = 2 ∧ capOf ⟨b ++ [crc8 b], true⟩ = some 0x32000000) ∧
    (capOf ⟨[], true⟩ = none ∧ run.hState 0 ≠ 2) ∧
    (let s := run.setF Fld.prtLaneStatusHState 15 5;
    s.getF Fld.prtLaneStatusHState 15 = 5) ∧
    (let s := run.setF Fld.prtLaneStatusHState 16 2;
    s.getF Fld.prtLaneStatusHState 16 = 2) ∧
    (run.getF Fld.prtLaneStatusHState 0 = 3) ∧
    (run.linkUp (2 * 0) = true ∧ run.bit Fld.prtLaneStatusHRxDrowse 0 = false ∧ run.linkUp (2 * 15) = false) ∧
    (let s := (run.setF Fld.prtLaneStatusHState 0 4).modLink 0 fun k => { k with resetWaits := true };
    s.hState 0 = 4 ∧ s.role ≠ 3 ∧
      (((((s.setF Fld.prtLaneStatusHState 0 3).setF Fld.prtLaneStatusHBitLock 0 1).setF Fld.prtLaneStatusHSymLock 0 1).addF Fld.prtRideRideThrough 0 1).link 0).resetWaits = true) ∧
    (let s := run.setF Fld.prtLaneStatusHState 0 4;
    s.hState 0 = 4 ∧
      (((((s.setF Fld.prtLaneStatusHState 0 3).setF Fld.prtLaneStatusHBitLock 0 1).setF Fld.prtLaneStatusHSymLock 0 1).addF Fld.prtRideRideThrough 0 1).link 0).resetWaits = false) ∧
    (run.hState 0 = 3 ∧ run.role ≠ 3 ∧ (run.placeAt (rootRoute 0 .h)).cause = 0 ∧ (run.link (laneLink 0)).parked = false) ∧
    (let s := (runPlace fun p => { p with cause := 5 }).setF Fld.prtLaneStatusHState 0 0;
    s.hState 0 ≠ 6 ∧ s.role ≠ 3 ∧ (s.placeAt (rootRoute 0 .h)).cause ≠ 0) ∧
    (run.trains 15 .h = true ∧ run.hState 15 = 0 ∧ run.getF Fld.pwrStateState 0 ≤ 1 ∧
      (run.placeAt (rootRoute 15 .h)).cause = 0) ∧
    (run.trains 15 .p = true ∧ run.pState 15 = 0 ∧ (run.setF Fld.pwrStateState 0 1).getF Fld.pwrStateState 0 ≤ 1 ∧
      (run.placeAt (rootRoute 15 .p)).cause = 0 ∧ (run.placeAt (rootRoute 15 .p)).connected = false) := by
  refine ⟨?_, ?_, ?_, ?_, ?_, ?_, ?_, ?_, ?_, ?_, ?_, ?_, ?_, ?_, ?_, ?_, ?_, ?_⟩ <;> decide +kernel

/-- Each clause of PairEvents has a state and operands that meet what it assumes, in the order of the clauses. -/
theorem witness_PairEvents :
    ((run.setF Fld.prtLaneStatusPState 15 1).pState 15 = 1 ∧ run.pState 15 ≠ 1 ∧ run.pState 15 ≠ 2) ∧
    (let s := run.setF Fld.prtLaneStatusPState 15 2;
    s.pState 15 = 2 ∧ (s.link 31).attempts = 0) ∧
    (let s := (run.setF Fld.prtLaneStatusPState 15 2).modLink 31 fun k => { k with attempts := 2 };
    let b := leBytes 4 0x32000000;
    s.pState 15 = 2 ∧ capOf ⟨b ++ [crc8 b], true⟩ = some 0x32000000 ∧ (s.link 31).attempts < 3 ∧ (s.link 31).attempts ≠ 0 ∧
      capOf ⟨[], false⟩ = none) ∧
    (let s := (run.setF Fld.prtLaneStatusPState 15 2).modLink 31 fun k => { k with attempts := 3 };
    s.pState 15 = 2 ∧ 3 ≤ (s.link 31).attempts) ∧
    ((run.setF Fld.prtLaneStatusPState 15 5).pState 15 = 5 ∧
      ((run.setF Fld.prtLaneStatusPState 15 5).link 31).resumeEnded = false) ∧
    (run.chipState = 0 ∧ run.entryStep = 0 ∧ run.pState 0 = 3 ∧ (run.setF Fld.pwrStateState 0 1).chipState ≠ 0) ∧
    (let s := run.modLink 0 fun k => { k with parked := true };
    routeLink (rootRoute 0 .h) = 2 * 0 ∧ s.chipState ≠ 4 ∧ s.lowered = false ∧ s.entryStep = 0 ∧ (s.link 0).parked = true) ∧
    (let s := run.modLink 0 fun k => { k with resume := true };
    routeLink (rootRoute 0 .h) = 2 * 0 ∧ s.chipState ≠ 4 ∧ s.lowered = false ∧ (s.link 0).parked = false ∧
      (s.link 0).resume = true) ∧
    (routeLink (rootRoute 0 .h) = 2 * 0 ∧ (run.link 0).parked = false ∧ (run.link 0).resume = false) ∧
    (let s := run.setF Fld.prtLaneStatusPState 0 5;
    routeLink (rootRoute 0 .p) = 1 ∧ s.chipState ≠ 4 ∧ s.pState 0 = 5 ∧ s.lowered = false) ∧
    (let s := run.setF Fld.prtLaneStatusPState 0 4;
    s.pState 0 = 4 ∧ s.chipState = 0 ∧ s.lowered = false ∧ s.entryStep = 0 ∧ s.dozeTime 0 ≤ (s.now - (s.link 1).since).toNat) ∧
    (run.pState 0 ≠ 4 ∧ run.pState 0 ≠ 5 ∧ routeLink (rootRoute 0 .p) = 2 * 0 + 1) := by
  refine ⟨?_, ?_, ?_, ?_, ?_, ?_, ?_, ?_, ?_, ?_, ?_, ?_⟩ <;> decide +kernel

/-- Each clause of DrowseEvents has a state and operands that meet what it assumes, in the order of the clauses. -/
theorem witness_DrowseEvents :
    (run.linkUp (2 * 15) = false ∧ run.linkUp (2 * 0) = true) ∧
    (let s := run.modLink 0 fun k => { k with dirDrowse := true };
    s.linkUp 0 = true ∧ s.getF Fld.pwrStateEntryStep 0 < 2 ∧ (s.link 0).dirDrowse = true) ∧
    (let s := run.setF Fld.pwrStateEntryStep 0 2;
    s.linkUp 0 = true ∧ 2 ≤ s.getF Fld.pwrStateEntryStep 0) ∧
    (let s := ((run.modLink 0 fun k => { k with dirDrowse := true }).setF Fld.prtLaneCtrlHDrowseEn 0 1).setF Fld.prtLaneCtrlDrowseMin 0 2;
    s.linkUp 0 = true ∧ s.bit Fld.prtLaneStatusHTxDrowse 0 = false ∧ s.bit Fld.prtLaneCtrlHDrowseEn 0 = true ∧
      (s.link 0).dirDrowse = true ∧ s.getF Fld.pwrStateState 0 = 0 ∧ s.getF Fld.pwrStateEntryStep 0 = 0 ∧ s.role ≠ 3 ∧
      s.quietFor 0 = true) ∧
    (let s := run.setF Fld.prtLaneStatusHTxDrowse 0 1;
    s.linkUp 0 = true ∧ s.bit Fld.prtLaneStatusHTxDrowse 0 = true) ∧
    (let s := ((runTx id [{ txn .outTok .direct with tag := 7, unsent := true }]).setF Fld.prtLaneStatusHRxDrowse 0 1).modLink 0 fun k => { k with wakeReq := some 0 };
    s.linkUp 0 = true ∧ s.bit Fld.prtLaneStatusHRxDrowse 0 = true ∧ s.bit Fld.prtLaneStatusHTxDrowse 0 = false ∧
      (s.link 0).wakeReq.isSome = true ∧ ((s.outstanding 0).find? fun x => x.tag == 7 && x.unsent).isSome = true) ∧
    (run.bit Fld.prtLaneStatusHRxDrowse 0 = false ∧ (run.link 0).wakeReq = none) := by
  refine ⟨?_, ?_, ?_, ?_, ?_, ?_, ?_⟩ <;> decide +kernel

/-- Each clause of LaneTests has a state and operands that meet what it assumes, in the order of the clauses. -/
theorem witness_LaneTests :
    (let s := run.setF Fld.prtLaneCtrlSymThr 15 1;
    s.getF Fld.prtLaneCtrlSymThr 15 ≠ 0 ∧ s.getF Fld.prtLaneCtrlSymThr 15 < 2) ∧
    (run.gate 0 (laneOff 0 0x80 0x10) true = .serve ∧ run.gate 0 (laneOff 19 0x80 0x10) true = .serve) ∧
    (run.bit Fld.prtMarginStatBusy 0 = false) ∧
    (let s := (run.setF Fld.prtMarginStatBusy 0 1).modLink (laneLink 0) fun k => { k with scanDir := 2, scanStep := 29 };
    s.bit Fld.prtMarginStatBusy 0 = true ∧ (s.link (laneLink 0)).scanFar = false ∧ (s.link (laneLink 0)).scanStep < 30 ∧
      (s.link (laneLink 0)).scanDir < 3) ∧
    (let s := (run.setF Fld.prtMarginStatBusy 0 1).modLink (laneLink 0) fun k => { k with scanDir := 3 };
    s.bit Fld.prtMarginStatBusy 0 = true ∧ (s.link (laneLink 0)).scanFar = false ∧ 3 ≤ (s.link (laneLink 0)).scanDir) ∧
    (let s := (run.setF Fld.prtMarginStatBusy 0 1).modLink (laneLink 0) fun k => { k with scanFar := true };
    s.bit Fld.prtMarginStatBusy 0 = true ∧ (s.link (laneLink 0)).scanFar = true) ∧
    (let s := run;
    let v : Word := 1;
    let w := (s.mergeReg 0 (laneOff 0 0xC0 0x20) .prtTestCtrl 0 v 0).1;
    s.gate 0 (laneOff 0 0xC0 0x20) true = .serve ∧ getBits w 0 3 ≠ 0 ∧ getBits v 0 3 = getBits w 0 3 ∧
      s.sideEnabled 0 (getBits w 3 1 == 1) = true) ∧
    (run.gate 0 (laneOff 19 0xC0 0x20) true = .serve) ∧
    (let s := run.modLink (laneLink 0) fun k => { k with testIdle := true };
    (s.link (laneLink 0)).testIdle = true ∧ (s.link (testLink 0 true)).testIdle = false) ∧
    (run.checks 0 = false) ∧
    (let s := (run.setF Fld.prtTestCtrlChkEn 0 1).setF Fld.prtTestCtrlMode 0 4;
    s.checks 0 = true ∧ s.bit Fld.prtTestStatChkLock 0 = false ∧
      (s.setF Fld.prtTestStatChkLock 0 1).bit Fld.prtTestStatChkLock 0 = true) := by
  refine ⟨?_, ?_, ?_, ?_, ?_, ?_, ?_, ?_, ?_, ?_, ?_⟩ <;> decide +kernel

/-- Each clause of CommandRefusals has a state and operands that meet what it assumes, in the order of the clauses. -/
theorem witness_CommandRefusals :
    ((Instr.echo 0 (pkt [])).heldBack up = false ∧ (up.setF Fld.tenCmdCtrlEnable 0 0).takes rowEcho 0 = false) ∧
    (let s := up.setReg .gblWinAttr 0 0;
    s.takes rowEcho 0 = true ∧ s.windowOk 0 (s.cmdSlot 0) 64 false = false) ∧
    (let k := { pkt [] with session := 2 };
    up.takes rowEcho 0 = true ∧ up.windowOk 0 (up.cmdSlot 0) 64 false = true ∧
      ((up.taken 0).earlyCheck rowEcho 0 k).isSome = true) ∧
    (let k := { pkt (leBytes 8 0x1000) with flags := 1, plen := 8 };
    (up.taken 0).earlyCheck rowEcho 0 k = none ∧ ((up.taken 0).blockCheck rowEcho 0 k).2.isSome = true) ∧
    (let k := { pkt [] with outAddr := 0x1000 };
    (up.taken 0).earlyCheck rowEcho 0 k = none ∧ ((up.taken 0).blockCheck rowEcho 0 k).2 = none ∧ rowEcho.outLen = none ∧
      k.outAddr ≠ 0) ∧
    (let s := up.setF Fld.twnStatusRole 0 3;
    let k := pkt [];
    (s.taken 0).earlyCheck rowHaltEnd 0 k = none ∧ ((s.taken 0).blockCheck rowHaltEnd 0 k).2 = none ∧
      rowHaltEnd.paramsOk k.params = true ∧ k.outAddr = 0 ∧ (s.begun rowHaltEnd 0 k).role = 3 ∧ rowHaltEnd.standby = false) ∧
    (let s := upCfg fun c => { c with probation := true };
    let k := pkt (leBytes 2 10);
    (s.taken 0).earlyCheck rowCfgCommit 0 k = none ∧ rowCfgCommit.paramsOk k.params = true ∧
      (s.begun rowCfgCommit 0 k).role ≠ 3 ∧ (s.begun rowCfgCommit 0 k).cfg.probation = true ∧
      heldInProbation rowFwStage.op = true) := by
  refine ⟨?_, ?_, ?_, ?_, ?_, ?_, ?_⟩ <;> decide +kernel

/-- Each clause of RepliesAndEntries has a state and operands that meet what it assumes, in the order of the clauses. -/
theorem witness_RepliesAndEntries :
    (let r := CmdRes.ok up 0;
    r.wait = false ∧ r.silent = false ∧ r.st.flrBusy 255 = false ∧ rowEcho.jrn = false ∧ rowLedMark.jrn = true ∧
      up.mirrors = false) ∧
    (up.led.entries.length < 8192) := by
  refine ⟨?_, ?_⟩ <;> decide +kernel

/-- Each clause of FunctionEvents has a state and operands that meet what it assumes, in the order of the clauses. -/
theorem witness_FunctionEvents :
    (up.exists_ 255 = false ∧ up.exists_ 0 = true) ∧
    (let s : State := { up with pcie := { up.pcie with vfEnable := true, numVfs := 255 } };
    s.exists_ 255 = true ∧ s.flrBusy 255 = false ∧ 3 ≤ s.stage ∧ (s.setF Fld.gblTenStateFlrBusy 255 1).flrBusy 255 = true) ∧
    (let s := up.setF Fld.gblTenStateFlrBusy 255 1;
    s.flrBusy 255 = true ∧ 3 ≤ s.stage ∧ s.busQuiet 255 = true ∧ s.bit Fld.tenCisShareScrubbing 255 = false ∧
      s.cfg.removing.contains 255 = false) ∧
    ((up.setF Fld.tenCisShareScrubbing 255 1).bit Fld.tenCisShareScrubbing 255 = true ∧ up.pcie.vfEnable = false) := by
  refine ⟨?_, ?_, ?_, ?_⟩ <;> decide +kernel

/-- Each clause of CrierEvents has a state and operands that meet what it assumes, in the order of the clauses. -/
theorem witness_CrierEvents :
    (isLevel 0x3C0 = true ∧ isLevel 0x3BF = false ∧ (up.src 0x3C0).active = false) ∧
    (up.chosen 11 = none) ∧
    (let s := up.modSrc 0x3BF fun _ => ⟨true, 15, 11, true, false⟩;
    (s.chosen 11).map (·.1) = some 0x3BF) ∧
    (let s := (up.modSrc 0x3FF fun _ => ⟨true, 15, 11, true, false⟩).modShim 0x3FF fun h => { h with state := .sent };
    (s.chosen 11).map (·.1) = some 0x3FF ∧
      (((s.modSrc 0x3FF fun x => { x with pending := false, active := true }).modEng 11 fun g => { g with stack := (0x3FF, 15) :: g.stack }).shim 0x3FF).state = .sent) ∧
    (let s := up.modEng 11 fun g => { g with stack := [(0x3BF, 15)] };
    (s.eng 11).stack = [(0x3BF, 15)]) ∧
    (let s := (up.modEng 11 fun g => { g with stack := [(0x3C0, 15)] }).modShim 0x3C0 fun h => { h with state := .claimed };
    (s.eng 11).stack = [(0x3C0, 15)] ∧
      (((s.modSrc 0x3C0 fun x => { x with active := false }).modEng 11 fun g => { g with stack := [] }).shim 0x3C0).state = .claimed) ∧
    ((up.eng 11).stack = [] ∧ isLevel 0x3E7 = true ∧ (up.shim 0x3E7).state = .idle ∧ (up.shim 0x3F8).state = .idle) ∧
    ([ShimState.idle, .sent, .claimed].all fun st =>
      let h := (up.modShim 0x3E7 fun h => { h with state := st, polarity := true }).shim 0x3E7
      decide (h.state = st) && Shim.isActive { h with level := true } && !Shim.isActive { h with level := false }) = true := by
  refine ⟨?_, ?_, ?_, ?_, ?_, ?_, ?_, ?_⟩ <;> decide +kernel

/-- Each clause of PowerEvents has a state and operands that meet what it assumes, in the order of the clauses. -/
theorem witness_PowerEvents :
    (let s := up.setF Fld.pwrStateTarget 0 4;
    s.target ≠ 0 ∧ s.mayEnter s.target false = (s.mayEnter 4 false)) ∧
    (let s : State := { up.setF Fld.pwrStateTarget 0 1 with cmds := [] };
    s.target ≠ 0 ∧ s.mayEnter s.target false = true) ∧
    (up.target = 0 ∧ up.brace = false) ∧
    (let s : State := { up with cmds := [], cfg := { up.cfg with shadow := { up.cfg.shadow with autoIdle := 1 } } };
    s.cfg.shadow.autoIdle ≠ 0 ∧ s.target = 0 ∧ s.mayEnter 1 true = true) ∧
    (let s := upPower 0 1;
    s.brace = false ∧ s.entryStep = 1) ∧
    (let s : State := { upPower 2 5 with pcie := { up.pcie with perst := true } };
    s.brace = false ∧ s.entryStep = 5 ∧ s.pcie.perst = true ∧ s.blocker 0 = false ∧ s.blocker 1 = false ∧ s.target ≠ 4 ∧
      s.pwr.refused = false ∧ (s.setF Fld.pwrStateTarget 0 4).target = 4) ∧
    (let s := upPower 0 2;
    s.entryStep = 2 ∧ s.allParked = true ∧ s.pwr.idleAuto = false ∧ (s.setF Fld.pwrStateTarget 0 2).target = 2 ∧
      (s.setF Fld.pwrStateTarget 0 2).allParked = true ∧ (s.setF Fld.pwrStateTarget 0 1).target = 1 ∧
      (run.setF Fld.pwrStateEntryStep 0 2).allParked = false) ∧
    (let s := upPower 0 4;
    s.brace = false ∧ s.entryStep = 4) ∧
    (let w := fun n => ({ up with pwr := { up.pwr with returnStep := n } } : State);
    (w 9).pwr.returnStep = 9 ∧ (w 0).pwr.returnStep = 0 ∧ (w 7).pwr.thermal = false) ∧
    (let s : State := { upPower 2 5 with pwr := { up.pwr with refused := true } };
    s.pwr.refused = true ∧ s.chipState = 2 ∧ s.entryStep = 5) ∧
    (up.pwr.refused = false ∧ up.chipState < 3 ∧ (up.setF Fld.pwrSupplyBrace 0 1).brace = true ∧ 3 ≤ (upPower 3 0).chipState) ∧
    (let s : State := { up with pwr := { up.pwr with rising := 0x400 } };
    bitsOf s.pwr.rising 10 1 = 1) ∧
    (let s := up.setF Fld.pwrSupplyBrace 0 1;
    s.brace = true ∧ s.sec.burnWaits = [] ∧ s.sec.unlockWaits = false) := by
  refine ⟨?_, ?_, ?_, ?_, ?_, ?_, ?_, ?_, ?_, ?_, ?_, ?_, ?_⟩ <;> decide +kernel

/-- Each clause of WakeEvents has a state and operands that meet what it assumes, in the order of the clauses. -/
theorem witness_WakeEvents :
    ((upPower 4 0).chipState = 4 ∧ (upPower 2 0).chipState = 2 ∧ (upPower 1 0).chipState < 2 ∧ (upPower 1 0).entersLow = false) ∧
    (let s := (upPower 1 0).modLink 30 fun k => { k with parked := true };
    (s.link (2 * 15)).parked = true ∧ s.chipState ≠ 4 ∧ s.chipState ≠ 0 ∧
      (up.setF Fld.prtLaneStatusPState 15 4).pState 15 = 4) ∧
    ((up.link (2 * 15)).parked = false ∧ up.pState 15 ≠ 4) ∧
    (let s := upReg .pwrAlarmLo 0 9;
    s.alarm = 9 ∧ s.alarm ≠ 0 ∧ s.alarm.toNat ≤ (9 : DWord).toNat ∧ s.chipState ≠ 4 ∧ (8 : DWord).toNat < s.alarm.toNat ∧
      up.alarm = 0) ∧
    ((upPower 3 0).chipState = 3 ∧ up.chipState ≠ 3) ∧
    (up.pwr.returnStep = 0) := by
  refine ⟨?_, ?_, ?_, ?_, ?_, ?_⟩ <;> decide +kernel

/-- Each clause of ResetEvents has a state and operands that meet what it assumes, in the order of the clauses. -/
theorem witness_ResetEvents :
    ((upPower 2 0).chipState < 3 ∧ 3 ≤ (upPower 3 0).chipState ∧ (upPower 4 0).chipState = 4) ∧
    (up.cfg.restart = .none ∧ (upCfg fun c => { c with restart := .rollback }).cfg.restart = .rollback ∧
      (upCfg fun c => { c with restart := .activate }).cfg.restart = .activate) ∧
    (let s : State := { up with rst := { up.rst with asserted := true } };
    s.rst.asserted = true ∧ up.rst.asserted = false) ∧
    ((twin 2).member = true ∧ (twin 2).rst.asserted = false ∧ (twin 2).inHold = false ∧ up.member = false) ∧
    ((up.setF Fld.gblBootStatusStage 0 0).stage = 0 ∧ (up.setF Fld.gblBootStatusStage 0 1).stage = 1 ∧
      (up.setF Fld.gblBootStatusStage 0 2).stage = 2 ∧ (up.setF Fld.gblBootStatusStage 0 3).stage = 3 ∧
      (up.setF Fld.gblBootStatusStage 0 4).stage = 4 ∧ up.stage = 5 ∧ (up.setF Fld.gblBootStatusStage 0 6).inHold = true) := by
  refine ⟨?_, ?_, ?_, ?_, ?_⟩ <;> decide +kernel

/-- Each clause of FlashEvents has a state and operands that meet what it assumes, in the order of the clauses. -/
theorem witness_FlashEvents :
    (let s := upCfg fun c => { c with busy := some (chipCmd 0x0203 true) };
    s.cfg.busy = some (chipCmd 0x0203 true) ∧ (chipCmd 0x0203 true).flash = true ∧ s.brace = false ∧
      (chipCmd 0x0203 true).op ≠ 0x0201 ∧ (chipCmd 0x0203 true).op ≠ 0x0207) ∧
    (let s := upCfg fun c => { c with busy := some (chipCmd 0x0207 true) };
    s.cfg.busy = some (chipCmd 0x0207 true) ∧ (chipCmd 0x0207 true).op = 0x0207) ∧
    (let s := upCfg fun c => { c with busy := some (chipCmd 0x020A true) };
    s.cfg.busy = some (chipCmd 0x020A true) ∧ (chipCmd 0x020A true).op = 0x020A) ∧
    (up.cfg.busy = none) ∧
    (let s := upCfg fun c => { c with probation := true };
    s.cfg.dueRaised = false ∧ s.cfg.probation = true ∧ s.role ≠ 3 ∧ s.brace = false ∧ s.cfg.busy = none ∧ s.anyFlr = false ∧
      s.ready = true) ∧
    (let s := upCfg fun c => { c with trial := true };
    s.trialRuns = true ∧ s.ready = true ∧ up.trialRuns = false ∧ up.cfg.probation = false) ∧
    (let s := upCfg fun c => { c with eraseDue := [2] };
    s.brace = false ∧ s.cfg.eraseDue.contains 2 = true ∧ s.cfg.busy = none ∧ up.cfg.eraseDue.contains 2 = false) := by
  refine ⟨?_, ?_, ?_, ?_, ?_, ?_, ?_⟩ <;> decide +kernel

/-- Each clause of TwinEvents has a state and operands that meet what it assumes, in the order of the clauses. -/
theorem witness_TwinEvents :
    (up.twinUp = false ∧ up.member = false ∧ (twin 2).twinUp = true) ∧
    ((twin 2).twinQuiet = false ∧ ((twin 2).setF Fld.prtLaneStatusHTxDrowse 19 1).twinQuiet = true ∧
      ((twin 2).setF Fld.prtLaneStatusHTxDrowse 19 1).twinUp = true) ∧
    ((tookOf (twin 3) frame0).role = 3 ∧ (tookOf (twin 3) frame0).chipState = 0 ∧ (tookOf (twin 3) frame0).entryStep = 0 ∧
      (tookOf (twin 2) frame0).role = 2 ∧ (tookOf (twin 1) frame0).role = 1) ∧
    (let s : State := { twin 2 with twn := { (twin 2).twn with txSeq := 0x80000000 } };
    2 ^ 31 ≤ s.twn.txSeq.toNat ∧ s.twn.pendingKey = none ∧ s.twn.hello = [] ∧ s.twinUp = true) ∧
    ((twin 3).member = true ∧ (twin 3).chipState = 0 ∧ (twin 3).pwr.returnStep = 0 ∧
      (twin 3).bit Fld.twnStatusAliveIn 0 = false ∧
      ((twin 3).setF Fld.twnStatusAliveIn 0 1).bit Fld.twnStatusAliveIn 0 = true) ∧
    (let s := (twin 3).twinDown.twinEvent 3 (twin 3).twinDown.twinLanes (twin 3).twinDown.now.toNat;
    s.role = 3) ∧
    (let s : State := { (twin 2).setF Fld.prtLaneStatusHState 19 3 with twn := { (twin 2).twn with hello := [1] } };
    s.member = true ∧ s.domainOn 10 = true ∧ s.twinLanes ≠ 0 ∧ s.twn.hello ≠ [] ∧
      hello2.strap.val = s.getF Fld.twnStatusStrap 0) ∧
    (let s : State := { twin 1 with twn := { (twin 1).twn with partnerRole := 1 } };
    s.role = 1 ∧ 4 ≤ s.stage ∧ s.inHold = false ∧ s.twinUp = true ∧ s.twn.partnerRole = 1 ∧ s.getF Fld.twnStatusStrap 0 ≠ 1) ∧
    (let s : State := { twin 1 with twn := { (twin 1).twn with partnerRole := 2 } };
    s.role = 1 ∧ s.twinUp = true ∧ s.twn.partnerRole = 2) ∧
    (let s := (twin 1).setF Fld.twnStatusLinkUp 0 0;
    s.role = 1 ∧ s.twinUp = false ∧ s.bit Fld.twnStatusAliveIn 0 = false ∧ (twin 2).role ≠ 1) ∧
    (let s := upCfg fun c => { c with busy := some (chipCmd 0x0203 false) };
    s.cfg.busy = some (chipCmd 0x0203 false) ∧ (chipCmd 0x0203 false).op = 0x0203 ∧ (chipCmd 0x0203 false).flash = false) ∧
    (let s := ((twin 3).setF Fld.twnStatusLinkUp 0 0).setF Fld.twnStatusAliveIn 0 1;
    let u := s.setF Fld.twnStatusAliveIn 0 0;
    s.member = true ∧ s.bit Fld.twnStatusAliveIn 0 = true ∧ u.role = 3 ∧ u.chipState = 0 ∧ u.entryStep = 0 ∧ u.twinUp = false) ∧
    ((up.setF Fld.twnStatusAliveOut 0 1).bit Fld.twnStatusAliveOut 0 = true ∧
      (up.setF Fld.twnStatusAliveOut 0 0).bit Fld.twnStatusAliveOut 0 = false) := by
  refine ⟨?_, ?_, ?_, ?_, ?_, ?_, ?_, ?_, ?_, ?_, ?_, ?_⟩ <;> decide +kernel

/-- Each clause of SecurityAndSmbusEvents has a state and operands that meet what it assumes, in the order of the clauses. -/
theorem witness_SecurityAndSmbusEvents :
    ((up.setF Fld.pwrVotersDomainsOn 0 0).domainOn 5 = false ∧ up.domainOn 5 = true ∧ up.rst.asserted = false) ∧
    (up.tapUnlock = true ∧ up.domainOn 5 = true ∧ (up.setF Fld.secStatusLifecycle 0 3).tapUnlock = false) ∧
    (up.lifecycle = 0 ∧ up.rst.asserted = false ∧ (up.setF Fld.secStatusCfgKeyValid 0 1).getF Fld.secStatusCfgKeyValid 0 ≠ 0 ∧
      (up.setF Fld.secStatusCfgKeyValid 0 0).getF Fld.secStatusCfgKeyValid 0 = 0 ∧
      (up.setF Fld.secStatusLifecycle 0 1).lifecycle ≠ 0) ∧
    (up.smbUp = true ∧ up.pins.alert = 0 ∧ 60 ≤ (60 : Byte).toNat ∧ (125 : Byte).toNat ≤ 125 ∧ (59 : Byte).toNat < 60 ∧
      125 < (126 : Byte).toNat ∧ 8 ≤ (8 : Byte).toNat) ∧
    ((upPower 3 0).smbUp = false) := by
  refine ⟨?_, ?_, ?_, ?_, ?_⟩ <;> decide +kernel

end Sys2Proof.Tests
end

section
/-!
PROOFS. Narrow and misaligned accesses (R5): what an access of another shape than an aligned doubleword or quadword comes to, and
the bytes that a narrow read packs into its answer.
-/
namespace Sys2Proof.Machine

/-! ### Bytes packed least significant first -/

/-- A number packed from n bytes is the number with these base-256 digits. -/
theorem sum_bytes_eq_ofDigits (f : Nat → Nat) (n : Nat) :
    ((List.range n).map fun k => f k * 256 ^ k).sum = Nat.ofDigits 256 ((List.range n).map f) := by
  rw [Nat.ofDigits_eq_sum_mapIdx]
  congr 1
  exact List.ext_getElem (by simp) (by simp)

/-- Byte k of the digits of a number below base 256 is its digit k. -/
theorem ofDigits_byte {L : List Nat} (hL : ∀ x ∈ L, x < 256) {k : Nat} (hk : k < L.length) :
    Nat.ofDigits 256 L / 256 ^ k % 256 = L[k] := by
  rw [Nat.ofDigits_div_pow_eq_ofDigits_drop k (by decide) L hL, List.drop_eq_getElem_cons hk, Nat.ofDigits_cons,
    Nat.add_mul_mod_self_left, Nat.mod_eq_of_lt (hL _ (L.getElem_mem hk))]

/-- A doubleword packed from at most 8 bytes returns each of them. -/
theorem packed_byte {f : Nat → Nat} (hf : ∀ k, f k < 256) {n k : Nat} (hn : n ≤ 8) (hk : k < n) :
    (BitVec.ofNat 64 ((List.range n).map fun k => f k * 256 ^ k).sum).toNat / 256 ^ k % 256 = f k := by
  have hL : ∀ x ∈ (List.range n).map f, x < 256 := by
    intro x hx
    obtain ⟨j, -, rfl⟩ := List.mem_map.1 hx
    exact hf j
  have hfit : Nat.ofDigits 256 ((List.range n).map f) < 2 ^ 64 :=
    calc Nat.ofDigits 256 ((List.range n).map f)
        < 256 ^ ((List.range n).map f).length := Nat.ofDigits_lt_base_pow_length (by decide) hL
      _ = 256 ^ n := by simp
      _ ≤ 256 ^ 8 := Nat.pow_le_pow_right (by decide) hn
      _ = 2 ^ 64 := by decide
  rw [sum_bytes_eq_ofDigits, BitVec.toNat_ofNat, Nat.mod_eq_of_lt hfit, ofDigits_byte hL (by simpa using hk)]
  simp

/-- What a narrow read returns for one address is a byte. -/
theorem State.peekByte_lt (s : State) (fn a : Nat) : s.peekByte fn a < 256 := by
  unfold State.peekByte
  split
  · exact Nat.mod_lt _ (by decide)
  · decide

/-! ### Accesses that are not aligned doublewords or quadwords -/

/-- A well-formed write is made: the command's own check of the access is the one of well-formedness. -/
theorem exec_registerWrite_of_accessWf {s : State} {fn : Fin 256} {off size : Nat} (v : DWord) (hw : Word)
    (h : accessWf fn off size = true) :
    exec (.registerWrite fn off size v hw) s = .next (settle (s.writeAcc fn off size v hw)) :=
  congrArg done (if_pos h)

/-- A well-formed read is made. -/
theorem exec_rcFieldRead_of_accessWf {s : State} {fn : Fin 256} {off size : Nat} (add : DWord)
    (h : accessWf fn off size = true) :
    exec (.rcFieldRead fn off size add) s = .next (settle (s.readAcc fn off size add)) :=
  congrArg done (if_pos h)

/-- A well-formed access has at most 8 bytes. -/
theorem size_le_of_accessWf {fn off size : Nat} (h : accessWf fn off size = true) : size ≤ 8 := by
  simp only [accessWf, Bool.and_eq_true, decide_eq_true_eq] at h
  obtain ⟨⟨-, hle⟩, -⟩ := h
  exact hle

section
variable {s : State} {fn off size : Nat}

/-- A write of another shape is a narrow one. -/
theorem State.writeAcc_narrow (v : DWord) (hw : Word) (h4 : ¬(size = 4 ∧ off % 4 = 0)) (h8 : ¬(size = 8 ∧ off % 8 = 0)) :
    s.writeAcc fn off size v hw = s.narrowWrite fn off := by
  rw [State.writeAcc, if_neg h4, if_neg h8]

/-- A read of another shape is a narrow one, after which the events of its clock count at the two doublewords it may touch. -/
theorem State.readAcc_narrow (add : DWord) (h4 : ¬(size = 4 ∧ off % 4 = 0)) (h8 : ¬(size = 8 ∧ off % 8 = 0)) :
    s.readAcc fn off size add = ((s.narrowRead fn off size).countAt fn (off / 4 * 4) (add.setWidth 32)).countAt fn
      (off / 4 * 4 + 4) ((add >>> 32).setWidth 32) := by
  rw [State.readAcc, if_neg h4, if_neg h8]
  rfl

/-- Where nothing turns it away, a narrow write is an ACCESS fault and nothing else. -/
theorem State.narrowWrite_serve (hg : s.fnGate fn = .serve) (hd : s.gate fn (off / 4 * 4) true ≠ .dark) :
    s.narrowWrite fn off = s.busFault fn off 0 := by
  unfold State.narrowWrite
  rw [hg]
  exact if_neg hd

/-- Where the function answers, a narrow read returns the bytes it addresses. -/
theorem State.narrowRead_serve (hg : s.fnGate fn = .serve) (hn : size ≤ 8) :
    ∃ x : DWord, s.narrowRead fn off size = s.emit (.readData fn off x) ∧
      ∀ k, k < size → x.toNat / 256 ^ k % 256 = s.peekByte fn (off + k) := by
  refine ⟨_, ?_, fun k hk => packed_byte (fun j => s.peekByte_lt fn (off + j)) hn hk⟩
  rw [State.narrowRead, hg, if_neg (by decide)]

end

end Sys2Proof.Machine

namespace Sys2Proof
open Machine

/-- Settles O8: an access of another shape than an aligned doubleword or quadword takes the narrow branch of the write and of
the read, and the bytes of a narrow read are the base-256 digits of what it returns (R5). -/
theorem narrowAccesses : Obligations.NarrowAccesses := by
  intro s fn off size v hw add hwf h4 h8 hg
  constructor
  · intro hd
    rw [exec_registerWrite_of_accessWf v hw hwf, State.writeAcc_narrow v hw h4 h8, State.narrowWrite_serve hg hd]
  · obtain ⟨x, hread, hbytes⟩ := State.narrowRead_serve (off := off) hg (size_le_of_accessWf hwf)
    refine ⟨x, ?_, hbytes⟩
    rw [exec_rcFieldRead_of_accessWf add hwf, State.readAcc_narrow add h4 h8, hread]

end Sys2Proof
end

section
/-!
PROOFS. Aligned 32-bit accesses that Table 19-9 turns away: the gate that each of its rows gives, in their order (R458), and what
an access whose gate does not serve it comes to (R12).
-/
namespace Sys2Proof.Machine

/-! ### The rows of Table 19-9, the first that applies deciding -/

section
variable {s : State} {fn : Nat}

/-- The function of an access does not exist or is in D3hot. -/
def State.fnGone (s : State) (fn : Nat) : Prop := s.exists_ fn = false ∨ Tab.getD s.pcie.d3 fn false = true

/-- The gate's own test of the first row. -/
theorem State.fnGone_iff : s.fnGone fn ↔ (!s.exists_ fn || Tab.getD s.pcie.d3 fn false) = true := by
  rw [State.fnGone, Bool.or_eq_true, Bool.not_eq_true']

/-- The first row. -/
theorem State.gate_of_fnGone (hg : s.fnGone fn) (off : Nat) (wr : Bool) : s.gate fn off wr = .unsupported :=
  if_pos (State.fnGone_iff.1 hg)

/-- In hold, the answer of R12 except at the three registers that are read there (R378). -/
theorem State.gate_in_hold (hg : ¬s.fnGone fn) (hh : s.inHold = true) {off : Nat} {wr : Bool}
    (hoff : (!wr && (off / 4 == 0 || off / 4 == 2 || off / 4 == 3)) = false) : s.gate fn off wr = .dark := by
  rw [State.gate, if_neg (mt State.fnGone_iff.2 hg), if_pos hh, hoff]
  rfl

/-- Outside of hold, the rows after it decide. -/
theorem State.gate_out_of_hold (hg : ¬s.fnGone fn) (hh : s.inHold = false) (off : Nat) (wr : Bool) :
    s.gate fn off wr =
      if s.stage < 3 then (if s.rst.keepLink then .nothing else .unsupported)
      else if s.flrBusy fn then .nothing
      else ((s.serving fn off).map fun d => if s.domainOn d then .serve else .dark).getD .nothing := by
  rw [State.gate, if_neg (mt State.fnGone_iff.2 hg), if_neg (by simp [hh])]
  cases s.serving fn off <;> rfl

/-- Before stage 3, whether the host link was kept decides (R369, R376). -/
theorem State.gate_before_stage3 (hg : ¬s.fnGone fn) (hh : s.inHold = false) (hs : s.stage < 3) (off : Nat) (wr : Bool) :
    s.gate fn off wr = if s.rst.keepLink then .nothing else .unsupported := by
  rw [State.gate_out_of_hold hg hh, if_pos hs]

/-- A function under reset (R317). -/
theorem State.gate_of_flrBusy (hg : ¬s.fnGone fn) (hh : s.inHold = false) (hs : 3 ≤ s.stage) (hf : s.flrBusy fn = true)
    (off : Nat) (wr : Bool) : s.gate fn off wr = .nothing := by
  rw [State.gate_out_of_hold hg hh, if_neg (Nat.not_lt.2 hs), if_pos hf]

/-- Where no row about the function applies, the domain that serves the offset decides. -/
theorem State.gate_of_serving (hg : ¬s.fnGone fn) (hh : s.inHold = false) (hs : 3 ≤ s.stage) (hf : s.flrBusy fn = false)
    (off : Nat) (wr : Bool) :
    s.gate fn off wr = ((s.serving fn off).map fun d => if s.domainOn d then .serve else .dark).getD .nothing := by
  rw [State.gate_out_of_hold hg hh, if_neg (Nat.not_lt.2 hs), if_neg (by simp [hf])]

end

/-! ### Aligned 32-bit accesses that the gate does not serve -/

section
variable {s : State} {fn : Fin 256} {off : Nat} {g : Gate}

/-- Such a write is turned away. -/
theorem State.writeAcc_turnedAway (v : DWord) (hw : Word) (ha : off % 4 = 0) (hg : s.gate fn off true = g) (hn : g ≠ .serve) :
    s.writeAcc fn off 4 v hw = s.turnedAway g fn off true := by
  rw [State.writeAcc, if_pos ⟨rfl, ha⟩, State.write32, State.gated, hg]
  cases g with
  | serve => exact absurd rfl hn
  | unsupported => rfl
  | nothing => rfl
  | dark => rfl

/-- Such a read is turned away. -/
theorem State.readAcc_turnedAway (add : DWord) (ha : off % 4 = 0) (hg : s.gate fn off false = g) (hn : g ≠ .serve) :
    s.readAcc fn off 4 add = s.turnedAway g fn off false := by
  rw [State.readAcc, if_pos ⟨rfl, ha⟩, State.read32, hg]
  cases g with
  | serve => exact absurd rfl hn
  | unsupported => rfl
  | nothing => rfl
  | dark => rfl

/-- The command of such a write. -/
theorem exec_registerWrite_turnedAway (v : DWord) (hw : Word) (hwf : accessWf fn off 4 = true) (ha : off % 4 = 0)
    (hg : s.gate fn off true = g) (hn : g ≠ .serve) :
    exec (.registerWrite fn off 4 v hw) s = .next (settle (s.turnedAway g fn off true)) := by
  rw [exec_registerWrite_of_accessWf v hw hwf, State.writeAcc_turnedAway v hw ha hg hn]

/-- The command of such a read. -/
theorem exec_rcFieldRead_turnedAway (add : DWord) (hwf : accessWf fn off 4 = true) (ha : off % 4 = 0)
    (hg : s.gate fn off false = g) (hn : g ≠ .serve) :
    exec (.rcFieldRead fn off 4 add) s = .next (settle (s.turnedAway g fn off false)) := by
  rw [exec_rcFieldRead_of_accessWf add hwf, State.readAcc_turnedAway add ha hg hn]

/-- Both commands, where the gate does not tell a read from a write. -/
theorem exec_access_turnedAway (v : DWord) (hw : Word) (add : DWord) (hwf : accessWf fn off 4 = true) (ha : off % 4 = 0)
    (hg : ∀ wr, s.gate fn off wr = g) (hn : g ≠ .serve) :
    exec (.registerWrite fn off 4 v hw) s = .next (settle (s.turnedAway g fn off true)) ∧
    exec (.rcFieldRead fn off 4 add) s = .next (settle (s.turnedAway g fn off false)) :=
  ⟨exec_registerWrite_turnedAway v hw hwf ha (hg true) hn, exec_rcFieldRead_turnedAway add hwf ha (hg false) hn⟩

end

end Sys2Proof.Machine

namespace Sys2Proof
open Machine

/-- Settles O11: each row of Table 19-9 fixes the gate of an access, and an access whose gate does not serve it is turned away
as that gate says. -/
theorem accessesTurnedAway : Obligations.AccessesTurnedAway := by
  intro s fn off v w add hwf ha gone W R dark
  have away {g : Gate} := exec_access_turnedAway (s := s) (g := g) v w add hwf ha
  refine ⟨?unsupported, fun hg hh => ⟨?writeInHold, ?readInHold⟩, fun hg hh hs => ⟨?linkKept, ?linkLost⟩, ?underReset,
    ?domainOff, ?noBlock⟩
  case unsupported => exact fun hg => away (State.gate_of_fnGone hg off) nofun
  case writeInHold => exact exec_registerWrite_turnedAway v w hwf ha (State.gate_in_hold hg hh rfl) nofun
  case readInHold =>
    intro h0 h8 h12
    have hother : (!false && (off / 4 == 0 || off / 4 == 2 || off / 4 == 3)) = false := by
      simp only [Bool.not_false, Bool.true_and, Bool.or_eq_false_iff, beq_eq_false_iff_ne]
      omega
    exact exec_rcFieldRead_turnedAway add hwf ha (State.gate_in_hold hg hh hother) nofun
  case linkKept => exact fun hk => away (fun wr => (State.gate_before_stage3 hg hh hs off wr).trans (if_pos hk)) nofun
  case linkLost =>
    intro hk
    exact away (fun wr => (State.gate_before_stage3 hg hh hs off wr).trans (if_neg (by simp [hk]))) nofun
  case underReset => exact fun hg hh hs hf => away (State.gate_of_flrBusy hg hh hs hf off) nofun
  case domainOff =>
    intro hg hh hs hf d hd hoff
    exact away (g := .dark) (fun wr => by simp [State.gate_of_serving hg hh hs hf, hd, hoff]) nofun
  case noBlock =>
    intro hg hh hs hf hd
    exact away (g := .nothing) (fun wr => by simp [State.gate_of_serving hg hh hs hf, hd]) nofun

end Sys2Proof
end

section
/-!
PROOFS. The doorbells of a queue pair (R144 to R147, R158, R324): the windows that the index arithmetic accepts, the register that
an offset of the doorbell area names, and what each doorbell does with a value.
-/
namespace Sys2Proof.Machine

/-! ### The windows of ring indices (R145 to R147) -/

/-- The entries between two indices, as the spec writes them. -/
theorem idxCount_eq (prod cons : Half) : idxCount prod cons = (prod.toNat + 65536 - cons.toNat) % 65536 := by
  simp only [idxCount, BitVec.toNat_sub]
  have := cons.isLt
  omega

/-- The value of a doorbell is the low half of the word written. -/
theorem idxCount_setWidth (v : Word) (cons : Half) :
    idxCount (v.setWidth 16) cons = (v.toNat + 65536 - cons.toNat) % 65536 := by
  rw [idxCount_eq, BitVec.toNat_setWidth]
  have := cons.isLt
  omega

/-- R146: from the entries posted up to the size of the ring. -/
theorem sqDbOk_iff {v prod cons : Half} {size : Nat} :
    sqDbOk v prod cons size = true ↔ idxCount v cons ≤ size ∧ idxCount prod cons ≤ idxCount v cons := by
  simp [sqDbOk]

/-- R147: up to the published head. -/
theorem cqDbOk_iff {v head cons : Half} : cqDbOk v head cons = true ↔ idxCount v cons ≤ idxCount head cons := by
  simp [cqDbOk]

/-! ### The doorbell area (R451) -/

/-- The first word of a queue pair's place in the doorbell area. -/
theorem spotAt_qpSqDb (fn : Nat) (q : Fin 4096) : spotAt fn (0x8000 + 8 * q) = .reg .qpSqDb q := by
  have := q.isLt
  unfold spotAt
  rw [if_neg (by omega), if_neg (by split <;> omega), if_neg (by omega), if_pos (by omega), if_pos (by omega)]
  congr 1
  omega

/-- The second word. -/
theorem spotAt_qpCqDb (fn : Nat) (q : Fin 4096) : spotAt fn (0x8004 + 8 * q) = .reg .qpCqDb q := by
  have := q.isLt
  unfold spotAt
  rw [if_neg (by omega), if_neg (by split <;> omega), if_neg (by omega), if_pos (by omega), if_neg (by omega)]
  congr 1
  omega

section
variable {s : State} {fn : Fin 256} {q : Fin 4096}

/-- A write that the gate serves reaches the layout. -/
theorem State.write32_serve {off : Nat} (hg : s.gate fn off true = .serve) (v hw : Word) :
    s.write32 fn off v hw = s.writeSpot fn off v hw := by
  rw [State.write32, State.gated, hg]

/-- A submission doorbell that the gate serves: the owner's value counts, anybody else is foreign (R324, R451). -/
theorem exec_qpSqDbWrite_serve (hg : s.gate fn (0x8000 + 8 * q) true = .serve) (v : Word) :
    exec (.qpSqDbWrite fn q v) s =
      .next (settle (if s.ownsQp fn q then s.sqDoorbell q (v.setWidth 16) else s.foreign fn)) := by
  change done (s.write32 fn (0x8000 + 8 * q) v 0) = _
  rw [State.write32_serve hg, State.writeSpot, spotAt_qpSqDb]
  rfl

/-- A completion doorbell that the gate serves; the owner's is followed by the delivery of what a standing area holds (R102). -/
theorem exec_qpCqDbWrite_serve (hg : s.gate fn (0x8004 + 8 * q) true = .serve) (v : Word) :
    exec (.qpCqDbWrite fn q v) s =
      .next (settle (if s.ownsQp fn q then (s.cqDoorbell q (v.setWidth 16)).deliver q else s.foreign fn)) := by
  change done (s.write32 fn (0x8004 + 8 * q) v 0) = _
  rw [State.write32_serve hg, State.writeSpot, spotAt_qpCqDb]
  rfl

end

section
variable {s : State} {fn q : Nat} {v : Half}

/-- The owner test of a doorbell. -/
theorem State.ownsQp_iff : s.ownsQp fn q = true ↔ (s.qp q).owner = some fn := beq_iff_eq

/-! ### The submission doorbell (R144, R146) -/

/-- A new value inside the window is posted. -/
theorem State.sqDoorbell_accepted (hst : (s.qp q).state = .running ∨ (s.qp q).state = .halted)
    (hok : sqDbOk v (s.qp q).sqProd (s.qp q).sqCons (s.qp q).sqSize = true) (hne : v ≠ (s.qp q).sqProd) :
    s.sqDoorbell q v = { s with
      qps := Tab.set s.qps q { s.qp q with sqProd := v, doorbells := (s.qp q).doorbells ++ [(v, s.dma.dbNext)] }
      dma := { s.dma with dbNext := s.dma.dbNext + 1 } } := by
  simp only [State.sqDoorbell, if_pos hst, if_pos hok, if_neg hne]

/-- The current value is accepted without effect. -/
theorem State.sqDoorbell_unchanged (hst : (s.qp q).state = .running ∨ (s.qp q).state = .halted)
    (hok : sqDbOk v (s.qp q).sqProd (s.qp q).sqCons (s.qp q).sqSize = true) (heq : v = (s.qp q).sqProd) :
    s.sqDoorbell q v = s := by
  simp only [State.sqDoorbell, if_pos hst, if_pos hok, if_pos heq]

/-- Any other write is a doorbell fault. -/
theorem State.sqDoorbell_refused (h : ¬(((s.qp q).state = .running ∨ (s.qp q).state = .halted) ∧
    sqDbOk v (s.qp q).sqProd (s.qp q).sqCons (s.qp q).sqSize = true)) : s.sqDoorbell q v = s.dbFault q := by
  unfold State.sqDoorbell
  extract_lets p
  split
  · rename_i hst
    exact if_neg fun hok => h ⟨hst, hok⟩
  · rfl

/-! ### The completion doorbell (R147, R158) -/

/-- A value up to the published head becomes the consumer index, and held completions take the slots it frees. -/
theorem State.cqDoorbell_accepted (hst : ¬((s.qp q).state = .disabled ∨ (s.qp q).state = .faulted))
    (hok : cqDbOk v (s.qp q).headIdx (s.qp q).cqCons = true) :
    s.cqDoorbell q v = ((s.writesLeave.setQp q { s.qp q with cqCons := v }).drainHolding q).drainCheck q := by
  simp only [State.cqDoorbell, if_neg hst, if_pos hok]

/-- Any other write is a doorbell fault. -/
theorem State.cqDoorbell_refused (h : ¬(¬((s.qp q).state = .disabled ∨ (s.qp q).state = .faulted) ∧
    cqDbOk v (s.qp q).headIdx (s.qp q).cqCons = true)) : s.cqDoorbell q v = s.dbFault q := by
  unfold State.cqDoorbell
  extract_lets p
  split
  · rfl
  · rename_i hst
    exact if_neg fun hok => h ⟨hst, hok⟩

/-! ### What follows an accepted completion doorbell does nothing for a queue pair that has nothing waiting -/

@[simp] theorem State.qp_setQp_same (s : State) (q : Nat) (p : Qp) : (s.setQp q p).qp q = p := by
  simp [State.qp, State.setQp]

/-- With nothing held, no completion moves (R158). -/
theorem State.drainHolding_of_holding_nil (h : (s.qp q).holding = []) : s.drainHolding q = s := by
  unfold State.drainHolding
  exact if_pos (.inl (by simp [h]))

/-- Outside Draining and an abort, nothing ends (R161). -/
theorem State.drainCheck_of_running (hst : (s.qp q).state = .running) (ha : (s.qp q).aborting = false) :
    s.drainCheck q = s := by
  simp [State.drainCheck, hst, ha]

/-- Without a contract there is no standing area to deliver from (R102). -/
theorem State.deliver_of_contract_none (h : (s.qp q).contract = none) : s.deliver q = s := by
  simp [State.deliver, State.boundContract, h]

end

end Sys2Proof.Machine

namespace Sys2Proof
open Machine

/-- Settles O12: the window of R146 is the model's index arithmetic, and the doorbell has one lemma for each of its outcomes. -/
theorem submissionDoorbell : Obligations.SubmissionDoorbell := by
  intro s fn q v hg p n posted takes
  have hwindow : sqDbOk (v.setWidth 16) p.sqProd p.sqCons p.sqSize = true ↔ n ≤ p.sqSize ∧ posted ≤ n := by
    rw [sqDbOk_iff, idxCount_setWidth, idxCount_eq]
  rw [exec_qpSqDbWrite_serve hg]
  refine ⟨fun ho => ?foreign, fun ho ht hn hp hv => ?accepted, fun ho ht hv hn => ?unchanged, fun ho h => ?refused⟩
  case foreign => rw [if_neg (mt State.ownsQp_iff.1 ho)]
  case accepted => rw [if_pos (State.ownsQp_iff.2 ho), State.sqDoorbell_accepted ht (hwindow.2 ⟨hn, hp⟩) hv]
  case unchanged =>
    have hposted : posted = n :=
      calc posted = idxCount p.sqProd p.sqCons := (idxCount_eq _ _).symm
        _ = idxCount (v.setWidth 16) p.sqCons := by rw [hv]
        _ = n := idxCount_setWidth _ _
    rw [if_pos (State.ownsQp_iff.2 ho), State.sqDoorbell_unchanged ht (hwindow.2 ⟨hn, hposted.le⟩) hv]
  case refused =>
    rw [if_pos (State.ownsQp_iff.2 ho), State.sqDoorbell_refused (by rwa [hwindow])]
    rfl

/-- Settles O13: the window of R147 is the model's index arithmetic; with nothing held, draining or bound to a contract, what
follows an accepted value changes nothing. -/
theorem completionDoorbell : Obligations.CompletionDoorbell := by
  intro s fn q v hg p n head on
  have hwindow : cqDbOk (v.setWidth 16) p.headIdx p.cqCons = true ↔ n ≤ head := by
    rw [cqDbOk_iff, idxCount_setWidth, idxCount_eq]
  rw [exec_qpCqDbWrite_serve hg]
  refine ⟨fun ho => ?foreign, fun ho hon hn => ?accepted, fun ho h => ?refused⟩
  case foreign => rw [if_neg (mt State.ownsQp_iff.1 ho)]
  case accepted =>
    rw [if_pos (State.ownsQp_iff.2 ho), State.cqDoorbell_accepted hon (hwindow.2 hn)]
    refine ⟨rfl, fun hh hst ha hc => ?_⟩
    have hq := State.qp_setQp_same s.writesLeave q { p with cqCons := v.setWidth 16 }
    rw [State.drainHolding_of_holding_nil ((congrArg Qp.holding hq).trans hh),
      State.drainCheck_of_running ((congrArg Qp.state hq).trans hst) ((congrArg Qp.aborting hq).trans ha),
      State.deliver_of_contract_none ((congrArg Qp.contract hq).trans hc)]
  case refused =>
    rw [if_pos (State.ownsQp_iff.2 ho), State.cqDoorbell_refused (by rwa [hwindow])]
    rfl

end Sys2Proof
end

section
/-!
PROOFS. The queue of commands and the end of a step: what settle restates, and that no command has the queue among what it changes.
-/
namespace Sys2Proof.Machine

/-! ### The end of a step -/

theorem Qp.settleBp_bp (q : Qp) : q.settleBp.bp = q.settleBp.bpNow := by
  have h : q.settleBp.bpNow = q.bpNow := by unfold Qp.settleBp; (repeat' split) <;> rfl
  rw [h]
  unfold Qp.settleBp
  (repeat' split) <;> simp_all

/-- A queue pair whose flag agrees is left as it is. -/
theorem Qp.settleBp_of_agrees {q : Qp} (h : q.bp = q.bpNow) : q.settleBp = q := by
  unfold Qp.settleBp
  rw [← h, if_neg (by simp)]

theorem Qp.bpMessage_of_agrees {q : Qp} (h : q.bp = q.bpNow) : q.bpMessage = false := by
  simp [Qp.bpMessage, ← h]

@[simp] theorem settle_qps (s : State) : (settle s).qps = Tab.mapVal s.qps fun _ q => q.settleBp := by
  unfold settle
  exact foldl_proj (fun x : State => x.qps) _ (by intros; split <;> simp) _ _

theorem settle_agrees (s : State) : BpAgrees (settle s) := by
  intro e he
  simp only [settle_qps, Tab.mapVal, List.mem_map] at he
  obtain ⟨x, -, rfl⟩ := he
  exact Qp.settleBp_bp x.2

/-- Nothing but the outputs and the PCIe functions differs. -/
def SendsOnly (s u : State) : Prop := u = { s with out := u.out, pcie := u.pcie }

theorem SendsOnly.trans {s u v : State} (h : SendsOnly s u) (k : SendsOnly u v) : SendsOnly s v := by
  unfold SendsOnly at *
  rw [k, h]

theorem State.msix_sendsOnly (s : State) (t v : Nat) : SendsOnly s (s.msix t v) := by
  unfold State.msix
  extract_lets
  split
  · rfl
  · split <;> rfl

theorem foldl_sendsOnly {β : Type} {f : State → β → State} (h : ∀ s b, SendsOnly s (f s b)) (l : List β) (s : State) :
    SendsOnly s (l.foldl f s) := by
  induction l generalizing s with
  | nil => rfl
  | cons b r ih => exact (h s b).trans (ih _)

/-- The end of a step brings the flags of the queue pairs up to date and sends messages. -/
theorem settle_sendsOnly (s : State) : SendsOnly { s with qps := (settle s).qps } (settle s) := by
  rw [settle_qps]
  unfold settle
  refine foldl_sendsOnly (fun u e => ?_) _ _
  split
  · rfl
  · exact u.msix_sendsOnly _ _

theorem settle_of_agrees {s : State} (h : BpAgrees s) : settle s = s := by
  have hd : (s.qps.filter fun e => e.2.bpMessage) = [] :=
    List.filter_eq_nil_iff.2 fun e he => by simp [Qp.bpMessage_of_agrees (h e he)]
  have hq : (Tab.mapVal s.qps fun _ q => q.settleBp) = s.qps :=
    (List.map_congr_left fun e he => show (e.1, e.2.settleBp) = e by rw [Qp.settleBp_of_agrees (h e he)]).trans (List.map_id' _)
  unfold settle
  rw [hd, hq]
  rfl

/-! ### Operations that the frames above do not reach -/

@[simp] theorem State.slotPeriodic_pending (s : State) (x : Slot) (p : Place) (tick : Nat) :
    (s.slotPeriodic x p tick).pending = s.pending := by
  have ho := State.slotOut_pending s x.qp x.maxp 4096
  unfold State.slotPeriodic
  generalize s.slotOut x.qp x.maxp 4096 = o at ho
  obtain ⟨s1, e⟩ := o
  cases e <;> (repeat' split) <;> simp_all [apply_ite State.pending]

@[simp] theorem State.serveSlot_pending (s : State) (x : FSlot) (tick : Nat) : (s.serveSlot x tick).pending = s.pending := by
  unfold State.serveSlot
  cases hx : x.strike <;> dsimp only <;> (repeat' split) <;> simp

@[simp] theorem State.slotStart_pending (s : State) (i : Nat) (rxBusy : Bool) : (s.slotStart i rxBusy).pending = s.pending := by
  unfold State.slotStart
  split
  · rfl
  · extract_lets tick s1 l
    have h1 : s1.pending = s.pending := by simp [s1]
    (repeat' split) <;> simp [h1]

@[simp] theorem State.lateSlot_pending (s : State) (i : Nat) : (s.lateSlot i).pending = s.pending := by
  unfold State.lateSlot
  split
  · rfl
  · extract_lets l s0 s1 s2
    (repeat' split) <;> simp [s0, s1, s2]

@[simp] theorem State.takeOver_pending (s : State) : s.takeOver.pending = s.pending := by
  unfold State.takeOver; simp [apply_ite State.pending]

@[simp] theorem State.linkSilent_pending (s : State) : s.linkSilent.pending = s.pending := by
  unfold State.linkSilent
  extract_lets alive lanes s1 s2 s3
  have h3 : s3.pending = s.pending := by simp [s3, s2, s1, apply_ite State.pending]
  (repeat' split) <;> simp [h3]

@[simp] theorem State.aliveIn_pending (s : State) (level : Bool) : (s.aliveIn level).pending = s.pending := by
  unfold State.aliveIn
  (repeat' split) <;> simp [apply_ite State.pending]

@[simp] theorem State.eraseTwinKeys_pending (s : State) : s.eraseTwinKeys.pending = s.pending := by
  unfold State.eraseTwinKeys; simp [apply_ite State.pending]

@[simp] theorem State.zeroise_pending (s : State) : s.zeroise.pending = s.pending := by
  unfold State.zeroise; simp

@[simp] theorem bodySecDecommission_pending (s : State) (p : List Byte) : (bodySecDecommission s p).st.pending = s.pending := by
  unfold bodySecDecommission
  (repeat' split) <;> simp

@[simp] theorem State.lockDown_pending (s : State) : s.lockDown.pending = s.pending := by
  unfold State.lockDown; simp

@[simp] theorem State.switchReached_pending (s : State) (f : BitVec 32) : (s.switchReached f).pending = s.pending := by
  unfold State.switchReached
  split <;> simp [apply_ite State.pending]

@[simp] theorem State.frameStart_pending (s : State) (rx : BitVec 16) : (s.frameStart rx).pending = s.pending := by
  unfold State.frameStart; simp [apply_ite State.pending]

@[simp] theorem State.takeCursor_pending (s : State) (p : List Byte) : (s.takeCursor p).pending = s.pending := by
  unfold State.takeCursor; simp [apply_ite State.pending]

@[simp] theorem State.replay_pending (s : State) (e : LedEntry) (p : List Byte) : (s.replay e p).pending = s.pending := by
  unfold State.replay
  generalize e.opcode.toNat = n
  split
  any_goals simp
  split <;> simp

@[simp] theorem State.mirrorEntry_pending (s : State) (b : List Byte) : (s.mirrorEntry b).pending = s.pending := by
  unfold State.mirrorEntry
  extract_lets e l led s1 led' s2 s3 f own n time s4 pend time' alm s5
  have h3 : s3.pending = s.pending := by simp [s3, s2, s1, apply_ite State.pending]
  have h5 : s5.pending = s3.pending := by simp [s5, s4]
  (repeat' split) <;> simp [h5, h3]

@[simp] theorem State.takeCopy_pending (s : State) (e : BitVec 32) (d : DWord) : (s.takeCopy e d).pending = s.pending := by
  unfold State.takeCopy
  extract_lets s1 s2 c x s3
  have h1 : s1.pending = s.pending := by simp [s1, apply_ite State.pending]
  have h2 : s2.pending = s1.pending := by simp only [s2]; split <;> simp
  have h3 : s3.pending = s2.pending := (setReg_pending _ _ _ _).trans <| (cfgRegs_pending _).trans <|
    (compileNow_pending _).trans (applyCfg_pending _ _ _ _)
  clear_value s3
  exact Eq.trans (b := s3.pending) rfl (h3.trans (h2.trans h1))

@[simp] theorem State.copyFrame_pending (s : State) (p : List Byte) : (s.copyFrame p).pending = s.pending := by
  unfold State.copyFrame
  split <;> simp [apply_ite State.pending]

@[simp] theorem State.stage3_pending (s : State) (ok : RetCheck) : (s.stage3 ok).pending = s.pending := by
  unfold State.stage3
  extract_lets warm s0 s1 left rolled s2 keep s3 s4 s5 s6 s7 ver s8 c r s9
  have h7 : s7.pending = s.pending := by simp [s7, s6, s5, s4, s3, s2, s1, s0, apply_ite State.pending]
  have h8 : s8.pending = s7.pending := by simp only [s8]; split <;> simp
  simp [s9, h8, h7]

@[simp] theorem State.entryArrives_pending (s : State) (q : Nat) (b : List Byte) : (s.entryArrives q b).pending = s.pending := by
  unfold State.entryArrives
  split
  · rfl
  · extract_lets dma s1 s2 s3
    have h2 : s2.pending = s.pending := by simp only [s2]; split <;> simp [s1]
    have h3 : s3.pending = s2.pending := by simp only [s3]; (repeat' split) <;> simp
    split <;> simp [h3, h2]

/-- The outcome is a next state that ends as every command does and leaves the queue as it was. -/
def KeepsQueue (s : State) (o : Host.Outcome State Fault Refusal) : Prop := ∃ u, o = .next (settle u) ∧ u.pending = s.pending

theorem keepsQueue_done {s u : State} (h : u.pending = s.pending) : KeepsQueue s (done u) := ⟨u, rfl, h⟩

/-- A command packet keeps the queue when its own effect does. -/
theorem keepsQueue_runCmd {i : CmdInfo} {t : Nat} {k : CmdPkt} {body : State → List Byte → CmdRes} (s : State)
    (h : ∀ b p, (body b p).st.pending = b.pending) : KeepsQueue s (done (runCmd i t k body s)) :=
  keepsQueue_done (runCmd_pending i t k body s h)

theorem keepsQueue_conTurn (s : State) {i : CmdInfo} {t : Nat} {k : CmdPkt} {body : State → List Byte → CmdRes} 
    (h : ∀ b p, (body b p).st.pending = b.pending) : KeepsQueue s (done (s.conTurn (runCmd i t k body))) :=
  keepsQueue_done (State.conTurn_pending s _ fun a => runCmd_pending i t k body a h)

theorem keepsQueue_execHostRequestIssue (wr ecc : Bool) (s : State) : KeepsQueue s (execHostRequestIssue wr ecc s) := by
  unfold execHostRequestIssue
  extract_lets u
  have hu : u.pending = s.pending := by simp [u, apply_ite State.pending]
  split <;> refine keepsQueue_done ?_ <;> simp [hu, apply_ite State.pending]

theorem keepsQueue_execPatrolScrubStep (addr : BitVec 24) (err : EccErr) (who : Nat) (s : State) :
    KeepsQueue s (execPatrolScrubStep addr err who s) := by
  cases err <;> refine keepsQueue_done ?_ <;> simp [apply_ite State.pending]

theorem keepsQueue_packet {c : Instr} {r : CmdInfo × Fin 256 × CmdPkt} (h : c.row = some r) (s : State) :
    KeepsQueue s (exec c s) := by
  cases c <;> simp only [Instr.row, reduceCtorEq] at h
  case conOpen | conClose | conReplace => exact keepsQueue_conTurn s (by simp)
  case secDecommission => exact keepsQueue_done (State.withSec_pending _ _ fun a => runCmd_pending _ _ _ _ _ (by simp))
  case cfgCommit | cfgRollback | secAttest | secKeyLoad | secKeyErase =>
    refine keepsQueue_done ?_
    simp [apply_ite State.pending]
  all_goals
    refine keepsQueue_runCmd _ fun b p => ?_
    simp

theorem keepsQueue_event {c : Instr} (h : c.row = none) (s : State) : KeepsQueue s (exec c s) := by
  cases c <;> simp only [Instr.row, reduceCtorEq] at h
  case inTransactionResponse | outTransactionResponse | splitResponse | disarmResponse | retractResponse =>
    exact keepsQueue_done (State.answer_pending (by simp [apply_ite State.pending]) (by simp))
  case portStatusReply | receiverDetectPulse | retrainSuccess =>
    refine keepsQueue_done ?_
    dsimp only
    (repeat' split) <;> simp
  case unlockChallenge =>
    refine keepsQueue_done ?_
    split
    · rfl
    · exact State.withSec_pending _ _ fun a => by simp
  case hostRequestIssue wr ecc => exact keepsQueue_execHostRequestIssue wr ecc s
  case patrolScrubStep addr err who => exact keepsQueue_execPatrolScrubStep addr err who s
  all_goals
    refine keepsQueue_done ?_
    (repeat' split) <;> simp [apply_ite State.pending]

/-- Every command ends as `settle` says and leaves the queue as it was. -/
theorem keepsQueue_exec (c : Instr) (s : State) : KeepsQueue s (exec c s) := by
  cases h : c.row with
  | none => exact keepsQueue_event h s
  | some r => exact keepsQueue_packet h s

theorem exec_runs (c : Instr) (s : State) : ∃ u, exec c s = .next u ∧ u.pending = s.pending := by
  obtain ⟨u, he, hp⟩ := keepsQueue_exec c s
  exact ⟨settle u, he, by rw [settle_pending, hp]⟩

/-- A step ends as `settle` says and leaves the queue without its front. -/
theorem step_ends (s : State) : ∃ u, step s = .next (settle u) ∧ u.pending = s.pending.tail := by
  unfold step
  cases hp : s.pending with
  | nil => exact ⟨_, rfl, hp⟩
  | cons c rest => exact keepsQueue_exec c { s with pending := rest }

theorem Qp.bpNow_iff (q : Qp) : q.bpNow = true ↔ (q.state = .running ∨ q.state = .draining) ∧
    (q.cqSize - (q.cqProd - q.cqCons).toNat) + (64 - q.holding.length) ≤ (q.entries.filter fun e => e.begun).length := by
  have hc : idxCount q.cqProd q.cqCons = (q.cqProd - q.cqCons).toNat := rfl
  simp [Qp.bpNow, Qp.enabled, Qp.ringFree, Qp.holdFree, Qp.started, hc]

end Sys2Proof.Machine

namespace Sys2Proof
open Machine

/-- Settles O1: a step whose queue is not empty is its second equation. -/
theorem stepRunsFront : Obligations.StepRunsFront := by
  intro c rest s h
  simp only [step, h]

/-- Settles O2: what the end of a step does, on the state one tick on. -/
theorem emptyQueueTicks : Obligations.EmptyQueueTicks := by
  intro s h
  have hs : step s = .next (settle { s with time := { s.time with bus := s.time.bus + 1 } }) := by
    simp only [step, h, idle, done]
  refine ⟨⟨_, hs, by simp, ?_⟩, fun ha => ?_⟩
  · rw [settle_time]
    exact settle_sendsOnly _
  · exact hs.trans (congrArg Host.Outcome.next (settle_of_agrees ha))

/-- Settles O3: every command ends as `settle` says. -/
theorem wellFormedCommandsRun : Obligations.WellFormedCommandsRun := by
  intro s runs
  have h (c : Instr) : runs c := exec_runs c s
  simp only [h, implies_true, and_self]

/-- Settles O4: every step ends with `settle`, which restates the flags. -/
theorem backpressureAgreesAfterEveryStep : Obligations.BackpressureAgreesAfterEveryStep := by
  refine ⟨fun s u h => ?_, Qp.bpNow_iff⟩
  obtain ⟨v, hv, -⟩ := step_ends s
  obtain rfl : settle v = u := Host.Outcome.next.inj (hv.symm.trans h)
  exact settle_agrees v

/-- Settles O5: no command has the queue among what it changes. -/
theorem queueIsLeftAlone : Obligations.QueueIsLeftAlone := by
  intro s u h
  obtain ⟨v, hv, hp⟩ := step_ends s
  obtain rfl : settle v = u := Host.Outcome.next.inj (hv.symm.trans h)
  rw [settle_pending, hp]

/-- Settles O6: the tables are empty, so every register reads its reset word. -/
theorem resetState : Obligations.ResetState :=
  ⟨rfl, rfl, fun _ _ => rfl, fun _ => Bool.or_false _, rfl, rfl, rfl, rfl, rfl, rfl, fun _ he => absurd he List.not_mem_nil⟩

end Sys2Proof
end

section
/-!
PROOFS. Writes of registers whose fields only store (R5 to R8): the layout, the masks of the access codes, what a fault leaves, and
the word that a write forms.
-/
namespace Sys2Proof.Machine

/-! ### The layout -/

/-- A spot whose index is below the number of queue pairs. -/
def Spot.InRange : Spot → Prop
  | .reg _ i => i < 4096
  | _ => True

theorem Spot.ofReg_inRange {o : Option Reg} {i : Nat} (h : i < 4096) : (Spot.ofReg o i).InRange := by
  cases o
  · trivial
  · exact h

theorem pfSpot_inRange (off : Nat) : (pfSpot off).InRange := by
  have h (o : Option Reg) {i : Nat} (hi : i < 4096) : (Spot.ofReg o i).InRange := Spot.ofReg_inRange hi
  unfold pfSpot
  split
  · generalize off - 0x10000 = o
    exact h (globalReg o) (Nat.zero_lt_succ _)
  split
  · exact h (blockReg _) (Nat.zero_lt_succ _)
  split
  · split <;> trivial
  split
  · exact h (portReg _) (by omega)
  split
  · generalize off - 0x30000 = o
    exact h (twinReg o) (Nat.zero_lt_succ _)
  split
  · exact h (twinLaneReg _) (by omega)
  · trivial

theorem spotAt_inRange {fn off : Nat} (hf : fn < 4096) : (spotAt fn off).InRange := by
  unfold spotAt
  generalize (if fn = 0 then 0x1400 else 0x1080) = top
  split
  · split
    · show _ < 4096
      split <;> omega
    · trivial
  split
  · trivial
  split
  · trivial
  split
  · show _ < 4096
    omega
  split
  · exact pfSpot_inRange off
  · trivial

/-- The index of a register that an offset names. -/
theorem spotAt_index_lt {fn off i : Nat} {r : Reg} (hf : fn < 4096) (h : spotAt fn off = .reg r i) : i < 4096 := by
  have hr : (spotAt fn off).InRange := spotAt_inRange hf
  rwa [h] at hr

@[simp] theorem Tab.find_del_same {α : Type} (t : Tab α) (k : Nat) : Tab.find (Tab.del t k) k = none := by
  induction t with
  | nil => rfl
  | cons e r ih =>
    unfold Tab.del at *
    rw [List.filter_cons]
    split
    · rename_i h
      rw [Tab.find_cons, if_neg (by simpa using h), ih]
    · exact ih

/-! ### The masks of the access codes -/

theorem Reg.maskOf_rw_w1c (r : Reg) : r.maskOf (fun f => f.acc == .rw) &&& r.maskOf (fun f => f.acc == .w1c) = 0 := by
  cases r <;> decide

theorem Reg.maskOf_w1c_w1s (r : Reg) : r.maskOf (fun f => f.acc == .w1c) &&& r.maskOf (fun f => f.acc == .w1s) = 0 := by
  cases r <;> decide

/-! ### What an access may change: registers, holding copies, outputs, queue pairs and PCIe functions -/

/-- Nothing but what an access of a plain register works on differs. -/
def AccessOnly (s u : State) : Prop :=
  u = { s with regs := u.regs, holds := u.holds, out := u.out, qps := u.qps, pcie := u.pcie }

theorem AccessOnly.trans {s u v : State} (h : AccessOnly s u) (k : AccessOnly u v) : AccessOnly s v := by
  unfold AccessOnly at *
  rw [k, h]

theorem SendsOnly.accessOnly {s u : State} (h : SendsOnly s u) : AccessOnly s u := by
  unfold SendsOnly at h
  unfold AccessOnly
  rw [h]

theorem State.setReg_accessOnly (s : State) (r : Reg) (i : Nat) (w : Word) : AccessOnly s (s.setReg r i w) := rfl

theorem State.raise_accessOnly (s : State) (t b : Nat) : AccessOnly s (s.raise t b) := by
  unfold State.raise
  extract_lets c s1
  split
  · rfl
  split
  · exact (s.setReg_accessOnly ..).trans (s1.msix_sendsOnly _ _).accessOnly
  · rfl

theorem State.busFault_accessOnly (s : State) (fn off b : Nat) : AccessOnly s (s.busFault fn off b) := by
  unfold State.busFault
  extract_lets w any w1 s1
  split
  · rfl
  · exact (s.setReg_accessOnly ..).trans (s1.raise_accessOnly _ _)

theorem settle_accessOnly (s : State) : AccessOnly s (settle s) :=
  AccessOnly.trans (u := { s with qps := (settle s).qps }) rfl (settle_sendsOnly s).accessOnly

theorem State.dropHold_accessOnly (s : State) (fn : Nat) (r : Reg) (i : Nat) : AccessOnly s (s.dropHold fn r i) := by
  unfold State.dropHold
  split <;> rfl

/-! ### The registers after a fault -/

theorem getLsbD_bitsMask_one {b : Nat} (hb : b < 32) : (bitsMask b 1).getLsbD b = true := by
  rw [bitsMask, BitVec.getLsbD_ofNat, decide_eq_true hb, Nat.pow_one, Nat.one_mul]
  exact Nat.testBit_two_pow_self

section
variable (s : State) {t fn : Nat}

theorem State.reg_msix (v : Nat) (r : Reg) (j : Nat) : (s.msix t v).reg r j = s.reg r j :=
  State.reg_congr (s.msix_regs t v) r j

theorem State.reg_raise_other {b : Nat} {r : Reg} {j : Nat} (ht : t < 4096) (hj : j < 4096) (h : (r, j) ≠ (.criCause, t)) :
    (s.raise t b).reg r j = s.reg r j := by
  unfold State.raise
  extract_lets c s1
  have h1 : s1.reg r j = s.reg r j := s.reg_setReg_other _ ht hj h
  split
  · rfl
  split
  · rw [State.reg_msix, h1]
  · exact h1

theorem State.reg_busFault_other {off b : Nat} {r : Reg} {j : Nat} (hf : fn < 4096) (hj : j < 4096)
    (h : (r, j) ≠ (.gblBusFault, fn)) (hc : (r, j) ≠ (.criCause, fn)) : (s.busFault fn off b).reg r j = s.reg r j := by
  unfold State.busFault
  extract_lets w any w1 s1
  have h1 : s1.reg r j = s.reg r j := s.reg_setReg_other _ hf hj h
  split
  · exact h1
  · rw [State.reg_raise_other _ hf hj hc, h1]

theorem State.reg_busFault_bit {off b : Nat} (hf : fn < 4096) (hb : b < 32) :
    ((s.busFault fn off b).reg .gblBusFault fn).getLsbD b = true := by
  unfold State.busFault
  extract_lets w any w1 s1
  have h1 : (s1.reg .gblBusFault fn).getLsbD b = true := by
    simp only [s1, State.reg_setReg_same, BitVec.getLsbD_or, getLsbD_bitsMask_one hb, Bool.or_true]
  split
  · exact h1
  · rwa [State.reg_raise_other _ hf hf (by simp)]

end

/-! ### A write by the access codes (R6, R7) -/

/-- A plain write stores. -/
theorem State.writeReg_plain (s : State) (fn off : Nat) {r : Reg} (i : Nat) (v hw : Word) (h : r.plainWrite = true) :
    s.writeReg fn off r i v hw = s.store fn off r i v hw := by
  cases r <;> first | rfl | exact absurd h (by decide)

/-- The word that a write forms by the access codes, bit by bit. -/
def Reg.Forms (r : Reg) (fn i : Nat) (old v hw raw : Word) : Prop :=
  ∀ b, raw.getLsbD b =
    if (r.accMask fn i .rw).getLsbD b then v.getLsbD b
    else if (r.accMask fn i .w1c).getLsbD b then old.getLsbD b && (!v.getLsbD b || hw.getLsbD b)
    else if (r.accMask fn i .w1s).getLsbD b then old.getLsbD b || v.getLsbD b
    else old.getLsbD b

/-- Bits with two codes would be none. -/
theorem Reg.accMask_disjoint (r : Reg) (fn i b : Nat) :
    ((r.accMask fn i .rw).getLsbD b && (r.accMask fn i .w1c).getLsbD b) = false ∧
    ((r.accMask fn i .w1c).getLsbD b && (r.accMask fn i .w1s).getLsbD b) = false := by
  have h1 := congrArg (·.getLsbD b) r.maskOf_rw_w1c
  have h2 := congrArg (·.getLsbD b) r.maskOf_w1c_w1s
  simp only [BitVec.getLsbD_and, BitVec.ofNat_eq_ofNat, BitVec.getLsbD_zero] at h1 h2
  simp only [Reg.accMask, BitVec.getLsbD_and]
  constructor
  · cases h : BitVec.getLsbD (r.maskOf fun f => f.acc == .rw) b <;> simp_all
  · cases h : BitVec.getLsbD (r.maskOf fun f => f.acc == .w1c) b <;> simp_all

/-- The masks of `Reg.merge` are those of `Reg.accMask`. -/
theorem Reg.accMask_eq (r : Reg) (fn i : Nat) (a : Acc) :
    r.maskOf (fun f => f.acc == a) &&& ~~~((if (fn != 0) = true then r.vfReserved else 0) |||
      (if (r.perLane && decide (16 ≤ i)) = true then r.twinReserved else 0)) = r.accMask fn i a := by
  rw [Reg.accMask, BitVec.not_or, ← BitVec.and_assoc]
  by_cases h : fn = 0 <;> simp [h]

theorem Reg.merge_eq {r : Reg} {fn i : Nat} {old v hw raw : Word} (h : r.Forms fn i old v hw raw) :
    r.merge (fn != 0) (r.perLane && decide (16 ≤ i)) old v hw =
      let bad := r.reservedMask (fn != 0) (r.perLane && decide (16 ≤ i)) raw
      ((raw &&& ~~~bad) ||| (old &&& bad), bad != 0) := by
  unfold Reg.merge
  simp only [Reg.accMask_eq]
  have hn : (old &&& ~~~(r.accMask fn i .rw ||| (v &&& r.accMask fn i .w1c))) |||
      (v &&& (r.accMask fn i .rw ||| r.accMask fn i .w1s)) ||| (hw &&& old &&& r.accMask fn i .w1c) = raw := by
    refine BitVec.eq_of_getLsbD_eq fun b hb => ?_
    obtain ⟨h1, h2⟩ := r.accMask_disjoint fn i b
    rw [h b]
    simp only [BitVec.getLsbD_or, BitVec.getLsbD_and, BitVec.getLsbD_not, hb, decide_true, Bool.true_and]
    generalize (r.accMask fn i .rw).getLsbD b = x at *
    generalize (r.accMask fn i .w1c).getLsbD b = y at *
    generalize (r.accMask fn i .w1s).getLsbD b = z at *
    revert h1 h2
    cases x <;> cases y <;> cases z <;> cases old.getLsbD b <;> cases v.getLsbD b <;> cases hw.getLsbD b <;> decide
  rw [hn]

/-- No fault register has a reserved encoding. -/
theorem Reg.reservedMask_faults (r : Reg) (h : r = .gblBusFault ∨ r = .criCause) (vf twin : Bool) (w : Word) :
    r.reservedMask vf twin w = 0 := by
  rcases h with rfl | rfl <;> rfl

/-- A register set only where it changes reads the word and leaves the others. -/
theorem State.setIfChanged {s u : State} {r : Reg} {i : Nat} {w : Word} (hi : i < 4096)
    (hu : u = if w = s.reg r i then s else s.setReg r i w) :
    u.reg r i = w ∧ (∀ r' j, j < 4096 → (r', j) ≠ (r, i) → u.reg r' j = s.reg r' j) ∧ u.holds = s.holds ∧ AccessOnly s u := by
  by_cases h : w = s.reg r i
  · rw [if_pos h] at hu
    subst hu
    exact ⟨h.symm, fun _ _ _ _ => rfl, rfl, rfl⟩
  · rw [if_neg h] at hu
    subst hu
    exact ⟨s.reg_setReg_same r i w, fun _ _ hj hn => s.reg_setReg_other w hi hj hn, rfl, rfl⟩

section
variable {s : State} {fn off i : Nat} {r : Reg} {v hw raw : Word}

theorem State.store_eq (hr : r.Forms fn i (s.reg r i) v hw raw) {bad w : Word}
    (hb : r.reservedMask (fn != 0) (r.perLane && decide (16 ≤ i)) raw = bad)
    (hw' : (raw &&& ~~~bad) ||| (s.reg r i &&& bad) = w) :
    s.store fn off r i v hw =
      if w = s.reg r i then (if bad ≠ 0 then s.busFault fn off 1 else s)
      else (if bad ≠ 0 then s.busFault fn off 1 else s).setReg r i w := by
  simp only [State.store, State.mergeReg, Reg.merge_eq hr, bne_iff_ne, hb, hw']

theorem fin_val_bne_zero (n : Fin 256) : (n.val != 0) = (n != 0) := by
  by_cases h : n = 0
  · subst h; rfl
  · exact (bne_iff_ne.2 fun e => h (Fin.ext e)).trans (bne_iff_ne.2 h).symm

/-- What a store by the access codes leaves. -/
theorem State.store_spec (hr : r.Forms fn i (s.reg r i) v hw raw) (hf : fn < 4096) (hi : i < 4096) :
    let bad := r.reservedMask (fn != 0) (r.perLane && decide (16 ≤ i)) raw
    let u := s.store fn off r i v hw
    u.reg r i = (raw &&& ~~~bad) ||| (s.reg r i &&& bad) ∧
    (bad ≠ 0 → (u.reg .gblBusFault fn).getLsbD 1 = true) ∧
    (∀ r' j, j < 4096 → (r', j) ≠ (r, i) → (bad = 0 ∨ (r', j) ≠ (.gblBusFault, fn) ∧ (r', j) ≠ (.criCause, fn)) →
      u.reg r' j = s.reg r' j) ∧
    u.holds = s.holds ∧ AccessOnly s u := by
  intro bad u
  have hu : u = _ := State.store_eq hr (bad := bad) rfl rfl
  by_cases hb : bad = 0
  · rw [if_neg (not_not.2 hb)] at hu
    obtain ⟨h1, h2, h3, h4⟩ := State.setIfChanged hi hu
    exact ⟨h1, fun h => absurd hb h, fun r' j hj hn _ => h2 r' j hj hn, h3, h4⟩
  · have hrf : r ≠ .gblBusFault := fun h => hb (Reg.reservedMask_faults r (.inl h) ..)
    have hrc : r ≠ .criCause := fun h => hb (Reg.reservedMask_faults r (.inr h) ..)
    have hold : (s.busFault fn off 1).reg r i = s.reg r i :=
      s.reg_busFault_other hf hi (by simp [hrf]) (by simp [hrc])
    rw [if_pos hb, ← hold] at hu
    obtain ⟨h1, h2, h3, h4⟩ := State.setIfChanged hi hu
    rw [hold] at h1
    refine ⟨h1, fun _ => ?_, fun r' j hj hn hk => ?_, h3.trans (by simp), (s.busFault_accessOnly ..).trans h4⟩
    · rw [h2 _ _ hf (by simp [hrf.symm])]
      exact s.reg_busFault_bit hf (by decide)
    · obtain ⟨hkf, hkc⟩ := hk.resolve_left hb
      rw [h2 r' j hj hn, s.reg_busFault_other hf hj hkf hkc]
end

/-! ### Holding copies (R8) -/

theorem Reg.hiOf_of_loOf {r lo : Reg} (h : r.loOf = some lo) : r.hiOf = none := by
  cases r <;> first | rfl | exact absurd h (by simp [Reg.loOf])

theorem State.dropHold_hi (s : State) (fn i : Nat) {r : Reg} (h : r.hiOf ≠ none) :
    Tab.find (s.dropHold fn r i).holds (holdKey fn r i) = none := by
  obtain ⟨hi, e⟩ := Option.ne_none_iff_exists'.1 h
  simp [State.dropHold, e]

theorem State.dropHold_lo (s : State) (fn i : Nat) {r lo : Reg} (h : r.loOf = some lo) :
    Tab.find (s.dropHold fn r i).holds (holdKey fn lo i) = none := by
  simp [State.dropHold, Reg.hiOf_of_loOf h, h]

theorem State.dropHold_reg (s : State) (fn i j : Nat) (r r' : Reg) : (s.dropHold fn r i).reg r' j = s.reg r' j := by
  unfold State.dropHold
  split <;> rfl

/-- A write that reaches a plain register stores after the holding copy is emptied. -/
theorem exec_registerWrite_plain {s : State} {fn : Fin 256} {off i : Nat} {r : Reg} (v : DWord) (hw : Word)
    (hp : r.plainWrite = true) (ha : accessWf fn off 4 = true) (h : s.reaches fn off r i true = true) :
    exec (.registerWrite fn off 4 v hw) s =
      .next (settle ((s.dropHold fn r i).store fn off r i (v.setWidth 32) hw)) := by
  simp only [State.reaches, Bool.and_eq_true, beq_iff_eq] at h
  obtain ⟨⟨h4, hspot⟩, hg⟩ := h
  rw [exec_registerWrite_of_accessWf v hw ha, State.writeAcc, if_pos ⟨rfl, h4⟩, State.write32_serve hg, State.writeSpot, hspot]
  exact congrArg done (State.writeReg_plain _ _ _ _ _ _ hp)

end Sys2Proof.Machine

namespace Sys2Proof
open Machine

/-- Settles O7: the word that the codes form is stored but for the fields at a reserved encoding. -/
theorem registerWriteByAccessCode : Obligations.RegisterWriteByAccessCode := by
  intro s fn off i r v hw raw hp ha hr hraw bad
  have hi : i < 4096 := by
    simp only [State.reaches, Bool.and_eq_true, beq_iff_eq] at hr
    obtain ⟨⟨-, hspot⟩, -⟩ := hr
    exact spotAt_index_lt (Nat.lt_trans fn.isLt (by decide)) hspot
  have hf : fn.val < 4096 := Nat.lt_trans fn.isLt (by decide)
  let h := s.dropHold fn r i
  have hforms : r.Forms fn i (h.reg r i) (v.setWidth 32) hw raw := by
    intro b
    rw [hraw b, s.dropHold_reg fn i i r r]
    by_cases hb : b < 32
    · simp [hb]
    · simp [BitVec.getLsbD_of_ge _ b (Nat.le_of_not_lt hb)]
  obtain ⟨h1, h2, h3, h4, h5⟩ := State.store_spec (off := off) hforms hf hi
  have hbad : r.reservedMask (fn.val != 0) (r.perLane && decide (16 ≤ i)) raw = bad := by
    rw [fin_val_bne_zero]
  rw [hbad] at h1 h2 h3
  refine ⟨_, exec_registerWrite_plain v hw hp ha hr, fun b => ?_, fun hb => ?_, fun hh => ?_, fun lo hl => ?_,
    fun r' j hj hn hnf hnc => ?_, fun hb r' j hj hn => ?_, ?_⟩
  · simp only [settle_reg, h1, BitVec.getLsbD_or, BitVec.getLsbD_and, BitVec.getLsbD_not, s.dropHold_reg fn i i r r, h]
    by_cases hb : b < 32
    · simp only [hb, decide_true, Bool.true_and]
      cases bad.getLsbD b <;> simp
    · simp [BitVec.getLsbD_of_ge _ b (Nat.le_of_not_lt hb)]
  · rw [settle_reg]
    exact h2 hb
  · rw [settle_holds, h4]
    exact s.dropHold_hi fn i hh
  · rw [settle_holds, h4]
    exact s.dropHold_lo fn i hl
  · rw [settle_reg, h3 r' j hj hn (.inr ⟨hnf, hnc⟩)]
    exact s.dropHold_reg ..
  · rw [settle_reg, h3 r' j hj hn (.inl hb)]
    exact s.dropHold_reg ..
  · exact (s.dropHold_accessOnly fn r i).trans (h5.trans (settle_accessOnly _))

end Sys2Proof
end

section
/-!
PROOFS. Aligned reads and the pairs (R6, R8, R456).
-/
namespace Sys2Proof.Machine

/-! ### Aligned reads that the layout answers (R6, R8) -/

section
variable {s : State} {fn off i : Nat} {r : Reg}

theorem State.reaches_iff {wr : Bool} :
    s.reaches fn off r i wr = true ↔ off % 4 = 0 ∧ spotAt fn off = .reg r i ∧ s.gate fn off wr = .serve := by
  simp [State.reaches, and_assoc]

/-- An aligned 32-bit read that the gate serves. -/
theorem State.readAcc_four (hg : s.gate fn off false = .serve) (h4 : off % 4 = 0) (add : DWord) :
    s.readAcc fn off 4 add =
      (s.readWord fn off (add.setWidth 32)).2.emit (.readData fn off ((s.readWord fn off (add.setWidth 32)).1.setWidth 64)) := by
  rw [State.readAcc, if_pos ⟨rfl, h4⟩, State.read32, hg]
  rfl

theorem State.readWord_reg (h : spotAt fn off = .reg r i) (add : Word) :
    s.readWord fn off add =
      let x := s.holdRead fn r i (s.peek fn (.reg r i)) (s.peek fn (.reg (r.hiOf.getD r) i))
      (x.1, x.2.clearOnRead fn r i add) := by
  rw [State.readWord, h]

theorem State.holdRead_plain (h1 : r.hiOf = none) (h2 : r.loOf = none) (w hi : Word) : s.holdRead fn r i w hi = (w, s) := by
  rw [State.holdRead, h1, h2]

theorem State.clearOnRead_plain (hr : r ≠ .tenQpCount) (hi : i < 4096) (add : Word) :
    let rc := r.maskOf fun f => f.acc == .rc
    let u := s.clearOnRead fn r i add
    u.reg r i = (s.reg r i &&& ~~~rc) ||| (add &&& rc) ∧
    (∀ r' j, j < 4096 → (r', j) ≠ (r, i) → u.reg r' j = s.reg r' j) ∧ u = { s with regs := u.regs } := by
  intro rc u
  by_cases hz : rc = 0
  · have hu : u = s := by simp only [u, State.clearOnRead, if_neg hr]; exact if_pos hz
    rw [hu, hz]
    exact ⟨by rw [BitVec.ofNat_eq_ofNat, BitVec.and_zero, BitVec.or_zero, BitVec.not_zero, BitVec.and_allOnes], fun _ _ _ _ => rfl, rfl⟩
  · have hu : u = s.setReg r i ((s.reg r i &&& ~~~rc) ||| (add &&& rc)) := by
      simp only [u, State.clearOnRead, if_neg hr]; exact if_neg hz
    rw [hu]
    exact ⟨s.reg_setReg_same .., fun _ _ hj hn => s.reg_setReg_other _ hi hj hn, rfl⟩

theorem State.clearOnRead_tenQpCount {q : Nat × Qp} (h : s.shownQp fn = some q) (add : Word) :
    s.clearOnRead fn .tenQpCount i add = s.modQp q.1 fun v => { v with
      missed := getBits add 0 16, late := getBits add 16 8, drops := getBits add 24 8 } := by
  rw [State.clearOnRead, if_pos rfl, h]

theorem State.read32_serve (hg : s.gate fn off false = .serve) (add : Word) :
    s.read32 fn off add = (some (s.readWord fn off add).1, (s.readWord fn off add).2) := by
  rw [State.read32, hg]

/-! ### Pairs -/

theorem pairAt_low {hi : Reg} (h : spotAt fn off = .reg r i) (hp : r.hiOf = some hi) :
    pairAt fn off = some (.reg r i, .reg hi i) := by
  rw [pairAt, h]
  exact congrArg (Option.map _) hp

/-- An aligned 64-bit read of a pair. -/
theorem State.readAcc_pair {p : Spot × Spot} (h8 : off % 8 = 0) (hp : pairAt fn off = some p)
    (hg : s.gate fn off false = .serve) (add : DWord) :
    s.readAcc fn off 8 add = s.emit (.readData fn off (s.peek fn p.2 ++ s.peek fn p.1)) := by
  rw [State.readAcc, if_neg (fun h => absurd h.1 (by decide)), if_pos ⟨rfl, h8⟩, hp]
  simp only [hg]

/-- An aligned 64-bit read of no pair. -/
theorem State.readAcc_twice (h8 : off % 8 = 0) (hp : pairAt fn off = none) (hg : s.gate fn off false = .serve)
    (hg4 : (s.readWord fn off 0).2.gate fn (off + 4) false = .serve) :
    let a := s.readWord fn off 0
    let b := a.2.readWord fn (off + 4) 0
    s.readAcc fn off 8 0 = b.2.emit (.readData fn off (b.1 ++ a.1)) := by
  rw [State.readAcc, if_neg (fun h => absurd h.1 (by decide)), if_pos ⟨rfl, h8⟩, hp]
  have h0 (b : Bool) : halfOf 0 b = 0 := by cases b <;> rfl
  simp only [h0, State.read32_serve hg, State.read32_serve hg4]
  rfl

/-- An aligned 64-bit write. -/
theorem State.writeAcc_eight (h8 : off % 8 = 0) (v : DWord) (hw : Word) :
    s.writeAcc fn off 8 v hw =
      if (pairAt fn off).isSome then
        s.gated fn off fun s => (s.writeSpot fn off (v.setWidth 32) hw).writeSpot fn (off + 4) ((v >>> 32).setWidth 32) 0
      else if s.gate fn off true = .unsupported then s.emit (.unsupported fn off)
      else (s.write32 fn off (v.setWidth 32) hw).write32 fn (off + 4) ((v >>> 32).setWidth 32) 0 := by
  rw [State.writeAcc, if_neg (fun h => absurd h.1 (by decide)), if_pos ⟨rfl, h8⟩]
  rfl

/-- A half of a pair has no field that a read clears. -/
theorem State.clearOnRead_pair (h : r.hiOf ≠ none ∨ r.loOf ≠ none) (add : Word) : s.clearOnRead fn r i add = s := by
  have hm : r ≠ .tenQpCount ∧ (r.maskOf fun f => f.acc == .rc) = 0 := by
    cases r <;> first | exact ⟨nofun, rfl⟩ | exact absurd h (by decide)
  rw [State.clearOnRead, if_neg hm.1]
  exact if_pos hm.2

end

theorem Reg.pair_inverse {lo hi : Reg} (h : lo.hiOf = some hi) : hi.loOf = some lo ∧ hi.hiOf = none := by
  cases lo <;> simp only [Reg.hiOf, reduceCtorEq, Option.some.injEq] at h
  all_goals
    subst h
    exact ⟨rfl, rfl⟩

section
variable {s : State} {fn : Fin 256} {off i : Nat} {r lo hi : Reg}

theorem exec_rcFieldRead_serve (ha : accessWf fn off 4 = true) (h : s.reaches fn off r i false = true) (add : DWord) :
    exec (.rcFieldRead fn off 4 add) s =
      .next (settle ((s.readWord fn off (add.setWidth 32)).2.emit
        (.readData fn off ((s.readWord fn off (add.setWidth 32)).1.setWidth 64)))) := by
  obtain ⟨h4, -, hg⟩ := State.reaches_iff.1 h
  rw [exec_rcFieldRead_of_accessWf add ha, State.readAcc_four hg h4]

/-- The rows for the halves of a pair read as any aligned access does. -/
theorem exec_pairHalfRead_serve (ha : accessWf fn off 4 = true) (h : s.reaches fn off r i false = true) :
    let u := Host.Outcome.next (settle ((s.readWord fn off 0).2.emit (.readData fn off ((s.readWord fn off 0).1.setWidth 64))))
    exec (.pairLowHalfRead fn off) s = u ∧ exec (.pairHighHalfRead fn off) s = u := by
  obtain ⟨h4, -, hg⟩ := State.reaches_iff.1 h
  have he : done (if barOk fn off 4 then s.readAcc fn off 4 0 else s) = _ :=
    congrArg done ((if_pos ha).trans (State.readAcc_four hg h4 0))
  exact ⟨he, he⟩

theorem exec_pair64bitAccess_read (ha : accessWf fn off 8 = true) :
    exec (.pair64bitAccess fn off none) s = .next (settle (s.readAcc fn off 8 0)) :=
  congrArg done (if_pos ha)

theorem exec_pair64bitAccess_write (ha : accessWf fn off 8 = true) (v : DWord) :
    exec (.pair64bitAccess fn off (some v)) s = .next (settle (s.writeAcc fn off 8 v 0)) :=
  congrArg done (if_pos ha)

end

end Sys2Proof.Machine

namespace Sys2Proof
open Machine

/-- Settles O9: a register outside the pairs shows its word, then its RC fields hold the events of the clock. -/
theorem readClears : Obligations.ReadClears := by
  intro s fn off i r events ha hr hhi hlo add rc
  have hspot : spotAt fn off = .reg r i := (State.reaches_iff.1 hr).2.1
  have hread : exec (.rcFieldRead fn off 4 events) s =
      .next (settle ((s.clearOnRead fn r i add).emit (.readData fn off ((s.peek fn (.reg r i)).setWidth 64)))) := by
    rw [exec_rcFieldRead_serve ha hr, State.readWord_reg hspot, State.holdRead_plain hhi hlo]
  refine ⟨fun hq => ⟨_, hread, ?_⟩, fun q hq hs => ?_⟩
  · exact State.clearOnRead_plain hq (spotAt_index_lt (Nat.lt_trans fn.isLt (by decide)) hspot) add
  · subst hq
    rw [hread, State.clearOnRead_tenQpCount hs]

/-- Settles O10: the halves go through the holding copy, a 64-bit access of a pair does not. -/
theorem registerPairs : Obligations.RegisterPairs := by
  refine ⟨fun s fn off i lo hi ha hp => ⟨fun hr => ?low, fun hr => ⟨fun c hc => ?held, fun hn => ?empty⟩⟩,
    fun s fn off i lo hi ha h8 => ⟨fun hp hr => ?read64, fun v hp hr => ?write64,
      fun hn hg hg4 => ?twoReads, fun v hn hg => ?twoWrites⟩⟩
  case low =>
    rw [(exec_pairHalfRead_serve ha hr).1, State.readWord_reg (State.reaches_iff.1 hr).2.1]
    have hc (u : State) : u.clearOnRead fn lo i 0 = u := State.clearOnRead_pair (.inl (by simp [hp])) 0
    simp only [State.holdRead, hp, hc, Option.getD_some]
  case held =>
    obtain ⟨hl, hh⟩ := Reg.pair_inverse hp
    rw [(exec_pairHalfRead_serve ha hr).2, State.readWord_reg (State.reaches_iff.1 hr).2.1]
    have hk (u : State) : u.clearOnRead fn hi i 0 = u := State.clearOnRead_pair (.inr (by simp [hl])) 0
    simp only [State.holdRead, hl, hh, hc, hk]
  case empty =>
    obtain ⟨hl, hh⟩ := Reg.pair_inverse hp
    rw [(exec_pairHalfRead_serve ha hr).2, State.readWord_reg (State.reaches_iff.1 hr).2.1]
    have hk (u : State) : u.clearOnRead fn hi i 0 = u := State.clearOnRead_pair (.inr (by simp [hl])) 0
    simp only [State.holdRead, hl, hh, hn, hk]
  case read64 =>
    obtain ⟨-, hspot, hg⟩ := State.reaches_iff.1 hr
    rw [exec_pair64bitAccess_read ha, State.readAcc_pair h8 (pairAt_low hspot hp) hg]
  case write64 =>
    obtain ⟨-, hspot, hg⟩ := State.reaches_iff.1 hr
    rw [exec_pair64bitAccess_write ha, State.writeAcc_eight h8, pairAt_low hspot hp, if_pos Option.isSome_some, State.gated, hg]
  case twoReads =>
    intro a b hga
    rw [exec_pair64bitAccess_read ha, State.readAcc_twice h8 hn hg hga]
  case twoWrites =>
    rw [exec_pair64bitAccess_write ha, State.writeAcc_eight h8, hn, if_neg (by simp), if_neg hg]

end Sys2Proof
end

section
/-!
PROOFS. The registers of the command path (R254, R255, R265).
-/
namespace Sys2Proof.Machine

/-! ### Writes of a register that is no half of a pair -/

theorem State.dropHold_plain {s : State} {fn i : Nat} {r : Reg} (h1 : r.hiOf = none) (h2 : r.loOf = none) :
    s.dropHold fn r i = s := by
  rw [State.dropHold, h1, h2]

/-- A 32-bit write that the gate serves is the write of the register there. -/
theorem State.write32_reg {s : State} {fn off i : Nat} {r : Reg} (hg : s.gate fn off true = .serve)
    (hs : spotAt fn off = .reg r i) (h1 : r.hiOf = none) (h2 : r.loOf = none) (v hw : Word) :
    s.write32 fn off v hw = s.writeReg fn off r i v hw := by
  rw [State.write32, State.gated, hg]
  show s.writeSpot fn off v hw = _
  rw [State.writeSpot, hs]
  exact congrArg (fun u : State => u.writeReg fn off r i v hw) (State.dropHold_plain h1 h2)

/-! ### The command path (R254, R255, R265) -/

section
variable {s : State} {t : Fin 256}

theorem exec_tenCmdDbWrite_serve (hg : s.gate t 0x120 true = .serve) (v : Word) :
    exec (.tenCmdDbWrite t v) s = .next (settle (s.cmdDoorbell t (v.setWidth 16))) :=
  congrArg done (State.write32_reg (r := .tenCmdDb) (i := t) hg rfl rfl rfl v 0)

theorem exec_tenRplDbWrite_serve (hg : s.gate t 0x124 true = .serve) (v : Word) :
    exec (.tenRplDbWrite t v) s = .next (settle (s.rplDoorbell t (v.setWidth 16))) :=
  congrArg done (State.write32_reg (r := .tenRplDb) (i := t) hg rfl rfl rfl v 0)

/-- A write of the control register that the gate serves; the rows ENABLE, DISABLE and RING_RESET are such writes. -/
theorem State.write32_tenCmdCtrl (hg : s.gate t 0x118 true = .serve) (w : Word) :
    s.write32 t 0x118 w 0 = s.cmdCtrl t w 0 :=
  State.write32_reg (r := .tenCmdCtrl) (i := t) hg rfl rfl rfl w 0

/-- A doorbell of a command path that is off or that points outside the window is a fault. -/
theorem State.cmdDoorbell_eq (v : Half) :
    s.cmdDoorbell t v = 
      if s.bit Fld.tenCmdCtrlEnable t = true ∧ (v.toNat + 65536 - (s.cmd t).cons.toNat) % 65536 ≤ 2 ^ s.getF Fld.tenCmdCtrlCmdSize t ∧
        ((s.cmd t).prod.toNat + 65536 - (s.cmd t).cons.toNat) % 65536 ≤ (v.toNat + 65536 - (s.cmd t).cons.toNat) % 65536 then
      s.modCmd t fun c => { c with prod := v } else s.ringFault t := by
  unfold State.cmdDoorbell
  simp only [Bool.and_eq_true, sqDbOk_iff, idxCount_eq]

theorem State.rplDoorbell_eq (v : Half) :
    s.rplDoorbell t v =
      if s.bit Fld.tenCmdCtrlEnable t = true ∧ (v.toNat + 65536 - (s.cmd t).rplCons.toNat) % 65536 ≤
        ((s.cmd t).headIdx.toNat + 65536 - (s.cmd t).rplCons.toNat) % 65536 then
      s.modCmd t fun c => { c with rplCons := v } else s.ringFault t := by
  unfold State.rplDoorbell
  simp only [Bool.and_eq_true, cqDbOk_iff, idxCount_eq]
end

end Sys2Proof.Machine

namespace Sys2Proof
open Machine

/-- Settles O14: the doorbells by their windows, the control register by its definition. -/
theorem commandPath : Obligations.CommandPath := by
  intro s t v c size sv n posted r head
  refine ⟨fun hg => ⟨fun he hn hp => ?_, fun hn => ?_⟩, fun hg => ⟨fun he hr => ?_, fun hn => ?_⟩, fun hg => ?_⟩
  · rw [exec_tenCmdDbWrite_serve hg, State.cmdDoorbell_eq, if_pos ⟨he, hn, hp⟩]
  · rw [exec_tenCmdDbWrite_serve hg, State.cmdDoorbell_eq, if_neg hn, State.ringFault]
  · rw [exec_tenRplDbWrite_serve hg, State.rplDoorbell_eq, if_pos ⟨he, hr⟩]
  · rw [exec_tenRplDbWrite_serve hg, State.rplDoorbell_eq, if_neg hn, State.ringFault]
  · intro old after
    have hc (w : Word) : s.write32 t 0x118 w 0 = after w := by
      rw [State.write32_tenCmdCtrl hg, State.cmdCtrl]
      simp only [Bool.and_eq_true, bne_iff_ne, Bool.not_eq_true', after, old]
      rfl
    exact ⟨congrArg done (hc _), congrArg done (hc _), congrArg done (hc _)⟩

end Sys2Proof
end

section
/-!
PROOFS. The control register of a DMA channel (R169, R180, R184).
-/
namespace Sys2Proof.Machine

/-- Setting a key twice leaves the second value. -/
theorem Tab.set_set {α : Type} (t : Tab α) (k : Nat) (v w : α) : Tab.set (Tab.set t k v) k w = Tab.set t k w := by
  induction t with
  | nil => simp [Tab.set]
  | cons e r ih =>
    obtain ⟨a, x⟩ := e
    unfold Tab.set
    by_cases h : k = a
    · simp [h, Tab.set]
    · by_cases hl : k < a
      · simp [h, hl, Tab.set]
      · simp [h, hl, Tab.set, ih]

/-! ### The control register of a DMA channel (R169, R180, R184) -/

/-- The four bits of DMA_CH_CTRL that act, in a word whose others are given. -/
theorem ctrlBits {v : Word} (h : v.toNat % 16 = 0) {k : Nat} (hk : k < 4) : v[k] = false := by
  rw [← BitVec.getLsbD_eq_getElem, BitVec.getLsbD, Nat.testBit_eq_decide_div_mod_eq]
  have h16 : v.toNat / 2 ^ k % 2 = 0 := by
    obtain rfl | rfl | rfl | rfl : k = 0 ∨ k = 1 ∨ k = 2 ∨ k = 3 := by omega
    all_goals omega
  simp [h16]

section
variable {s : State} {t : Fin 256}

theorem State.write32_dmaChCtrl (hg : s.gate t 0x404 true = .serve) (w : Word) : s.write32 t 0x404 w 0 = s.dmaCtrl t w :=
  State.write32_reg (r := .dmaChCtrl) (i := t) hg rfl rfl rfl w 0

@[simp] theorem State.chan_modChan_same (s : State) (ch : Nat) (f : Chan → Chan) : (s.modChan ch f).chan ch = f (s.chan ch) := by
  simp [State.chan, State.modChan]

/-- A second change that finds nothing to do leaves the first. -/
theorem State.modChan_modChan_id (s : State) (ch : Nat) (f g : Chan → Chan) (h : g (f (s.chan ch)) = f (s.chan ch)) :
    (s.modChan ch f).modChan ch g = s.modChan ch f := by
  simp only [State.modChan, State.chan, Tab.getD_set_same, Tab.set_set]
  simp only [State.chan] at h
  rw [h]

theorem State.loadRefused_owned {ch : Nat} (h : (s.chan ch).owner = some t.val) :
    s.loadRefused ch = (s.modChan ch fun c => { c with loadRefused := true }).raise t 6 := by
  rw [State.loadRefused, h]

/-- What the control register does with each of its bits alone, on a channel that the function owns. -/
theorem State.dmaCtrl_owned {v : Word} (hv : v.toNat % 16 = 0) (ho : (s.chan (s.getF Fld.dmaSelChannel t)).owner = some t.val) :
    let ch := s.getF Fld.dmaSelChannel t
    s.dmaCtrl t (v ||| 1) = s.dmaPause ch ∧ s.dmaCtrl t (v &&& ~~~1) = s.dmaResume ch ∧
    s.dmaCtrl t (v ||| 2) = (s.dmaResume ch).dmaClear ch ∧ s.dmaCtrl t (v ||| 4) = (s.dmaResume ch).dmaLoad t ∧
    s.dmaCtrl t (v ||| 8) = (s.dmaResume ch).dmaUnload t := by
  have h0 : v[0] = false := ctrlBits hv (by decide)
  have h1 : v[1] = false := ctrlBits hv (by decide)
  have h2 : v[2] = false := ctrlBits hv (by decide)
  have h3 : v[3] = false := ctrlBits hv (by decide)
  refine ⟨?_, ?_, ?_, ?_, ?_⟩ <;> simp [State.dmaCtrl, ho, h0, h1, h2, h3]

/-- LOAD on an owned channel (R169). -/
theorem State.dmaLoad_eq {ch : Nat} (hch : s.getF Fld.dmaSelChannel t = ch) (ho : (s.chan ch).owner = some t.val) :
    s.dmaLoad t =
      if s.slotBusy ch (s.getF Fld.dmaSelSlot t) || (s.reg64 .dmaPrgLoadLo .dmaPrgLoadHi t).toNat % 64 != 0 then s.loadRefused ch
      else
        let s1 := s.modChan ch fun c => { c with
          loading := (c.loading.filter fun x => x.1 != s.getF Fld.dmaSelSlot t) ++
            [(s.getF Fld.dmaSelSlot t, s.reg64 .dmaPrgLoadLo .dmaPrgLoadHi t, s.dma.dbNext)] }
        { s1 with dma := { s1.dma with dbNext := s1.dma.dbNext + 1 } } := by
  unfold State.dmaLoad
  simp only [hch, ho, ne_eq, not_true_eq_false, if_false]

/-- UNLOAD on an owned channel (R169). -/
theorem State.dmaUnload_eq {ch : Nat} (hch : s.getF Fld.dmaSelChannel t = ch) (ho : (s.chan ch).owner = some t.val) :
    s.dmaUnload t =
      if s.slotBusy ch (s.getF Fld.dmaSelSlot t) then s.loadRefused ch
      else s.modChan ch fun c => { c with
        slots := Tab.del c.slots (s.getF Fld.dmaSelSlot t)
        state := if (Tab.del c.slots (s.getF Fld.dmaSelSlot t)).isEmpty then .stopped else c.state } := by
  unfold State.dmaUnload
  simp only [hch, ho, ne_eq, not_true_eq_false, if_false]

/-- Another function's write does nothing. -/
theorem State.dmaCtrl_other (ho : (s.chan (s.getF Fld.dmaSelChannel t)).owner ≠ some t.val) (w : Word) : s.dmaCtrl t w = s := by
  unfold State.dmaCtrl
  exact if_pos ho

end

end Sys2Proof.Machine

namespace Sys2Proof
open Machine

/-- Settles O15: the control word's bits one by one, on the channel as it stands once PAUSE is cleared. -/
theorem dmaChannelControl : Obligations.DmaChannelControl := by
  intro s t v hg hv ch slot a on x
  have hw (w : Word) : done (s.write32 t 0x404 w 0) = .next (settle (s.dmaCtrl t w)) :=
    congrArg done (State.write32_dmaChCtrl hg w)
  refine ⟨fun ho => ?other, fun ho => ?owned⟩
  case other =>
    have h (w : Word) : done (s.write32 t 0x404 w 0) = .next (settle s) := by rw [hw, State.dmaCtrl_other ho]
    exact ⟨h _, h _, h _, h _, h _⟩
  case owned =>
    obtain ⟨hpause, hresume, hclear, hload, hunload⟩ := State.dmaCtrl_owned hv ho
    have hon : s.dmaResume ch = on := rfl
    have hown : (on.chan ch).owner = some t.val := by simp only [on, State.chan_modChan_same]; exact ho
    have hp : x.pause = false := by simp [x, on]
    have hrefused : on.loadRefused ch = _ := State.loadRefused_owned hown
    rw [hon] at hresume hclear hload hunload
    have hsel : on.getF Fld.dmaSelSlot t = slot := rfl
    have hsel64 : on.reg64 .dmaPrgLoadLo .dmaPrgLoadHi t = a := rfl
    refine ⟨(hw _).trans (by rw [hpause]; rfl), (hw _).trans (by rw [hresume]), fun hh => ?halted, fun hh => ?running,
      fun hb ha => ?unaligned, fun hb ha => ?loads, fun hb => ⟨?busyLoad, ?busyUnload⟩, fun hb => ?unloads⟩
    case halted =>
      refine (hw _).trans ?_
      rw [hclear]
      simp only [State.dmaClear, State.modChan]
      rw [show (on.chan (s.getF Fld.dmaSelChannel t)).pause = false from hp, if_pos hh, if_neg (by decide)]
    case running =>
      refine (hw _).trans ?_
      rw [hclear]
      exact congrArg (fun u => Host.Outcome.next (settle u)) (State.modChan_modChan_id s ch _ _
        (if_neg fun e => hh ((congrArg Chan.state (State.chan_modChan_same s ch _)).trans e)))
    case unaligned =>
      refine (hw _).trans ?_
      rw [hload, State.dmaLoad_eq (s := on) (ch := ch) rfl hown, hsel, hsel64, hb, if_pos (by simpa using ha), hrefused]
    case loads =>
      refine (hw _).trans ?_
      rw [hload, State.dmaLoad_eq (s := on) (ch := ch) rfl hown, hsel, hsel64, hb, if_neg (by simpa using ha)]
      rfl
    case busyLoad =>
      refine (hw _).trans ?_
      rw [hload, State.dmaLoad_eq (s := on) (ch := ch) rfl hown, hsel, hb, if_pos (by simp), hrefused]
    case busyUnload =>
      refine (hw _).trans ?_
      rw [hunload, State.dmaUnload_eq (s := on) (ch := ch) rfl hown, hsel, hb, if_pos rfl, hrefused]
    case unloads =>
      refine (hw _).trans ?_
      rw [hunload, State.dmaUnload_eq (s := on) (ch := ch) rfl hown, hsel, hb, if_neg (by simp)]

end Sys2Proof
end

section
/-!
PROOFS. The start of a frame, beats and marks (R62 to R64, R230).
-/
namespace Sys2Proof.Machine

/-! ### What the boundary keeps -/

@[simp] theorem State.dropPlacement_time (s : State) (q : Nat) (i : Half) : (s.dropPlacement q i).time = s.time := rfl

@[simp] theorem State.modEntry_time (s : State) (q : Nat) (i : Half) (f : Entry → Entry) :
    (s.modEntry q i f).time = s.time := rfl

@[simp] theorem State.endStrike_time (s : State) (q : Nat) (i : Half) (st : XStatus) :
    (s.endStrike q i st).time = s.time := by
  unfold State.endStrike; (repeat' split) <;> simp

@[simp] theorem State.slotMissed_time (s : State) (q : Nat) (i : Half) : (s.slotMissed q i).time = s.time := by
  have hu : (s.unplace q i).time = s.time := rfl
  unfold State.slotMissed
  extract_lets s1
  split
  · split
    · exact hu
    · dsimp only
      split
      · exact (State.endStrike_time _ _ _ _).trans hu
      · exact hu
  · exact hu

@[simp] theorem State.skipBeat_time (s : State) (a b c : Nat) : (s.skipBeat a b c).time = s.time := rfl

@[simp] theorem State.skipBeat_qps (s : State) (a b c : Nat) : (s.skipBeat a b c).qps = s.qps := rfl

@[simp] theorem State.cisUncorrected_time (s : State) (r : Nat) (a : BitVec 24) :
    (s.cisUncorrected r a).time = s.time := by
  unfold State.cisUncorrected
  rw [State.raise_time, State.setReg_time, State.setF_time, State.addF_time]

@[simp] theorem State.cisUncorrected_qps (s : State) (r : Nat) (a : BitVec 24) :
    (s.cisUncorrected r a).qps = s.qps := by
  unfold State.cisUncorrected
  rw [State.raise_qps, State.setReg_qps, State.setF_qps, State.addF_qps]

@[simp] theorem State.readBad_time (s : State) (b : BadWord) : (s.readBad b).time = s.time := by
  unfold State.readBad; (repeat' split) <;> simp

@[simp] theorem State.readBad_qps (s : State) (b : BadWord) : (s.readBad b).qps = s.qps := by
  unfold State.readBad; (repeat' split) <;> simp

@[simp] theorem State.readWords_time (s : State) (r w : Nat) : (s.readWords r w).1.time = s.time := by
  unfold State.readWords
  dsimp only
  split
  · rfl
  · exact foldl_proj State.time _ (fun s b => s.readBad_time b) _ _

@[simp] theorem State.readWords_qps (s : State) (r w : Nat) : (s.readWords r w).1.qps = s.qps := by
  unfold State.readWords
  dsimp only
  split
  · rfl
  · exact foldl_proj State.qps _ (fun s b => s.readBad_qps b) _ _

theorem State.readWords_of_bad_nil {s : State} (h : s.dma.bad = []) (r w : Nat) : s.readWords r w = (s, false) := by
  simp [State.readWords, h]

@[simp] theorem State.readAlmanac_time (s : State) (n : Word) : (s.readAlmanac n).time = s.time := by
  refine foldl_proj State.time _ (fun s k => ?_) _ _
  dsimp only; split <;> simp

@[simp] theorem State.readAlmanac_qps (s : State) (n : Word) : (s.readAlmanac n).qps = s.qps := by
  refine foldl_proj State.qps _ (fun s k => ?_) _ _
  dsimp only; split <;> simp

/-- Where no word of the Cistern is in error, the reading of the Almanac changes nothing. -/
theorem State.readAlmanac_of_bad_nil {s : State} (h : s.dma.bad = []) (n : Word) : s.readAlmanac n = s := by
  unfold State.readAlmanac
  generalize List.range 32 = ks
  induction ks with
  | nil => rfl
  | cons k ks ih => simpa [State.readWords_of_bad_nil h] using ih

/-- While frames have a length, the boundary stores the frame that begins and then reads the Almanac for frame n+2. -/
theorem State.nextFrame_reads (s : State) (h : s.time.len ≠ 0) :
    ∃ (u : State) (f : FrameRec), s.nextFrame = u.readAlmanac (s.time.frame + 1 + 2) ∧
      u.time.frame = s.time.frame + 1 ∧ u.time.start = s.time.start + BitVec.ofNat 64 s.time.len ∧
      u.time.len = s.getF Fld.mrcLenNextLen 0 ∧ u.time.prevLen = s.time.len ∧ u.time.beat = 0 ∧
      u.frames = s.frames.drop 1 ++ [f] ∧ f.number = s.time.frame + 1 + 2 ∧
      u.dma = s.dma ∧ u.regs = s.regs ∧ u.qps = s.qps := by
  have hb : (s.time.len != 0) = true := by simpa using h
  unfold State.nextFrame
  extract_lets begun n start s1 time1 s2 s3
  have hn : n = s.time.frame + 1 := if_pos hb
  have hf : s3.frames = s2.frames.drop 1 ++ [s2.openFrame (n + 2)] := if_pos hb
  have h1 : s1.frames = s.frames ∧ s1.dma = s.dma ∧ s1.regs = s.regs ∧ s1.qps = s.qps := by simp [s1]
  obtain ⟨h1f, h1d, h1r, h1q⟩ := h1
  refine ⟨s3, s2.openFrame (n + 2), ?_, hn, rfl, rfl, rfl, rfl, ?_, ?_, h1d, h1r, h1q⟩
  · rw [if_pos hb, hn]
  · rw [hf, show s2.frames = s.frames from h1f]
  · rw [← hn]; rfl

end Sys2Proof.Machine

namespace Sys2Proof
open Machine

/-- Settles O16: the order of the work is the row's own; the frame that begins is what the boundary stores, which neither the
reading of the Almanac nor the strikes of the frame that ended touch. -/
theorem frameStart : Obligations.FrameStart := by
  intro s rx hrun hst hhold hlen n ended a b c d
  obtain ⟨u, f, hn, hfr, hst', hl, hp, hbt, hfs, hfn, hd, hr, hq⟩ := s.nextFrame_reads hlen
  have hn : n = u.readAlmanac (s.time.frame + 1 + 2) := hn
  have ht : n.time = u.time := by rw [hn, State.readAlmanac_time]
  have hu (hb : s.dma.bad = []) : n = u := by
    rw [hn, State.readAlmanac_of_bad_nil]
    rwa [hd]
  refine ⟨congrArg done (if_pos (by simp [hrun, hst, hhold])), ?_, ?_, ?_, ?_, ?_, fun hb => ⟨f, ?_, ?_⟩, ?_, fun hb => ?_, ?_⟩
  · rw [ht, hfr]
  · rw [ht, hst']
  · rw [ht, hl]
  · rw [ht, hp]
  · rw [ht, hbt]
  · rw [hu hb, hfs]
  · rw [hfn, BitVec.add_assoc]; rfl
  · exact foldl_proj State.time _ (fun s (w : Nat × Half) => s.slotMissed_time w.1 w.2) _ _
  · rw [hu hb, hr]
  · rw [hn, State.readAlmanac_qps, hq]

end Sys2Proof

namespace Sys2Proof.Machine

/-! ### What the work of a beat keeps -/

/-- What stands on the buses: the transactions, the endpoint directions and the Almanac's accounts. -/
def State.busView (s : State) : List Txn × Tab Ep × AlmSt := (s.txns, s.eps, s.alm)

@[simp] theorem State.endStrike_busView (s : State) (q : Nat) (i : Half) (st : XStatus) :
    (s.endStrike q i st).busView = s.busView := by
  unfold State.endStrike; (repeat' split) <;> rfl

@[simp] theorem State.withdraw_busView (s : State) (q : Nat) (i : Half) (st : XStatus) :
    (s.withdraw q i st).busView = s.busView := by
  unfold State.withdraw
  (repeat' split) <;> first | rfl | exact State.endStrike_busView _ _ _ _

@[simp] theorem State.withdrawAll_busView (s : State) (p : Entry → Bool) (st : XStatus) :
    (s.withdrawAll p st).busView = s.busView := by
  refine foldl_proj State.busView _ (fun s v => ?_) _ _
  exact foldl_proj State.busView _ (fun s _ => s.withdraw_busView _ _ st) _ _

@[simp] theorem State.mrcStrikes_busView (s b : State) : (s.mrcStrikes b).busView = s.busView := by
  unfold State.mrcStrikes State.lockLost State.slipStrikes
  dsimp only
  (repeat' split) <;> simp

@[simp] theorem State.raiseMillrace_busView (s : State) : s.raiseMillrace.busView = s.busView := by
  simp [State.busView]

@[simp] theorem State.loseSource_busView (s : State) : s.loseSource.busView = s.busView := by
  unfold State.loseSource
  split
  · rfl
  · exact (State.raiseMillrace_busView _).trans (State.mrcStrikes_busView _ _)

@[simp] theorem State.encoderBeat_busView (s : State) : s.encoderBeat.busView = s.busView := by
  unfold State.encoderBeat
  dsimp only
  split
  · rfl
  · split
    · exact State.loseSource_busView _
    · rfl

@[simp] theorem State.actsDue_busView (s : State) : s.actsDue.busView = s.busView := by
  unfold State.actsDue
  extract_lets late s1 fix
  have h1 : s1.busView = s.busView :=
    foldl_proj State.busView (fun s e => s.addF Fld.prtStrikeStatLateCancel (s.strikePort e) 1) (fun _ _ => rfl) late s
  exact h1

/-- A beat's start lets the waits go on, starts the account of control transfers anew and keeps what else stands on the buses. -/
theorem State.beatWork_busView (s : State) :
    s.beatWork.busView =
      (s.txns.map fun x => { x with beats := x.beats - 1, own := x.own - 1 },
        Tab.mapVal s.eps fun _ e => { e with waitBeat := false }, { s.alm with ctlUsed := [] }) := by
  unfold State.beatWork
  extract_lets txns eps alm1 s1
  rw [State.actsDue_busView]
  split
  · rfl
  · exact State.encoderBeat_busView s1

end Sys2Proof.Machine

namespace Sys2Proof
open Machine

/-- Settles O17: the row's own conditions; what a beat's start leaves on the buses is `beatWork_busView`. -/
theorem beatsAndMarks : Obligations.BeatsAndMarks := by
  refine ⟨?beat, fun s => ⟨?sof, ?skp⟩⟩
  case beat =>
    intro s k h1 h7 u w b
    have hw := ({ u with time := { u.time with beat := k } } : State).beatWork_busView
    obtain ⟨htx, heps, halm⟩ := And.intro (congrArg (·.1) hw) (And.intro (congrArg (·.2.1) hw) (congrArg (·.2.2) hw))
    refine ⟨fun hr hk => ⟨?_, ?_, congrArg AlmSt.ctlUsed halm, ?_⟩, fun hn => ?_⟩
    · exact congrArg done (if_neg (by simp [hr, hk, h7]))
    · intro e he
      rw [show w.eps = _ from heps] at he
      obtain ⟨e, -, rfl⟩ := List.mem_map.mp he
      rfl
    · refine htx.trans ?_
      rw [show u.txns = s.txns from State.upTo_txns _ _]
    · refine congrArg done (if_pos ?_)
      by_cases hr : s.time.running = true <;> simp_all
  case sof =>
    intro p l hheld u
    have hh : ¬(!(s.link l).sofHeld) = true := by simp [hheld]
    refine congrArg done ((if_neg hh).trans ?_)
    exact apply_ite State.releaseAfterSof _ _ _
  case skp =>
    intro lane h3 hp hd tick
    refine ⟨fun hm => congrArg done (if_pos ?_), fun hr hm => congrArg done (if_neg ?_)⟩
    · simpa [h3, hp, hd] using hm
    · simpa [h3, hp, hd, hr] using hm

end Sys2Proof
end

section
/-!
PROOFS. Slots, transactions and what starts in unreserved time (R17, R36 to R49, R98 to R109, R128 to R134).
-/
namespace Sys2Proof.Machine

/-! ### Errors of transactions and the Weir's accounts -/

theorem State.ep_modEp_same (s : State) (a e : Nat) (d : Bool) (f : Ep → Ep) :
    (s.modEp a e d f).ep a e d = f (s.ep a e d) :=
  Tab.getD_set_same _ _ _ _

theorem State.ep_of_eps_eq {s u : State} (h : u.eps = s.eps) (a e : Nat) (d : Bool) : u.ep a e d = s.ep a e d := by
  unfold State.ep; rw [h]

theorem State.strikeError_eps (s : State) (x : Txn) : (s.strikeError x).eps = s.eps := by
  unfold State.strikeError; split <;> rfl

theorem State.swapTxn_ep (s : State) (x : Txn) (y : Option Txn) (a e : Nat) (d : Bool) :
    (s.swapTxn x y).ep a e d = s.ep a e d := rfl

theorem State.txError_below_fourth (s : State) (x : Txn) (hw : ∀ r, x.work ≠ .keeper r)
    (h : (s.ep (txAddr x.link x.addr) x.ep x.dirIn).errs < 3) :
    ((s.txError x).ep (txAddr x.link x.addr) x.ep x.dirIn).errs = (s.ep (txAddr x.link x.addr) x.ep x.dirIn).errs + 1 := by
  have h4 : (s.ep (txAddr x.link x.addr) x.ep x.dirIn).errs + 1 < 4 := by omega
  unfold State.txError
  split
  · exact absurd ‹_› (hw _)
  · dsimp only
    rw [if_pos h4, State.swapTxn_ep, State.ep_of_eps_eq (State.strikeError_eps _ _), State.ep_modEp_same]

theorem State.weirStart_of_nil {s : State} {p : Nat}
    (h : ((s.qpOwners.filter fun t => !(s.portReady p t false).isEmpty).filter fun t => (s.weirHead p t).isSome) = []) :
    s.weirStart p = s := by
  unfold State.weirStart; dsimp only; rw [h]; rfl

/-- In shared mode no bulk work starts while a tenant's control work can (R104). -/
theorem State.weirHead_of_control {s : State} {p u : Nat} (hs : s.strict = false) (hu : u ∈ s.qpOwners)
    (hc : (s.controlHead p u).isSome) (t : Nat) : s.weirHead p t = none := by
  have hany : (s.qpOwners.any fun u => (s.controlHead p u).isSome) = true := List.any_eq_true.mpr ⟨u, hu, hc⟩
  unfold State.weirHead
  split
  · rfl
  · simp [hs, hany]

end Sys2Proof.Machine

namespace Sys2Proof
open Machine

/-- Settles O20: the row's match, and `txError_below_fourth`. -/
theorem timeoutsAndErrors : Obligations.TimeoutsAndErrors := by
  intro s
  refine ⟨fun p sd tag x hx => ?_, fun addr ep d hw => congrArg done (if_pos hw), fun x hw h => s.txError_below_fourth x hw h⟩
  refine congrArg done ?_
  rw [hx]

/-- Settles O22: the three ways of a round, and what a visit and its end do to the deficit. -/
theorem weirBulk : Obligations.WeirBulk := by
  intro s p sd ts heads
  refine ⟨fun h => congrArg done (State.weirStart_of_nil h), fun hs ⟨u, hu, hc⟩ => ?_, fun t x u ht hs hx hu => ?_,
    fun hne hs => ?_, fun t hv => ?_, fun t hv => ?_, fun t hr => ?_⟩
  · exact List.filter_eq_nil_iff.mpr fun t _ => by simp [State.weirHead_of_control hs hu hc t]
  · obtain ⟨r, hr⟩ : ∃ r, heads = t :: r := List.head?_eq_some_iff.mp ht
    have hf : (heads.findSome? fun t => (s.weirHead p t).bind (s.tryStart t)) = some u := by
      rw [hr, List.findSome?_cons_of_isSome (by simp [hx, hu]), hx, Option.bind_some, hu]
    have he : ¬heads.isEmpty = true := by simp [hr]
    refine congrArg done ((if_neg he).trans ((if_pos hs).trans ?_))
    rw [hf]
  · have he : ¬heads.isEmpty = true := by simpa using hne
    exact congrArg done ((if_neg he).trans (if_neg (by simp [hs])))
  · unfold State.weirVisit
    rw [hv]
    exact Tab.getD_set_same _ _ _ _
  · unfold State.weirVisit
    rw [hv]
    rfl
  · unfold State.weirNext
    simp [hr]

end Sys2Proof

namespace Sys2Proof.Machine

/-! ### Slots and what starts in unreserved time -/

theorem State.slotStart_departs {s : State} {i : Nat} {x : FSlot} (hx : (s.frames.headD ⟨0, []⟩).slots[i]? = some x) (rx : Bool)
    (hg : x.gone = false) (hb : x.slot.beat = s.time.beat) (hr : s.time.running = true) (hro : s.role ≠ 3) :
    let tick := max (s.slotTick 0 x.slot) (Tab.getD s.alm.starts (quadOf x.slot.port) 0)
    let gone := (s.upTo (BitVec.ofNat 64 tick)).slotGone i
    s.slotStart i rx =
      if x.slot.pair && (rx || (s.link x.slot.link).arriving) then
        gone.modLink x.slot.link fun k => { k with slotHeld := k.slotHeld ++ [i] }
      else if s.linkUp x.slot.link then gone.serveSlot x tick
      else x.strike.elim gone fun w => gone.slotMissed w.1 w.2 := by
  intro tick gone
  have hc : ¬(x.gone || x.slot.beat != s.time.beat || !s.time.running || s.role == 3) = true := by simp [hg, hb, hr, hro]
  unfold State.slotStart
  rw [hx]
  refine (if_neg hc).trans (ite_congr rfl (fun _ => rfl) fun _ => ite_congr rfl (fun _ => rfl) fun _ => ?_)
  cases x.strike with
  | none => rfl
  | some w => simp only [Option.elim, gone, tick]

theorem State.slotStart_of_gone {s : State} {i : Nat} {x : FSlot} (hx : (s.frames.headD ⟨0, []⟩).slots[i]? = some x) (rx : Bool)
    (hg : x.gone = true) : s.slotStart i rx = s := by
  unfold State.slotStart
  rw [hx]
  exact if_pos (by simp [hg])

theorem State.lateSlot_eq {s : State} {i : Nat} {x : FSlot} (hx : (s.frames.headD ⟨0, []⟩).slots[i]? = some x) :
    let l := x.slot.link
    let free := s.modLink l fun k => { k with arriving := false }
    let due := free.modLink l fun k => { k with slotHeld := k.slotHeld.filter (· != i) }
    let sent := due.serveSlot x (max s.now.toNat (Tab.getD s.alm.starts (quadOf x.slot.port) 0))
    s.lateSlot i =
      if !(s.link l).slotHeld.contains i then s
      else if s.linkUp l && (s.freeTag l).isNone then free
      else if due.out.length < sent.out.length then sent.addF Fld.prtSlotLateLate x.slot.port 1 else sent := by
  unfold State.lateSlot
  rw [hx]

end Sys2Proof.Machine

namespace Sys2Proof
open Machine

/-- Settles O18: the four ways of a slot's START, and the three of a late one. -/
theorem slotStart : Obligations.SlotStart := by
  intro s i x rx hx l tick gone
  have hl := State.lateSlot_eq hx
  refine ⟨fun hg hb hr hro => ?start, fun hh => ?late, fun hh => congrArg done (hl.trans (if_pos ?_)),
    fun hg => congrArg done (State.slotStart_of_gone hx rx hg)⟩
  case start =>
    have hs := State.slotStart_departs hx rx hg hb hr hro
    have hwait : (x.slot.pair && (rx || (s.link x.slot.link).arriving)) = true ↔
        x.slot.pair = true ∧ (rx = true ∨ (s.link x.slot.link).arriving = true) := by simp
    refine ⟨fun hp ha => congrArg done (hs.trans (if_pos (hwait.mpr ⟨hp, ha⟩))),
      fun hn hu => congrArg done (hs.trans ((if_neg fun h => hn (hwait.mp h)).trans (if_pos hu))),
      fun w hn hu hw => congrArg done (hs.trans ((if_neg fun h => hn (hwait.mp h)).trans ((if_neg ?_).trans ?_)))⟩
    · exact ne_true_of_eq_false hu
    · simp only [hw, Option.elim, gone, tick]
  case late =>
    intro free due sent
    have hh' : ¬(!(s.link x.slot.link).slotHeld.contains i) = true := by
      rw [show (s.link x.slot.link).slotHeld.contains i = true from hh]; decide
    have hl := hl.trans (if_neg hh')
    have hgo (h : s.linkUp l = false ∨ s.freeTag l ≠ none) : ¬(s.linkUp x.slot.link && (s.freeTag x.slot.link).isNone) = true := by
      intro hc
      obtain ⟨hu, hf⟩ := Bool.and_eq_true_iff.mp hc
      exact h.elim (fun h => absurd hu (ne_true_of_eq_false h)) fun h => h (Option.isNone_iff_eq_none.mp hf)
    refine ⟨fun hu hf => congrArg done (hl.trans (if_pos ?_)),
      fun h hlt => congrArg done (hl.trans ((if_neg (hgo h)).trans (if_pos hlt))),
      fun h hle => congrArg done (hl.trans ((if_neg (hgo h)).trans (if_neg (Nat.not_lt.mpr hle))))⟩
    exact Bool.and_eq_true_iff.mpr ⟨hu, Option.isNone_iff_eq_none.mpr hf⟩
  · rw [show (s.link x.slot.link).slotHeld.contains i = false from hh]; decide

end Sys2Proof

namespace Sys2Proof.Machine

/-! ### What starts in unreserved time -/

theorem State.controlHead_some {s : State} {p t : Nat} (h : (s.controlHead p t).isSome) :
    ∃ (e : Entry) (x : Txn) (rest : List (Entry × Txn)), s.portReady p t true = (e, x) :: rest ∧ s.controlHead p t = some x ∧
      (s.tryStart t x).isSome ∧ s.order3 x.link t = false ∧ s.keeperNext x.link = none ∧ s.controlShare p x = true := by
  unfold State.controlHead at h ⊢
  split at h
  · exact absurd h Bool.false_ne_true
  · rename_i e x rest hr
    split at h
    · rename_i hc
      refine ⟨e, x, rest, hr, ?_⟩
      simp only [Bool.and_eq_true, Bool.not_eq_true', Option.isNone_iff_eq_none] at hc
      obtain ⟨⟨⟨ht, ho⟩, hk⟩, hs⟩ := hc
      exact ⟨if_pos (by simp [ht, ho, hk, hs]), ht, ho, hk, hs⟩
    · exact absurd h Bool.false_ne_true

theorem mem_of_nextFrom {n t : Nat} {l : List Nat} (h : nextFrom n l = some t) : t ∈ l := by
  unfold nextFrom at h
  split at h
  · rename_i k hk
    exact Option.some.inj h ▸ List.mem_of_find?_eq_some hk
  · exact List.mem_of_head? h

end Sys2Proof.Machine

namespace Sys2Proof
open Machine

/-- Settles O21: each start is its row's condition; a tenant whose turn it is has a head that can start (`controlHead_some`). -/
theorem unreservedStarts : Obligations.UnreservedStarts := by
  intro s hrun
  refine ⟨?retry, ?withdrawal, ?keeper, ?control⟩
  case retry =>
    intro addr ep d x hx y t go
    have hs : s.retryStart addr ep d = if go then s.resumeTxn x t else s := by
      unfold State.retryStart
      dsimp only
      rw [hx]
      simp only [hrun, Bool.true_and]
      rfl
    exact ⟨fun hg => congrArg done (hs.trans (if_pos hg)), fun hg => congrArg done (hs.trans (if_neg (ne_true_of_eq_false hg)))⟩
  case withdrawal =>
    intro q idx e p he hp t go
    refine congrArg done ?_
    unfold State.withdrawalSend
    rw [he]
    dsimp only
    rw [hp]
    simp only [hrun, Bool.true_and]
    rfl
  case keeper =>
    intro p sd l kept
    refine ⟨fun h => congrArg done ?_, fun k x t hk ho => congrArg done ?_⟩
    · unfold State.keeperStart
      rcases h with h | h
      · rw [h]
      · dsimp only
        split
        · rfl
        · exact if_pos h
    · unfold State.keeperStart
      rw [hk]
      exact if_neg (ne_true_of_eq_false ho)
  case control =>
    intro p sd turn
    refine ⟨fun h => congrArg done ?_, ?_⟩
    · unfold State.controlStart
      dsimp only
      rw [show nextFrom _ _ = none from h]
    · intro t e x rest u ht hr hu chg used
      obtain ⟨e', x', rest', hr', hx, -, ho, hk, hsh⟩ :=
        State.controlHead_some (List.mem_filter.mp (mem_of_nextFrom ht)).2
      obtain ⟨⟨rfl, rfl⟩, rfl⟩ : (e = e' ∧ x = x') ∧ rest = rest' := by simpa using hr.symm.trans hr'
      refine ⟨congrArg done ?_, ho, hk, ?_⟩
      · unfold State.controlStart
        dsimp only
        rw [show nextFrom _ _ = some t from ht]
        dsimp only
        rw [hx, Option.bind_some, hu]
        rfl
      · simpa [State.controlShare, or_assoc] using hsh

end Sys2Proof

namespace Sys2Proof.Machine

/-! ### Answers of devices -/

section Answer
variable {s : State} {l : Nat} {rx : LineRx} {x : Txn} {tag : Nat} (pick : Txn → Bool)
  (data : State → Txn → Bool → List Byte → State) (shake : State → Txn → Pid → State)

theorem State.answer_shake {pid : Pid} (hl : s.linkUp l = true) (hr : receive (s.fmtE l) rx = .shake pid tag)
    (hx : s.answered l tag = some x) (hp : pick x = true) : s.answer l rx pick data shake = shake s x pid := by
  simp [State.answer, hl, hr, hx, hp]

theorem State.answer_data {t : Bool} {b : List Byte} (hl : s.linkUp l = true) (hr : receive (s.fmtE l) rx = .data t tag b)
    (hx : s.answered l tag = some x) (hp : pick x = true) : s.answer l rx pick data shake = data s x t b := by
  simp [State.answer, hl, hr, hx, hp]

theorem State.answer_dataBad (hl : s.linkUp l = true) (hr : receive (s.fmtE l) rx = .dataBad tag)
    (hx : s.answered l tag = some x) (hp : pick x = true) : s.answer l rx pick data shake = (s.discarded l).txError x := by
  simp [State.answer, hl, hr, hx, hp]

theorem State.answer_other {pid : Pid} (hl : s.linkUp l = true) (hr : receive (s.fmtE l) rx = .other pid tag)
    (hx : s.answered l tag = some x) (hp : pick x = true) : s.answer l rx pick data shake = s.txError x := by
  simp [State.answer, hl, hr, hx, hp]

end Answer

theorem State.disarmShake_other (s : State) (x : Txn) {p : Pid} (ha : p ≠ .ack) (hn : p ≠ .nyet) :
    s.disarmShake x p = s.txError x := by
  cases p <;> first | rfl | exact absurd rfl ha | exact absurd rfl hn

theorem State.retractShake_other (s : State) (x : Txn) {p : Pid} (ha : p ≠ .ack) (hn : p ≠ .nyet) :
    s.retractShake x p = s.txError x := by
  cases p <;> first | rfl | exact absurd rfl ha | exact absurd rfl hn

end Sys2Proof.Machine

namespace Sys2Proof
open Machine

/-- Settles O19: what arrives names the transaction, and each row's own choice of transactions holds of it. -/
theorem transactionAnswers : Obligations.TransactionAnswers := by
  intro s p sd rx x l hl
  refine ⟨fun pid tag hr hx => ?shake, fun t tag b hr hx hk hp => ?data, fun tag hr hx hk hp => ?bad, fun pid tag hr hx hp => ?other⟩
  case shake =>
    have shakes (pick : Txn → Bool) (data) (shake) (hp : pick x = true) := State.answer_shake pick data shake hl hr hx hp
    refine ⟨fun hk hp => congrArg done (shakes _ _ _ (by simp [hk, hp])),
      fun hp hk => congrArg done (shakes _ _ _ (by simpa [hp, or_assoc] using hk)),
      fun hp hk => congrArg done (shakes _ _ _ (by simp [hk, hp])), fun hk hp => ?_, fun hk => ?_⟩
    · have hd : s.answer l rx (fun x => decide (x.kind = .disarm) && decide (x.phase ≠ .start)) (fun s x _ _ => s.txError x)
          State.disarmShake = s.disarmShake x pid := shakes _ _ _ (by simp [hk, hp])
      refine ⟨fun h => congrArg done ?_, fun h => congrArg done ?_, fun ha hn => congrArg done ?_⟩
      · exact hd.trans (by rw [h]; rfl)
      · exact hd.trans (by rw [h])
      · exact hd.trans (s.disarmShake_other x ha hn)
    · have hd : s.answer l rx (fun x => decide (x.kind = .retract)) (fun s x _ _ => s.txError x)
          State.retractShake = s.retractShake x pid := shakes _ _ _ (by simp [hk])
      refine ⟨fun h => congrArg done ?_, fun h => congrArg done ?_, fun ha hn => congrArg done ?_⟩
      · exact hd.trans (by rw [h]; rfl)
      · exact hd.trans (by rw [h]; rfl)
      · exact hd.trans (s.retractShake_other x ha hn)
  case data =>
    have hd : s.answer l rx (fun x => decide (x.kind = .inTok) && decide (x.phase = .direct)) State.inData State.inShake =
        s.inData x t b := State.answer_data _ _ _ hl hr hx (by simp [hk, hp])
    intro ack
    refine ⟨fun h => congrArg done (hd.trans (if_pos h)), fun h ht hxl => congrArg done (hd.trans ?_),
      fun q idx e h ht hxl hw he hph => congrArg done (hd.trans ?_)⟩
    · refine (if_neg (Nat.not_lt.mpr h)).trans ?_
      rw [hxl]
      exact if_pos ht
    · refine (if_neg (Nat.not_lt.mpr h)).trans ?_
      rw [hxl]
      refine (if_neg (not_not_intro ht)).trans ?_
      rw [hw]
      dsimp only
      rw [he]
      exact if_pos hph
  case bad => exact congrArg done (State.answer_dataBad _ _ _ hl hr hx (by simp [hk, hp]))
  case other =>
    refine ⟨fun hk => congrArg done (State.answer_other _ _ _ hl hr hx (by simp [hk, hp])),
      fun hk => congrArg done (State.answer_other _ _ _ hl hr hx (by simpa [hp, or_assoc] using hk))⟩

end Sys2Proof
end

section
/-!
PROOFS. The checks of a command packet, and its entry and reply (R257 to R260, R269, R273, R277, R308).
-/
namespace Sys2Proof.Machine

/-! ### The checks of a command packet -/

theorem runCmd_of_takes_false {i : CmdInfo} {t : Nat} {s : State} (k : CmdPkt) (body : State → List Byte → CmdRes)
    (h : s.takes i t = false) : runCmd i t k body s = s := by
  simp [runCmd, h]

theorem runCmd_of_slot_outside {i : CmdInfo} {t : Nat} {s : State} (k : CmdPkt) (body : State → List Byte → CmdRes)
    (h : s.takes i t = true) (hw : s.windowOk t (s.cmdSlot t) 64 false = false) :
    runCmd i t k body s = (s.isoRefuse t (s.cmdSlot t)).pathFault t := by
  simp [runCmd, h, hw]

section Taken
variable {i : CmdInfo} {t : Nat} {k : CmdPkt} {s : State} (body : State → List Byte → CmdRes)
  (h : s.takes i t = true) (hw : s.windowOk t (s.cmdSlot t) 64 false = true)
include h hw

theorem runCmd_of_earlyCheck {st : CmdStatus} (he : (s.taken t).earlyCheck i t k = some st) :
    runCmd i t k body s = State.conclude i t k (.err (s.taken t) st) false := by
  have he' : (s.modCmd t fun c => { c with cons := c.cons + 1 }).earlyCheck i t k = some st := he
  unfold runCmd
  dsimp only
  rw [if_neg (by simp [h]), if_neg (by simp [hw]), he']
  rfl

theorem runCmd_of_blockCheck (he : (s.taken t).earlyCheck i t k = none) {st : CmdStatus}
    (hb : ((s.taken t).blockCheck i t k).2 = some st) :
    runCmd i t k body s = State.conclude i t k (.err (s.begun i t k) st) false := by
  have he' : (s.modCmd t fun c => { c with cons := c.cons + 1 }).earlyCheck i t k = none := he
  have hb' : (s.modCmd t fun c => { c with cons := c.cons + 1 }).blockCheck i t k = (s.begun i t k, some st) :=
    Prod.ext rfl hb
  unfold runCmd
  dsimp only
  rw [if_neg (by simp [h]), if_neg (by simp [hw]), he']
  dsimp only
  rw [hb']

theorem runCmd_of_checked (he : (s.taken t).earlyCheck i t k = none) (hb : ((s.taken t).blockCheck i t k).2 = none) :
    runCmd i t k body s = State.conclude i t k ((s.begun i t k).carryOut i k body)
      (i.jrn || ((s.begun i t k).carryOut i k body).status == .notPrimary) := by
  have he' : (s.modCmd t fun c => { c with cons := c.cons + 1 }).earlyCheck i t k = none := he
  have hb' : (s.modCmd t fun c => { c with cons := c.cons + 1 }).blockCheck i t k = (s.begun i t k, none) :=
    Prod.ext rfl hb
  unfold runCmd
  dsimp only
  rw [if_neg (by simp [h]), if_neg (by simp [hw]), he']
  dsimp only
  rw [hb']

end Taken

/-- What the packet asks fits its row of Table 10-4: its parameters, and its output address. -/
theorem State.carryOut_of_unfit {s : State} {i : CmdInfo} {k : CmdPkt} (body : State → List Byte → CmdRes)
    (h : ¬(i.paramsOk k.params = true ∧ (i.outLen ≠ none ∨ k.outAddr = 0))) : s.carryOut i k body = .err s .badParam := by
  refine if_pos ?_
  by_cases hp : i.paramsOk k.params = true
  · simp only [hp, true_and, not_or, ne_eq, not_not] at h
    obtain ⟨ho, ha⟩ := h
    simpa [hp, ho] using ha
  · simp [hp]

section Fits
variable {s : State} {i : CmdInfo} {k : CmdPkt} (body : State → List Byte → CmdRes)
  (hf : i.paramsOk k.params = true ∧ (i.outLen ≠ none ∨ k.outAddr = 0))
include hf

theorem not_unfit : ¬(!i.paramsOk k.params || (i.outLen.isNone && k.outAddr != 0)) = true := by
  obtain ⟨hp, ho⟩ := hf
  rcases ho with ho | ho <;> simp [hp, ho]

theorem State.carryOut_of_standby (hr : s.role = 3) (hs : i.standby = false) : s.carryOut i k body = .err s .notPrimary :=
  (if_neg (not_unfit hf)).trans (if_pos (by simp [hr, hs]))

theorem State.carryOut_of_busy (hr : s.role ≠ 3 ∨ i.standby = true)
    (hb : (i.needReady = true ∧ s.ready = false) ∨ (s.cfg.probation = true ∧ heldInProbation i.op = true)) :
    s.carryOut i k body = .err s .busy :=
  (if_neg (not_unfit hf)).trans ((if_neg (by rcases hr with hr | hr <;> simp [hr])).trans (if_pos (by simpa using hb)))

end Fits

@[simp] theorem State.begun_alm (s : State) (i : CmdInfo) (t : Nat) (k : CmdPkt) : (s.begun i t k).alm = s.alm := by
  unfold State.begun State.blockCheck
  dsimp only
  (repeat' split) <;> simp [State.taken]

theorem State.conTurn_of_alm_eq {s : State} {run : State → State} (h : (run s).alm = s.alm) : s.conTurn run = run s := by
  refine if_neg ?_
  simp [h]

/-- A command packet that need not wait runs the row of Table 10-4 it belongs to; where a contract change is pending, that holds
of a packet that makes no other. -/
theorem Instr.exec_row {c : Instr} {i : CmdInfo} {t : Fin 256} {k : CmdPkt} {s : State} (hr : c.row = some (i, t, k))
    (hh : c.heldBack s = false) :
    ∃ body, ∀ u, runCmd i t k body s = u → u.alm = s.alm → exec c s = done u := by
  cases c <;> simp only [Instr.row, Option.some.injEq, Prod.mk.injEq, reduceCtorEq] at hr <;> obtain ⟨rfl, rfl, rfl⟩ := hr
  case conOpen | conClose | conReplace =>
    exact ⟨_, fun u hu ha => congrArg done (hu ▸ State.conTurn_of_alm_eq (hu ▸ ha))⟩
  case cfgCommit =>
    have hp : s.alm.pend.isEmpty = true := by simpa [Instr.heldBack] using hh
    exact ⟨_, fun u hu _ => congrArg done ((if_pos hp).trans hu)⟩
  case cfgRollback =>
    exact ⟨_, fun u hu _ => congrArg done ((if_neg (ne_true_of_eq_false hh)).trans hu)⟩
  case secKeyLoad | secKeyErase | secAttest | secDecommission =>
    have hd : s.domainOn 5 = true := by simpa [Instr.heldBack] using hh
    exact ⟨_, fun u hu _ => congrArg done ((if_pos hd).trans hu)⟩
  all_goals exact ⟨_, fun u hu _ => congrArg done hu⟩

end Sys2Proof.Machine

namespace Sys2Proof
open Machine

/-- Settles O51: the row of the packet (`exec_row`), and the first check that fails. -/
theorem commandRefusals : Obligations.CommandRefusals := by
  intro c i t k s hrow hheld b
  obtain ⟨body, hx⟩ := Instr.exec_row hrow hheld
  refine ⟨fun ht => hx _ (runCmd_of_takes_false k body ht) rfl, fun ht hw => hx _ (runCmd_of_slot_outside k body ht hw) (by simp),
    fun ht hw => ⟨fun st he => hx _ (runCmd_of_earlyCheck body ht hw he) (by simp [CmdRes.err, State.taken]),
      fun he => ⟨fun st hb => hx _ (runCmd_of_blockCheck body ht hw he hb) (by simp [CmdRes.err, b]), fun hb => ?_⟩⟩⟩
  intro fits
  have hc := runCmd_of_checked body ht hw he hb
  have alm (st : CmdStatus) (e : Bool) : (State.conclude i t k (.err b st) e).alm = s.alm := by simp [CmdRes.err, b]
  have hj (j : Bool) : (j || CmdStatus.badParam == .notPrimary) = j ∧ (j || CmdStatus.busy == .notPrimary) = j ∧
      (j || CmdStatus.notPrimary == .notPrimary) = true := by cases j <;> decide
  obtain ⟨hbad, hbusy, hprim⟩ := hj i.jrn
  refine ⟨fun hf => hx _ (hc.trans ?_) (alm _ _), fun hf hr hs => hx _ (hc.trans ?_) (alm _ _),
    fun hf hr hb => hx _ (hc.trans ?_) (alm _ _)⟩
  · rw [State.carryOut_of_unfit body hf]
    exact congrArg (State.conclude i t k (.err b .badParam)) hbad
  · rw [State.carryOut_of_standby body hf hr hs]
    exact congrArg (State.conclude i t k (.err b .notPrimary)) hprim
  · rw [State.carryOut_of_busy body hf hr hb]
    exact congrArg (State.conclude i t k (.err b .busy)) hbusy

end Sys2Proof

namespace Sys2Proof.Machine

/-! ### An entry of a tenant beyond the registers -/

/-- The chip after power-on, with a next LSEQ whose low word reads as the status of a primary in its bulk copy. -/
def ledAtTwin : State := { State.reset with led := { State.reset.led with next := 0x52 } }

/-- The tenant number at which LED_LAST and TWN_STATUS are one key of the table of registers. -/
def tenantAtTwin : Nat := (Reg.twnStatus.ctorIdx - Reg.ledLastLo.ctorIdx) * 4096

/-- The bound of the tenant is what keeps LED_LAST apart from TWN_STATUS: storing this tenant's entry makes the chip a primary that
mirrors, so the entry is sent to the twin. -/
theorem ended_sends_to_twin :
    (State.ended rowLedMark tenantAtTwin ⟨0, 0, 1, 0, 0, 0, [], 0, none, none⟩ (.ok ledAtTwin 0)).twn.txSeq ≠ ledAtTwin.twn.txSeq := by
  decide +kernel

end Sys2Proof.Machine

namespace Sys2Proof
open Machine

/-- Refutes O52: the statement holds of a tenant of any number, and storing the entry of tenant 466,944 writes its LED_LAST where
TWN_STATUS stands, after which a chip that did not mirror sends the entry to its twin. -/
theorem not_repliesAndEntries : ¬ Obligations.RepliesAndEntries := by
  intro h
  have hc := h rowLedMark tenantAtTwin ⟨0, 0, 1, 0, 0, 0, [], 0, none, none⟩ (.ok ledAtTwin 0) rfl rfl (by decide)
  obtain ⟨-, hj, -⟩ := hc
  have hs := congrArg (fun s => s.twn.txSeq) (hj rfl (by decide))
  exact ended_sends_to_twin (hs.trans (by simp [CmdRes.ok]))

end Sys2Proof
end

section
/-!
PROOFS. Commands of sessions, of the Ledger and of diagnostics (R256 to R267).
-/
namespace Sys2Proof.Machine

/-! ### A command that is carried out with status OK -/

theorem done_runCmd_ok {i : CmdInfo} {t : Nat} {k : CmdPkt} {s : State} {body : State → List Byte → CmdRes} {r : CmdRes}
    (h : s.accepts i t k = true) (ha : amends i.op = false) (e : body (s.begun i t k) k.params = r) (hs : r.status = .ok) :
    done (runCmd i t k body s) = .next (State.ended i t k r) :=
  done_runCmd_plain h ha e (by rw [hs]; decide)

@[simp] theorem State.begun_cfg (s : State) (i : CmdInfo) (t : Nat) (k : CmdPkt) : (s.begun i t k).cfg = s.cfg := by
  unfold State.begun State.blockCheck
  dsimp only
  (repeat' split) <;> simp [State.taken]

@[simp] theorem State.begun_rst (s : State) (i : CmdInfo) (t : Nat) (k : CmdPkt) : (s.begun i t k).rst = s.rst := by
  unfold State.begun State.blockCheck
  dsimp only
  (repeat' split) <;> simp [State.taken]

end Sys2Proof.Machine

namespace Sys2Proof
open Machine

/-- Settles O23: each command's own effect. -/
theorem sessionCommands : Obligations.SessionCommands := by
  intro t k s
  refine ⟨fun h => ?_, fun h => done_runCmd_ok h rfl rfl rfl,
    fun h => done_runCmd_ok h rfl (by rw [State.begun_cfg]; rfl) rfl, fun h hc => done_runCmd_ok h rfl (if_pos hc) rfl⟩
  intro b hi hd hv
  exact done_runCmd_ok h rfl (if_neg (Nat.not_lt.mpr hv)) rfl

/-- Settles O24: each command's own effect. -/
theorem ledgerAndDiagnostics : Obligations.LedgerAndDiagnostics := by
  intro t k s
  refine ⟨fun h => ?_, fun h => done_runCmd_ok h rfl rfl rfl, fun h => done_runCmd_ok h rfl rfl rfl,
    fun h => done_runCmd_ok h rfl (by rw [State.begun_rst]) rfl, fun h hq => ?_⟩
  · intro b frm n es h1 h512
    exact done_runCmd_ok h rfl (if_neg (not_or.mpr ⟨Nat.not_lt.mpr h1, Nat.not_lt.mpr h512⟩)) rfl
  · intro b
    refine ⟨fun hw => done_runCmd_ok h rfl ?_ rfl, fun ch rest hw hp => done_runCmd_ok h rfl ?_ rfl⟩
    · exact (if_neg (by omega)).trans (if_pos hw)
    · refine (if_neg (by omega)).trans ((if_neg (by omega)).trans ?_)
      rw [hp]

/-- Settles O25: the three early ways out of an unlisted opcode, and the two records of a ring with room. -/
theorem unlistedAndEvents : Obligations.UnlistedAndEvents := by
  intro t s
  refine ⟨fun op k hl ht hw he => congrArg done ?_, fun g rest hd hg hf => congrArg done ?_, fun hd => ?_⟩
  · have he' : (s.modCmd t fun c => { c with cons := c.cons + 1 }).earlyCheck { op := op.toNat, jrn := false } t k = none := he
    rw [if_neg (by simp [hl])]
    unfold runUnlisted
    dsimp only
    rw [if_neg (by simp [ht]), if_neg (by simp [hw]), he']
    rfl
  · unfold State.writeEvent
    dsimp only
    rw [if_neg (not_not_intro hd), hg]
    exact if_pos hf
  · intro r hf
    exact congrArg done ((if_pos hd).trans (if_pos hf))

end Sys2Proof
end

section
/-!
PROOFS. Commands of queue pairs, grants and pools.
-/
namespace Sys2Proof.Machine

/-- A check that is stated as "not b" passes where b holds. -/
theorem not_bnot {b : Bool} (h : b = true) : ¬(!b) = true := by simp [h]

theorem bnot_of_not {b : Bool} (h : ¬b = true) : (!b) = true := by simpa using h

theorem done_runCmd_noted {i : CmdInfo} {t : Nat} {k : CmdPkt} {s u : State} {body : State → List Byte → CmdRes} {w : DWord}
    (h : s.accepts i t k = true) (ha : amends i.op = true) (e : body (s.begun i t k) k.params = .ok u w)
    (hf : u.amendFits = true) :
    done (runCmd i t k body s) = .next (State.ended i t k (.ok (u.noted (s.begun i t k)) w)) :=
  done_runCmd_amending h ha e rfl hf

end Sys2Proof.Machine

namespace Sys2Proof
open Machine

/-- Settles O26: each command's checks pass in the order of its row, and its effect follows. -/
theorem queuePairCommands : Obligations.QueuePairCommands := by
  intro t k s q
  refine ⟨fun h => ?configure, fun h => ?enable, fun h => ?disable, fun h => ?query⟩
  case configure =>
    intro b vec sqSize cqSize sqBase cqBase head hq ho hs h1 h2 h3 h4 h5 h6 h7 h8
    refine done_runCmd_ok h rfl ((if_neg (Nat.not_le.mpr hq)).trans ((if_neg (not_bnot ho)).trans
      ((if_neg (not_not_intro hs)).trans (if_neg ?_)))) rfl
    change ¬(!powerOfTwoIn sqSize 16 32768 || !powerOfTwoIn cqSize 16 32768 || !ringAligned sqBase (sqSize * 64) ||
      !ringAligned cqBase (cqSize * 32) || head.toNat % 4 != 0 || inRing head sqBase (sqSize * 64) ||
      inRing head cqBase (cqSize * 32) || decide ((if t.val = 0 then 63 else 7) < vec)) = true
    simpa [h1, h2, h3, h4, h5, h6, h7] using h8
  case enable =>
    intro b hq ho hs hc hf
    exact done_runCmd_ok h rfl ((if_neg (Nat.not_le.mpr hq)).trans ((if_neg (not_bnot ho)).trans
      ((if_neg (not_or.mpr ⟨not_not_intro hs, not_not_intro hc⟩)).trans (if_neg (not_bnot hf))))) rfl
  case disable =>
    intro b hq ho
    refine ⟨fun hs => done_runCmd_ok h rfl ?_ rfl, fun hs ha => done_runCmd_ok h rfl ?_ rfl, fun hs => done_runCmd_ok h rfl ?_ rfl⟩
    all_goals refine (if_neg (Nat.not_le.mpr hq)).trans ((if_neg (not_bnot ho)).trans ?_)
    · rw [hs]
    · rw [hs]
      exact if_neg (ne_true_of_eq_false ha)
    · rw [hs]
  case query =>
    intro b hq ho
    exact done_runCmd_ok h rfl ((if_neg (Nat.not_le.mpr hq)).trans (if_neg (not_bnot ho))) rfl

/-- Settles O27: each command's checks pass, and the running configuration is noted. -/
theorem grantCommands : Obligations.GrantCommands := by
  intro t k s
  refine ⟨fun h => ?assign, fun h => ?unassign, fun h => ?share, fun h => ?channel⟩
  case assign =>
    intro b q n quad qs u hn hq hquad ho hf
    refine done_runCmd_noted h rfl ((if_neg ?_).trans (if_neg (ne_true_of_eq_false ho))) hf
    exact not_or.mpr ⟨hn, not_or.mpr ⟨Nat.not_lt.mpr hq, Nat.not_lt.mpr hquad⟩⟩
  case unassign =>
    intro b q n qs u hn hq ho hx hf
    refine done_runCmd_noted h rfl ((if_neg (not_or.mpr ⟨hn, Nat.not_lt.mpr hq⟩)).trans (if_neg ?_)) hf
    refine not_or.mpr ⟨by simpa using ho, ?_⟩
    simp only [List.any_eq_true, not_exists, not_and]
    intro x hxm
    obtain ⟨h1, h2, h3⟩ := hx x hxm
    change ¬((b.qp x).owner != (b.qp q).owner || (b.qp x).state ≠ .disabled || (b.qp x).contract.isSome) = true
    simp [h1, h2, h3]
  case share =>
    intro b ten n old s1 u hu hd hf
    exact done_runCmd_noted h rfl ((if_neg fun ⟨h1, h2⟩ => absurd (hu h1) (Nat.not_le.mpr h2)).trans
      (if_neg fun ⟨h1, h2⟩ => absurd (hd h1) (Nat.not_le.mpr h2))) hf
  case channel =>
    intro b ch ten
    refine ⟨fun hc hfl ho => ?_, fun hc hfl ho hs => ?_⟩
    · intro u hf
      refine done_runCmd_noted h rfl ((if_neg (by omega)).trans ((if_neg (by omega)).trans (if_neg ?_))) hf
      rw [ho]
      nofun
    · intro u hf
      refine done_runCmd_noted h rfl ((if_neg (by omega)).trans ((if_pos hfl).trans (if_neg ?_))) hf
      exact not_or.mpr ⟨not_not_intro ho, not_not_intro hs⟩

/-- Settles O28: each command's checks pass in the order of its row. -/
theorem poolCommands : Obligations.PoolCommands := by
  intro t k s
  refine ⟨fun h => ?mode, fun n h => ?create, fun h => ?destroy⟩
  case mode =>
    intro b hm he
    exact done_runCmd_ok h rfl ((if_neg (Nat.not_lt.mpr hm)).trans (if_neg (ne_true_of_eq_false he))) rfl
  case create =>
    intro b size count res hp h1 h2 h3 hm hn hf
    refine done_runCmd_ok h rfl ((if_neg ?_).trans ((if_neg (not_bnot hm)).trans ?_)) rfl
    · change ¬(!powerOfTwoIn size 64 16384 || count == 0 || decide (4096 < count) || decide (15 < res)) = true
      simp [hp, Nat.ne_of_gt h1, Nat.not_lt.mpr h2, Nat.not_lt.mpr h3]
    · rw [hn]
      exact if_pos hf
  case destroy =>
    intro b n pool hn hs he
    refine done_runCmd_ok h rfl ((if_neg (Nat.not_lt.mpr hn)).trans ((if_neg ?_).trans (if_neg (ne_true_of_eq_false he)))) rfl
    have hs' : ¬(Tab.find b.pools (t.val * 16 + n)).isNone = true := by
      rw [← Option.not_isSome, hs]
      decide
    exact hs'

end Sys2Proof
end

section
/-!
PROOFS. Commands of the configuration and of the firmware (R286 to R301).
-/
namespace Sys2Proof.Machine

/-! ### Commands that wait for the flash -/

/-- A command that waits for the flash keeps the chip lock; its entry and its reply follow later. -/
theorem done_runCmd_awaits {i : CmdInfo} {t op : Nat} {k : CmdPkt} {s u : State} {body : State → List Byte → CmdRes} {f : Bool}
    (h : s.accepts i t k = true) (ha : amends i.op = false) (e : body (s.begun i t k) k.params = u.awaits t op k f) :
    done (runCmd i t k body s) = .next (settle { u with cfg := { u.cfg with busy := some ⟨t, op, k, f, none⟩ } }) :=
  done_runCmd_ok h ha e rfl

theorem State.commitCheck_status {s : State} {p : List Byte} {r : CmdRes} (h : s.commitCheck p = some r) :
    r.status ≠ .notPrimary := by
  unfold State.commitCheck at h
  dsimp only at h
  (repeat' split at h) <;> cases h <;> nofun

theorem State.validated_status (s : State) (f : Option ImgFail) : (s.validated f).status ≠ .notPrimary := by
  unfold State.validated ImgFail.status
  cases f with
  | none => nofun
  | some f =>
    dsimp only [CmdRes.err]
    (repeat' split) <;> nofun

theorem State.validated_st (s : State) (f : Option ImgFail) : (s.validated f).st = s := by
  cases f <;> rfl

/-- Where the twin does not take part, CFG_VALIDATE answers what the checks of the image gave. -/
theorem bodyCfgValidate_alone {t : Nat} {k : CmdPkt} {s : State} {p : List Byte} (hn : s.namesStaged (fieldAt p 0 4) = true)
    (hm : s.validate.1.mirrors = false) : bodyCfgValidate t k s p = s.validate.1.validated s.validate.2 := by
  unfold bodyCfgValidate
  rw [if_neg (not_bnot hn)]
  split
  · rename_i s1 f hv
    rw [hv]
  · rename_i s1 hv
    rw [hv] at hm ⊢
    exact if_neg (ne_true_of_eq_false hm)

theorem State.validate_error {s : State} {f : ImgFail} (h : s.imgCheck (flashSlot s.cfg.flash s.cfg.staged) = .error f) :
    s.validate.1.cfg = { s.cfg with valid := false, invalid := true, check := f.code, checkDetail := f.reason
                                    checkSection := f.sect, checkOffset := f.off } := by
  unfold State.validate
  dsimp only
  rw [h]
  rfl

theorem State.validate_ok {s : State} {floor : Nat} (h : s.imgCheck (flashSlot s.cfg.flash s.cfg.staged) = .ok floor) :
    s.validate.1.cfg = { s.cfg with valid := true, invalid := false, check := 0, checkDetail := 0, checkSection := 0
                                    checkOffset := 0, floor := floor } := by
  unfold State.validate
  dsimp only
  rw [h]
  rfl

end Sys2Proof.Machine

namespace Sys2Proof
open Machine

/-- Settles O29: the commands that wait keep the chip lock, and the others answer at once. -/
theorem configurationCommands : Obligations.ConfigurationCommands := by
  intro t k s
  refine ⟨fun img h => ?stage, fun h => ?validate, fun h => ?commit, fun h => ?confirm, fun h => ?rollback,
    fun h => done_runCmd_ok h rfl rfl rfl⟩
  case stage =>
    intro b a n b1 h1 h2 hw hi hf u
    refine done_runCmd_awaits h rfl ((if_neg (by omega)).trans ((if_neg (not_bnot hw)).trans ?_))
    dsimp only
    rw [hi]
    dsimp only
    split
    · rename_i f hfail
      exact if_neg (Nat.not_le.mpr (hf f hfail))
    · rfl
  case validate =>
    intro b hn hm
    have hb := bodyCfgValidate_alone (t := t) (k := k) hn hm
    refine ⟨_, done_runCmd_plain h rfl hb (State.validated_status _ _), ?_⟩
    have hc : (State.ended rowCfgValidate t k (b.validate.1.validated b.validate.2)).cfg = b.validate.1.cfg := by
      rw [State.ended_cfg, State.validated_st]
    split
    · rename_i floor hi
      rw [hc, State.validate_ok hi]
      exact ⟨rfl, rfl, rfl, rfl⟩
    · rename_i f hi
      rw [hc, State.validate_error hi]
      exact ⟨rfl, rfl, rfl, rfl⟩
  case commit =>
    intro b hp hm
    have hx : exec (.cfgCommit t k) s = done (runCmd rowCfgCommit t k (bodyCfgCommit t k) s) :=
      congrArg done (if_pos (by rw [hp]; rfl))
    rw [hx]
    cases hc : b.commitCheck k.params with
    | some r => exact done_runCmd_plain h rfl (by unfold bodyCfgCommit; rw [hc]) (State.commitCheck_status hc)
    | none =>
      refine done_runCmd_awaits (u := { b with cfg := { b.cfg with blocking := 0 } }) h rfl ?_
      unfold bodyCfgCommit
      rw [hc]
      exact if_neg (ne_true_of_eq_false hm)
  case confirm =>
    intro b hp hg hd
    refine ⟨_, done_runCmd_ok h rfl (if_neg ?_) rfl, State.ended_cfg ..⟩
    change ¬(!b.cfg.probation || (b.slotGen b.cfg.active).toNat != fieldAt k.params 0 4 ||
      decide (b.cfg.deadline.toNat ≤ b.now.toNat)) = true
    simp [hp, hg, hd]
  case rollback =>
    intro b hf hp
    have hx : exec (.cfgRollback t k) s = done (runCmd rowCfgRollback t k (bodyCfgRollback t k) s) :=
      congrArg done (if_neg (ne_true_of_eq_false hf))
    rw [hx]
    split
    · rename_i hv
      exact done_runCmd_awaits h rfl ((if_neg (Nat.not_le.mpr hp)).trans (if_neg (not_bnot hv)))
    · rename_i hv
      exact done_runCmd_plain h rfl ((if_neg (Nat.not_le.mpr hp)).trans (if_pos (bnot_of_not hv))) nofun

/-- Settles O30: the commands that wait keep the chip lock. -/
theorem firmwareCommands : Obligations.FirmwareCommands := by
  intro t k s waits
  have switch (i : CmdInfo) (op : Nat) (h : s.accepts i t k = true) (ha : amends i.op = false) :
      let b := s.begun i t k
      b.fwHeld = false → b.cfg.restart = .none → done (runCmd i t k (bodyFwSwitch op t k) s) =
        .next (if b.otherReady then waits b op else State.ended i t k (.err b .wrongState)) := by
    intro b hf hr
    split
    · rename_i ho
      refine done_runCmd_awaits h ha (if_neg ?_)
      change ¬(b.fwHeld || !b.otherReady || b.cfg.restart != .none) = true
      simp [hf, ho, hr]
    · rename_i ho
      refine done_runCmd_plain h ha (if_pos ?_) nofun
      change (b.fwHeld || !b.otherReady || b.cfg.restart != .none) = true
      simp [ho]
  refine ⟨fun img h => ?stage, fun h => switch _ _ h rfl, fun h => switch _ _ h rfl, fun h => ?confirm⟩
  case stage =>
    intro b a n h1 h2 hw hi
    refine done_runCmd_awaits h rfl ((if_neg (by omega)).trans ((if_neg (not_bnot hw)).trans ?_))
    dsimp only
    rw [hi]
    rfl
  case confirm =>
    intro b ht
    exact done_runCmd_awaits h rfl (if_neg (not_bnot ht))

end Sys2Proof
end

section
/-!
PROOFS. Commands of devices, endpoints, contracts, strikes, halts and the Millrace.
-/
namespace Sys2Proof.Machine

/-- A device of the tenant that no reset keeps or awaits: a root port is reset at once or after its lane's retrain, a hub's port
through the hub. -/
theorem bodyPortReset_passes {t : Nat} {s : State} {p : List Byte} {d : Place} (hd : s.placeOf (fieldAt p 0 2) = some d)
    (ho : d.owner = t) (hk : (!d.present || d.keptByReset || d.resetAsked || d.disabling) = false) :
    bodyPortReset t s p = (parentOf d.route).elim
      (if routeLink d.route % 2 = 0 ∧ s.hState (routeLink d.route / 2) = 4 then
        .ok (s.modLink (routeLink d.route) fun k => { k with resetWaits := true }) 0
      else .ok ((s.beginReset d.route).resetRoot d.route) 0)
      (fun h => if (s.placeAt h).served then .ok (s.alter d.route fun q => { q with resetAsked := true }) 0
        else .err s .wrongState) := by
  unfold bodyPortReset
  rw [hd]
  dsimp only
  rw [if_neg (not_not_intro ho), if_neg (ne_true_of_eq_false hk)]
  cases parentOf d.route <;> rfl

end Sys2Proof.Machine

namespace Sys2Proof
open Machine

/-- Settles O31: each command's checks pass in the order of its row. -/
theorem deviceCommands : Obligations.DeviceCommands := by
  intro t k s a r
  refine ⟨fun d h => ?assign, fun d h => ?release, fun h => ?adopt, fun h => ?enable, fun h => ?disable, fun d h => ?reset,
    fun d h => ?ack⟩
  case assign =>
    intro b u hd hh ho hu hf
    refine done_runCmd_noted h rfl ?_ hf
    unfold bodyDevAssign
    dsimp only
    rw [show (s.begun rowDevAssign t k).placeOf (fieldAt k.params 0 2) = some d from hd]
    refine if_neg ?_
    simp only [hh, ho, not_or]
    exact ⟨Bool.false_ne_true, not_not_intro rfl, ne_true_of_eq_false hu⟩
  case release =>
    intro b u hd hu hf
    refine done_runCmd_noted h rfl ?_ hf
    unfold bodyDevRelease
    dsimp only
    rw [show (s.begun rowDevRelease t k).placeOf (fieldAt k.params 0 2) = some d from hd]
    exact if_neg (ne_true_of_eq_false hu)
  case adopt =>
    intro b addr adopt hr hfl h0 h4 hw ht
    have hp : ¬(!routeOk r || decide (2 ≤ fieldAt k.params 10 1) || addr == 0 || decide (4096 ≤ addr)) = true := by
      simp [hr, Nat.not_le.mpr hfl, h0, Nat.not_le.mpr h4]
    have hw : ¬(!(b.placeAt r).isWaiting || b.addrTaken addr r) = true := by simp [hw, ht]
    refine ⟨fun hn => done_runCmd_ok h rfl ((if_neg hp).trans ((if_neg hw).trans ?_)) rfl,
      fun e he h1 ha => done_runCmd_ok h rfl ((if_neg hp).trans ((if_neg hw).trans ?_)) rfl⟩
    · rw [hn]
    · rw [he]
      exact (if_neg (by omega)).trans (if_neg (not_not_intro ha))
  case enable =>
    intro b b1 hr hc hd
    have hk : ¬((b.placeAt r).cause = 0 ∨ (b.placeAt r).disabling = true) := not_or.mpr ⟨hc, ne_true_of_eq_false hd⟩
    refine ⟨fun hn => done_runCmd_ok h rfl ((if_neg (not_bnot hr)).trans ((if_neg hk).trans ?_)) rfl,
      fun hn hp => done_runCmd_ok h rfl ((if_neg (not_bnot hr)).trans ((if_neg hk).trans ?_)) rfl,
      fun w hn hp => done_runCmd_ok h rfl ((if_neg (not_bnot hr)).trans ((if_neg hk).trans ?_)) rfl⟩
    · split <;> exact congrArg (CmdRes.ok · 0) (if_neg (ne_true_of_eq_false hn))
    · rw [hp]
      exact congrArg (CmdRes.ok · 0) (if_pos hn)
    · rw [hp]
      exact congrArg (CmdRes.ok · 0) (if_pos hn)
  case disable =>
    intro b hr hc
    exact done_runCmd_ok h rfl ((if_neg (not_bnot hr)).trans (if_neg (not_not_intro hc))) rfl
  case reset =>
    intro b hd ho hp hk ha hg
    have hbody := bodyPortReset_passes (s := b) (p := k.params) hd ho (by simp [hp, hk, ha, hg])
    refine ⟨fun hr hn => done_runCmd_ok h rfl (hbody.trans ?_) rfl, fun hr hl hs => done_runCmd_ok h rfl (hbody.trans ?_) rfl,
      fun w hr hs => done_runCmd_ok h rfl (hbody.trans ?_) rfl⟩
    · rw [hr]
      exact if_neg hn
    · rw [hr]
      exact if_pos ⟨hl, hs⟩
    · rw [hr]
      exact if_pos hs
  case ack =>
    intro b mine hd ho hn
    refine done_runCmd_ok h rfl ?_ rfl
    unfold bodyPortResetAck
    dsimp only
    rw [show (s.begun rowPortResetAck t k).placeOf (fieldAt k.params 0 2) = some d from hd]
    exact (if_neg (not_not_intro ho)).trans (if_neg (by simpa using hn))

end Sys2Proof

namespace Sys2Proof
open Machine

/-- Settles O32: the endpoint named passes the checks of its row in order. -/
theorem endpointCommands : Obligations.EndpointCommands := by
  intro t k s fl
  refine ⟨fun n h => ?open_, fun n h => ?close, fun n h => ?clear, fun n h => ?query, fun d h => ?tree, fun h => ?list⟩
  case open_ =>
    intro b kind mps basin pool opened hn hfl hkind hstr h1 hmps hcon hop hcnt
    have hk : ¬((kind = .control) ≠ (n.ep = 0)) := not_not_intro (propext hkind)
    have hm : ¬mps = 0 := by omega
    have hc : ¬((b.epContracts n).any fun c => decide (mps < c.maxp)) = true := by
      simpa [Nat.not_lt] using hcon
    refine ⟨fun hpm hp hb hb2 hf => done_runCmd_ok h rfl ?_ rfl, fun q hpm hb hp hq hmq hres hpr => done_runCmd_ok h rfl ?_ rfl⟩
    · have hfit : ¬(8 ≤ fl ∨ (kind = .control) ≠ (n.ep = 0) ∨ (kind = .strike ∧ n.dirIn = true) ∨ mps = 0 ∨
          (if n.ep = 0 then 64 else speedMps (((b.placeOf n.addr).map (·.speed)).getD 3)) < mps ∨
          ((b.epContracts n).any fun c => decide (mps < c.maxp)) = true ∨ (b.bit Fld.tenCisSharePoolMode t = true ∧ basin ≠ 0) ∨
          (¬b.bit Fld.tenCisSharePoolMode t = true ∧ pool ≠ 0)) := by
        simp only [not_or]
        exact ⟨by omega, hk, hstr, hm, Nat.not_lt.mpr hmps, hc, by simp [hpm], by simp [hp]⟩
      unfold bodyEpOpen
      rw [hn]
      refine (if_neg hfit).trans ((if_neg (ne_true_of_eq_false hop)).trans ((if_neg (Nat.not_le.mpr hcnt)).trans
        ((if_neg (ne_true_of_eq_false hpm)).trans ((if_neg ?_).trans (if_neg (not_bnot hf))))))
      change ¬(!powerOfTwoIn basin 64 16384 || decide (basin < max 64 (2 * mps))) = true
      simpa [hb] using hb2
    · have hfit : ¬(8 ≤ fl ∨ (kind = .control) ≠ (n.ep = 0) ∨ (kind = .strike ∧ n.dirIn = true) ∨ mps = 0 ∨
          (if n.ep = 0 then 64 else speedMps (((b.placeOf n.addr).map (·.speed)).getD 3)) < mps ∨
          ((b.epContracts n).any fun c => decide (mps < c.maxp)) = true ∨ (b.bit Fld.tenCisSharePoolMode t = true ∧ basin ≠ 0) ∨
          (¬b.bit Fld.tenCisSharePoolMode t = true ∧ pool ≠ 0)) := by
        simp only [not_or]
        exact ⟨by omega, hk, hstr, hm, Nat.not_lt.mpr hmps, hc, by simp [hb], by simp [hpm]⟩
      unfold bodyEpOpen
      rw [hn]
      refine (if_neg hfit).trans ((if_neg (ne_true_of_eq_false hop)).trans ((if_neg (Nat.not_le.mpr hcnt)).trans
        ((if_pos hpm).trans ?_)))
      rw [hq]
      refine (if_neg ?_).trans (if_neg (Nat.not_lt.mpr hpr))
      simp only [not_or]
      exact ⟨Nat.not_le.mpr hp, Nat.not_lt.mpr hmq, by simpa [Nat.not_lt] using hres⟩
  case close =>
    intro b hn hfl hop hcon hnm
    refine done_runCmd_ok h rfl ?_ rfl
    unfold bodyEpClose
    rw [hn]
    refine (if_neg (Nat.not_le.mpr hfl)).trans (if_neg ?_)
    simp only [not_or]
    exact ⟨not_bnot hop, not_not_intro hcon, ne_true_of_eq_false hnm⟩
  case clear =>
    intro b mine byReset u u2 hn hfl hcan
    refine done_runCmd_ok h rfl ?_ rfl
    unfold bodyEpClearHalt
    rw [hn]
    refine (if_neg (Nat.not_le.mpr hfl)).trans ((if_neg ?_).trans ?_)
    · rintro ⟨hq, hb, hh⟩
      rcases hcan with h | h | h
      · exact hh h
      · exact h hq
      · exact absurd hb (ne_true_of_eq_false h)
    · rfl
  case query =>
    intro b e hn hfl hop
    refine done_runCmd_ok h rfl ?_ rfl
    unfold bodyEpQuery
    rw [hn]
    exact (if_neg (Nat.not_le.mpr hfl)).trans (if_neg (not_bnot hop))
  case tree =>
    intro b r hd ho
    refine done_runCmd_ok h rfl ?_ rfl
    unfold bodyTreeQuery
    dsimp only
    split
    · rename_i hx
      exact absurd (hx.symm.trans hd) nofun
    · rename_i d' hx
      obtain rfl : d' = d := Option.some.inj (hx.symm.trans hd)
      exact if_neg fun ⟨h0, hne⟩ => ho.elim h0 hne
  case list =>
    intro b h1 h2
    exact done_runCmd_ok h rfl (if_neg (not_or.mpr ⟨Nat.not_lt.mpr h1, Nat.not_lt.mpr h2⟩)) rfl

end Sys2Proof

namespace Sys2Proof.Machine

/-! ### Changes of the set of contracts -/

/-- With no change pending, the turn is the command's. -/
theorem State.conTurn_of_pend_nil {s : State} (h : s.alm.pend = []) (run : State → State) : s.conTurn run = run s :=
  if_neg (by simp [h])

/-- While a change is pending, a command that would make another is not taken. -/
theorem State.conTurn_of_more {s : State} {run : State → State} (h : s.alm.pend ≠ [])
    (hm : s.alm.pend.length < (run s).alm.pend.length) : s.conTurn run = s :=
  if_pos (by simp [h, hm])

theorem State.conChange_accepts {s : State} {t id floor : Nat} {p : List Byte} {closing : Option Nat} {c c1 : Contract}
    (hp : Contract.parse p t 0 = some c) (hf : s.freeContract = some id)
    (hc : s.conCheck (s.latestContracts.filter fun d => some d.id != closing) closing c = none)
    (h1 : s.placeOne (s.latestContracts.filter fun d => some d.id != closing) { c with id := id } s.floorLimit s.strictNext =
      .ok (c1, floor))
    (hn : almanacFull ((s.latestContracts.filter fun d => some d.id != closing) ++ [c1]) = false)
    (hs : s.shareFits t c1.areaBytes = true) :
    s.conChange t p closing =
      .ok ((s.acceptChange ((s.latestContracts.filter fun d => some d.id != closing) ++ [c1]) floor).bind
        (if (s.qp c1.qp).contract.isNone then [c1] else [])) (BitVec.ofNat 64 (id + s.nextSwitch.toNat * 65536)) := by
  unfold State.conChange
  dsimp only
  rw [hp]
  dsimp only
  rw [hc, hf]
  dsimp only
  rw [h1]
  dsimp only
  rw [if_neg (ne_true_of_eq_false hn), if_neg (not_bnot hs)]

/-- Parameter words that pass the checks of R77 are written, and stand in the running configuration. -/
theorem State.mrcAnswer_ok {s : State} {ws : List Word} (h : s.mrcOk ws = true) :
    s.mrcAnswer ws = .ok { (s.mrcWrite ws).1 with
      cfg := { (s.mrcWrite ws).1.cfg with shadow := { (s.mrcWrite ws).1.cfg.shadow with mrc := ws } } }
        ((s.time.frame + 3).setWidth 64) := by
  have h2 : (s.mrcWrite ws).2 = true := by
    unfold State.mrcWrite
    rw [if_neg (not_bnot h)]
    dsimp only
    split <;> rfl
  unfold State.mrcAnswer
  split
  · rename_i s1 hw
    rw [hw]
  · rename_i s1 hw
    exact absurd h2 (by rw [hw]; exact Bool.false_ne_true)

end Sys2Proof.Machine

namespace Sys2Proof
open Machine

/-- Settles O33: the change is accepted as `conChange_accepts` says, in the turn that `conTurn` gives. -/
theorem contractCommands : Obligations.ContractCommands := by
  intro t k s
  refine ⟨fun id c c1 floor h hp => ?conOpen, fun c floor h hp => ?conClose, fun old id c c1 floor h hp => ?conReplace,
    fun hp => ?turn, fun c h => ?query, fun h => ?quota, fun h => ?mode⟩
  case conOpen =>
    intro b keep u hf hc hk h1 hn hs ha
    refine (congrArg done (State.conTurn_of_pend_nil hp _)).trans (done_runCmd_noted h rfl ?_ ha)
    exact State.conChange_accepts hc hf hk h1 hn hs
  case conClose =>
    intro b keep u hc hf hw ha
    refine (congrArg done (State.conTurn_of_pend_nil hp _)).trans (done_runCmd_noted h rfl ?_ ha)
    have hw' : ¬(b.strictNext && b.windowShort keep floor b.quantum) = true := by
      cases hst : b.strictNext with
      | false => simp
      | true => simp [hw hst]
    unfold bodyConClose
    rw [hc]
    dsimp only
    rw [show b.admission (b.latestContracts.filter fun d => d.id != c.id) b.floorLimit = .ok floor from hf]
    exact if_neg hw'
  case conReplace =>
    intro b keep u hold hf hc hk h1 hn hs ha
    refine (congrArg done (State.conTurn_of_pend_nil hp _)).trans (done_runCmd_noted h rfl ?_ ha)
    unfold bodyConReplace
    rw [hold]
    exact State.conChange_accepts hc hf hk h1 hn hs
  case turn =>
    intro more
    exact ⟨fun hm => congrArg done (State.conTurn_of_more hp hm), fun hm => congrArg done (State.conTurn_of_more hp hm),
      fun hm => congrArg done (State.conTurn_of_more hp hm)⟩
  case query =>
    intro b hc ht
    refine done_runCmd_ok h rfl ?_ rfl
    unfold bodyConQuery
    rw [hc]
    exact if_pos ht
  case quota =>
    intro b u hq hw ha
    have hw' : ¬(b.strictNext && b.windowShort b.latestContracts b.floorNow u.quantum) = true := by
      cases hst : b.strictNext with
      | false => simp
      | true => simp [hw hst]
    exact done_runCmd_noted h rfl ((if_neg (not_bnot hq)).trans (if_neg hw')) ha
  case mode =>
    intro b m u hm hw ha
    refine done_runCmd_noted h rfl ((if_neg (Nat.not_lt.mpr hm)).trans (if_neg fun ⟨h1, h2⟩ => ?_)) ha
    exact absurd h2 (ne_true_of_eq_false (hw h1))

/-- Settles O34: the effect of each command. -/
theorem strikeAndHaltCommands : Obligations.StrikeAndHaltCommands := by
  intro t k s
  refine ⟨fun qs h => ?withdraw, fun qs h => ?resume, fun h => ?begin_, fun h => ?end_⟩
  case withdraw =>
    intro b hq
    exact done_runCmd_ok h rfl (by unfold bodyStrikeWithdraw; rw [hq]) rfl
  case resume =>
    intro b hq
    exact done_runCmd_ok h rfl (by unfold bodyStrikeResume; rw [hq]) rfl
  case begin_ =>
    intro b
    exact ⟨fun hs => done_runCmd_ok h rfl (if_pos hs) rfl,
      fun hs => done_runCmd_ok h rfl (if_neg (ne_true_of_eq_false hs)) rfl⟩
  case end_ =>
    intro b hs hp
    refine done_runCmd_ok h rfl (if_neg ?_) rfl
    change ¬(!b.halt.stands || b.halt.pinLow) = true
    simp [hs, hp]

/-- Settles O35: the words that pass the checks are written. -/
theorem millraceCommands : Obligations.MillraceCommands := by
  intro t k s written
  refine ⟨fun h => ?set, fun h => ?mode, fun h => done_runCmd_ok h rfl ?_ rfl⟩
  case set =>
    intro b ws h128 hc ho ha
    refine done_runCmd_noted h rfl ((if_neg ?_).trans (State.mrcAnswer_ok ho)) ha
    have hz : ((mrcRegs.zip ws).all fun x => x.1.cleanWord x.2) = true := List.all_eq_true.mpr hc
    change ¬(128 ≤ fieldAt k.params 0 2 || !((mrcRegs.zip ws).all fun x => x.1.cleanWord x.2)) = true
    rw [hz]
    simpa using h128
  case mode =>
    intro b m ws hm ho ha
    exact done_runCmd_noted h rfl ((if_neg (Nat.not_lt.mpr hm)).trans (State.mrcAnswer_ok ho)) ha
  · unfold bodyMrcQuery
    simp only [List.flatMap_cons, List.flatMap_nil, List.append_nil, List.append_assoc]

end Sys2Proof
end

section
/-!
PROOFS. Commands of power, of the security island and of the twin pair.
-/
namespace Sys2Proof.Machine

/-- Votes that may be cast and are not withdrawn by the same command pass PWR_VOTE's checks. -/
theorem bodyPwrVote_passes {t : Nat} {s : State} {p : List Byte}
    (hd : ∀ d < 16, ¬(bitsOf (fieldAt p 0 2) d 1 = 1 ∧ bitsOf (fieldAt p 2 2) d 1 = 1))
    (hv : ∀ d < 16, bitsOf (fieldAt p 0 2) d 1 = 1 ∨ bitsOf (fieldAt p 2 2) d 1 = 1 →
      bitsOf votable d 1 = 1 ∧ bitsOf (s.allowedMask t) d 1 = 1) :
    bodyPwrVote t s p =
      let v := ((List.range 11).map fun d => if bitsOf (fieldAt p 2 2) d 1 == 1 then 0
        else if bitsOf (fieldAt p 0 2) d 1 == 1 || bitsOf (s.votes t) d 1 == 1 then 2 ^ d else 0).sum
      .ok ((s.setF Fld.tenPwrVoteVotes t v).votesChanged s) (BitVec.ofNat 64 v) := by
  have none16 (f : Nat → Bool) (h : ∀ d < 16, f d = false) : (List.range 16).any f = false := by
    simpa [List.any_eq_false] using h
  have clean (m k : Nat) (h : ∀ d < 16, bitsOf m d 1 = 1 → bitsOf k d 1 = 1) :
      ((List.range 16).any fun d => bitsOf m d 1 == 1 && bitsOf k d 1 == 0) = false := by
    refine none16 _ fun d hlt => ?_
    by_cases hm : bitsOf m d 1 = 1
    · simp [h d hlt hm]
    · simp [hm]
  have h1 := clean (fieldAt p 0 2) votable fun d hlt h => (hv d hlt (.inl h)).1
  have h2 := clean (fieldAt p 2 2) votable fun d hlt h => (hv d hlt (.inr h)).1
  have h3 := clean (fieldAt p 0 2) (s.allowedMask t) fun d hlt h => (hv d hlt (.inl h)).2
  have h4 := clean (fieldAt p 2 2) (s.allowedMask t) fun d hlt h => (hv d hlt (.inr h)).2
  have h5 : ((List.range 16).any fun d => bitsOf (fieldAt p 0 2) d 1 == 1 && bitsOf (fieldAt p 2 2) d 1 == 1) = false :=
    none16 _ fun d hlt => by simpa using hd d hlt
  unfold bodyPwrVote
  exact (if_neg (ne_true_of_eq_false (Bool.or_eq_false_iff.mpr ⟨Bool.or_eq_false_iff.mpr ⟨h1, h2⟩, h5⟩))).trans
    (if_neg (ne_true_of_eq_false (Bool.or_eq_false_iff.mpr ⟨h3, h4⟩)))

end Sys2Proof.Machine

namespace Sys2Proof
open Machine

/-- Settles O36: the checks of each command pass, and its effect follows. -/
theorem powerCommands : Obligations.PowerCommands := by
  intro t k s
  refine ⟨fun h => ?vote, fun h => ?state, fun h => ?alarm, fun h => done_runCmd_ok h rfl rfl rfl,
    fun h => done_runCmd_ok h rfl rfl rfl⟩
  case vote =>
    intro b add del v hd hv
    have hv' : v = ((List.range 11).map fun d => if bitsOf del d 1 == 1 then 0
        else if bitsOf add d 1 == 1 || bitsOf (b.votes t) d 1 == 1 then 2 ^ d else 0).sum := by
      simp [v]
    rw [hv']
    exact done_runCmd_ok h rfl (bodyPwrVote_passes hd hv) rfl
  case state =>
    intro b n hn he
    refine done_runCmd_ok h rfl ((if_neg (Nat.not_lt.mpr hn)).trans (if_neg ?_)) rfl
    change ¬(b.entryStep != 0 && decide (n < b.target)) = true
    rcases he with he | he
    · simp [he]
    · simp [Nat.not_lt.mpr he]
  case alarm =>
    intro b a b1
    refine ⟨fun ha => done_runCmd_ok h rfl (congrArg (CmdRes.ok · 0) (if_neg ?_)) rfl,
      fun h0 ha => done_runCmd_ok h rfl (congrArg (CmdRes.ok · 0) (if_pos ?_)) rfl⟩
    · change ¬(a != 0 && decide (a.toNat ≤ b.rtc.toNat)) = true
      rcases ha with ha | ha
      · simp [ha]
      · simp [Nat.not_le.mpr ha]
    · change (a != 0 && decide (a.toNat ≤ b.rtc.toNat)) = true
      simpa [ha] using h0

/-- Settles O37: while the security island has its power, each command runs, and its checks pass. -/
theorem securityCommands : Obligations.SecurityCommands := by
  intro t k s hd
  refine ⟨fun h => ?load, fun h => ?erase, fun h => done_runCmd_ok h rfl rfl rfl, fun h => ?attest, fun h => ?decommission⟩
  case load =>
    intro b p label hl hv hlc hlk hse hss ht hsn
    have hx : exec (.secKeyLoad t k) s = done (runCmd rowSecKeyLoad t k (bodySecKeyLoad t) s) := congrArg done (if_pos hd)
    rw [hx]
    refine done_runCmd_plain h rfl ((if_neg ?_).trans ((if_neg ?_).trans ((if_neg (not_bnot hse)).trans
      ((if_neg (ne_true_of_eq_false hss)).trans ((if_neg ?_).trans ?_))))) ?_
    · exact not_or.mpr ⟨not_not_intro hl, not_not_intro hv⟩
    · exact not_or.mpr ⟨not_not_intro hlc, ne_true_of_eq_false hlk⟩
    · exact not_or.mpr ⟨not_not_intro ht, not_not_intro hsn⟩
    · rfl
    · split <;> nofun
  case erase =>
    intro b hl hlk hs
    have hx : exec (.secKeyErase t k) s = done (runCmd rowSecKeyErase t k (bodySecKeyErase t) s) := congrArg done (if_pos hd)
    rw [hx]
    refine done_runCmd_ok h rfl (if_neg ?_) rfl
    exact not_or.mpr ⟨not_not_intro hl, not_or.mpr ⟨ne_true_of_eq_false hlk, ne_true_of_eq_false hs⟩⟩
  case attest =>
    intro b r hl hlk hi
    have hx : exec (.secAttest t k) s = done (runCmd rowSecAttest t k (bodySecAttest t) s) := congrArg done (if_pos hd)
    rw [hx]
    refine done_runCmd_ok h rfl (if_neg ?_) rfl
    exact not_or.mpr ⟨hl, not_or.mpr ⟨ne_true_of_eq_false hlk, not_not_intro hi⟩⟩
  case decommission =>
    intro b hc hp ht
    have hx : exec (.secDecommission t k) s = done (runCmd rowSecDecommission t k bodySecDecommission s) :=
      congrArg done (if_pos hd)
    rw [hx]
    refine done_runCmd_ok h rfl ((if_neg (not_not_intro hc)).trans (if_neg ?_)) rfl
    change ¬(b.cfg.probation || b.cfg.trial) = true
    simp only [hp, ht]
    decide

/-- Settles O38: the conditions of R398 hold, and the effect follows. -/
theorem twinCommands : Obligations.TwinCommands := by
  intro t k s
  refine ⟨fun h => done_runCmd_ok h rfl rfl rfl, fun h => ?switchover, fun h => ?resync⟩
  case switchover =>
    intro b f hr hs hl hi hst hp ht
    refine done_runCmd_ok h rfl ((if_neg ?_).trans ((if_neg ?_).trans (if_neg ?_))) rfl
    · exact not_or.mpr ⟨not_not_intro hr, not_or.mpr ⟨not_not_intro hs, not_not_intro hl⟩⟩
    · change ¬(!(b.qps.all fun v => v.2.owner.isNone || v.2.state = .disabled) ||
        b.qps.any fun v => v.2.entries.any fun e => e.strikeOut) = true
      rw [hi, hst]
      decide
    · change ¬(b.cfg.probation || b.cfg.trial) = true
      rw [hp, ht]
      decide
  case resync =>
    intro b hr hu
    exact done_runCmd_ok h rfl (if_pos ⟨hr, hu⟩) rfl

end Sys2Proof
end

section
/-!
PROOFS. Completions, arriving entries and the requests to the host (R148 to R176).
-/
namespace Sys2Proof.Machine

/-! ### Completions and arriving entries -/

/-- What the end of a command leaves of a queue pair, but for the back-pressure flag and what the flag's rise touches. -/
theorem settle_qp_proj {β : Type} (f : Qp → β) (hf : ∀ v : Qp, f v.settleBp = f v) (s : State) (q : Nat) :
    f ((settle s).qp q) = f (s.qp q) := by
  unfold State.qp Tab.getD
  rw [settle_qps, Tab.find_mapVal]
  cases Tab.find s.qps q with
  | none => rfl
  | some v => exact hf v

theorem settle_qp_sqCons (s : State) (q : Nat) : ((settle s).qp q).sqCons = (s.qp q).sqCons :=
  settle_qp_proj Qp.sqCons (fun v => by unfold Qp.settleBp; (repeat' split) <;> rfl) s q

theorem settle_qp_entries (s : State) (q : Nat) : ((settle s).qp q).entries = (s.qp q).entries :=
  settle_qp_proj Qp.entries (fun v => by unfold Qp.settleBp; (repeat' split) <;> rfl) s q

theorem State.completeFront_of_waits {s : State} {q : Nat}
    (h : ∀ e rest, (s.qp q).entries = e :: rest → s.mayComplete q e = false) : s.completeFront q = s := by
  unfold State.completeFront
  dsimp only
  split
  · rfl
  · rename_i e rest he
    exact if_pos (.inl (by simp [h e rest he]))

section Front
variable {s : State} {q : Nat} {e : Entry} {rest : List Entry} (he : (s.qp q).entries = e :: rest)
  (hm : s.mayComplete q e = true) (hf : (s.qp q).state ≠ .faulted) (hd : (s.qp q).state ≠ .disabled)
include he hm hf hd

/-- What the oldest entry leaves behind when it is done: its elements count, or are taken back. -/
theorem State.completeFront_eq :
    let v := s.qp q
    let popped := (s.setQp q { v with entries := rest }).dropStarts q e.idx
    let a := if withdrawn e.status then popped.rewind q else popped.commitElems e
    let b := a.putCompletion q e.completion
    s.completeFront q =
      if (v.ringFree = 0 ∨ v.holding ≠ []) ∧ 64 ≤ v.holding.length then s
      else if v.ringFree = 0 ∨ v.holding ≠ [] then
        (if v.holding = [] then a.writeWords 4 (4 * q) else a).modQp q fun v =>
          { v with holding := v.holding ++ [(e.noIrq, e.completion)] }
      else if (b.qp q).state = .faulted then b
      else (b.publishHead q (if e.noIrq then 0 else 1)).drainCheck q := by
  unfold State.completeFront
  dsimp only
  rw [he]
  exact if_neg (by simp [hm, hf, hd])

end Front

@[simp] theorem State.resumeFor_qps (s : State) (p : Place) : (s.resumeFor p).qps = s.qps := by
  unfold State.resumeFor
  dsimp only
  refine (foldl_proj State.qps _ (fun s r => ?_) _ _).trans ?_
  · (repeat' split) <;> rfl
  · split <;> rfl

theorem State.qp_of_qps_eq {s u : State} (h : u.qps = s.qps) (q : Nat) : u.qp q = s.qp q := by
  unfold State.qp; rw [h]

@[simp] theorem State.writeWords_qps (s : State) (r w : Nat) : (s.writeWords r w).qps = s.qps := by
  unfold State.writeWords; split <;> rfl

@[simp] theorem State.writeWords_now (s : State) (r w : Nat) : (s.writeWords r w).time = s.time := by
  unfold State.writeWords; split <;> rfl

/-- The state in which the next entry of a queue pair's ring has been consumed (R148). -/
def State.consumed (s : State) (q : Nat) : State :=
  let v := s.qp q
  let s1 := s.setQp q { v with sqCons := v.sqCons + 1 }
  let s2 := if v.entries = [] then s1.writeWords 2 q else s1
  { s2 with alm := { s2.alm with order := s2.alm.order + 1 } }

theorem State.writeWords_alm (s : State) (r w : Nat) : (s.writeWords r w).alm = s.alm := by
  unfold State.writeWords; split <;> rfl

theorem State.consumed_qp (s : State) (q : Nat) : (s.consumed q).qp q = { s.qp q with sqCons := (s.qp q).sqCons + 1 } := by
  refine Eq.trans (State.qp_of_qps_eq ?_ q) (State.qp_setQp_same s q _)
  unfold State.consumed
  extract_lets v s1 s2
  change s2.qps = s1.qps
  unfold s2
  split
  · exact State.writeWords_qps s1 2 q
  · rfl

theorem State.consumed_time (s : State) (q : Nat) : (s.consumed q).time = s.time := by
  unfold State.consumed
  extract_lets v s1 s2
  change s2.time = s1.time
  unfold s2
  split
  · exact State.writeWords_now s1 2 q
  · rfl

/-- An entry of 64 bytes is consumed; where its kind is none it is answered BAD_ENTRY, and where it passes the checks it enters
(R148, R150). -/
theorem State.landEntry_eq (s : State) (q : Nat) (data : List Byte) :
    (XKind.ofCode (fieldAt (padTo 64 data) 0 1 % 16) = none → s.landEntry q data = (s.consumed q).enterDone q
      (Entry.ofBytes (padTo 64 data) (s.qp q).sqCons .bulk s.alm.order) .badEntry) ∧
    (∀ k, XKind.ofCode (fieldAt (padTo 64 data) 0 1 % 16) = some k →
      s.entryCheck q ((s.qp q).owner.getD 0) (padTo 64 data)
        (Entry.ofBytes (padTo 64 data) (s.qp q).sqCons k s.alm.order) = none →
      s.landEntry q data = (s.consumed q).enterEntry q ((s.qp q).owner.getD 0)
        (Entry.ofBytes (padTo 64 data) (s.qp q).sqCons k s.alm.order)) := by
  unfold State.landEntry
  extract_lets b v t s1 sa src s2
  have hs2 : s2 = s.consumed q := by
    unfold State.consumed
    have ha : sa.alm = s1.alm := by
      unfold sa
      split
      · exact State.writeWords_alm s1 2 q
      · rfl
    change ({ sa with alm := { s1.alm with order := s1.alm.order + 1 } } : State) =
      { sa with alm := { sa.alm with order := sa.alm.order + 1 } }
    rw [ha]
  refine ⟨fun hk => ?_, fun k hk hc => ?_⟩
  · rw [show XKind.ofCode (fieldAt b 0 1 % 16) = none from hk, ← hs2]
  · rw [show XKind.ofCode (fieldAt b 0 1 % 16) = some k from hk, ← hs2]
    dsimp only
    rw [show s.entryCheck q t b (Entry.ofBytes b v.sqCons k s.alm.order) = none from hc]

/-- The state in which an answered request is gone. -/
def State.without (s : State) (r : Req) : State :=
  { s with dma := { s.dma with reqs := s.dma.reqs.filter fun x => x.id != r.id } }

/-- What follows the landing of an entry: a resume goes out for the place that a waiting entry names, and a contract's queue pair
tries what it holds. -/
def State.afterLanding (u : State) (q : Nat) : State :=
  let w := ((u.landed q).bind u.entryPlace).elim u u.resumeFor
  if (w.qp q).contract.isSome then w.attempt q 4096 else w

theorem State.afterLanding_of_contract_none {u : State} {q : Nat} (h : (u.qp q).contract = none) :
    u.afterLanding q = ((u.landed q).bind u.entryPlace).elim u u.resumeFor := by
  refine if_neg ?_
  cases (u.landed q).bind u.entryPlace with
  | none => simp [h]
  | some p => simp [State.qp_of_qps_eq (State.resumeFor_qps u p), h]

section Arrival
variable {s : State} {q : Nat} {data : List Byte} {r : Req}
  (hr : (s.dma.reqs.find? fun r => decide (r.what = .subEntry q)) = some r)
include hr

theorem State.entryArrives_of_find :
    s.entryArrives q data = State.afterLanding (if (s.qp q).state = .disabled ∨ (s.qp q).state = .faulted then s.without r
      else ((s.without r).landEntry q data).deliver q) q := by
  unfold State.entryArrives State.without
  rw [hr]
  dsimp only
  generalize (if (s.qp q).state = .disabled ∨ (s.qp q).state = .faulted then _ else (State.landEntry _ q data).deliver q) = u
  unfold State.afterLanding
  cases u.landed q with
  | none => rfl
  | some e => cases h : u.entryPlace e <;> simp [h]

theorem State.entryArrives_of_dead (hs : (s.qp q).state = .disabled ∨ (s.qp q).state = .faulted)
    (hc : (s.qp q).contract = none) (hl : (s.without r).landed q = none) : s.entryArrives q data = s.without r := by
  have hc' : ((s.without r).qp q).contract = none := hc
  rw [State.entryArrives_of_find hr, if_pos hs, State.afterLanding_of_contract_none hc', hl]
  rfl

theorem State.entryArrives_of_live (h1 : (s.qp q).state ≠ .disabled) (h2 : (s.qp q).state ≠ .faulted) {u : State}
    (hu : (s.without r).landEntry q data = u) (hc : (u.qp q).contract = none) :
    s.entryArrives q data = ((u.landed q).bind u.entryPlace).elim u u.resumeFor := by
  rw [State.entryArrives_of_find hr, if_neg (not_or.mpr ⟨h1, h2⟩), hu, State.deliver_of_contract_none hc,
    State.afterLanding_of_contract_none hc]

end Arrival

end Sys2Proof.Machine

namespace Sys2Proof
open Machine

/-- Settles O39: the ways of a completion are `completeFront_eq`, those of an arriving entry `entryArrives_of_dead` and
`entryArrives_of_live`. -/
theorem transferEvents : Obligations.TransferEvents := by
  intro s q v w
  refine ⟨fun hp => ?write, fun e rest hp he hm hf hd => ?front, fun hp hw => ?waits, fun t ho ht hm hu => ?timer,
    fun data r hr => ?arrival, fun ch => ?drained⟩
  case write => exact congrArg done (if_pos (Option.isSome_iff_ne_none.mpr hp))
  case front =>
    intro v popped a room b
    have hx : exec (.transferCompletion q) s = done (w.completeFront q).sweepEps :=
      congrArg done (if_neg (by rw [hp]; exact Bool.false_ne_true))
    have hc := State.completeFront_eq he hm hf hd
    have hroom (h : room) : ¬(v.ringFree = 0 ∨ v.holding ≠ []) := fun hn => hn.elim h.1 fun hh => hh h.2
    have hfull (h : ¬room) : v.ringFree = 0 ∨ v.holding ≠ [] := by
      by_cases h0 : v.ringFree = 0
      · exact .inl h0
      · exact .inr fun hh => h ⟨h0, hh⟩
    rw [hx]
    refine ⟨fun h hb => congrArg (fun u : State => done u.sweepEps) ?_, fun h hb => congrArg (fun u : State => done u.sweepEps) ?_,
      fun h hl => ?_, fun h hl => congrArg (fun u : State => done u.sweepEps) ?_⟩
    · exact hc.trans ((if_neg fun hn => hroom h hn.1).trans ((if_neg (hroom h)).trans (if_neg hb)))
    · exact hc.trans ((if_neg fun hn => hroom h hn.1).trans ((if_neg (hroom h)).trans (if_pos hb)))
    · intro kept
      refine congrArg (fun u : State => done u.sweepEps) ?_
      exact hc.trans ((if_neg fun hn => absurd hn.2 (Nat.not_le.mpr hl)).trans (if_pos (hfull h)))
    · exact hc.trans (if_pos ⟨hfull h, hl⟩)
  case waits =>
    refine congrArg done ((if_neg (by rw [hp]; exact Bool.false_ne_true)).trans ?_)
    rw [State.completeFront_of_waits hw]
  case timer =>
    have hc : ((s.qp q).timer && (s.qp q).unsignalled != 0 && decide (2 ≤ (s.qp q).modCount)) = true := by
      simp only [show (s.qp q).timer = true from ht, Bool.true_and, Bool.and_eq_true, bne_iff_ne, decide_eq_true_eq]
      exact ⟨hu, hm⟩
    refine congrArg done ((if_pos hc).trans ?_)
    unfold State.modMessage
    dsimp only
    rw [show (s.qp q).owner = some t from ho]
  case arrival =>
    intro rest
    refine ⟨fun hs hc hl => congrArg done (State.entryArrives_of_dead hr hs hc hl), fun k h1 h2 hc hk => ?enters,
      fun b hs hc hb hk => ?bad⟩
    case enters =>
      intro t e s0 s1 u hchk hcon
      have ha := State.entryArrives_of_live (u := u) hr h1 h2 ((rest.landEntry_eq q data).2 k hk hchk) hcon
      refine ⟨fun hl => congrArg done (ha.trans ?_), fun e' p hl hp => congrArg done (ha.trans ?_)⟩
      · rw [hl]; rfl
      · rw [hl, Option.bind_some, hp]; rfl
    case bad =>
      intro bad
      subst hb
      have hu : rest.landEntry q data = (rest.consumed q).enterDone q bad .badEntry := (rest.landEntry_eq q data).1 hk
      have ht : (rest.consumed q).time = s.time := rest.consumed_time q
      have hq : (((rest.consumed q).enterDone q bad .badEntry).qp q) =
          { v with sqCons := v.sqCons + 1, entries := v.entries ++ [bad.finish .badEntry s.now s.time.frame] } := by
        refine (State.qp_setQp_same _ _ _).trans ?_
        rw [State.consumed_qp, show (rest.consumed q).now = s.now from congrArg TimeSt.bus ht, ht]
        rfl
      have hrun : (s.qp q).state = .running := hs
      have ha := State.entryArrives_of_live hr (by rw [hrun]; nofun) (by rw [hrun]; nofun) hu (by rw [hq]; exact hc)
      have hl : ((rest.consumed q).enterDone q bad .badEntry).landed q = none := by
        have hph : (bad.finish .badEntry s.now s.time.frame).phase ≠ .queued := by
          unfold Entry.finish
          dsimp only
          split <;> nofun
        unfold State.landed
        rw [hq]
        simp [hph]
      rw [hl] at ha
      refine ⟨_, congrArg done ha, ?_, ?_⟩
      · rw [settle_qp_sqCons]
        exact congrArg Qp.sqCons hq
      · rw [settle_qp_entries]
        exact congrArg Qp.entries hq
  case drained =>
    refine ⟨fun h1 h2 h3 => congrArg done (if_pos ⟨h1, ne_true_of_eq_false h2, ne_true_of_eq_false h3⟩),
      fun h => congrArg done (if_neg ?_)⟩
    rintro ⟨h1, h2, h3⟩
    exact h.elim (fun h => h h1) fun h => h.elim h2 h3

end Sys2Proof

namespace Sys2Proof.Machine

/-! ### Two entries of one index -/

/-- A bulk OUT entry of 64 bytes that waits for its payload. -/
def waitingEntry : Entry := { Entry.ofBytes [] 0 .bulk 0 with len := 64, xfer := 64 }

/-- A program of elements of 8 bytes. -/
def prog8 : Prog := ⟨0, 0, 8, false, false, false, 0, 1, 0, 0, 0, 0, 0, 0, 0, 0, 0, 0⟩

/-- A running queue pair of tenant 0, who may read all of host memory, with two entries of one index, the second of a program. -/
def indexTwice : State :=
  let w := ((State.reset.setReg .gblWinAttr 0 7).setReg .gblWinLimitLo 0 0xFFFFFFFF).setReg .gblWinLimitHi 0 0xFFFFFFFF
  { w with
    eps := [(epKey 0 0 false, { Ep.blank 0 0 false with isOpen := true, mps := 64, basin := 64 })]
    qps := [(1, { Qp.blank with
      owner := some 0, state := .running, entries := [waitingEntry, { waitingEntry with prog := true, xfer := 100 }] })]
    dma := { w.dma with chans := [(0, { Chan.blank with slots := [(0, prog8)] })] } }

/-- What each entry of queue pair 1 has yet to read after a step. -/
def toRead (o : Host.Outcome State Fault Refusal) : List Nat :=
  match o with
  | .next u => (u.qp 1).entries.map Entry.xfer
  | _ => []

end Sys2Proof.Machine

namespace Sys2Proof
open Machine

/-- Refutes O40: the payload clause takes the candidate's 64 bytes off every entry of the index, where a second entry of the index
that belongs to a program loses its program's 8. -/
theorem not_hostRequests : ¬ Obligations.HostRequests := by
  intro h
  obtain ⟨-, -, -, -, hp, -, -⟩ := h indexTwice
  have hc := (hp ⟨.payload 1 0, 0, 0, 64, 0, 0⟩ 1 0 waitingEntry (by decide +kernel) rfl (by decide +kernel) rfl).2
    (by decide +kernel)
  exact absurd (congrArg toRead hc) (by decide +kernel)

end Sys2Proof
end

section
/-!
PROOFS. What comes back from the host, scrubs and writes with an effect of their own.
-/
namespace Sys2Proof.Machine

/-! ### What comes back from the host -/

theorem State.gated_of_serve {s : State} {fn off : Nat} (h : s.gate fn off true = .serve) (f : State → State) :
    s.gated fn off f = f s := by
  unfold State.gated; rw [h]

theorem State.gated_of_not_serve {s : State} {fn off : Nat} (h : s.gate fn off true ≠ .serve) (f : State → State) :
    s.gated fn off f = s.turnedAway (s.gate fn off true) fn off true := by
  unfold State.gated
  split
  · exact absurd ‹_› h
  · rfl

section Failure
variable {s : State} {id : Nat} {r : Req} {kind : HostErr} (hr : s.req id = some r)
include hr

theorem State.accessFail_write (hw : r.what.isWrite = true) (hk : kind ≠ .staging) : s.accessFail id kind = s := by
  unfold State.accessFail
  rw [hr]
  exact if_pos (by simp [hw, hk])

theorem State.accessFail_again (hw : r.what.isWrite = false ∨ kind = .staging) (ht : r.tries < s.retryLimit) :
    s.accessFail id kind = s.retry r := by
  unfold State.accessFail
  rw [hr]
  exact (if_neg (by rcases hw with hw | hw <;> simp [hw])).trans (if_pos ht)

end Failure

/-- The state in which a request is gone. -/
def State.withoutId (s : State) (id : Nat) : State :=
  { s with dma := { s.dma with reqs := s.dma.reqs.filter (·.id != id) } }

/-- What the last failure of a request does, by what it asked (R155, R169, R176, R178, R179). -/
def State.failed (s1 : State) (r : Req) (k : HostErr) : State :=
  match r.what with
  | .subEntry q => (s1.fnErr r.tenant r.addr false (errKind k) 1).qpFault q 2
  | .payload q idx => s1.xferFail q idx (errKind k) false r.addr
  | .inWrite q idx => s1.xferFail q idx (errKind k) true r.addr
  | .flush q idx => s1.xferFail q idx 6 true r.addr
  | .program ch slot => ((s1.fnErr r.tenant r.addr false (errKind k) 3).loadRefused ch).modChan ch fun x =>
      { x with refetch := x.refetch.filter fun y => y.1 != slot }
  | .command t => (s1.fnErr t r.addr false (errKind k) 1).pathFault t
  | .completion q => (s1.fnErr r.tenant r.addr true (errKind k) 1).qpFault q 2
  | .head q => (s1.fnErr r.tenant r.addr true (errKind k) 2).qpFault q 2

theorem State.accessFail_last {s : State} {id : Nat} {r : Req} {kind : HostErr} (hr : s.req id = some r)
    (hw : r.what.isWrite = false ∨ kind = .staging) (ht : s.retryLimit ≤ r.tries) :
    s.accessFail id kind = (s.withoutId id).failed r kind := by
  unfold State.accessFail
  rw [hr]
  refine (if_neg (by rcases hw with hw | hw <;> simp [hw])).trans ((if_neg (Nat.not_lt.mpr ht)).trans ?_)
  unfold State.failed
  cases r.what <;> rfl

/-- A failed read of a program's payload halts its channel. -/
theorem State.xferFail_of_prog {s : State} {q : Nat} {idx : Half} {e : Entry} (he : (s.qp q).entry idx = some e)
    (hp : e.prog = true) (kind : Nat) (addr : DWord) :
    s.xferFail q idx kind false addr = s.chanHalt e.chan kind false (e.xfer == 0) addr (some (q, idx)) := by
  unfold State.xferFail
  rw [he]
  exact if_pos hp

end Sys2Proof.Machine

namespace Sys2Proof
open Machine

/-- Settles O41: what the request asked gives the row's branch. -/
theorem hostAnswers : Obligations.HostAnswers := by
  intro s without
  refine ⟨fun id r kind data hr => ?request, fun ch slot data r hr => ?program⟩
  case request =>
    have last (hw : r.what.isWrite = false ∨ kind = .staging) (ht : s.retryLimit ≤ r.tries) :
        exec (.hostAccessFailure id kind) s = .next (settle ((without id).failed r kind)) :=
      congrArg done (State.accessFail_last hr hw ht)
    refine ⟨fun q idx hw => ?_, fun t hw => congrArg done ?_, fun q idx hw => congrArg done ?_,
      fun hw hk => congrArg done (State.accessFail_write hr hw hk), fun hw ht => congrArg done (State.accessFail_again hr hw ht),
      fun q ht hw => ?_, fun t ht hw => ?_, fun q idx ht => ⟨fun hw => ?_, fun hw hk => ?_, fun hw => ?_⟩,
      fun q ht hk => ⟨fun hw => ?_, fun hw => ?_⟩, fun ch slot ht hw => ?_, fun q idx e ht hw he hp => ?_⟩
    · refine congrArg done ?_
      unfold State.readDone
      rw [hr]
      dsimp only
      rw [hw]
    · unfold State.readDone
      rw [hr]
      dsimp only
      rw [hw]
    · unfold State.flushDone
      rw [hr]
      dsimp only
      rw [hw]
    · rw [last (.inl (by rw [hw]; rfl)) ht, State.failed, hw]
    · rw [last (.inl (by rw [hw]; rfl)) ht, State.failed, hw]
    · rw [last (.inl (by rw [hw]; rfl)) ht, State.failed, hw]
    · rw [last (.inr hk) ht, State.failed, hw]
    · rw [last (.inl (by rw [hw]; rfl)) ht, State.failed, hw]
    · rw [last (.inr hk) ht, State.failed, hw, hk]; rfl
    · rw [last (.inr hk) ht, State.failed, hw, hk]; rfl
    · rw [last (.inl (by rw [hw]; rfl)) ht, State.failed, hw]
    · rw [last (.inl (by rw [hw]; rfl)) ht, State.failed, hw]
      exact congrArg done (State.xferFail_of_prog (s := without id) he hp _ _)
  case program =>
    intro c s0 gone
    refine ⟨fun t p ho hp hk hb hq hs => congrArg done ?_, fun hp => congrArg done ?_⟩
    · have hfit : ¬(gone.slotBusy ch slot || (gone.qp p.qp).owner != some t ||
          c.slots.any fun e => e.1 != slot.val && e.2.qp == p.qp) = true := by
        rw [hb, hq, hs]
        simp
      unfold State.programFetched
      dsimp only
      rw [hr]
      dsimp only
      rw [show (s.chan ch).owner = some t from ho, hp]
      dsimp only
      refine (if_neg hfit).trans ?_
      rw [show ((s.chan ch).refetch.find? fun x => x.1 == slot.val) = none from hk]
      rfl
    · unfold State.programFetched
      dsimp only
      rw [hr]
      dsimp only
      rw [hp]
      cases (s.chan ch).owner <;> rfl

end Sys2Proof

namespace Sys2Proof.Machine

/-! ### Scrubs and writes with an effect of their own -/

theorem halfOf_setWidth (v : Word) : halfOf (v.setWidth 64) false = v := by
  show (v.setWidth 64).setWidth 32 = v
  bv_omega

theorem State.mrcWrite_of_not_ok {s : State} {ws : List Word} (h : s.mrcOk ws = false) :
    (s.mrcWrite ws).1 = (s.setF Fld.mrcStatusRefused 0 1).raiseMillrace := by
  unfold State.mrcWrite
  rw [if_pos (by simp [h])]

/-- Where one word of the Cistern stands in error, a read of what it is of uses it, and a write replaces it. -/
theorem State.words_of_one_bad {s : State} {region who : Nat} {b : BadWord} (hb : s.dma.bad = [b]) (ho : b.isOf region who = true) :
    s.readWords region who = (State.readBad { s with dma := { s.dma with bad := [] } } b, b.double) ∧
      s.writeWords region who = { s with dma := { s.dma with bad := [] } } := by
  constructor
  · unfold State.readWords
    simp [hb, ho]
  · unfold State.writeWords
    simp [hb, ho]

end Sys2Proof.Machine

namespace Sys2Proof
open Machine

/-- Settles O42: the branches of the scrub, the one word in error, and the gates of the special writes. -/
theorem scrubsAndSpecialWrites : Obligations.ScrubsAndSpecialWrites := by
  refine ⟨fun s => ⟨fun addr who reached => ?scrub, fun region who b hb ho => ?words, fun t => ?release⟩,
    fun s => ⟨fun off v hbar hal => ?window, fun t v hg => congrArg done (State.gated_of_serve hg _), fun t vec hv hg => ?msix,
      fun off r v hr hm hg => ?millrace⟩⟩
  case scrub =>
    intro found stands counted
    have stood (u : State) (d b : Bool) (hf : found = b) : stands u d = { u with dma := { u.dma with
        bad := u.dma.bad ++ [⟨addr, d, b, u.badKey (cisRegion addr.toNat) who⟩] } } := by
      simp only [stands, hf]
    refine ⟨rfl, fun hf => ?_, fun hf => ?_⟩
    · rw [stood _ _ _ hf]
      exact ⟨congrArg done (if_pos hf), congrArg done (if_pos hf)⟩
    · rw [stood _ _ _ hf, stood _ _ _ hf]
      exact ⟨congrArg done (if_neg (ne_true_of_eq_false hf)), congrArg done (if_neg (ne_true_of_eq_false hf))⟩
  case words =>
    intro clean
    obtain ⟨hread, hwrite⟩ := State.words_of_one_bad hb ho
    refine ⟨fun hd => ?_, fun hd hf => ?_, fun hd hf => ?_, hwrite⟩
    · rw [hread, hd, State.readBad, hd]; rfl
    · rw [hread, hd, State.readBad, hd, hf]; rfl
    · rw [hread, hd, State.readBad, hd, hf]; rfl
  case release =>
    intro u clean
    refine ⟨rfl, fun hs => congrArg done ?_⟩
    have hc : clean.cfg.shares = [] := hs
    change clean.settleShares = clean
    unfold State.settleShares
    simp only [hc, List.map_nil, List.foldl_nil]
  case window =>
    have hx : exec (.windowWrite off v) s = done (s.gated 0 off fun s => s.writeSpot 0 off v 0) := by
      refine congrArg done ((if_pos hbar).trans ((if_pos ⟨rfl, hal⟩).trans ?_))
      rw [halfOf_setWidth]
      rfl
    exact ⟨fun hg => hx.trans (congrArg done (State.gated_of_not_serve hg _)),
      fun hg => hx.trans (congrArg done (State.gated_of_serve hg _))⟩
  case msix =>
    intro w
    exact congrArg done ((if_neg (by omega)).trans (State.gated_of_serve hg _))
  case millrace =>
    intro m ws
    have hx : exec (.millraceParameterWrite off v) s = .next (settle (m.2.mrcWrite ws).1) := by
      refine congrArg done ?_
      rw [hr]
      exact (if_pos hm).trans (State.gated_of_serve hg _)
    refine ⟨hx, fun hn => hx.trans ?_⟩
    rw [State.mrcWrite_of_not_ok hn]

end Sys2Proof
end

section
/-!
PROOFS. The commit point and the status of a strike, halts and the inputs of the Millrace.
-/
namespace Sys2Proof.Machine

/-! ### The commit point and the status of a strike -/

section Strike
variable {s : State} {q : Nat} {idx : Half} {e : Entry} (he : (s.qp q).entry idx = some e) (hk : e.kind = .strike)
  (hp : e.phase = .started)
include he hk hp

/-- The state at the commit point, without the withdrawals that can no longer go (R127). -/
theorem State.commitPoint_eq :
    let u := s.upTo e.commitAt
    let s1 : State := { u with txns := u.txns.filter fun x => !x.staleAt q idx }
    let mine := fun x : Txn => decide (x.work = .entry q idx) && decide (x.kind = .strikeTok)
    let sent := e.maybeHeld || s.txns.any fun x => mine x && (x.outstanding || decide (x.phase ≠ .start))
    (e.strike = .acked → s.commitPoint q idx = (s1.commitElems e).modEntry q idx fun e => { e with strike := .committed }) ∧
    (e.strike = .staged → s.commitPoint q idx = if sent then s1.modEntry q idx fun e => { e with strike := .settling }
      else ({ s1 with txns := s1.txns.filter fun x => !mine x } : State).endStrike q idx .notStaged) ∧
    (e.strike = .withdrawing → s.commitPoint q idx =
      if e.wSent then s1.modEntry q idx fun e => { e with strike := .settling }
      else if e.stage = 1 || e.flags.getLsbD 2 then
        (s1.commitElems e).modEntry q idx fun e => { e with strike := .committed, flags := e.flags ||| 4 }
      else s1.modEntry q idx fun e => { e with strike := .settling }) := by
  intro u s1 mine sent
  have hlive : ¬(e.kind ≠ .strike ∨ e.phase ≠ .started) := not_or.mpr ⟨not_not_intro hk, not_not_intro hp⟩
  unfold State.commitPoint
  rw [he]
  refine ⟨fun hs => (if_neg hlive).trans ?_, fun hs => (if_neg hlive).trans ?_, fun hs => (if_neg hlive).trans ?_⟩ <;>
    · dsimp only
      rw [hs]

theorem State.actPassed_eq :
    s.actPassed q idx =
      if e.strike = .settling then (s.upTo e.tAct).modEntry q idx fun e => { e with strike := .readStatus }
      else s.upTo e.tAct := by
  unfold State.actPassed
  rw [he]
  exact if_neg (not_or.mpr ⟨not_not_intro hk, not_not_intro hp⟩)

/-- What a STRIKE_STATUS reply settles, by what was withdrawn and by the ACT_TICK (R130, R134). -/
theorem State.settleStrike_eq (hs : e.strike = .readStatus) (reply : Option (List Byte)) :
    let b := reply.getD []
    let st := fieldAt b 0 1 % 4
    let valid := reply.isSome && b.length == 16
    let armedMine := st == 1 && fieldAt b 1 1 == e.seq
    let actedMine := st == 3 && fieldAt b 2 1 == e.seq
    let gone := (s.strikePlace e).elim true fun p => !p.present
    let unknown := s.endStrike q idx (if gone then .deviceGone else .actUnknown)
    s.settleStrike q idx reply =
      if e.wStatus = 0 then
        if !valid then unknown
        else if actedMine then s.modEntry q idx fun e => e.strikeActed false
        else if armedMine then s.endStrike q idx .actUnknown
        else s.endStrike q idx .notStaged
      else if e.tAct.toNat ≤ s.now.toNat then
        if !valid then unknown
        else if actedMine then s.cancelLate q idx e
        else if armedMine then s.endStrike q idx .actUnknown
        else if e.wSent then s.withdrawnOk q idx e
        else s.endStrike q idx .notStaged
      else
        if !valid then s.modEntry q idx fun e => { e with strike := .settling }
        else if actedMine then s.cancelLate q idx e
        else if armedMine then
          if s.now.toNat < e.commitAt.toNat then
            s.modEntry q idx fun e => { e with strike := .withdrawing, wSent := false, wAgain := false, flags := e.flags ||| 4 }
          else s.cancelLate q idx e
        else s.withdrawnOk q idx e := by
  unfold State.settleStrike
  rw [he]
  refine (if_neg (by rw [hs]; simp)).trans ((if_neg (by simp [hk, hp, hs])).trans ?_)
  cases s.strikePlace e <;> rfl

section Reply
variable (hs : e.strike = .readStatus)
include hs

/-- The device that does not answer is gone, or its act stays unknown; before the ACT_TICK a withdrawal asks again. -/
theorem State.settleStrike_none :
    s.settleStrike q idx none =
      if e.wStatus = 0 ∨ e.tAct.toNat ≤ s.now.toNat then
        s.endStrike q idx (if (s.strikePlace e).elim true fun p => !p.present then .deviceGone else .actUnknown)
      else s.modEntry q idx fun e => { e with strike := .settling } := by
  have hv : (!((none : Option (List Byte)).isSome && (([] : List Byte).length == 16))) = true := rfl
  refine (State.settleStrike_eq he hk hp hs none).trans ?_
  by_cases hw : e.wStatus = 0
  · exact (if_pos hw).trans ((if_pos hv).trans (if_pos (.inl hw)).symm)
  · by_cases ht : e.tAct.toNat ≤ s.now.toNat
    · exact (if_neg hw).trans ((if_pos ht).trans ((if_pos hv).trans (if_pos (.inr ht)).symm))
    · exact (if_neg hw).trans ((if_neg ht).trans ((if_pos hv).trans (if_neg (not_or.mpr ⟨hw, ht⟩)).symm))

variable {b : List Byte} (hb : b.length = 16)
include hb

/-- A strike that its device has carried out. -/
theorem State.settleStrike_acted (h3 : fieldAt b 0 1 % 4 = 3) (hq : fieldAt b 2 1 = e.seq) :
    s.settleStrike q idx (some b) =
      if e.wStatus = 0 then s.modEntry q idx fun e => e.strikeActed false else s.cancelLate q idx e := by
  have hv : ¬(!((some b).isSome && b.length == 16)) = true := by simp [hb]
  have ha : (fieldAt b 0 1 % 4 == 3 && fieldAt b 2 1 == e.seq) = true := by simp [h3, hq]
  refine (State.settleStrike_eq he hk hp hs (some b)).trans (ite_congr rfl (fun _ => ?_) fun _ => ?_)
  · exact (if_neg hv).trans (if_pos ha)
  · split
    · exact (if_neg hv).trans (if_pos ha)
    · exact (if_neg hv).trans (if_pos ha)

/-- A strike that its device still holds. -/
theorem State.settleStrike_armed (h1 : fieldAt b 0 1 % 4 = 1) (hq : fieldAt b 1 1 = e.seq) :
    s.settleStrike q idx (some b) =
      if e.wStatus = 0 ∨ e.tAct.toNat ≤ s.now.toNat then s.endStrike q idx .actUnknown
      else if s.now.toNat < e.commitAt.toNat then
        s.modEntry q idx fun e => { e with strike := .withdrawing, wSent := false, wAgain := false, flags := e.flags ||| 4 }
      else s.cancelLate q idx e := by
  have hv : ¬(!((some b).isSome && b.length == 16)) = true := by simp [hb]
  have hna : ¬(fieldAt b 0 1 % 4 == 3 && fieldAt b 2 1 == e.seq) = true := by simp [h1]
  have ha : (fieldAt b 0 1 % 4 == 1 && fieldAt b 1 1 == e.seq) = true := by simp [h1, hq]
  refine (State.settleStrike_eq he hk hp hs (some b)).trans ?_
  by_cases hw : e.wStatus = 0
  · exact (if_pos hw).trans ((if_neg hv).trans ((if_neg hna).trans ((if_pos ha).trans (if_pos (.inl hw)).symm)))
  · by_cases ht : e.tAct.toNat ≤ s.now.toNat
    · exact (if_neg hw).trans ((if_pos ht).trans ((if_neg hv).trans ((if_neg hna).trans ((if_pos ha).trans
        (if_pos (.inr ht)).symm))))
    · exact (if_neg hw).trans ((if_neg ht).trans ((if_neg hv).trans ((if_neg hna).trans ((if_pos ha).trans
        (if_neg (not_or.mpr ⟨hw, ht⟩)).symm))))

/-- A strike that its device neither holds nor has carried out. -/
theorem State.settleStrike_empty (h0 : fieldAt b 0 1 % 4 = 0 ∨ fieldAt b 0 1 % 4 = 2) :
    s.settleStrike q idx (some b) =
      if e.wStatus = 0 then s.endStrike q idx .notStaged
      else if e.tAct.toNat ≤ s.now.toNat then (if e.wSent then s.withdrawnOk q idx e else s.endStrike q idx .notStaged)
      else s.withdrawnOk q idx e := by
  have hv : ¬(!((some b).isSome && b.length == 16)) = true := by simp [hb]
  have hna : ¬(fieldAt b 0 1 % 4 == 3 && fieldAt b 2 1 == e.seq) = true := by rcases h0 with h | h <;> simp [h]
  have hnr : ¬(fieldAt b 0 1 % 4 == 1 && fieldAt b 1 1 == e.seq) = true := by rcases h0 with h | h <;> simp [h]
  refine (State.settleStrike_eq he hk hp hs (some b)).trans
    (ite_congr rfl (fun _ => ?_) fun _ => ite_congr rfl (fun _ => ?_) fun _ => ?_)
  all_goals exact (if_neg hv).trans ((if_neg hna).trans (if_neg hnr))

end Reply

end Strike

end Sys2Proof.Machine

namespace Sys2Proof
open Machine

/-- Settles O43: the commit point goes by the strike's state, and the reply by what the device says of it. -/
theorem strikeEvents : Obligations.StrikeEvents := by
  intro s q idx e he hk hp u at_ mine sent C A R late gone withdrawn
  obtain ⟨hacked, hstaged, hwith⟩ := State.commitPoint_eq he hk hp
  have hact := State.actPassed_eq he hk hp
  refine ⟨fun hs => congrArg done (hacked hs), fun hs hc => congrArg done ((hstaged hs).trans (if_pos hc)),
    fun hs hc => congrArg done ((hstaged hs).trans (if_neg (ne_true_of_eq_false hc))),
    fun hs hw => congrArg done ((hwith hs).trans (if_pos hw)),
    fun hs hw hc => congrArg done ((hwith hs).trans ((if_neg (ne_true_of_eq_false hw)).trans (if_pos ?_))),
    fun hs hw hc => congrArg done ((hwith hs).trans ((if_neg (ne_true_of_eq_false hw)).trans (if_neg ?_))),
    fun hs => congrArg done (hact.trans (if_pos hs)), fun hs => congrArg done (hact.trans (if_neg hs)), fun b => ?reply,
    fun hs hw => ?kept, fun hs hw ht => ?before, fun hs hw ht => ?after⟩
  · simpa using hc
  · simpa using hc
  case reply =>
    intro pick kept got
    refine congrArg done ?_
    rw [he]
    rfl
  case kept =>
    have hg : (s.strikePlace e).elim true (fun p => !p.present) = gone := by unfold gone; cases s.strikePlace e <;> rfl
    refine ⟨fun b hb => ⟨fun h3 hq => ?_, fun h1 hq => ?_, fun h0 => ?_⟩, ?_⟩
    · exact (State.settleStrike_acted he hk hp hs hb h3 hq).trans (if_pos hw)
    · exact (State.settleStrike_armed he hk hp hs hb h1 hq).trans (if_pos (.inl hw))
    · exact (State.settleStrike_empty he hk hp hs hb h0).trans (if_pos hw)
    · exact (State.settleStrike_none he hk hp hs).trans ((if_pos (.inl hw)).trans (by rw [hg]))
  case before =>
    have hn : ¬(e.wStatus = 0 ∨ e.tAct.toNat ≤ s.now.toNat) := not_or.mpr ⟨hw, Nat.not_le.mpr ht⟩
    refine ⟨(State.settleStrike_none he hk hp hs).trans (if_neg hn), fun b hb => ⟨fun h3 hq => ?_, fun h1 hq hc => ?_,
      fun h1 hq hc => ?_, fun h0 => ?_⟩⟩
    · exact (State.settleStrike_acted he hk hp hs hb h3 hq).trans (if_neg hw)
    · exact (State.settleStrike_armed he hk hp hs hb h1 hq).trans ((if_neg hn).trans (if_pos hc))
    · exact (State.settleStrike_armed he hk hp hs hb h1 hq).trans ((if_neg hn).trans (if_neg (Nat.not_lt.mpr hc)))
    · exact (State.settleStrike_empty he hk hp hs hb (.inl h0)).trans ((if_neg hw).trans (if_neg (Nat.not_le.mpr ht)))
  case after =>
    have hg : (s.strikePlace e).elim true (fun p => !p.present) = gone := by unfold gone; cases s.strikePlace e <;> rfl
    refine ⟨(State.settleStrike_none he hk hp hs).trans ((if_pos (.inr ht)).trans (by rw [hg])), fun b hb => ⟨fun h3 hq => ?_,
      fun h1 hq => ?_, fun h0 => ?_⟩⟩
    · exact (State.settleStrike_acted he hk hp hs hb h3 hq).trans (if_neg hw)
    · exact (State.settleStrike_armed he hk hp hs hb h1 hq).trans (if_pos (.inr ht))
    · exact (State.settleStrike_empty he hk hp hs hb (.inl h0)).trans ((if_neg hw).trans (if_pos ht))

end Sys2Proof

namespace Sys2Proof.Machine

/-! ### Halts and the Millrace's inputs -/

theorem State.loseSource_of_not_samples {s : State} (h : s.samples = false) : s.loseSource = s :=
  if_pos (by simp [h])

/-- The step of an encoder: the count moves, and the index mark is taken, missed or found too early (R72). -/
theorem State.encoderStep_some (s : State) (d : Int) (z : Bool) :
    let n := s.mrc.count + (if s.par.dirInv then -d else d)
    let u := if d = 0 then s else s.moveCount n s.now
    let early := s.par.zEn = true ∧ s.bit Fld.mrcStatusZSeen 0 = true ∧ z = true ∧ 4 < offMultiple (n - s.mrc.index) s.par.cprEff
    let missed := s.par.zEn = true ∧ z = false ∧ 5 * s.par.cprEff < 4 * (n - s.mrc.index).natAbs
    (early → s.encoderStep (some d) z = (u.indexAt n).loseSource) ∧ (missed → s.encoderStep (some d) z = u.loseSource) ∧
      (¬early → ¬missed → s.encoderStep (some d) z = if z then u.indexAt n else u) := by
  intro n u early missed
  cases z with
  | true =>
    have hz : s.encoderStep (some d) true =
        if s.par.zEn && s.bit Fld.mrcStatusZSeen 0 && decide (4 < offMultiple (n - s.mrc.index) s.par.cprEff) then
          (u.indexAt n).loseSource else u.indexAt n := rfl
    refine ⟨fun ⟨h1, h2, _, h4⟩ => hz.trans (if_pos ?_), fun h => absurd h.2.1 Bool.noConfusion,
      fun he _ => hz.trans (if_neg fun h => he ?_)⟩
    · exact Bool.and_eq_true_iff.mpr ⟨Bool.and_eq_true_iff.mpr ⟨h1, h2⟩, decide_eq_true h4⟩
    · obtain ⟨h12, h4⟩ := Bool.and_eq_true_iff.mp h
      obtain ⟨h1, h2⟩ := Bool.and_eq_true_iff.mp h12
      exact ⟨h1, h2, rfl, of_decide_eq_true h4⟩
  | false =>
    have hz : s.encoderStep (some d) false =
        if s.par.zEn && decide (5 * s.par.cprEff < 4 * (n - s.mrc.index).natAbs) then u.loseSource else u := rfl
    refine ⟨fun h => absurd h.2.2.1 Bool.noConfusion, fun ⟨h1, _, h3⟩ => hz.trans (if_pos ?_),
      fun _ hm => hz.trans (if_neg fun h => hm ?_)⟩
    · exact Bool.and_eq_true_iff.mpr ⟨h1, decide_eq_true h3⟩
    · obtain ⟨h1, h3⟩ := Bool.and_eq_true_iff.mp h
      exact ⟨h1, rfl, of_decide_eq_true h3⟩

/-- The tick by which an edge may be off: at most 4. -/
theorem toNat_ofNat_mod_five (n : Nat) : (BitVec.ofNat 64 (n % 5)).toNat ≤ 4 := by
  rw [BitVec.toNat_ofNat]
  omega

end Sys2Proof.Machine

namespace Sys2Proof
open Machine

/-- Settles O44: the conditions of the pin and of the token. -/
theorem haltEvents : Obligations.HaltEvents := by
  intro s pin
  refine ⟨fun hst hho hps hs => congrArg done ?_, fun h => congrArg done ?_, rfl, fun p sd => ?_⟩
  · have hc : (true && decide (4 ≤ s.stage) && !s.inHold && s.getF Fld.pwrStateState 0 == 0) = true := by simp [hst, hho, hps]
    exact (if_pos hc).trans (if_neg (ne_true_of_eq_false hs))
  · split
    · rename_i hc
      rcases h with h | h
      · exact if_pos h
      · simp [Nat.not_le.mpr h] at hc
    · rfl
  · intro l
    refine ⟨fun hd hu hx => ?_, fun h => congrArg done (if_neg ?_)⟩
    · intro sent
      refine congrArg done (if_pos ?_)
      change (s.halt.due.contains l && s.linkUp l && (sd = .h || !s.txns.any fun x => x.link == l && x.outstanding)) = true
      rw [hd, hu]
      rcases hx with hx | hx
      · simp [hx]
      · have : (s.txns.any fun x => x.link == l && x.outstanding) = false := by
          simpa [List.any_eq_false] using hx
        rw [this]
        simp
    · rcases h with h | h
      · rw [show s.halt.due.contains (linkOf p sd) = false from h]; simp
      · rw [show s.linkUp (linkOf p sd) = false from h]; simp

/-- Settles O45: the source, the reversal, the steps of an encoder, and the edges within their 2 ticks. -/
theorem millraceInputs : Obligations.MillraceInputs := by
  intro s
  refine ⟨fun h => ⟨congrArg done ?_, congrArg done (if_pos (by simp [h]))⟩, fun h => congrArg done (if_pos (by simp [h])),
    fun h1 h2 => congrArg done (if_pos ⟨h1, by simp [h2]⟩), fun h1 h2 => ?lost, fun h1 h2 => congrArg done (if_neg (by simp [h1, h2])),
    fun h => congrArg done (if_pos h), fun h => congrArg done (if_neg (ne_true_of_eq_false h)), fun enc a b z => ?encoder,
    fun rising h1 h2 => ?syncIn, fun h1 h2 h3 => ?syncCount, fun b h1 h2 h3 => ?syncOut, fun h => congrArg done ?_⟩
  · rw [State.loseSource_of_not_samples h, ite_self]
  case lost =>
    intro lost
    refine congrArg done ((if_neg ?_).trans (if_neg (by simp [h1])))
    rintro ⟨h3, hs⟩
    rcases h2 with h2 | h2
    · exact h2 h3
    · simp [h2] at hs
  case encoder =>
    intro seen
    refine ⟨fun h => congrArg done (if_neg h), fun h hq => congrArg done ((if_pos h).trans ?_), fun d h hq => ?_⟩
    · rw [hq]
      rfl
    · intro n u early missed
      have hx : exec (.encoderTransition enc a b z) s = done (seen.encoderStep (some d) z) :=
        congrArg done ((if_pos h).trans (by rw [hq]))
      obtain ⟨he, hm, hn⟩ := State.encoderStep_some seen d z
      exact ⟨fun h => hx.trans (congrArg done (he h)), fun h => hx.trans (congrArg done (hm h)),
        fun h1 h2 => hx.trans (congrArg done (hn h1 h2))⟩
  case syncIn =>
    intro mode edge
    have hs : ¬(rising && s.par.source == 3) = true := by simp [h2]
    have hwant : ((if rising then mode == 1 || mode == 3 else mode == 2 || mode == 3) = true) ↔
        (if rising then mode = 1 ∨ mode = 3 else mode = 2 ∨ mode = 3) := by
      cases rising <;> simp
    have hclose : execSyncInEdge rising s = done (if (true && (if rising then mode == 1 || mode == 3 else mode == 2 || mode == 3)) then
        (edge.nextFree.setReg64 .gblSyncCapLo .gblSyncCapHi 0
          (s.now + BitVec.ofNat 64 (s.freeValue.toNat % 5) - 2)).setReg .gblSyncCapCnt 0 (s.reg .gblSyncCapCnt 0 + 1) else edge) := by
      unfold execSyncInEdge
      dsimp only
      rw [if_neg hs, h1]
      rfl
    refine ⟨fun hm => ⟨_, toNat_ofNat_mod_five _, hclose.trans (congrArg done (if_pos ?_))⟩,
      fun hm => hclose.trans (congrArg done (if_neg ?_))⟩
    · rw [Bool.true_and]
      exact hwant.mpr hm
    · rw [Bool.true_and]
      exact fun h => hm (hwant.mp h)
  case syncCount =>
    intro edge
    change execSyncInEdge true s = _
    unfold execSyncInEdge
    dsimp only
    rw [h1, h2, h3]
    rfl
  case syncOut =>
    intro plan hnow
    refine ⟨_, _, toNat_ofNat_mod_five s.freeValue.toNat, toNat_ofNat_mod_five s.nextFree.freeValue.toNat, ?_⟩
    intro up down u
    have hc : ¬(!s.time.running || s.pins.syncOut == some b || decide (plan.toNat + 2 < s.now.toNat)) = true := by
      simp [h2, h3, hnow]
    refine congrArg done ?_
    rw [h1]
    exact if_neg hc
  · split
    · rfl
    · rename_i b hb
      rcases h with h | h
      · exact if_pos (by simp [h])
      · unfold State.syncBoundary at hb
        rw [h] at hb
        exact absurd hb nofun

end Sys2Proof
end

section
/-!
PROOFS. The keeper, the lanes and the pairs: bring-up, training, Drowse and tests.
-/
namespace Sys2Proof.Machine

/-! ### The events of the keeper -/

theorem State.placeAt_of_place {s : State} {r : DWord} {q : Place} (h : s.place r = some q) : s.placeAt r = q := by
  unfold State.placeAt
  rw [h]

theorem State.bringUpStart_of_next {s : State} {l : Nat} {r : DWord} (hr : s.busRuns = true) (hn : s.nextBringUp l = some r) :
    s.bringUpStart l = s.alter r fun p =>
      match parentOf r with
      | none =>
        let p := { p with step := .desc8 0, version := (s.link l).ver }
        if l % 2 = 0 then { p with speed := 3 } else { p with speed := s.getF Fld.prtLaneStatusPSpeed (l / 2) }
      | some _ => if p.keptByReset && p.enabled then { p with step := .desc8 0 } else { p with step := .reset 0 } := by
  unfold State.bringUpStart
  rw [hr, hn]
  rfl

/-- What the keeper's answer does at a place that waits for no disable and no doze. -/
theorem State.keeperDone_of_step {s : State} {r : DWord} {q : Place} (hq : s.placeAt r = q) (h1 : q.disabling = false)
    (h2 : q.dozeExit = false) (h3 : q.dozeAsked = false) (n : Nat) (a : KeeperReply) :
    (q.step = .none → s.keeperDone r a = s) ∧
      (∀ b, q.step = .desc8 n → a = .data b → 8 ≤ b.length →
        s.keeperDone r a = s.alter r fun p => { p with step := .desc32 0, desc := b }) ∧
      (∀ b, q.step = .setAddr n → a = .data b → s.keeperDone r a = s.addressed r) ∧
      (q.step = .setAddr n → a = .failed → s.keeperDone r a = s.stepFailed r) := by
  refine ⟨fun h => ?_, fun b h ha hb => ?_, fun b h ha => ?_, fun h ha => ?_⟩ <;>
    (unfold State.keeperDone; dsimp only; rw [hq, h1, h2, h3, h])
  · rfl
  · rw [ha]
    exact if_neg (Nat.not_lt.mpr hb)
  · rw [ha]
    rfl
  · rw [ha]
    rfl

end Sys2Proof.Machine

namespace Sys2Proof
open Machine

/-- Settles O46: the conditions of each event, and the answer of a request at the place's step. -/
theorem keeperEvents : Obligations.KeeperEvents := by
  intro s
  refine ⟨fun h1 h2 => congrArg done (if_neg (by simp [h1, h2])), fun h => congrArg done (if_pos (by simpa using h)),
    fun root hops => ?poll, fun hub port reply => ?status, fun p sd => ?start, fun r n b q a hp h1 h2 h3 => ?request,
    fun r => ⟨fun h1 h2 => congrArg done (if_pos (by simp [h1, h2])), fun h => congrArg done (if_neg ?_)⟩,
    fun p => ?overlong, fun r h => ⟨fun h1 h2 => congrArg done ?_, fun h1 => congrArg done (if_pos (by simp [h1]))⟩⟩
  case poll =>
    intro hub p n ep due u
    have hc : (!p.hubUp || n = 0 || ep = 0 || (s.ready && s.hubContract p) || decide ((s.time.frame - p.pollAt).toNat < n) ||
        (s.keeper.any fun k => k.route == hub && k.ep != 0)) = true ↔ ¬due := by
      rw [← Bool.eq_false_iff.not_left]
      simp only [due, Bool.or_eq_false_iff, Bool.not_eq_false', Bool.and_eq_false_iff, decide_eq_false_iff_not, Nat.not_lt,
        and_assoc]
    exact ⟨fun hd => congrArg done (if_neg fun h => hc.mp h hd), fun hd => congrArg done (if_pos (hc.mpr hd)), fun b hb => rfl⟩
  case status =>
    intro h pick u got h1 h2
    have hx : ∀ o, got = o → exec (.portStatusReply hub port reply) s = done (match o with
        | some b => if b.length < 16 then u.failChecked (u.placeAt (childOf hub port)) else u.portStatus hub port b
        | none => u.failChecked (u.placeAt (childOf hub port))) := by
      rintro o rfl
      have hup : (s.placeAt hub).hubUp = true := h1
      have hreads : (s.placeAt hub).reads.contains port.val = true := h2
      exact congrArg done (if_neg (by rw [hup, hreads]; exact Bool.false_ne_true))
    exact ⟨fun hg => hx _ hg, fun b hg hb => (hx _ hg).trans (congrArg done (if_pos hb)),
      fun b hg hb => (hx _ hg).trans (congrArg done (if_neg (Nat.not_lt.mpr hb)))⟩
  case start =>
    refine ⟨fun h => congrArg done (if_pos (by simp [h])), fun h1 h2 => congrArg done ?_, fun r h1 h2 h3 => congrArg done ?_,
      fun r h h1 h2 h3 => congrArg done ?_⟩
    · unfold State.bringUpStart
      rw [h1, h2]
      rfl
    · rw [State.bringUpStart_of_next h1 h2, h3]
      congr 1
      funext q
      dsimp only
      split <;> rfl
    · rw [State.bringUpStart_of_next h1 h2, h3]
  case request =>
    intro pick u got
    have hx : exec (.keeperRequestComplete r a) s = done (u.keeperDone r got) := congrArg done (if_pos (by rw [hp]; rfl))
    obtain ⟨k1, k2, k3, k4⟩ := State.keeperDone_of_step (s := u) (r := r) (q := q) (State.placeAt_of_place hp) h1 h2 h3 n got
    exact ⟨fun h => hx.trans (congrArg done (k1 h)), fun h hg hb => hx.trans (congrArg done (k2 b h hg hb)),
      fun h hg => hx.trans (congrArg done (k3 b h hg)), fun h hg => hx.trans (congrArg done (k4 h hg))⟩
  · rcases h with h | h <;> simp [h]
  case overlong =>
    intro l
    refine ⟨fun h => congrArg done (if_pos (by rw [show s.linkUp (2 * p.val + 1) = false from h]; rfl)), fun h hx => congrArg done ?_⟩
    have hf : (s.txns.find? fun x => x.link == l && x.outstanding) = none := by
      simpa [List.find?_eq_none] using hx
    rw [show (s.txns.find? fun x => x.link == 2 * p.val + 1 && x.outstanding) = none from hf]
    exact if_neg (by rw [show s.linkUp (2 * p.val + 1) = true from h]; simp)
  · rw [h1, h2]
    rfl

end Sys2Proof

namespace Sys2Proof.Machine

/-! ### The lanes and their training -/

theorem routePort_rootRoute (p : Fin 16) (sd : Side) : routePort (rootRoute p sd) = p.val := by
  revert p; cases sd <;> decide

theorem routePair_rootRoute (p : Fin 16) (sd : Side) : (if routePair (rootRoute p sd) then Side.p else Side.h) = sd := by
  revert p; cases sd <;> decide

theorem rootRoute_isRoot (p : Fin 16) (sd : Side) : hopsOf (rootRoute p sd) = [] ∧ routeOk (rootRoute p sd) = true := by
  revert p; cases sd <;> decide

/-- A valid connection at a root port reaches its side. -/
theorem exec_connectValid_root (p : Fin 16) (sd : Side) (f : Bool) (s : State) :
    exec (.connectValid (rootRoute p sd) f) s = done (s.connect p sd f) := by
  refine congrArg done ((if_pos (rootRoute_isRoot p sd)).trans ?_)
  rw [routePort_rootRoute, routePair_rootRoute]

/-- What a training set changes of the link it trains. -/
def Link.tookSets (k : Link) (ts2 : Bool) (n : Nat) : Link :=
  if ts2 then { k with ts2 := min 8 (k.ts2 + n) } else { k with lock := min 8 (k.lock + n) }

/-- The locks that training sets give: of the bits with the first of them, of the symbols with the eighth. -/
def State.locksOf (s : State) (lane n : Nat) (sent : Bool) : State :=
  let b := if n = 0 then s else s.setF Fld.prtLaneStatusHBitLock lane 1
  if 8 ≤ (b.link (laneLink lane)).lock + (b.link (laneLink lane)).ts2 then
    let c := b.setF Fld.prtLaneStatusHSymLock lane 1
    if sent then c else c.emit (.ordered lane "TS2" 16 (s.trainFlags lane))
  else b

theorem State.trainingSet_of_training {s : State} {lane : Nat} (h1 : s.getF Fld.prtLaneStatusHState lane = 1)
    (h2 : (s.link (laneLink lane)).resume = false) (ts2 loop : Bool) (n : Nat) :
    let u := (s.modLink (laneLink lane) fun k => k.tookSets ts2 n).locksOf lane n
      (decide (8 ≤ (s.link (laneLink lane)).lock + (s.link (laneLink lane)).ts2))
    s.trainingSet lane ts2 false loop n = if 8 ≤ (u.link (laneLink lane)).ts2 then u.trained lane else u := by
  refine (if_pos (.inl h1)).trans (if_neg ?_)
  rw [h2]
  simp

theorem State.trainingSet_of_idle {s : State} {lane : Nat} (h : s.getF Fld.prtLaneStatusHState lane = 2) (ts2 fast loop : Bool) (n : Nat) :
    s.trainingSet lane ts2 fast loop n = s := by
  unfold State.trainingSet
  dsimp only
  rw [h]
  rfl

@[simp] theorem State.link_modLink_same (s : State) (l : Nat) (f : Link → Link) : (s.modLink l f).link l = f (s.link l) := by
  simp [State.link, State.modLink]

/-- Training sets that make the locks stand. -/
theorem State.locksOf_of_eight {s : State} {lane n : Nat} (hn : n ≠ 0)
    (h : 8 ≤ (s.link (laneLink lane)).lock + (s.link (laneLink lane)).ts2) (sent : Bool) :
    let c := (s.setF Fld.prtLaneStatusHBitLock lane 1).setF Fld.prtLaneStatusHSymLock lane 1
    s.locksOf lane n sent = if sent then c else c.emit (.ordered lane "TS2" 16 (s.trainFlags lane)) := by
  unfold State.locksOf
  dsimp only
  rw [if_neg hn]
  exact if_pos h

theorem State.trainFlags_modLink_tookSets (s : State) (lane : Nat) (ts2 : Bool) (n : Nat) :
    (s.modLink (laneLink lane) fun k => k.tookSets ts2 n).trainFlags lane = s.trainFlags lane := by
  unfold State.trainFlags
  rw [State.link_modLink_same]
  cases ts2 <;> rfl

end Sys2Proof.Machine

namespace Sys2Proof
open Machine

/-- Settles O47: the state of the side decides, and a training set goes by the locks that it makes stand. -/
theorem laneEvents : Obligations.LaneEvents := by
  intro s p r
  refine ⟨fun lane found h1 h2 h3 h4 => ?detect, fun lane h1 h2 h3 h4 h5 => ?detectTwin,
    fun lane ts2 fast loop n h => congrArg done (State.trainingSet_of_idle h ..), fun lane n h1 h2 h3 h4 h5 => ?locked,
    fun lane n h1 h2 h3 h4 h5 h6 => ?lock, fun rx w h1 h2 => congrArg done ?_, fun rx h => congrArg done ?_,
    fun lane => ?limit, fun h1 h2 => congrArg done (if_pos (by simp [h1, h2])), fun h => congrArg done (if_neg ?_),
    fun h => ?retrain,
    fun h => ⟨congrArg done (if_pos (by simpa using h)), congrArg done (if_neg h)⟩, fun h1 h2 h3 => congrArg done ?_,
    fun h1 h2 h3 => congrArg done ?_, fun h1 h2 h3 h4 => ?connectH, fun f h1 h2 h3 h4 h5 => ?connectP, fun h1 h2 => congrArg done ?_⟩
  case detect =>
    intro u
    refine congrArg done ((if_neg ?_).trans (if_pos h1))
    simp [h2, Nat.not_lt.mpr h3, h4, Nat.not_le.mpr h1]
  case detectTwin =>
    intro l u
    have hx : ∀ found, exec (.receiverDetectPulse lane found) s = done (if !found then u.modLink l fun k => { k with attempts := 0 }
        else if (u.link l).attempts < 100 then u.modLink l fun k => { k with attempts := k.attempts + 1 } else u.trainStart lane) :=
      fun found => congrArg done ((if_neg (by simp [h2, Nat.not_lt.mpr h3, h4, h5])).trans (if_neg (Nat.not_lt.mpr h1)))
    exact ⟨hx false, fun h => (hx true).trans (congrArg done (if_pos h)),
      fun h => (hx true).trans (congrArg done (if_neg (Nat.not_lt.mpr h)))⟩
  case locked =>
    set took := s.modLink (laneLink lane) fun k => k.tookSets true n with htook
    have hlink : took.link (laneLink lane) = (s.link (laneLink lane)).tookSets true n := State.link_modLink_same ..
    have hlock : 8 ≤ (took.link (laneLink lane)).lock + (took.link (laneLink lane)).ts2 := by
      rw [hlink]
      exact Nat.le_add_right_of_le (Nat.le_of_eq h5.symm)
    have hu : took.locksOf lane n (decide (8 ≤ (s.link (laneLink lane)).lock + (s.link (laneLink lane)).ts2)) =
        (took.setF Fld.prtLaneStatusHBitLock lane 1).setF Fld.prtLaneStatusHSymLock lane 1 :=
      (State.locksOf_of_eight h3 hlock _).trans (if_pos (decide_eq_true (by omega)))
    have hts2 : ¬8 ≤ (took.link (laneLink lane)).ts2 := by
      rw [hlink]
      exact fun h => absurd (Nat.le_trans h (Nat.min_le_right ..)) (Nat.not_le.mpr h4)
    refine congrArg done ((State.trainingSet_of_training h1 h2 true false n).trans ?_)
    rw [← htook, hu]
    exact if_neg hts2
  case lock =>
    set took := s.modLink (laneLink lane) fun k => k.tookSets false n with htook
    have hlink : took.link (laneLink lane) = (s.link (laneLink lane)).tookSets false n := State.link_modLink_same ..
    have hlock : 8 ≤ (took.link (laneLink lane)).lock + (took.link (laneLink lane)).ts2 := by
      rw [hlink]
      exact Nat.le_add_right_of_le (Nat.le_min.mpr ⟨Nat.le_refl 8, h6⟩)
    have hu : took.locksOf lane n (decide (8 ≤ (s.link (laneLink lane)).lock + (s.link (laneLink lane)).ts2)) =
        ((took.setF Fld.prtLaneStatusHBitLock lane 1).setF Fld.prtLaneStatusHSymLock lane 1).emit
          (.ordered lane "TS2" 16 (s.trainFlags lane)) := by
      rw [State.locksOf_of_eight h3 hlock, State.trainFlags_modLink_tookSets]
      exact if_neg (by simpa [h4] using h5)
    have hts2 : ¬8 ≤ (took.link (laneLink lane)).ts2 := by
      rw [hlink]
      exact fun h => absurd (h4 ▸ h) (by decide)
    refine congrArg done ((State.trainingSet_of_training h1 h2 false false n).trans ?_)
    rw [← htook, hu]
    exact if_neg hts2
  · refine (if_neg (by simp [h1])).trans ?_
    rw [h2]
  · rcases h with h | h
    · exact if_pos (by simp [h])
    · rw [h]
      exact ite_self s
  case limit =>
    intro st
    have hc : (st != 1 && st != 2 && st != 5) = true ↔ ¬(st = 1 ∨ st = 2 ∨ st = 5) := by simp [and_assoc]
    exact ⟨fun a b c => congrArg done (if_pos (hc.mpr (not_or.mpr ⟨a, not_or.mpr ⟨b, c⟩⟩))),
      fun a b => congrArg done ((if_neg fun h => hc.mp h a).trans (if_neg (Nat.not_le.mpr b))),
      fun a b => congrArg done ((if_neg fun h => hc.mp h a).trans (if_pos b))⟩
  · rcases h with h | h <;> simp [h]
  case retrain =>
    intro up
    have hx : exec (.retrainSuccess p) s = done (if (up.link (2 * p)).resetWaits then
          ((up.modLink (2 * p) fun k => { k with resetWaits := false }).beginReset r).resetRoot r
        else ((up.allPlaces.filter fun q => routeLink q.route == 2 * p.val).map (·.route)).foldl (fun s r => s.remeasure r) up) :=
      congrArg done (if_neg (by simp [h]))
    exact ⟨⟨fun hw => hx.trans (congrArg done (if_pos hw)),
      fun hw => hx.trans (congrArg done (if_neg (ne_true_of_eq_false hw)))⟩,
      fun hr => congrArg done ((if_pos h).trans (if_neg hr))⟩
  · exact (if_neg (by simp [h1, h2])).trans ((if_neg (by simpa using h3)).trans (if_pos (by simp [h1])))
  · exact (if_neg (by simp [h1, h2])).trans (if_pos (by simpa using h3))
  case connectH =>
    refine (exec_connectValid_root p .h false s).trans (congrArg done ((if_neg ?_).trans ((if_neg ?_).trans (if_pos rfl))))
    · simp [h1, h2, Nat.not_lt.mpr h3]
    · simpa using h4
  case connectP =>
    intro u
    refine (exec_connectValid_root p .p f s).trans (congrArg done ((if_neg ?_).trans ((if_neg ?_).trans (if_neg nofun))))
    · simp [h1, h2, Nat.not_lt.mpr h3, h5]
    · simp [h4]
  · have hst : s.getF Fld.prtLaneStatusHState p = 3 := h1
    have hl : laneLink p.val = 2 * p.val := if_pos p.isLt
    change State.trainingSet s p false true false 1 = _
    unfold State.trainingSet
    dsimp only
    rw [hst, h2]
    simp

end Sys2Proof

namespace Sys2Proof.Machine

/-! ### The pairs -/

theorem State.seeWake_of_up {s : State} (h : s.lowered = false) (l : Nat) (r : DWord) : s.seeWake l r = s.remoteWake r :=
  if_neg (ne_true_of_eq_false h)

theorem State.resumePair_of_doze {s : State} {p : Nat} (h : s.pState p = 4) :
    s.resumePair p = ((s.setF Fld.prtLaneStatusPState p 5).modLink (2 * p + 1) fun k =>
      { k with resume := true, resumeEnded := false }).emit (.signal (2 * p + 1) "K") :=
  if_pos h

/-- The hubs below a pair that have been asked to let their ports doze. -/
def State.askDoze (s : State) (awake : List Place) : State :=
  (awake.filter fun q => s.dozeClear q.route && !q.dozeAsked).foldl (fun s q =>
    s.alter q.route fun q => { q with dozeAsked := true }) s

/-- What a pair does that may doze (R222): the ports of its hubs first. -/
theorem State.dozeLinks_pair (s : State) (p : Fin 16) :
    let l := 2 * p.val + 1
    let awake := s.allPlaces.filter fun q => q.hubPair && !q.doze && routeLink q.route == l
    let u := s.askDoze awake
    s.dozeLinks p .p = if s.pState p = 3 ∧ awake = [] ∧ u.dozeClear (rootRoute p .p) = true then
      (((u.setF Fld.prtLaneStatusPState p 4).modLink l fun k => { k with since := s.now, resume := false }).emit
        (.signal l "SE0")).emit (.signal l "J") else u := by
  intro l awake u
  have hx : s.dozeLinks p .p = if Side.p = .p ∧ s.pState p = 3 ∧ awake.isEmpty = true ∧ u.dozeClear (rootRoute p .p) = true then
      (((u.setF Fld.prtLaneStatusPState p 4).modLink l fun k => { k with since := s.now, resume := false }).emit
        (.signal l "SE0")).emit (.signal l "J") else u := rfl
  rw [hx]
  exact if_congr (by simp [List.isEmpty_iff]) rfl rfl

end Sys2Proof.Machine

namespace Sys2Proof
open Machine

/-- Settles O48: the state of the pair and the attempts made decide. -/
theorem pairEvents : Obligations.PairEvents := by
  intro s p l r offer shown
  refine ⟨fun h => ?se0, fun h1 h2 f => congrArg done ?_, fun h1 h2 f => congrArg done (if_neg ?_), fun h1 h2 => ?first,
    fun h1 h2 => ?offered, fun h => ?other, fun h1 h2 => congrArg done (if_pos ?_), fun h => congrArg done (if_neg ?_), fun h1 h2 => ?doze,
    fun h sd => congrArg done (if_neg h), fun dev h1 h2 h3 h4 => ?wakeH, fun dev h1 h2 => ?wakeP⟩
  case se0 =>
    intro u
    have hx : ∀ pull, exec (.pairResetSe0End ⟨p, pull⟩) s = done (pull.elim u (shown u)) := by
      intro pull
      change execPairResetSe0End ⟨p, pull⟩ s = _
      unfold execPairResetSe0End
      dsimp only
      rw [if_pos h, if_pos (.inl h)]
      cases pull <;> rfl
    exact ⟨hx none, fun f => hx (some f)⟩
  · refine (if_pos (.inr ⟨h1, h2⟩)).trans ?_
    dsimp only
    rw [if_neg (by simp [h1])]
    rfl
  · rintro (h | ⟨h, ha⟩)
    · exact h1 h
    · exact h2.elim (fun h' => h' h) (fun h' => h' ha)
  case first =>
    exact ⟨congrArg done (if_pos ⟨h1, h2⟩), congrArg done (if_neg fun h => h.2 h2),
      fun rx => congrArg done (if_pos (by simp [show (s.link (2 * p.val + 1)).attempts = 0 from h2]))⟩
  case offered =>
    have hx : ∀ rx, exec (.pairCapabilityReply p rx) s = done ((capOf rx).elim (s.pairAttempt p) fun w =>
        if (s.agree p .p w).2 then (s.agree p .p w).1.linkActive p .p else (s.agree p .p w).1.trainFail p .p) := by
      intro rx
      refine congrArg done ((if_neg ?_).trans ?_)
      · simpa [h1] using h2
      · cases capOf rx <;> rfl
    refine ⟨congrArg done (if_neg fun h => h2 h.2), fun rx w hw => (hx rx).trans (by rw [hw]; rfl), fun h3 => ⟨?_, fun rx hr => ?_⟩,
      fun h3 => congrArg done ((if_pos ⟨h1, h2⟩).trans (if_neg (Nat.not_lt.mpr h3)))⟩
    · exact congrArg done ((if_pos ⟨h1, h2⟩).trans (if_pos h3))
    · rw [hx, hr]
      exact congrArg done (if_pos h3)
  case other =>
    exact ⟨congrArg done (if_neg fun h' => h h'.1), congrArg done (if_neg fun h' => h h'.1),
      fun rx => congrArg done (if_pos (by simp [h]))⟩
  · rw [h1, show (s.link (linkOf p .p)).resumeEnded = false from h2]
    rfl
  · rcases h with h | h
    · simp [h]
    · rw [show (s.link (linkOf p .p)).resumeEnded = true from h]
      simp
  case doze =>
    intro awake u
    exact congrArg done ((if_pos ⟨h1, h2⟩).trans (State.dozeLinks_pair s p))
  case wakeH =>
    have hne : ¬(routeLink dev ≠ linkOf p .h ∨ s.chipState = 4) := by
      rintro (h | h)
      · exact h h1
      · exact h2 h
    have hup : ¬(s.lowered || s.entryStep != 0) = true := by simp [h3, h4]
    refine ⟨fun h5 => ?_, fun h5 h6 => congrArg done ((if_neg hne).trans ((if_pos rfl).trans ((if_neg ?_).trans ((if_pos h6).trans
      (State.seeWake_of_up h3 ..))))),
      fun h5 h6 => congrArg done ((if_neg hne).trans ((if_pos rfl).trans ((if_neg ?_).trans (if_neg (ne_true_of_eq_false h6)))))⟩
    · intro u
      refine congrArg done ((if_neg hne).trans ((if_pos rfl).trans ((if_pos h5).trans ?_)))
      rw [if_neg hup]
      rfl
    all_goals exact ne_true_of_eq_false h5
  case wakeP =>
    have hne : ¬(routeLink dev ≠ linkOf p .p ∨ s.chipState = 4) := by
      rintro (h | h)
      · exact h h1
      · exact h2 h
    refine ⟨fun h3 h4 => congrArg done ((if_neg hne).trans ((if_neg nofun).trans ((if_neg (by simp [h3])).trans ((if_pos h3).trans
      (State.seeWake_of_up h4 ..))))), fun h3 h4 h5 h6 h7 => ?_,
      fun h3 h4 => congrArg done ((if_neg hne).trans ((if_neg nofun).trans ((if_neg h3).trans (if_neg h4))))⟩
    refine congrArg done ((if_neg hne).trans ((if_neg nofun).trans ((if_pos h3).trans ((if_neg ?_).trans ((if_neg ?_).trans ?_)))))
    · rw [show (s.now - (s.link (linkOf p .p)).since) = (s.now - (s.link l).since) from rfl]
      simpa [h4] using h7
    · simp [h5, h6]
    · rw [State.resumePair_of_doze h3]
      rfl

end Sys2Proof

namespace Sys2Proof
open Machine

/-- Settles O49: the link's state, then the direction's bit. -/
theorem drowseEvents : Obligations.DrowseEvents := by
  intro s p l
  refine ⟨fun h => ?down, fun h => ?up⟩
  case down =>
    have hl : s.linkUp (2 * p.val) = false := h
    refine ⟨congrArg done (if_pos ?_), congrArg done (if_neg ?_), congrArg done (if_neg ?_), congrArg done (if_neg ?_),
      congrArg done (if_neg ?_), fun tag => congrArg done (if_neg ?_)⟩ <;> simp [hl]
  case up =>
    have hl : s.linkUp (2 * p.val) = true := h
    intro rx ended
    refine ⟨fun h1 h2 => congrArg done ((if_neg ?_).trans (if_neg ?_)), fun h1 => congrArg done ((if_neg ?_).trans (if_pos ?_)),
      fun h1 h2 h3 h4 h5 h6 h7 => congrArg done (if_pos ?_), fun h1 => congrArg done (if_pos ?_), congrArg done (if_pos hl),
      fun h1 h2 => congrArg done (if_pos ?_), fun tag x h1 h2 h3 => congrArg done ((if_pos ?_).trans ?_),
      fun h1 tag => congrArg done (if_neg ?_)⟩
    · have h2' : (s.link (2 * p.val)).dirDrowse = true := h2
      simp [hl, h2']
    · simpa using h1
    · simp [hl, h1]
    · exact decide_eq_true h1
    · have h3' : (s.link (2 * p.val)).dirDrowse = true := h3
      simp [hl, h1, h2, h3', h4, h5, h6, h7]
    · simp [hl, h1]
    · simp [hl, h1, h2]
    · have h2' : (s.link (2 * p.val)).wakeReq.isSome = true := h2
      rw [hl, h1, h2']
      rfl
    · rw [show ((s.outstanding (2 * p.val)).find? fun x => x.tag == tag.val && x.unsent) = some x from h3]
    · rcases h1 with h1 | h1
      · simp [h1]
      · rw [show (s.link (2 * p.val)).wakeReq = none from h1]
        simp

end Sys2Proof

namespace Sys2Proof.Machine

/-! ### Lane health, margin scans and test modes -/

theorem State.link_modLink_other (s : State) {l k : Nat} (h : l ≠ k) (f : Link → Link) : (s.modLink k f).link l = s.link l := by
  simp [State.link, State.modLink, Tab.getD_set_other, h]

theorem State.idleSide_of_not_idle {s : State} {lane : Nat} {pair : Bool} (h : (s.link (testLink lane pair)).testIdle = false) :
    s.idleSide lane pair = s :=
  if_pos (by simp [h])

theorem State.scanTurn_of_lt {s : State} {lane : Nat} (h : (s.link (laneLink lane)).scanDir < 3) (clean : Nat) :
    s.scanTurn lane clean = (s.setF (scanFld (s.link (laneLink lane)).scanDir) lane clean).modLink (laneLink lane) fun k =>
      { k with scanDir := (s.link (laneLink lane)).scanDir + 1, scanStep := 0 } :=
  if_pos h

/-- The answer to a write of the margin scan's start bit. -/
theorem State.marginWrite_start (s : State) (lane : Nat) (v hw : Word) :
    let m := s.mergeReg 0 (laneOff lane 0x80 0x10) .prtMarginCtrl lane (v ||| 1) hw
    let u := m.2.setReg .prtMarginCtrl lane m.1
    s.marginWrite lane (v ||| 1) hw = if s.bit Fld.prtMarginStatBusy lane then u else u.scanStart lane := by
  intro m u
  have hb : (v ||| 1).getLsbD 0 = true := by simp
  have hx : s.marginWrite lane (v ||| 1) hw =
      if (v ||| 1).getLsbD 0 && !s.bit Fld.prtMarginStatBusy lane then u.scanStart lane else u := rfl
  rw [hx, hb]
  cases s.bit Fld.prtMarginStatBusy lane <;> rfl

/-- The report of the far end that passes its check. -/
theorem farReport_good (a b c d : Byte) :
    let r : List Byte := [0x80, a, b, c, d, crc8 [0x80, a, b, c, d]]
    (true && r.length == 6 && r.getD 0 0 == 0x80 && crc8 (r.take 5) == r.getD 5 0) = true := by
  intro r
  exact beq_self_eq_true (crc8 [0x80, a, b, c, d])

end Sys2Proof.Machine

namespace Sys2Proof
open Machine

/-- Settles O50: the conditions of a scan, of a test mode and of the checker. -/
theorem laneTests : Obligations.LaneTests := by
  intro s lane k
  refine ⟨fun p errs el => ?health, ⟨rfl, rfl⟩, fun v hg => ?start,
    fun hb c rx => ⟨congrArg done (if_pos ?_), congrArg done (if_neg ?_),
    congrArg done (if_neg ?_)⟩, fun hb hf => ?dwell, fun hb hf => ?far, fun v tr hg => ?test, fun h1 h2 => congrArg done ?_,
    fun h a b => ⟨congrArg done (if_neg ?_), congrArg done (if_neg ?_)⟩, fun h => ⟨fun h1 => congrArg done (if_pos ?_),
      fun bits errs h1 => congrArg done (if_pos ?_)⟩⟩
  case health =>
    intro u
    refine ⟨fun h => congrArg done (if_neg ?_), fun h1 h2 => congrArg done (if_pos (by simp [h1, h2]))⟩
    rcases h with h | h
    · simp [h]
    · simp [Nat.not_lt.mpr h]
  case start =>
    intro m u
    exact congrArg done ((State.gated_of_serve hg _).trans (State.marginWrite_start s lane v 0))
  case dwell =>
    have hgo : ¬(!s.bit Fld.prtMarginStatBusy lane || k.scanFar) = true := by simp [hb, hf]
    refine ⟨fun h => congrArg done ((if_neg hgo).trans ((if_neg nofun).trans (if_pos (Nat.succ_lt_succ h)))),
      fun h => congrArg done ((if_neg hgo).trans ((if_pos rfl).trans (State.scanTurn_of_lt h _))),
      fun h1 h => congrArg done ((if_neg hgo).trans ((if_neg nofun).trans ((if_neg ?_).trans (State.scanTurn_of_lt h _)))),
      fun h => congrArg done ((if_neg hgo).trans ((if_pos rfl).trans (if_neg (Nat.not_lt.mpr h))))⟩
    exact Nat.not_lt.mpr (Nat.succ_le_succ h1)
  case far =>
    refine ⟨congrArg done (if_pos (by rw [hb, show (s.link (laneLink lane)).scanFar = true from hf]; rfl)),
      fun a b c d => congrArg done (if_pos ?_)⟩
    rw [hb, show (s.link (laneLink lane)).scanFar = true from hf, Bool.and_true, Bool.and_true]
    exact farReport_good a b c d
  case test =>
    intro inj chk
    refine ⟨congrArg done (State.gated_of_serve hg _), congrArg done (State.gated_of_serve hg _),
      congrArg done (State.gated_of_serve hg _), ?_⟩
    intro w h1 h2 h3
    refine congrArg done ((State.gated_of_serve hg _).trans (if_pos ?_))
    change (getBits w 0 3 != 0 && getBits v 0 3 == getBits w 0 3 && (s.sideEnabled lane (getBits w 3 1 == 1) || _)) = true
    rw [h3, h2]
    simpa using h1
  · simp [hb]
  · simp [hb]
  · simp [hb]
  · have h1' : (s.link (testLink lane false)).testIdle = true := h1
    have hx : s.idleSide lane false = (s.modLink (laneLink lane) fun k => { k with testIdle := false }).setF
        Fld.prtLaneStatusHState lane 0 := (if_neg (by simp [h1'])).trans (if_neg nofun)
    rw [hx]
    split
    · rename_i hl
      refine State.idleSide_of_not_idle ?_
      have hne : testLink lane true ≠ laneLink lane := by
        rw [show laneLink lane.val = 2 * lane.val from if_pos hl]
        exact fun h => absurd h (Nat.succ_ne_self _)
      have hlink := State.link_modLink_other s hne fun k => { k with testIdle := false }
      exact (congrArg Link.testIdle hlink).trans h2
    · rfl
  · simp [h]
  · simp [h]
  · simp [h, h1]
  · simp [h, h1]

end Sys2Proof
end

section
/-!
PROOFS. The resets of functions and the Crier.
-/
namespace Sys2Proof.Machine

/-! ### The reset of a function -/

theorem State.domainOff_sec (s : State) (d : Nat) : (s.domainOff d).sec = s.sec := by
  unfold State.domainOff
  split <;> rfl

theorem State.domainOff_cfg (s : State) (d : Nat) : (s.domainOff d).cfg = s.cfg := by
  unfold State.domainOff
  split <;> rfl

/-- The votes act on the domains alone. -/
theorem State.votesChanged_proj {β : Type} (f : State → β) (hoff : ∀ (u : State) d, f (u.domainOff d) = f u)
    (hpwr : ∀ (u : State) p, f { u with pwr := p } = f u) (s before : State) : f (s.votesChanged before) = f s := by
  unfold State.votesChanged
  split
  · rfl
  · refine foldl_proj f _ (fun u d => ?_) _ _
    split
    · split
      · rfl
      · exact hoff u d
    · split
      · exact hpwr u _
      · rfl

theorem State.votesChanged_sec (s before : State) : (s.votesChanged before).sec = s.sec :=
  State.votesChanged_proj State.sec State.domainOff_sec (fun _ _ => rfl) s before

theorem State.votesChanged_cfg (s before : State) : (s.votesChanged before).cfg = s.cfg :=
  State.votesChanged_proj State.cfg State.domainOff_cfg (fun _ _ => rfl) s before

theorem State.settleShare_sec (s : State) (t : Nat) : (s.settleShare t).sec = s.sec := by
  unfold State.settleShare
  cases Tab.find s.cfg.shares t with
  | none => rfl
  | some n =>
    dsimp only
    (repeat' split) <;> rfl

theorem State.settleShares_sec (s : State) : s.settleShares.sec = s.sec := by
  unfold State.settleShares
  dsimp only
  rw [foldl_proj State.sec _ State.settleShare_sec, foldl_proj State.sec _ State.settleShare_sec]

/-- The reset of a function that stays ends without its key. -/
theorem State.flrEnd_keys {s : State} {t : Nat} (h : s.cfg.removing.contains t = false) :
    (s.flrEnd t).sec.keys = Tab.del s.sec.keys t := by
  unfold State.flrEnd
  extract_lets s1 src keys s2 s3
  have hsec : s1.sec = s.sec := foldl_proj State.sec _ (fun u q => u.modQp_sec q _) _ _
  have hcfg : s1.cfg = s.cfg := foldl_proj State.cfg _ (fun u q => u.modQp_cfg q _) _ _
  have hcfg3 : s3.cfg = s.cfg := (State.votesChanged_cfg ..).trans hcfg
  have hkeys : s3.sec.keys = Tab.del s1.sec.keys t := congrArg SecSt.keys (State.votesChanged_sec ..)
  rw [if_neg (by rw [hcfg3]; exact ne_true_of_eq_false h), hkeys, hsec]

end Sys2Proof.Machine

namespace Sys2Proof
open Machine

/-- Settles O53: the function that exists, and the state of its reset. -/
theorem functionEvents : Obligations.FunctionEvents := by
  intro s t
  refine ⟨fun h => ⟨congrArg done (if_neg (ne_true_of_eq_false h)), fun d => congrArg done (if_pos (by simp [h]))⟩,
    fun h ht => ⟨fun hb => congrArg done ((if_pos h).trans ((if_neg ht).trans (if_pos hb))),
      fun hb hs => congrArg done ((if_pos h).trans ((if_neg ht).trans ((if_neg (ne_true_of_eq_false hb)).trans
        (if_neg (Nat.not_lt.mpr hs)))))⟩, fun h => congrArg done (if_pos h), fun h1 h2 h3 h4 => ?ends,
    fun h => congrArg done (if_neg ?_), fun n => ⟨rfl, fun h => congrArg done ((if_neg nofun).trans (if_pos h)),
      fun h => congrArg done ((if_neg nofun).trans (if_neg (ne_true_of_eq_false h)))⟩, fun h => ?dstate⟩
  case ends =>
    have hx : exec (.flrTeardownDone t) s = done (s.flrEnd t).settleShares := congrArg done (if_pos (by simp [h1, h2, h3, h4]))
    refine ⟨hx, fun hr => ⟨_, hx, ?_⟩⟩
    rw [settle_sec, State.settleShares_sec, State.flrEnd_keys hr]
    exact Tab.find_del_same ..
  · rcases h with h | h | h <;> simp [h]
  case dstate =>
    have hne : ¬(!s.exists_ t) = true := by simp [h]
    intro u
    exact ⟨congrArg done ((if_neg hne).trans (if_pos rfl)), congrArg done ((if_neg hne).trans (if_neg nofun))⟩

end Sys2Proof

namespace Sys2Proof.Machine

/-! ### The Crier's shims -/

/-- A shim that was not sent sends its doorbell as it becomes so. -/
theorem State.shimGoes_sent {h : Shim} (hs : h.state ≠ .sent) (s : State) (i : Nat) :
    s.shimGoes i h .sent = (s.modShim i fun _ => { h with state := .sent }).emit (.shimDoorbell i) :=
  if_pos ⟨hs, rfl⟩

/-- A shim that was sent withdraws as it becomes idle. -/
theorem State.shimGoes_withdrawn {h : Shim} (hs : h.state = .sent) (s : State) (i : Nat) :
    s.shimGoes i h .idle = (s.modShim i fun _ => { h with state := .idle }).emit (.shimWithdrawal i) :=
  (if_neg nofun).trans (if_pos ⟨hs, rfl⟩)

/-- A shim that was not sent becomes idle or claimed, and one that was sent stays so, without a message. -/
theorem State.shimGoes_quiet {h : Shim} {st : ShimState} (hs : ¬(h.state ≠ .sent ∧ st = .sent))
    (hi : ¬(h.state = .sent ∧ st = .idle))
    (s : State) (i : Nat) : s.shimGoes i h st = s.modShim i fun _ => { h with state := st } :=
  (if_neg hs).trans (if_neg hi)

/-- After the end of interrupt a claimed shim is sent again while its level is active. -/
theorem State.shimGoes_resent {s : State} {i : Nat} (hc : (s.shim i).state = .claimed) :
    let v := s.modShim i fun h => { h with state := if h.isActive then .sent else .idle }
    s.shimGoes i (s.shim i) (if (s.shim i).isActive then .sent else .idle) =
      if (s.shim i).isActive then v.emit (.shimDoorbell i) else v := by
  have hv : ∀ st, (if (s.shim i).isActive then ShimState.sent else .idle) = st →
      (s.modShim i fun h => { h with state := if h.isActive then .sent else .idle }) =
        s.modShim i fun _ => { s.shim i with state := st } := by
    rintro st rfl
    rfl
  have hs : (s.shim i).state ≠ .sent := by simp [hc]
  cases ha : (s.shim i).isActive with
  | true =>
    rw [hv .sent (by rw [ha]; rfl)]
    exact State.shimGoes_sent hs s i
  | false =>
    rw [hv .idle (by rw [ha]; rfl)]
    exact State.shimGoes_quiet (st := .idle) (fun h => nomatch h.2) (fun h => nomatch hc.symm.trans h.1) s i

end Sys2Proof.Machine

namespace Sys2Proof
open Machine

/-- Settles O54: what stands on the engine's stack, and Table 13-3's states of a shim. -/
theorem crierEvents : Obligations.CrierEvents := by
  intro s e src
  refine ⟨rfl, fun h1 h2 => congrArg done (if_pos (by simp [h1, h2])), fun h => congrArg done (if_neg ?_),
    fun h => congrArg done ?_, fun i x h => ?claim, fun i pr rest h => ?eoi, fun h => congrArg done ?_, ?wakes,
    fun level h => congrArg done (if_pos (by simp [h])), fun level h1 h2 => ?level⟩
  · rcases h with h | h <;> simp [h]
  · rw [h]
  case claim =>
    intro u
    have hx : exec (.engineClaimRead e) s = done ((if isLevel i && (u.shim i).state = .sent then
        u.modShim i fun h => { h with state := .claimed } else u).emit (.claim e (claimWord i x.prio))) := by
      refine congrArg done ?_
      rw [h]
    exact ⟨fun hl => hx.trans (by rw [if_neg (by simp [hl])]; rfl), fun hl hs => hx.trans (by rw [if_pos (by simp [hl, hs])]; rfl)⟩
  case eoi =>
    intro u
    have hx : exec (.endOfInterrupt e src) s = done (if i = src.val then
        (if isLevel i && (u.shim i).state = .claimed then
          u.shimGoes i (u.shim i) (if (u.shim i).isActive then .sent else .idle) else u).signalEng e
        else s.modEng e Eng.spur) := by
      refine congrArg done ?_
      rw [h]
    refine ⟨fun hi => hx.trans (congrArg done (if_neg hi)), fun hi hl => hx.trans (congrArg done ((if_pos hi).trans ?_)),
      fun hi hl hc => hx.trans (congrArg done ((if_pos hi).trans ?_))⟩
    · rw [if_neg (by simp [hl])]
    · rw [if_pos (by simp [hl, hc])]
      exact congrArg (State.signalEng · e) (State.shimGoes_resent hc)
  · rw [h]
  case wakes =>
    intro wakes
    rfl
  case level =>
    intro h v X
    have hx : X = done (s.shimGoes src h (if h.state = .claimed then .claimed else if h.isActive then .sent else .idle)) :=
      congrArg done ((if_neg (by simp [h1])).trans (if_neg h2))
    have hnext : ∀ st, (if h.state = .claimed then .claimed else if h.isActive then .sent else .idle) = st →
        X = done (s.shimGoes src h st) := fun st hst => hst ▸ hx
    have quiet : ∀ st, ¬(h.state ≠ .sent ∧ st = .sent) → ¬(h.state = .sent ∧ st = .idle) → s.shimGoes src h st = v st :=
      fun st a b => State.shimGoes_quiet a b s src
    refine ⟨fun hs ha => (hnext .sent ?_).trans (congrArg done (State.shimGoes_sent ?_ s src)),
      fun hs ha => (hnext .idle ?_).trans (congrArg done (quiet _ ?_ ?_)),
      fun hs ha => (hnext .sent ?_).trans (congrArg done (quiet _ ?_ ?_)),
      fun hs ha => (hnext .idle ?_).trans (congrArg done (State.shimGoes_withdrawn hs s src)),
      fun hs => (hnext .claimed ?_).trans (congrArg done (quiet _ ?_ ?_))⟩ <;> simp [*]

end Sys2Proof
end

section
/-!
PROOFS. Power, wakes, resets and flash.
-/
namespace Sys2Proof.Machine

/-! ### Power: what entry leaves alone -/

theorem State.endStrike_pcie (s : State) (q : Nat) (i : Half) (st : XStatus) : (s.endStrike q i st).pcie = s.pcie := by
  unfold State.endStrike
  (repeat' split) <;> rfl

theorem State.withdraw_pcie (s : State) (q : Nat) (i : Half) (st : XStatus) : (s.withdraw q i st).pcie = s.pcie := by
  unfold State.withdraw
  (repeat' split) <;> first | rfl | exact State.endStrike_pcie ..

theorem State.withdrawAll_pcie (s : State) (p : Entry → Bool) (st : XStatus) : (s.withdrawAll p st).pcie = s.pcie := by
  refine foldl_proj State.pcie _ (fun s v => ?_) _ _
  exact foldl_proj State.pcie _ (fun s _ => s.withdraw_pcie _ _ st) _ _

theorem State.twinDrowse_pcie (s : State) (on : Bool) : (s.twinDrowse on).pcie = s.pcie := by
  refine foldl_proj State.pcie _ (fun u k => ?_) _ _
  split <;> rfl

theorem State.domainOff_pcie (s : State) (d : Nat) : (s.domainOff d).pcie = s.pcie := by
  unfold State.domainOff
  split <;> rfl

theorem State.dropDomains_pcie (s : State) (pick : Nat → Bool) : (s.dropDomains pick).pcie = s.pcie :=
  foldl_proj State.pcie _ (fun u d => u.domainOff_pcie d) _ _

/-- Sleep takes the PCIe link to L1.2 where the host has enabled it, and to L1 else. -/
theorem State.enterSleep_link (s : State) (prev : Nat) : (s.enterSleep prev).pcie.link = if s.pcie.l12 then .l12 else .l1 := by
  unfold State.enterSleep
  extract_lets s1 s2 s3
  have h1 : s1.pcie = s.pcie := State.twinDrowse_pcie s true
  have h2 : s2.pcie = s1.pcie := by
    unfold s2
    split
    · exact State.withdrawAll_pcie ..
    · rfl
  have h3 : s3.pcie = s.pcie := (State.dropDomains_pcie s2 _).trans (h2.trans h1)
  simp only [h3]

/-- At the end of Brace nothing is burnt where no bit waits for it, and no unlock waits. -/
theorem State.burntNothing {s : State} (hb : s.sec.burnWaits = []) (hu : s.sec.unlockWaits = false) :
    let burnt := s.sec.burnWaits.foldl (fun s b => s.burnHeld b.1 b.2) s
    let u : State := { burnt with sec := { burnt.sec with burnWaits := [] } }
    (if u.sec.unlockWaits then u.openDebug else u) = s := by
  intro burnt u
  have hburnt : burnt = s := by
    unfold burnt
    rw [hb]
    rfl
  have hsame : ({ s with sec := { s.sec with burnWaits := [] } } : State) = s := by
    rw [← hb]
  have husame : u = s := by
    unfold u
    rw [hburnt]
    exact hsame
  rw [husame]
  exact if_neg (ne_true_of_eq_false hu)

end Sys2Proof.Machine

namespace Sys2Proof
open Machine

/-- Settles O55: the steps of entry and of the return, and Brace. -/
theorem powerEvents : Obligations.PowerEvents := by
  intro s
  refine ⟨fun h1 h2 => congrArg done (if_pos (by simp [h1, h2])), fun h => congrArg done (if_neg ?_),
    fun h1 h2 h3 => congrArg done (if_pos (by simp [h1, h2, h3])), fun h => congrArg done (if_neg ?_),
    fun sense h => congrArg done (if_pos h), fun temp l12 h => ?steps, fun gap => ?comesBack,
    fun temp h1 h2 h3 => congrArg done (if_neg ?_),
    fun temp h => congrArg done (if_pos ?_), fun d h => ?good,
    fun h1 h2 => congrArg done ((if_neg (Nat.not_le.mpr h1)).trans (if_pos h2)), fun h1 h2 => ?warn, fun h => congrArg done (if_pos h),
    fun h mv => congrArg done (if_pos (by simp [h])), fun mv h1 h2 h3 => ?braceEnd⟩
  · rcases h with h | h <;> simp [h]
  · rcases h with h | h | h <;> simp [h]
  case steps =>
    intro v X
    have hx : X = done (v.entryDone temp) := congrArg done (if_neg (ne_true_of_eq_false h))
    have hs : ∀ n, s.entryStep = n → v.entryStep = n := fun n hn => hn
    refine ⟨fun h1 => hx.trans (congrArg done ?_), fun h1 h2 => hx.trans (congrArg done ?_),
      fun h1 h2 h3 => hx.trans (congrArg done ?_), fun h1 h2 h3 h4 => hx.trans (congrArg done ?_),
      fun h1 => ⟨hx.trans (congrArg done ?_), State.enterSleep_link v 0⟩, fun h1 h2 h3 h4 h5 => hx.trans (congrArg done ?_),
      fun h1 h2 h3 h4 h5 h6 => hx.trans (congrArg done ?_)⟩ <;> (unfold State.entryDone; rw [hs _ h1])
    · rfl
    · exact if_pos (by simp [h2])
    · refine (if_neg (by simp [h2])).trans (if_pos ?_)
      rcases h3 with h3 | h3
      · simp [show v.pwr.idleAuto = true from h3]
      · simp [show v.target = 1 from h3]
    · have ht : 2 ≤ v.target := h4
      refine (if_neg (by simp [h2])).trans ((if_neg ?_).trans (if_neg (by omega)))
      rw [show v.pwr.idleAuto = false from h3]
      simp
      omega
    · rfl
    · exact (if_neg (by simp [show v.pcie.perst = true from h2, h3, h4])).trans (if_pos h5)
    · exact (if_neg (by simp [show v.pcie.perst = true from h2, h3, h4])).trans
        ((if_neg h5).trans (if_neg (ne_true_of_eq_false h6)))
  case comesBack =>
    intro go
    refine ⟨fun h => congrArg done ?_, fun h => congrArg done ?_, fun h => congrArg done ?_, fun h => congrArg done ?_,
      fun h h' => congrArg done ?_, fun h => congrArg done ?_, fun h => congrArg done ?_⟩ <;>
      (unfold State.returnDone; simp only [go, h])
    exact if_neg (ne_true_of_eq_false h')
  · simp [h1, h2, h3]
  · rcases h with h | h <;> simp [h]
  case good =>
    intro u
    exact congrArg done (if_neg (by simp [h]))
  case warn =>
    intro b
    exact congrArg done ((if_neg (Nat.not_le.mpr h1)).trans (if_neg (ne_true_of_eq_false h2)))
  case braceEnd =>
    intro u
    have hsec : (u.raisePower.eventAll 3 3 (2 * (u.now.toNat - u.pwr.braceStart.toNat)) mv.toNat 0).sec = s.sec := by
      simp [u]
    exact congrArg done ((if_neg (by simp [h1])).trans (State.burntNothing ((congrArg SecSt.burnWaits hsec).trans h2)
      ((congrArg SecSt.unlockWaits hsec).trans h3)))

end Sys2Proof

namespace Sys2Proof.Machine

/-! ### Fields of a register word -/

theorem getLsbD_bitsMask (lo len i : Nat) :
    (bitsMask lo len).getLsbD i = (decide (i < 32) && (decide (lo ≤ i) && decide (i - lo < len))) := by
  rw [bitsMask, BitVec.getLsbD_ofNat, Nat.testBit_mul_two_pow, Nat.testBit_two_pow_sub_one]

theorem getLsbD_putBits (w : Word) (lo len v i : Nat) :
    (putBits w lo len v).getLsbD i =
      (decide (i < 32) && if lo ≤ i ∧ i - lo < len then v.testBit (i - lo) else w.getLsbD i) := by
  rw [putBits, BitVec.getLsbD_or, BitVec.getLsbD_and, BitVec.getLsbD_and, BitVec.getLsbD_not, getLsbD_bitsMask,
    BitVec.getLsbD_ofNat, Nat.testBit_mul_two_pow, Nat.testBit_mod_two_pow]
  by_cases hi : i < 32 <;> by_cases hlo : lo ≤ i <;> by_cases hl : i - lo < len <;> simp [hi, hlo, hl]

theorem testBit_getBits (w : Word) (lo len i : Nat) : (getBits w lo len).testBit i = (decide (i < len) && w.getLsbD (i + lo)) := by
  rw [getBits, Nat.testBit_mod_two_pow, Nat.testBit_div_two_pow, BitVec.getLsbD]

theorem getBits_putBits_same (w : Word) {lo len : Nat} (h : lo + len ≤ 32) (v : Nat) :
    getBits (putBits w lo len v) lo len = v % 2 ^ len := by
  refine Nat.eq_of_testBit_eq fun i => ?_
  rw [testBit_getBits, getLsbD_putBits, Nat.testBit_mod_two_pow]
  by_cases hi : i < len
  · have h32 : i + lo < 32 := by omega
    simp [hi, h32]
  · simp [hi]

theorem getBits_putBits_other (w : Word) {lo len lo' len' : Nat} (h : lo' + len' ≤ lo ∨ lo + len ≤ lo') (v : Nat) :
    getBits (putBits w lo len v) lo' len' = getBits w lo' len' := by
  refine Nat.eq_of_testBit_eq fun i => ?_
  rw [testBit_getBits, testBit_getBits, getLsbD_putBits]
  by_cases hi : i < len'
  · have hn : ¬(lo ≤ i + lo' ∧ i + lo' - lo < len) := by omega
    rw [if_neg hn]
    by_cases h32 : i + lo' < 32
    · simp [h32]
    · simp [h32, BitVec.getLsbD_of_ge w _ (Nat.not_lt.mp h32)]
  · simp [hi]

/-- A field reads what was written to it, and what stood where another field of its register was written. -/
theorem State.getF_setF_same (s : State) (f : Fld) (i : Nat) {v : Nat} (h : f.lo + f.len ≤ 32) :
    (s.setF f i v).getF f i = v % 2 ^ f.len := by
  unfold State.getF State.setF
  rw [State.reg_setReg_same, getBits_putBits_same _ h]

theorem State.getF_setF_field (s : State) {f g : Fld} (i v : Nat) (hr : g.reg = f.reg)
    (h : g.lo + g.len ≤ f.lo ∨ f.lo + f.len ≤ g.lo) : (s.setF f i v).getF g i = s.getF g i := by
  unfold State.getF State.setF
  rw [hr, State.reg_setReg_same, getBits_putBits_other _ h]

theorem State.getF_setF_reg (s : State) {f g : Fld} {i j : Nat} (v : Nat) (hi : i < 4096) (hj : j < 4096) (hr : g.reg ≠ f.reg) :
    (s.setF f i v).getF g j = s.getF g j := by
  unfold State.getF State.setF
  rw [State.reg_setReg_other s _ hi hj fun h => hr (congrArg Prod.fst h)]

end Sys2Proof.Machine

namespace Sys2Proof.Machine

/-! ### What wakes the chip -/

theorem State.twinDrowse_lastWake (s : State) (on : Bool) :
    (s.twinDrowse on).getF Fld.pwrStateLastWake 0 = s.getF Fld.pwrStateLastWake 0 := by
  have hstep : ∀ (u : State) (k v : Nat), k < 4 →
      (u.setF Fld.prtLaneStatusHTxDrowse (16 + k) v).getF Fld.pwrStateLastWake 0 = u.getF Fld.pwrStateLastWake 0 :=
    fun u k v hk => State.getF_setF_reg u v (by omega) (by decide) nofun
  refine List.foldlRecOn (motive := fun u : State => u.getF Fld.pwrStateLastWake 0 = s.getF Fld.pwrStateLastWake 0) _ _ rfl ?_
  intro u hu k hk
  split
  · exact (hstep u k _ (List.mem_range.mp hk)).trans hu
  · exact hu

theorem State.getF_of_regs {s t : State} (h : t.regs = s.regs) (f : Fld) (i : Nat) : t.getF f i = s.getF f i := by
  unfold State.getF
  rw [State.reg_congr h]

theorem State.wakePin_lastWake (s : State) (low : Bool) :
    (s.wakePin low).getF Fld.pwrStateLastWake 0 = s.getF Fld.pwrStateLastWake 0 := by
  unfold State.wakePin
  split <;> rfl

theorem State.returnFrom_lastWake (s : State) (frm : Nat) :
    (s.returnFrom frm).getF Fld.pwrStateLastWake 0 = s.getF Fld.pwrStateLastWake 0 :=
  (State.getF_of_regs (s := s.setF Fld.pwrStateEntryStep 0 0) rfl _ _).trans
    (State.getF_setF_field s 0 0 rfl (.inr (by decide)))

/-- A wake from a low state keeps its code. -/
theorem State.wake_lastWake {s : State} (hr : s.pwr.returnStep = 0) (hc : s.chipState = 2 ∨ s.chipState = 3) (code : Nat) :
    (s.wake code).getF Fld.pwrStateLastWake 0 = code % 8 := by
  have h0 : s.chipState ≠ 0 := by omega
  unfold State.wake
  rw [if_neg (by simp [hr]), if_neg (by simp [h0]), if_neg h0]
  extract_lets frm s1 s2 pwr s3 s4
  have h2 : s2.getF Fld.pwrStateLastWake 0 = code % 8 :=
    (State.returnFrom_lastWake _ frm).trans (State.getF_setF_same s1 Fld.pwrStateLastWake 0 (by decide))
  have h3 : s3.getF Fld.pwrStateLastWake 0 = code % 8 := (State.getF_of_regs (s := s2) (t := s3) rfl _ _).trans h2
  have h4 : s4.getF Fld.pwrStateLastWake 0 = code % 8 := by
    unfold s4
    rw [State.twinDrowse_lastWake, if_neg h0]
    exact h3
  split
  · exact (State.wakePin_lastWake s4 true).trans h4
  · exact h4

end Sys2Proof.Machine

namespace Sys2Proof
open Machine

/-- Settles O56: the state of the chip and what woke it. -/
theorem wakeEvents : Obligations.WakeEvents := by
  intro s
  refine ⟨fun strap => ⟨fun h => congrArg done (if_pos h), fun h h' => congrArg done ((if_neg h).trans (if_pos h')),
      fun h h' => congrArg done ((if_neg ?_).trans (if_neg ?_))⟩, fun p sd => ?link, ?pcie, fun rtc => ?alarm,
    fun temp => ⟨fun h => congrArg done (if_congr (by simp [h]) rfl rfl), fun h => congrArg done (if_neg fun h' => h h'.1)⟩,
    fun code h1 h2 => State.wake_lastWake h1 h2 code⟩
  · omega
  · rintro (h'' | h'')
    · omega
    · exact absurd (h''.symm.trans h') nofun
  case link =>
    intro parked
    cases sd with
    | h => 
      refine ⟨fun h1 h2 h3 => congrArg done (if_pos ?_), fun h1 => congrArg done (if_neg ?_)⟩
      · have hl : (s.link (2 * p.val)).parked = true := h1
        simp [hl, h2]
        omega
      · have hl : (s.link (2 * p.val)).parked = false := by simpa [parked] using h1
        simp [hl]
    | p =>
      refine ⟨fun h1 h2 h3 => congrArg done (if_pos ?_), fun h1 => congrArg done (if_neg ?_)⟩
      · have hl : s.pState p = 4 := h1
        simp [hl, h2]
        omega
      · have hl : s.pState p ≠ 4 := h1
        simp [hl]
  case pcie =>
    intro u
    rfl
  case alarm =>
    refine ⟨fun h1 h2 h3 => congrArg done (if_neg ?_), fun h => congrArg done (if_pos ?_)⟩
    · simp [Nat.not_lt.mpr h2, h3]
      exact h1
    · rcases h with h | h | h <;> simp [h]

end Sys2Proof

namespace Sys2Proof.Machine

/-! ### PERST# in DeepSleep's last step -/

/-- A chip on its way down, at step 5 of entry, with the PCIe link still up. -/
def atStepFive : State := State.reset.setF Fld.pwrStateEntryStep 0 5

/-- The PCIe link after a step. -/
def linkAfter (o : Host.Outcome State Fault Refusal) : Option HostLink :=
  match o with
  | .next u => some u.pcie.link
  | _ => none

end Sys2Proof.Machine

namespace Sys2Proof
open Machine

/-- Refutes O57: at step 5 of entry PERST# also takes the PCIe link off, where the statement leaves the link as it was. -/
theorem not_resetEvents : ¬ Obligations.ResetEvents := by
  intro h
  obtain ⟨hlow, -⟩ := h atStepFive
  obtain ⟨-, -, hperst, -⟩ := hlow (by decide +kernel)
  exact absurd (congrArg linkAfter hperst) (by decide +kernel)

end Sys2Proof

namespace Sys2Proof.Machine

/-! ### Flash -/

theorem exec_flashOperationDone_of_busy {s : State} {c : ChipCmd} (hb : s.cfg.busy = some c) (hf : c.flash = true)
    (hs : s.brace = false) (ok : Bool) : exec (.flashOperationDone ok) s = done (if ok then s.flashEnd c else s.flashFail c) := by
  refine congrArg done ?_
  rw [hb]
  exact if_neg (by simp [hf, hs])

/-- The chip lock given back. -/
def State.unlocked (s : State) : State := { s with cfg := { s.cfg with busy := none } }

/-- A flash operation that fails takes back what it had staged. -/
theorem State.flashFail_eq (s : State) (c : ChipCmd) {u : State} (hu : (if c.op = 0x0201 then
      State.cfgRegs { s.unlocked.putSlot s.unlocked.freeSlot [] with
        cfg := { (s.unlocked.putSlot s.unlocked.freeSlot []).cfg with valid := false } }
    else if c.op = 0x0207 then s.unlocked.putFw (1 - s.unlocked.cfg.fwBoot) [] else s.unlocked) = u) :
    s.flashFail c = u.endBusy c (.err u .flashError) := by
  subst hu
  rfl

end Sys2Proof.Machine

namespace Sys2Proof
open Machine

/-- Settles O58: the operation that ends, by its opcode, and the conditions of the deadlines and of the erase. -/
theorem flashEvents : Obligations.FlashEvents := by
  intro s
  refine ⟨fun c hb hf hs => ?ends, fun ok h => congrArg done ?_, fun h1 h2 h3 => ?due, fun h => congrArg done (if_pos ?_),
    fun h1 h2 h3 h4 h5 h6 => ?deadline, fun h => congrArg done (if_pos ?_), fun h1 h2 => congrArg done (if_pos (by simp [h1, h2])),
    fun h => congrArg done (if_neg ?_), fun slot => ⟨fun h1 h2 h3 => ?erase, fun h => congrArg done (if_pos ?_)⟩⟩
  case ends =>
    have hx := exec_flashOperationDone_of_busy hb hf hs
    refine ⟨hx true, ?_⟩
    intro free
    refine ⟨fun h1 h2 => (hx false).trans (congrArg done ?_), fun h1 => ?_, fun h1 => (hx true).trans (congrArg done ?_)⟩
    · exact State.flashFail_eq s c ((if_neg h1).trans (if_neg h2))
    · intro u
      exact (hx false).trans (congrArg done (State.flashFail_eq s c ((if_neg (by simp [h1])).trans (if_pos h1))))
    · rw [if_pos rfl]
      unfold State.flashEnd
      rw [h1]
      rfl
  · rcases h with h | h
    · rw [h]
    · cases s.cfg.busy with
      | none => rfl
      | some c => exact if_pos (by simp [h])
  case due =>
    intro u v
    refine congrArg done ((if_neg ?_).trans ?_)
    · simp [h1, h2, h3]
    · rw [h2]
      rfl
  · rcases h with h | ⟨h, h'⟩
    · simp [h]
    · simp [h, h']
  case deadline =>
    intro a b
    exact congrArg done (if_neg (by simp [h1, h2, h3, h4, h5, h6]))
  · rcases h with h | h | h | h
    · simp [h]
    · simp [h]
    · have : s.cfg.busy.isSome = true := Option.isSome_iff_ne_none.mpr h
      simp [this]
    · simp [h]
  · rcases h with h | h <;> simp [h]
  case erase =>
    intro u
    exact congrArg done (if_neg (by rw [h1, h2, h3]; exact Bool.false_ne_true))
  · rcases h with h | h | h
    · simp [h]
    · rw [h]
      simp
    · have : s.cfg.busy.isSome = true := Option.isSome_iff_ne_none.mpr h
      simp [this]

end Sys2Proof
end

section
/-!
PROOFS. The twin link and the security island.
-/
namespace Sys2Proof.Machine

/-! ### Frames of the twin link -/

/-- The chip that has taken a frame: what it acknowledges is acknowledged, and its sequence number and key are the frame's. -/
def State.tookFrame (s : State) (f : TwinRx) : State :=
  let u := s.acked f.ack
  { u with twn := { u.twn with rxSeq := f.seq, rxKey := keyFor u.twn.pendingKey f.seq false u.twn.rxKey } }

/-- What a frame does on a link that is up: the tag, the sequence number, then its type's effect. -/
def State.frameDoes (s : State) (type : Nat) (f : TwinRx) (act : List Byte → State) : State :=
  (s.twinOpen type f).elim (s.addF Fld.twnCountTagFail 0 1) fun p =>
    if f.seq.toNat ≤ (s.acked f.ack).twn.rxSeq.toNat then s.acked f.ack else act p

theorem State.twinFrame_of_down {s : State} (h : s.twinUp = false) (type : Nat) (f : TwinRx) (act : State → List Byte → State) :
    s.twinFrame type f act = s :=
  if_pos (by simp [h])

/-- A frame that wakes no standby: any but a CURSOR, or one for a chip that is up. -/
theorem State.twinFrame_of_up {s : State} (h : s.twinUp = true) {type : Nat} {f : TwinRx}
    (hw : type ≠ 4 ∨ (s.tookFrame f).role ≠ 3 ∨ (s.tookFrame f).chipState = 0 ∧ (s.tookFrame f).entryStep = 0)
    (act : State → List Byte → State) :
    s.twinFrame type f act = s.frameDoes type f (act (s.tookFrame f)) := by
  unfold State.twinFrame State.frameDoes
  rw [if_neg (by simp [h])]
  cases s.twinOpen type f with
  | none => rfl
  | some p =>
    have hs : ¬((s.tookFrame f).role == 3 && ((s.tookFrame f).chipState != 0 || (s.tookFrame f).entryStep != 0) && type == 4 &&
        fieldAt p 43 1 == 0) = true := by
      rcases hw with hw | hw | ⟨h1, h2⟩
      · simp [hw]
      · simp [hw]
      · simp [h1, h2]
    have hx : (if (s.tookFrame f).role == 3 && ((s.tookFrame f).chipState != 0 || (s.tookFrame f).entryStep != 0) && type == 4 &&
        fieldAt p 43 1 == 0 then (s.tookFrame f).wake 0 else s.tookFrame f) = s.tookFrame f := if_neg hs
    exact if_congr Iff.rfl rfl (congrArg (act · p) hx)

theorem State.frameDoes_congr {s : State} {type : Nat} {f : TwinRx} {a b : List Byte → State} (h : ∀ p, a p = b p) :
    s.frameDoes type f a = s.frameDoes type f b := by
  rw [funext h]

end Sys2Proof.Machine

namespace Sys2Proof
open Machine

/-- Settles O59: what a frame does by its type and the role, and the conditions of the timers and the roles. -/
theorem twinEvents : Obligations.TwinEvents := by
  intro s f u took answer
  have hans : ∀ type act, answer type act = done (s.frameDoes type f act) := by
    intro type act
    refine congrArg done ?_
    unfold State.frameDoes
    cases s.twinOpen type f <;> rfl
  refine ⟨fun h off trim a => ?down, fun h off trim => ?up, fun h => ?single,
    fun h h1 h2 h3 h4 h5 => ?hello, fun h => congrArg done (if_pos h),
    fun h1 h2 h3 => ?settle, fun c h1 h2 h3 => congrArg done ?_, fun h => congrArg done ?_, fun h1 h2 => ?alive,
    fun h => congrArg done (if_neg (by simp [h])), fun h => congrArg done (if_pos h)⟩
  case down =>
    have hf := fun type act => congrArg done (State.twinFrame_of_down h type f act)
    refine ⟨hf _ _, hf _ _, hf _ _, hf _ _, hf _ _, hf _ _, congrArg done ?_, congrArg done (if_neg (ne_true_of_eq_false h)),
      congrArg done (if_neg (by simp [h])), congrArg done (if_pos (by simp [h])), congrArg done (if_neg (by simp [h]))⟩
    rw [show s.twinSend 2 [] = s from if_pos (by simp [h]), ite_self]
  case up =>
    have hx : ∀ (type : Nat) (act : State → List Byte → State) (act' : List Byte → State), (∀ p, act took p = act' p) →
        type ≠ 4 ∨ took.role ≠ 3 ∨ took.chipState = 0 ∧ took.entryStep = 0 →
        done (s.twinFrame type f act) = answer type act' := by
      intro type act act' hact hw
      rw [hans, State.twinFrame_of_up h hw]
      exact congrArg done (State.frameDoes_congr hact)
    refine ⟨hx 3 _ _ (fun p => rfl) (.inl (by decide)), fun h3 => ⟨hx 5 _ _ (fun p => if_congr ?_ rfl rfl) (.inl (by decide)),
        hx 6 _ _ (fun p => if_pos h3) (.inl (by decide)), hx 7 _ _ (fun p => if_pos (.inl h3)) (.inl (by decide)),
        hx 8 _ _ (fun p => if_pos h3) (.inl (by decide)),
        fun h1 h2 => hx 4 _ _ (fun p => if_congr ?_ rfl rfl) (.inr (.inr ⟨h1, h2⟩))⟩,
      fun h3 => ⟨hx 5 _ _ (fun p => if_neg fun hp => h3 hp.1) (.inl (by decide)), hx 8 _ _ (fun p => if_neg h3) (.inl (by decide)),
        hx 4 _ _ (fun p => if_neg fun hp => h3 hp.1) (.inr (.inl h3))⟩,
      fun h2 => ⟨hx 6 _ _ (fun p => (if_neg (by omega)).trans (if_pos h2)) (.inl (by decide)),
        hx 7 _ _ (fun p => if_neg (by omega)) (.inl (by decide))⟩,
      fun h1 => ⟨hx 6 _ _ (fun p => (if_neg (by omega)).trans (if_neg (by omega))) (.inl (by decide)),
        hx 7 _ _ (fun p => if_pos (.inr h1)) (.inl (by decide))⟩,
      fun hq => congrArg done ((if_neg (ne_true_of_eq_false hq)).trans (if_neg (by simp [h]))),
      fun a => congrArg done (if_pos h),
      fun hq => congrArg done (if_pos (by simp [h, hq])), fun hq => ⟨congrArg done (if_pos hq), congrArg done (if_neg (by simp [hq]))⟩,
      fun h1 h2 h3 => congrArg done (if_pos ?_), fun h1 h2 h3 => ?silent⟩
    · exact and_iff_right h3
    · exact and_iff_right h3
    · rw [h, h2, h3, decide_eq_true h1]
      rfl
    case silent =>
      intro alive d v w
      have hl : exec .twinLinkSilent s = done (if w.role = 3 ∧ ¬alive = true then w.takeOver
          else if alive || w.role == 1 then w.twinEvent 6 1 w.now.toNat else w) :=
        congrArg done (if_neg (by simp [h, h1, h2, h3]))
      refine ⟨fun hw ha => hl.trans (congrArg done (if_pos ⟨hw, ne_true_of_eq_false ha⟩)),
        fun ho => hl.trans (congrArg done ((if_neg ?_).trans (if_pos ?_))),
        fun ha hw hw' => hl.trans (congrArg done ((if_neg fun hp => hw hp.1).trans (if_neg ?_)))⟩
      · rintro ⟨hw, ha⟩
        rcases ho with ho | ho
        · exact ha ho
        · omega
      · rcases ho with ho | ho
        · rw [ho]
          rfl
        · rw [ho]
          simp
      · rw [ha]
        simpa using hw'
  case single =>
    exact ⟨fun hl => congrArg done (if_pos (by simp [h])), fun l => congrArg done (if_pos (by simp [h]))⟩
  case hello =>
    intro u
    refine congrArg done ((if_neg (by simp [h1, h2, h3])).trans ?_)
    dsimp only
    rw [if_neg h4]
    exact if_pos h5
  case settle =>
    have hgo : ¬(s.role ≠ 1 ∨ s.stage < 4 ∨ s.inHold = true) := by
      rintro (h | h | h)
      · exact h h1
      · omega
      · exact absurd (h3.symm.trans h) nofun
    refine ⟨fun hu hr => congrArg done ((if_neg hgo).trans ((if_pos hu).trans (if_pos hr))),
      fun hu hr hs => congrArg done ((if_neg hgo).trans ((if_pos hu).trans ((if_neg (by omega)).trans ((if_pos hr).trans (if_neg hs))))),
      fun hu ha => ?_, fun hu ha => congrArg done ((if_neg hgo).trans ((if_neg (ne_true_of_eq_false hu)).trans (if_pos ha)))⟩
    exact congrArg done ((if_neg hgo).trans ((if_neg (ne_true_of_eq_false hu)).trans (if_neg (ne_true_of_eq_false ha))))
  · rw [h1]
    exact if_pos ⟨h2, ne_true_of_eq_false h3⟩
  · rw [h]
  case alive =>
    intro u h3 h4 h5 h6
    refine congrArg done ((if_neg (by simp [h1, h2])).trans ((if_neg nofun).trans ((if_neg ?_).trans (if_pos ?_))))
    · change ¬(u.role == 3 && (u.chipState != 0 || u.entryStep != 0)) = true
      simp [h4, h5]
    · change (u.role == 3 && !u.twinUp) = true
      simp [h3, h6]

end Sys2Proof

namespace Sys2Proof.Machine

/-! ### A glitch that erases the last key -/

/-- A chip with its domains up, one tenant key loaded and a glitch limit of 1. -/
def oneKeyLoaded : State :=
  let s := (State.reset.setF Fld.pwrVotersDomainsOn 0 0x3FF).setF Fld.secGlitchLimit 0 1
  { s with sec := { s.sec with keys := [(1, ⟨[], 0⟩)] } }

/-- The domains that are on after a step. -/
def domainsAfter (o : Host.Outcome State Fault Refusal) : Option Nat :=
  match o with
  | .next u => some u.domains
  | _ => none

end Sys2Proof.Machine

namespace Sys2Proof
open Machine

/-- Refutes O60: the lock-down also lets the votes act, so the domain of the Watchman goes off with the last key, where the statement
leaves it on. -/
theorem not_securityAndSmbusEvents : ¬ Obligations.SecurityAndSmbusEvents := by
  intro h
  obtain ⟨-, hglitch, -⟩ := h oneKeyLoaded
  exact absurd (congrArg domainsAfter (hglitch true (by decide +kernel) (by decide +kernel))) (by decide +kernel)

end Sys2Proof
end
